-- ==== Sys2Proof/Word.lean ====
section
/-!
DEFINITION. Words: register and memory contents are numbers below a power of two (R4: bit 0 is the least significant);
the widths that the manual names are spelled here, with the plainest reading of a field out of a number.
-/
namespace Sys2Proof

/-- A register word as a command carries it: 64 bits (R6). -/
abbrev Word64 := BitVec 64

/-- Bits [lo + w - 1 : lo] of a number (R4). -/
def bits (v lo w : Nat) : Nat := v / 2 ^ lo % 2 ^ w

/-- Bit i of a number, as 0 or 1. -/
def bit (v i : Nat) : Nat := v / 2 ^ i % 2

/-- The number whose bit is 1 exactly when the flag holds. -/
def ofFlag (b : Bool) : Nat := if b then 1 else 0

/-- The two's-complement reading of the low w bits of a number. -/
def signed (w v : Nat) : Int := if 2 ^ w ≤ 2 * (v % 2 ^ w) then (v % 2 ^ w : Nat) - (2 ^ w : Nat) else (v % 2 ^ w : Nat)

/-- The w-bit two's-complement encoding of an integer. -/
def encode2 (w : Nat) (i : Int) : Nat := (i % (2 ^ w : Nat)).toNat

/-- Adds without passing the maximum: a counter that saturates. -/
def satAdd (mx a b : Nat) : Nat := min mx (a + b)

/-- How many of the low w bits of a number are 1. -/
def popCount (w v : Nat) : Nat := (List.range w).foldl (fun a i => a + bit v i) 0

/-- How an Agzer message reaches the dictionary beside the mailbox and JTAG (R619, R621): kind 0 a UDP datagram, 1 a raw frame, 2 the slave serial port; of the first two
the sender's MAC, of a datagram its IP address and port; whether the management port already holds 16 frames. -/
structure AgPath where
  kind : Fin 3
  mac : BitVec 48
  ip : BitVec 32
  port : BitVec 16
  full : Bool
deriving DecidableEq, Repr

end Sys2Proof
end

