-- ==== Sys2Proof/Syntax.lean ====
section
/-!
DEFINITION. The commands: one constructor per row of spec/opcode_table.json, with the operands that the row's rule gives
it. Values that come from outside the device (levels, counts, measurements, bytes) are operands.
-/
namespace Sys2Proof

/-- A bough or router number (R30). -/
abbrev BoughId := Fin 64
/-- A sequencer number within its bough (R190). -/
abbrev SeqId := Fin 32
/-- A lane number (R392). -/
abbrev LaneId := Fin 48
/-- A NoC source identifier (R37). -/
abbrev SrcId := Fin 256
/-- A NoC byte address (R36). -/
abbrev NocAddr := BitVec 44

/-- An upset that strikes a NoC packet at the input of a router that it passes (R354): one or two bits of its header, or bits of a quarter of a flit's
payload, given as the 128 data bits with their check symbols over them. -/
inductive NocUpset where
  | header (r : BoughId) (double : Bool)
  | payload (r : BoughId) (flit quarter : Fin 4) (flips : BitVec 144)
deriving DecidableEq, Repr

/-- What a packet carries, or the command that sends it, with the upset that strikes the packet (R354); none for no upset. -/
abbrev Struck (α : Type) := α × Option NocUpset
/-- A sequencer, and whether its cycle lies within W_COLL of the last edge of the clock of a block's port A (R141). -/
abbrev NearSeq := SeqId × Bool

/-- The commands of the block, in the order of the table. -/
inductive Instr where
  /-- REGISTER_WRITE (R13): A write to a register field that has no row of its own acts according to the field's access code. -/
  | registerWrite (src : SrcId) (addr : NocAddr) (wide : Bool) (data : Word64) (hwSet : Word64)
  /-- WRITE_LOWER_HALF (R7): A 32-bit write to the lower half of a 64-bit register is held in a staging latch. -/
  | writeLowerHalf (src : SrcId) (addr : NocAddr) (data : BitVec 32)
  /-- WRITE_UPPER_HALF (R7): A 32-bit write to the upper half commits the staged lower half, or the current lower half, together with the upper half. -/
  | writeUpperHalf (src : SrcId) (addr : NocAddr) (data : BitVec 32)
  /-- READ_LOWER_HALF (R8): A 32-bit read of the lower half of a 64-bit register latches the upper half for the next upper-half read. -/
  | readLowerHalf (src : SrcId) (addr : NocAddr)
  /-- READ_UPPER_HALF (R8): An upper-half read returns the latched value after a lower-half read, and the live value otherwise. -/
  | readUpperHalf (src : SrcId) (addr : NocAddr)
  /-- DEBUG_READ (R16): A read that carries the debug attribute returns the live value without any side effect, latch or pop. -/
  | debugRead (addr : NocAddr) (wide : Bool)
  /-- RC_READ (R15): A read of an RC field returns its value and clears it, and a hardware set in the same cycle survives. -/
  | rcRead (src : SrcId) (addr : NocAddr) (hwSet : Word64)
  /-- POR_RELEASE (R700): POR is released 1 ms after VCC_AON and VCC_AUX are good, and the device enters STANDBY with cause 0x01. -/
  | porRelease (insertHigh : Bool) (straps : BitVec 16)
  /-- CORE_RAILS_GOOD_BOOT (R701): VCC_NOC and VCC_SRAM become good within 500 ms of POR release, and the device goes from STANDBY to BOOT with cause 0x02. -/
  | coreRailsGoodBoot
  /-- RAIL_GOOD (R693): A rail that has stayed above 92 % of its level for 100 µs is reported good. -/
  | railGood (r : Fin 18)
  /-- RAIL_LOST_AON_AUX (R696): Loss of VCC_AON or VCC_AUX takes the device to OFF with cause 0x13. -/
  | railLostAonAux (aux : Bool)
  /-- RAIL_LOST_NOC_SRAM (R696): Loss of VCC_NOC or VCC_SRAM takes the device to STANDBY with cause 0x11 within 10 µs. -/
  | railLostNocSram (sram : Bool)
  /-- RAIL_LOST_FABRIC (R696): Loss of a fabric rail takes every bough connected to it to OFF and clamps its collar. -/
  | railLostFabric (point : Fin 3)
  /-- RAIL_LOST_SERIAL (R696): Loss of VCC_SER or VCC_SERH takes every lane to OFF and causes link loss on the host link. -/
  | railLostSerial (high : Bool)
  /-- RAIL_LOST_VCCO (R725): Loss of a bank's VCCO puts the bank's outputs at high impedance, turns its pulls off and makes its receivers read 0. -/
  | railLostVcco (bank : Fin 8)
  /-- VBATT_LOST (R676): VBATT falling below 1.2 V loses the key RAM and sets VBATT_LOST. -/
  | vbattLost
  /-- WAKE_L_FALLING (R45): A falling edge of WAKE_L in STANDBY wakes the device into BOOT with cause 0x03. -/
  | wakeLFalling
  /-- TAMPER_ASSERTED (R676): TAMPER_L acting erases the key RAM, sets TAMPER_SEEN, ends debug grants, and takes LOAD or RUN to SAFE. -/
  | tamperAsserted (held : Bool)
  /-- THERMAL_SHUTDOWN (R707): A valid sensor at or above THERM_SHUT takes BOOT, LOAD or RUN to SAFE with cause 0x0B. -/
  | thermalShutdown (sensor : Fin 72) (reading : Int)
  /-- THERM_HOT_CHANGE (R708): THERM_L is asserted at THERM_HOT and released 3 °C below it. -/
  | thermHotChange (hottest : Int)
  /-- INSERT_L_DEASSERTED (R704): De-assertion of INSERT_L in LOAD or RUN starts the quiet exit to SAFE with cause 0x0C. -/
  | insertLDeasserted
  /-- INSERT_L_DEASSERT_IDLE (R48): De-assertion of INSERT_L in BOOT, STANDBY or SAFE idles the lanes, flushes the event ring and logs the removal. -/
  | insertLDeassertIdle
  /-- INSERT_L_ASSERTED (R705): Re-assertion of INSERT_L after a quiet exit lets the host link train again. -/
  | insertLAsserted
  /-- MODE_REQ_STANDBY (R45): A DEV_MODE_REQ write with TARGET STANDBY starts the transition with cause 0x0D after the checks of R42. -/
  | modeReqStandby (src : SrcId) (confirm : BitVec 16)
  /-- MODE_REQ_BOOT (R45): A DEV_MODE_REQ write with TARGET BOOT clears the fabric and enters BOOT with cause 0x0E or 0x0F. -/
  | modeReqBoot (src : SrcId) (confirm : BitVec 16)
  /-- MODE_REQ_LOAD (R43): A DEV_MODE_REQ write with TARGET LOAD arms a full load from the strapped source and leaves the mode running. -/
  | modeReqLoad (src : SrcId) (confirm : BitVec 16)
  /-- MODE_REQ_SAFE (R45): A DEV_MODE_REQ write with TARGET SAFE takes RUN to SAFE with cause 0x10. -/
  | modeReqSafe (src : SrcId) (confirm : BitVec 16)
  /-- MODE_TRANSITION_COMPLETE (R52): A transition completes, DEV_MODE changes, the request's result is posted and a mode-change record is written to every enabled ring. -/
  | modeTransitionComplete
  /-- DEV_WAKE_WRITE (R44): A write of DEV_WAKE sets or arms the wake compare and posts one result. -/
  | devWakeWrite (src : SrcId) (data : Word64)
  /-- DEV_WAKE_FIRE (R44): The enabled wake compare fires when the time plane reaches TARGET, waking STANDBY or logging in other modes. -/
  | devWakeFire
  /-- CMC_FW_AUTH_FAIL (R686): When neither CMC firmware slot authenticates, the device takes cause 0x12 to SAFE and runs the ROM recovery code. -/
  | cmcFwAuthFail
  /-- CMC_FW_BOOT (R686): At each start, the boot ROM authenticates and runs the selected firmware slot, or falls back to the other slot. -/
  | cmcFwBoot (auth0 : Bool) (auth1 : Bool)
  /-- REGULATOR_WINDOW (R119): At the end of each 10 µs window, the delay regulator forms RATIO and adjusts its trim by at most one step. -/
  | regulatorWindow (b : BoughId) (ratio : BitVec 16) (temp : Int)
  /-- AUTO_DOWN_DEFERRED_START (R275): A regulator reduction that waited for a change in progress starts once that change completes. -/
  | autoDownDeferredStart (b : BoughId)
  /-- BM_WRITEBACK (R146): The corrected row is written back at the port's next free edge unless a write to the row cancels it. -/
  | bmWriteback (b : BoughId) (k : Fin 128) (portB : Bool)
  /-- BM_CNT_CLR (R158): A write of CNT_CLR clears BM_CNT, and an increment in the same NoC cycle survives. -/
  | bmCntClr (b : BoughId) (corr : BitVec 8) (unc : BitVec 8)
  /-- BM_INJECT (R158): A write of BM_INJECT with ARM set injects the pattern into the next counted row write of the target block. -/
  | bmInject (b : BoughId) (data : BitVec 32)
  /-- BM_ERR_POP (R148): A read of the lower half of BM_ERR_POP pops the oldest block-memory error entry. -/
  | bmErrPop (b : BoughId)
  /-- SL_RES_P_READ (R182): A read that includes bits [31:0] of SL_RES_P takes a snapshot of the whole result slot. -/
  | slResPRead (b : BoughId) (idx : Fin 256) (debug : Bool)
  /-- SQ_EVENT_ARRIVAL (R207): An event on a sequencer channel sets its pending bit, or merges with it, and is acted on according to the sequencer's state. -/
  | sqEventArrival (b : BoughId) (a : SeqId) (ch : Fin 4) (kind : Fin 4)
  /-- SQ_EVENT_TAKEN (R208): An actionable event is taken at the first boundary not held off, cancels the younger instructions and fetches the entry address. -/
  | sqEventTaken (b : BoughId) (a : SeqId) (held : Nat)
  /-- SQ_CMD_EVENT (R218): SQ_CMD EVENT raises a register event on the named channel. -/
  | sqCmdEvent (b : BoughId) (a : SeqId) (ch : Fin 4)
  /-- SQ_CMD_STOP (R211): SQ_CMD STOP acts like END at the first boundary not held off. -/
  | sqCmdStop (b : BoughId) (a : SeqId)
  /-- SQ_STOP_TAKEN (R211): A pending STOP is taken at a boundary, the sequencer enters IDLE and the STOP result is posted. -/
  | sqStopTaken (b : BoughId) (a : SeqId) (held : Nat)
  /-- SQ_CMD_CLEAR (R215): SQ_CMD CLEAR moves a faulted sequencer to IDLE. -/
  | sqCmdClear (b : BoughId) (a : SeqId)
  /-- SQ_CMD_CLRCNT (R218): SQ_CMD CLRCNT clears SQ_CNT at the next sequencer clock edge. -/
  | sqCmdClrcnt (b : BoughId) (a : SeqId) (stall : Bool) (lost : Bool) (fix : Bool)
  /-- SQ_ISTORE_WRITE (R214): A NoC write to the active instruction store is accepted only in IDLE or FAULT. -/
  | sqIstoreWrite (b : BoughId) (a : SeqId) (w : Fin 2048) (data : Word64)
  /-- SEQ_FETCH (R212): A fetch reads the instruction store, corrects single-bit errors and faults on an uncorrectable word or on a fetch past 2,047. -/
  | seqFetch (b : BoughId) (a : SeqId) (upset : Fin 3)
  /-- SEQ_MEM (R230): A MEM instruction performs its operand-store loads and stores. -/
  | seqMem (b : BoughId) (a : NearSeq)
  /-- SEQ_MAC (R232): A MAC instruction runs a multiply-accumulate on every lane, with its slots. -/
  | seqMac (b : BoughId) (a : NearSeq)
  /-- SEQ_LOP (R234): A LOP instruction runs a lane ALU operation into a V register. -/
  | seqLop (b : BoughId) (a : NearSeq)
  /-- SEQ_SOP (R235): An SOP instruction runs a scalar operation into an S register. -/
  | seqSop (b : BoughId) (a : SeqId)
  /-- SEQ_BR (R236): A BR instruction resolves a branch in stage A, with two delay slots. -/
  | seqBr (b : BoughId) (a : SeqId)
  /-- SEQ_REPEAT (R237): A REPEAT instruction pushes or skips a zero-overhead loop. -/
  | seqRepeat (b : BoughId) (a : SeqId)
  /-- SEQ_SETAG (R238): A SETAG instruction writes the selected fields of an address generator. -/
  | seqSetag (b : BoughId) (a : SeqId)
  /-- SEQ_SETMODE (R239): A SETMODE instruction writes one lane mode-state field in the selected lanes. -/
  | seqSetmode (b : BoughId) (a : SeqId)
  /-- SEQ_WAIT (R241): A WAIT instruction holds stage A until a channel in its mask is pending. -/
  | seqWait (b : BoughId) (a : SeqId)
  /-- SEQ_END (R241): An END instruction cancels the two younger instructions and enters IDLE. -/
  | seqEnd (b : BoughId) (a : SeqId)
  /-- SEQ_SIG (R241): A SIG instruction sets an SQ_SIG bit. -/
  | seqSig (b : BoughId) (a : SeqId)
  /-- SEQ_STALL_RELEASE (R196): An operand-store access stalled on a block with READY = 0 proceeds when READY rises. -/
  | seqStallRelease (b : BoughId) (a : NearSeq) (cycles : Nat)
  /-- FOSC_MON_WINDOW (R249): At the end of each window, MON_F judges its FOSC count and qualifies FOSC after four passing windows. -/
  | foscMonWindow (count : Nat)
  /-- FOSC_LOSS (R249): No FOSC edge within 2 AOSC cycles trips MON_F, clears FOSC_QUAL and raises 0x060E. -/
  | foscLoss
  /-- CMC_CLOCK_SWITCH (R246): The CMC clock mux switches between AOSC and FOSC / 2 as FOSC is qualified or lost. -/
  | cmcClockSwitch
  /-- MON_WINDOW_END (R250): At the end of each window, a monitor compares its count with EXP ± TOL and trips or counts a pass. -/
  | monWindowEnd (m : Fin 16) (count : Nat)
  /-- MON_LOSS_TRIP (R250): LOSS consecutive REF cycles with no MEAS edge trip the monitor mid-window. -/
  | monLossTrip (m : Fin 16)
  /-- MON_REF_LOSS (R251): No REF edge for 16 AOSC cycles sets REF_LOSS, clears QUAL and raises 0x060B. Where the second part of `m` is true, REF gives its first edge after that. -/
  | monRefLoss (m : Fin 16 × Bool)
  /-- MON_CFG_WRITE (R250): A write to a monitor's settings restarts its window and clears QUAL and passes. -/
  | monCfgWrite (src : SrcId) (m : Fin 16) (stat : Bool) (data : Word64)
  /-- MUX_SEL_WRITE (R258): A mux word write that changes SEL requests a switch, or redirects a switch or deferral in progress. -/
  | muxSelWrite (src : SrcId) (mux : Fin 49) (data : BitVec 32)
  /-- MUX_SWITCH_COMPLETE (R254): The mux passes the new clock from its next rising edge and sets ACT. -/
  | muxSwitchComplete (mux : Fin 52)
  /-- MUX_FORCED_SWITCH (R255): At the 8th new-clock edge without completed steps 1 and 2, the mux forces its output low and completes the switch. -/
  | muxForcedSwitch (mux : Fin 52)
  /-- MUX_SWITCH_STALL (R256): A new clock with no edge for 64 AOSC cycles raises 0x0605 while the mux keeps waiting. -/
  | muxSwitchStall (mux : Fin 52)
  /-- MUX_INPUT_FAILED (R257): An active input found failed makes an AUTO mux switch to an eligible input, or stop and defer. -/
  | muxInputFailed (mux : Fin 49)
  /-- MUX_DEFERRED_SWITCH (R257): A deferred mux switches to an input that has become eligible and raises 0x0608. -/
  | muxDeferredSwitch (mux : Fin 49)
  /-- MUX_REVERT (R257): With REVERT = 1, the mux switches back to SEL's input once that input requalifies. -/
  | muxRevert (mux : Fin 49)
  /-- CP_CFG_WRITE (R260): A write of a crown PLL's settings is checked and refused or applied. -/
  | cpCfgWrite (src : SrcId) (p : Fin 16) (out : Bool) (data : Word64)
  /-- PLL_LOCK (R261): A crown PLL reaches lock, and its gated outputs restart. -/
  | pllLock (p : Fin 16) (refKhz : Nat)
  /-- PLL_LOCK_TIMEOUT (R261): A crown PLL not locked within 200 µs raises 0x0615. -/
  | pllLockTimeout (p : Fin 16)
  /-- PLL_LOCK_LOST (R261): A crown PLL whose reference gives no edges clears LOCK after holding its frequency for up to 1 ms. -/
  | pllLockLost (p : Fin 16)
  /-- GCL_FNOM_WRITE (R263): A write of FNOM sets a global line's nominal frequency and clears OVERF. -/
  | gclFnomWrite (src : SrcId) (g : Fin 32) (data : BitVec 32)
  /-- GCL_FREQ_MEASURE (R263): Each measurement over 8,000 TCLK cycles sets OVERF and raises the effective frequency when the line runs more than 1 % above FNOM. -/
  | gclFreqMeasure (g : Fin 32) (khz : Nat)
  /-- BCK_WRITE (R277): A write of a bough clock line or SQCK sets its source, ON and DREQ, and switches the source under R254. -/
  | bckWrite (src : SrcId) (b : BoughId) (n : Fin 17) (data : BitVec 32)
  /-- CLKOUT_WRITE (R268): A write of CLKOUT sets the pin's source, divider and idle state. -/
  | clkoutWrite (src : SrcId) (o : Fin 2) (data : Word64)
  /-- OP_REQ_RAISE (R271): OP_REQ to a higher point moves the bough's rail up and then recomputes its dividers. -/
  | opReqRaise (src : SrcId) (b : BoughId) (target : Fin 8)
  /-- OP_REQ_LOWER (R272): OP_REQ to a lower point halves the limits first and then moves the rail down. -/
  | opReqLower (src : SrcId) (b : BoughId) (target : Fin 8)
  /-- OP_REQ_REST (R273): OP_REQ to REST drains the port, stops the lines and clamps the collar. -/
  | opReqRest (src : SrcId) (b : BoughId)
  /-- OP_REQ_RETURN_FROM_REST (R273): OP_REQ to the kept point restarts the lines, releases the collar and reopens the port. -/
  | opReqReturnFromRest (src : SrcId) (b : BoughId)
  /-- OP_REQ_OFF (R273): OP_REQ to OFF drains and stops the bough, then disconnects its logic rail. -/
  | opReqOff (src : SrcId) (b : BoughId)
  /-- OP_REQ_FROM_OFF (R273): OP_REQ from OFF to a point connects the rail, waits for LOCKED and starts the bough. -/
  | opReqFromOff (src : SrcId) (b : BoughId) (target : Fin 8)
  /-- OP_RAIL_SLOT_GRANT (R270): A waiting bough is given a rail slot in order of acceptance. -/
  | opRailSlotGrant
  /-- OP_CHANGE_COMPLETE (R271): An operating-point change completes, clears BUSY, posts 0x0000 and raises 0x0614. -/
  | opChangeComplete (b : BoughId)
  /-- OP_LOCK_TIMEOUT_REVERT (R271): No LOCKED within 10 ms returns the bough to its former rail, or disconnects it, and posts 0x0618. -/
  | opLockTimeoutRevert (b : BoughId)
  /-- TIME_WRAP (R293): The nanosecond part crossing from 0xFFFF_FFFF to 0 raises 0x0320 and changes WRAPS. -/
  | timeWrap
  /-- HALF_PERIOD (R293): The nanosecond part crossing 0x8000_0000 raises 0x0321. -/
  | halfPeriod
  /-- TP_INC_BASE_WRITE (R283): A write of TP_INC_BASE is range-checked and waits for its apply tick. -/
  | tpIncBaseWrite (src : SrcId) (data : Word64)
  /-- ADJ_APPLY (R290): At the apply tick, the accepted adjustments take effect together in the order base, DINC_SRV, step. -/
  | adjApply
  /-- TP_STEP_WRITE (R295): A write of TP_STEP requests a step of DELTA at the apply tick. -/
  | tpStepWrite (src : SrcId) (data : Word64)
  /-- STEP_APPLY (R295): At its apply tick, a step moves every consumer's value by DELTA and raises 0x0322. -/
  | stepApply
  /-- TP_SLEW_START (R296): A write of TP_SLEW starts a slew of DELTA at RATE from its apply tick. -/
  | tpSlewStart (src : SrcId) (data : Word64)
  /-- TP_SLEW_ABORT (R296): A write of TP_SLEW with ABORT ends a running slew and leaves the remainder in TP_SLEW_REM. -/
  | tpSlewAbort (src : SrcId) (data : Word64)
  /-- SLEW_END (R296): A slew ends at the tick at which the amount absorbed reaches DELTA, posts its result and raises 0x0323. -/
  | slewEnd
  /-- TPLL_MUX_WRITE (R284): A write of TPLL_MUX sets the time PLL's reference mux. -/
  | tpllMuxWrite (src : SrcId) (data : BitVec 32)
  /-- TPLL_REF_LOSS (R285): No edge on the time PLL's active input for 2 µs fails that input. -/
  | tpllRefLoss
  /-- TPLL_REF_REQUALIFY (R285): An input that has given 10 ms of edges without a long gap is qualified again. -/
  | tpllRefRequalify (idx : Fin 3)
  /-- TPLL_CFG_WRITE (R286): An accepted write of TPLL_CFG restarts the PLL's lock and clears the holdover model. -/
  | tpllCfgWrite (src : SrcId) (data : Word64)
  /-- TPLL_LOCK (R287): The time PLL locks to a reference, HELD clears and 0x032A is raised. -/
  | tpllLock (refHz : Nat)
  /-- TPLL_HOLD (R287): On loss of lock or of its reference, the time PLL holds its tuning word and 0x0329 is raised. -/
  | tpllHold
  /-- DIST_CALIBRATED (R291): The distribution completes its calibration after a lock and sets DIST_OK. -/
  | distCalibrated
  /-- DIST_CHECK_FAIL (R292): A consumer receiving a value that fails its check extrapolates, and sets TIME_BAD after 16 failures in a row. -/
  | distCheckFail (consumer : Fin 79) (passes : Bool)
  /-- SRV_OFFS_WR (R298): A write of SRV_OFFS_WR delivers a firmware phase measurement to the servo. -/
  | srvOffsWr (src : SrcId) (data : Word64)
  /-- SRV_PHASE_MEASUREMENT (R300): An accepted phase measurement updates the PI servo, or requests a step in ACQUIRE. -/
  | srvPhaseMeasurement (psrc : Fin 4) (theta : BitVec 48)
  /-- SRV_FREQ_MEASUREMENT (R300): An accepted frequency measurement updates the servo integrator. -/
  | srvFreqMeasurement (ferr : BitVec 32)
  /-- SRV_MISS_TIMEOUT (R299): No accepted measurement for MISS_TO moves the servo from ACQUIRE to FREERUN or from LOCKED to HOLDOVER. -/
  | srvMissTimeout
  /-- SRV_CMD_HOLD (R301): SRV_CMD HOLD forces holdover from LOCKED. -/
  | srvCmdHold (src : SrcId)
  /-- SRV_CMD_RELEASE (R301): SRV_CMD RELEASE ends a forced holdover. -/
  | srvCmdRelease (src : SrcId)
  /-- SRV_CMD_RESET (R301): SRV_CMD RESET zeroes the integrator and moves the servo to FREERUN. -/
  | srvCmdReset (src : SrcId)
  /-- SRV_SETTINGS_WRITE (R303): A write of SRV_CTRL, SRV_GAIN, SRV_LIM or SRV_INTEG is checked and posts one result. -/
  | srvSettingsWrite (src : SrcId) (reg : Fin 4) (data : Word64)
  /-- PPS_EDGE (R304): A pulse edge is stamped and delivered as θ, or counted as an outlier. -/
  | ppsEdge (idx : Fin 2) (time : BitVec 48) (falling : Bool)
  /-- PPS_MISS (R304): The time plane passing the window with no delivery counts a missed pulse and advances EXPECT. -/
  | ppsMiss (idx : Fin 2)
  /-- PPS_CFG_WRITE (R304): A pulse-detector settings write takes effect, and setting EN clears MISS and OUTL. -/
  | ppsCfgWrite (src : SrcId) (idx : Fin 2) (reg : Fin 3) (data : Word64)
  /-- FD_GATE_END (R305): At the end of each gate, the frequency detector posts f_err and delivers it when it lies within FREQ_LIM. -/
  | fdGateEnd (periods : Nat) (span : Nat)
  /-- HO_SAMPLE (R307): At the end of each learning interval, a qualifying sample updates the holdover model. -/
  | hoSample
  /-- HO_STEER_UPDATE (R309): Every 2^27 ns in holdover, the estimator sets DINC_SRV from the model. -/
  | hoSteerUpdate
  /-- HO_PREDICT (R310): Once per second, the estimator accumulates E_acc and posts the remaining time to HO_PRED. -/
  | hoPredict
  /-- MODEL_CLR (R308): A write of MODEL_CLR, or a change of reference or temperature source, clears the holdover model. -/
  | modelClr (src : SrcId)
  /-- HO_TEMP_POLL (R306): The estimator polls its I²C temperature source every 2^PER × 16 ms. -/
  | hoTempPoll (reading : Option (BitVec 16))
  /-- HO_TEMP_WR (R306): A firmware write of HO_TEMP_WR supplies a temperature reading. -/
  | hoTempWr (src : SrcId) (data : BitVec 16)
  /-- HO_TEMP_TIMEOUT (R306): No firmware temperature write for four periods clears TEMP_OK. -/
  | hoTempTimeout
  /-- TL_ARM (R316): TL_CMD ARM arms a slot after the checks of R334. -/
  | tlArm (src : SrcId) (slot : Fin 256) (rel : Bool)
  /-- TL_DISARM (R319): TL_CMD DISARM cancels every firing later than W + 64 ticks. -/
  | tlDisarm (src : SrcId) (slot : Fin 256)
  /-- TL_CLRSTAT (R334): TL_CMD CLRSTAT clears a slot's STAT and LAST. -/
  | tlClrstat (src : SrcId) (slot : Fin 256)
  /-- TL_SLOT_FIRE (R315): An armed slot fires at the first tick not earlier than its target, acts at its destination, and disarms or advances. -/
  | tlSlotFire
  /-- TRG_SW (R326): A write of 1 to a TRG_SW bit acts on TRIG_k as a firing. -/
  | trgSw (src : SrcId) (b : BoughId) (mask : BitVec 16)
  /-- TL_LOG_POP (R334): A read of the lower half of TL_LOG_POP pops the oldest firing log entry. -/
  | tlLogPop
  /-- CU_ENABLE (R332): Setting EN in CU_CFG starts a capture unit with its input's present level as the starting level. -/
  | cuEnable (src : SrcId) (u : Fin 32) (data : Word64) (level : Bool)
  /-- CU_EDGE (R332): An input edge is stamped into the unit's FIFO, or merged, or dropped when the FIFO is full. -/
  | cuEdge (u : Fin 32) (time : BitVec 48) (wraps : BitVec 8) (rising : Bool)
  /-- CU_POP (R333): A read of the lower half of CU_POP pops one stamp and latches the upper half. -/
  | cuPop (u : Fin 32)
  /-- NOC_REQUEST (R341): A request packet is injected, routed by its epoch's table and delivered to its destination port. -/
  | nocRequest (src : SrcId) (tag : Fin 64) (wr : Bool) (waddr : BitVec 42) (last : BitVec 6) (data : List (BitVec 32)) (upset : Option NocUpset)
  /-- NOC_RESPONSE (R344): A response packet is routed back and delivered to its requester, which frees the tag. -/
  | nocResponse (dest : SrcId) (tag : Fin 64) (upset : Option NocUpset)
  /-- BRIDGE_REQ_OUT (R356): A fabric request taken on REQ_OUT is stamped and injected, or answered locally with 0x0204 or 0x0202. -/
  | bridgeReqOut (b : BoughId) (tag : Fin 64) (wr : Bool) (waddr : BitVec 42) (last : BitVec 6) (payload : Struck (BitVec 512))
  /-- BRIDGE_RSP_OUT (R357): A fabric response on RSP_OUT is matched against the table, or discarded with 0x0209. `flit` is FIDX and LAST. -/
  | bridgeRspOut (b : BoughId) (dest : SrcId) (tag : Fin 64) (status : BitVec 16) (flit : Fin 4 × Bool) (payload : BitVec 512)
  /-- PORT_ACC_TIMEOUT (R358): A request flit held for ACC_TO without acceptance puts port 0 into STALLED. -/
  | portAccTimeout (b : BoughId)
  /-- BRIDGE_RSP_TIMEOUT (R358): A response left untaken on RSP_IN for ACC_TO is discarded, together with further responses. -/
  | bridgeRspTimeout (b : BoughId)
  /-- DRAIN_START (R360): A drain puts port 0 into DRAINING and answers new requests with 0x0202. -/
  | drainStart (b : BoughId)
  /-- DRAIN_TIMEOUT (R360): At DRAIN_TO, the remaining requests are answered with 0x0205 and the outstanding tags freed. -/
  | drainTimeout (b : BoughId)
  /-- DRAIN_COMPLETE (R360): Port 0 enters ASLEEP and raises 0x0221 or 0x0222. -/
  | drainComplete (b : BoughId)
  /-- NOC_RSP_TIMEOUT (R363): No response after RSP_TO delivers 0x0207 to the requester and frees the tag. -/
  | nocRspTimeout (src : SrcId) (tag : Fin 64)
  /-- EPOCH_GO (R364): A write of NOC_EPOCH_CMD.GO checks the new tables and starts stamping the new epoch. -/
  | epochGo (src : SrcId)
  /-- EPOCH_CHANGE_COMPLETE (R364): When every OLDCNT reaches 0, the crown epoch changes, the result is posted and 0x0220 is raised. -/
  | epochChangeComplete
  /-- NOC_TBL_WRITE (R366): A routing-table write is checked against the epoch state and the reserved values. -/
  | nocTblWrite (src : SrcId) (b : BoughId) (bank : Fin 2) (w : Fin 4) (data : Word64)
  /-- NOC_CNT_CLR (R367): A write of NOC_CNT_CLR clears NOC_CNT. -/
  | nocCntClr (src : SrcId) (b : BoughId)
  /-- NOC_ERR_POP (R367): A read of the lower half of NOC_ERR_POP pops the oldest NoC error entry. -/
  | nocErrPop (b : BoughId)
  /-- GRANARY_ACCESS (R376): A bank serves a queued request, corrects or reports errors, and readies the response. -/
  | granaryAccess (g : Fin 64) (testWait : Bool)
  /-- GR_PWR_ON (R386): GR_CMD PWR_ON raises a bank's supply from RET, or wakes it from OFF and clears it. -/
  | grPwrOn (src : SrcId) (g : Fin 64)
  /-- GR_PWR_RET (R386): GR_CMD PWR_RET serves the bank's queue and lowers its supply to retention. -/
  | grPwrRet (src : SrcId) (g : Fin 64)
  /-- GR_PWR_OFF (R386): GR_CMD PWR_OFF serves the bank's queue and removes its supply. -/
  | grPwrOff (src : SrcId) (g : Fin 64)
  /-- GB_POWER_CHANGE_COMPLETE (R386): A bank power change completes after its queue empties and posts its result. -/
  | gbPowerChangeComplete (g : Fin 64)
  /-- BANK_CLEAR_COMPLETE (R387): A waking bank finishes writing zero codewords, grants access and raises 0x0923. -/
  | bankClearComplete (g : Fin 64)
  /-- GR_REPAIR (R384): GR_CMD REPAIR maps a physical row onto the lowest free spare. -/
  | grRepair (src : SrcId) (g : Fin 64) (row : Fin 512)
  /-- REPAIR_COMPLETE (R384): The repair switches the map to the spare, sets USED and raises 0x0921. -/
  | repairComplete (k : Fin 8)
  /-- GR_CONF_CLR (R380): GR_CMD CONF_CLR clears a bank's conflict counters. -/
  | grConfClr (src : SrcId) (g : Fin 64)
  /-- GR_CNT_CLR (R379): GR_CMD CNT_CLR clears a bank's CORR and UNC counts. -/
  | grCntClr (src : SrcId) (g : Fin 64)
  /-- GR_BT_NOW (R383): GR_CMD BT_NOW starts a test of the next region at once. -/
  | grBtNow (src : SrcId) (k : Fin 8)
  /-- BT_REGION_TEST (R381): BT_INTERVAL after the last test, the router tests the next region without changing its data. -/
  | btRegionTest (k : Fin 8) (fault : Option (Fin 16))
  /-- GR_INTLV_WRITE (R374): A change of INTLV is accepted only while all eight banks are OFF. -/
  | grIntlvWrite (src : SrcId) (k : Fin 8) (data : BitVec 32)
  /-- GR_INJECT (R379): A write of GR_INJECT with ARM set injects the pattern into the next written data row. -/
  | grInject (src : SrcId) (k : Fin 8) (data : BitVec 32)
  /-- GR_ERR_POP (R379): A read of the lower half of GR_ERR_POP pops the oldest granary error entry. -/
  | grErrPop (k : Fin 8)
  /-- QD_PLL_WRITE (R394): A quad PLL write is range-checked, and the PLL then relocks. -/
  | qdPllWrite (src : SrcId) (q : Fin 12) (j : Fin 2) (data : Word64) (refKhz : Nat)
  /-- QPLL_LOCK (R396): A quad PLL locks, and its lanes restart bring-up. -/
  | qpllLock (q : Fin 12) (j : Fin 2)
  /-- QPLL_LOCK_LOST (R396): A quad PLL losing lock sends its lanes to IDLE and raises 0x0A16 per lane. -/
  | qpllLockLost (q : Fin 12) (j : Fin 2)
  /-- LN_CFG_WRITE (R401): A write that changes the lane settings sends the lane to IDLE or OFF and aborts its scans. -/
  | lnCfgWrite (src : SrcId) (n : LaneId) (data : Word64)
  /-- LN_EQ_TX_WRITE (R397): A write of the transmit taps is checked against the sum limit and training ownership. -/
  | lnEqTxWrite (src : SrcId) (n : LaneId) (data : BitVec 32)
  /-- LINK_TRAINING_TAP_REQUEST (R397): A partner's training request moves the taps, or is answered with the protocol's limit reply. -/
  | linkTrainingTapRequest (n : LaneId) (taps : BitVec 24)
  /-- LN_RESTART (R401): LN_CMD RESTART sends the lane to IDLE without changing a setting. -/
  | lnRestart (src : SrcId) (n : LaneId)
  /-- LANE_LEAVE_OFF (R399): A lane with MODE ≠ 0 and a locked PLL goes from OFF to IDLE. -/
  | laneLeaveOff (n : LaneId)
  /-- LANE_DETECT_PULSE (R399): Every 12 ms in DETECT, the lane sends a receiver-detection pulse and moves to TRAIN when a receiver is found. -/
  | laneDetectPulse (n : LaneId) (found : Bool)
  /-- LANE_ADAPTED (R398): Adaptation converges, ADAPTED is set and the lane moves from TRAIN to LOCK. -/
  | laneAdapted (n : LaneId) (ctle : Fin 16) (vga : Fin 64) (dfe : BitVec 48)
  /-- LANE_TRAIN_TIMEOUT (R399): TRAIN_TO passes without adaptation and the lane fails with 0x0A11. -/
  | laneTrainTimeout (n : LaneId)
  /-- LANE_LOCKED (R400): The lane reaches lock and moves to CAPS, or to ACTIVE in TEST mode. -/
  | laneLocked (n : LaneId)
  /-- LANE_LOCK_TIMEOUT (R399): LOCK_TO passes without lock and the lane fails with 0x0A12. -/
  | laneLockTimeout (n : LaneId)
  /-- LANE_ACTIVE (R399): The capability exchange completes and the lane enters ACTIVE. -/
  | laneActive (n : LaneId)
  /-- LANE_CAPS_TIMEOUT (R414): CAPS_TO passes and the lane fails with 0x0A13. -/
  | laneCapsTimeout (n : LaneId)
  /-- LANE_LOCK_LOST (R399): Loss of lock in ACTIVE returns the lane to LOCK with 0x0A14. -/
  | laneLockLost (n : LaneId)
  /-- LANE_SIGNAL_LOST (R399): Signal absent for 1 µs returns an ACTIVE lane to IDLE with 0x0A15. -/
  | laneSignalLost (n : LaneId)
  /-- LANE_FAIL_EXPIRY (R399): After 1 ms in FAIL, the lane returns to IDLE. -/
  | laneFailExpiry (n : LaneId)
  /-- LN_PRBS_CLR (R408): LN_CMD PRBS_CLR zeroes BITS, ERR and LOSTCNT. -/
  | lnPrbsClr (src : SrcId) (n : LaneId)
  /-- LN_INJ_ONE (R409): LN_CMD INJ_ONE inverts bit 0 of the next transmitted word. -/
  | lnInjOne (src : SrcId) (n : LaneId)
  /-- PRBS_CHECKER_LOCK (R408): After 64 correct predictions, the checker locks and starts counting. -/
  | prbsCheckerLock (n : LaneId) (rx : List Bool)
  /-- PRBS_CHECKER_LOST (R408): 32 or more mismatches in 64 bits clear LOCK and reseed the checker. -/
  | prbsCheckerLost (n : LaneId) (rx : List Bool)
  /-- LN_PRBS_BITS_READ (R408): A read including LN_PRBS_BITS[31:0] snapshots LN_PRBS_ERR. -/
  | lnPrbsBitsRead (n : LaneId)
  /-- EYE_POINT (R403): LN_CMD EYE_POINT measures one eye-scan point. -/
  | eyePoint (src : SrcId) (n : LaneId)
  /-- EYE_MARGIN (R404): LN_CMD EYE_MARGIN measures the four margins about the eye centre. -/
  | eyeMargin (src : SrcId) (n : LaneId)
  /-- EYE_ABORT (R405): LN_CMD EYE_ABORT ends a running scan and posts its points with 0x0A0B. -/
  | eyeAbort (src : SrcId) (n : LaneId) (points : List (Nat × Nat))
  /-- EYE_SCAN_COMPLETE (R403): A scan ends and posts its result in LN_RESULT and the eye result registers. -/
  | eyeScanComplete (n : LaneId) (points : List (Nat × Nat))
  /-- LN_EYE_RES1_READ (R403): A read including LN_EYE_RES1[31:0] snapshots LN_EYE_RES0. -/
  | lnEyeRes1Read (n : LaneId)
  /-- LL_CAPS_RX (R414): A received CAPS set is compared, acknowledged and judged for acceptability. -/
  | llCapsRx (q : Fin 2) (content : List (BitVec 8)) (ack : Bool) (skew : Nat)
  /-- LL_MARKER_RX (R415): A received MARKER is checked against the CRC-32 of its lane's payload. -/
  | llMarkerRx (n : LaneId) (payload : List (BitVec 8)) (crc : BitVec 32)
  /-- LL_ELASTIC_OVERFLOW (R413): An elastic buffer overflow discards blocks until a MARKER and raises 0x0A25. -/
  | llElasticOverflow (q : Fin 2)
  /-- JS_CFG_WRITE (R416): A write of JS_CFG is checked against the converter-link limits. -/
  | jsCfgWrite (src : SrcId) (q : Fin 2) (data : Word64)
  /-- JESD_SYSREF (R417): A SYSREF aligns or checks the multiframe counter, and a receive quad posts a mark. -/
  | jesdSysref (q : Fin 2) (onPhase : Bool) (chunk : BitVec 32) (octet : Fin 64) (time : BitVec 48)
  /-- JESD_SYSREF_TIMEOUT (R417): 100 ms in CAPS without a SYSREF raises 0x0A32. -/
  | jesdSysrefTimeout (q : Fin 2)
  /-- JESD_ILAS_RX (R418): A received ILAS is checked against JS_CFG. -/
  | jesdIlasRx (q : Fin 2) (lanes : Nat) (f : Nat) (k : Nat)
  /-- JESD_RESYNC (R418): Four or more code errors in one multiframe drive JSYNC_O low to resynchronise. -/
  | jesdResync (q : Fin 2) (errors : Nat)
  /-- ST_RX_CHUNK (R420): A received chunk is written to the ring, or dropped when the ring is full. -/
  | stRxChunk (q : Fin 2) (data : Struck (List (BitVec 32)))
  /-- ST_RX_CHUNK_WRITTEN (R420): A chunk's write response returns and WR advances, or the chunk is counted as dropped. -/
  | stRxChunkWritten (q : Struck (Fin 2))
  /-- ST_RX_RD_WRITE (R420): A write of RD returns ring slots to the device. -/
  | stRxRdWrite (src : SrcId) (q : Fin 2) (data : BitVec 32)
  /-- ST_TX_WRITE (R421): A write into the TX window places whole chunks into the transmit FIFO. -/
  | stTxWrite (q : Fin 2) (waddr : BitVec 12) (last : BitVec 6) (data : List (BitVec 32))
  /-- ST_MARK_POS_READ (R422): A read including ST_MARK_POS[31:0] snapshots the mark time. -/
  | stMarkPosRead (q : Fin 2)
  /-- PE_CFG_WRITE (R427): A port configuration write re-sets every lane of the quad for the new CFG or REF. -/
  | peCfgWrite (src : SrcId) (k : Fin 8) (data : Word64)
  /-- CH_CFG_WRITE (R427): A channel configuration write sets FEC, EN, END and MTU under the checks. -/
  | chCfgWrite (src : SrcId) (ch : Fin 32) (data : Word64)
  /-- CHANNEL_LINK_UP (R428): LINK rises when all of a channel's lanes are ACTIVE and aligned. -/
  | channelLinkUp (ch : Fin 32)
  /-- CHANNEL_LINK_DOWN (R428): LINK falls when any of the channel's lanes leaves ACTIVE. -/
  | channelLinkDown (ch : Fin 32)
  /-- RX_FRAME (R435): A received frame is stamped, stored in loft cells and queued, or dropped. -/
  | rxFrame (ch : Fin 32) (bytes : List (BitVec 8)) (time : BitVec 48) (fecOfs : Fin 1088) (fecCorr : Nat) (fecUnc : Nat)
  /-- CH_RXQ_POP (R438): A read of the lower half of CH_RXQ_POP pops a received frame to HELD and latches its stamp. -/
  | chRxqPop (ch : Fin 32) (q : Fin 8)
  /-- LOFT_ALLOC (R439): LOFT_CMD ALLOC takes cells for a new HELD frame. -/
  | loftAlloc (src : SrcId) (ch : Fin 32) (len : BitVec 14)
  /-- LOFT_RELEASE (R439): LOFT_CMD RELEASE returns a HELD frame's cells to FREE. -/
  | loftRelease (src : SrcId) (handle : BitVec 17)
  /-- LOFT_FLUSH (R439): LOFT_CMD FLUSH discards every frame in a channel's transmit queues. -/
  | loftFlush (src : SrcId) (ch : Fin 32)
  /-- CH_TXQ_ENQ (R441): A write of CH_TXQ_ENQ enqueues a HELD frame on a transmit queue. -/
  | chTxqEnq (src : SrcId) (ch : Fin 32) (data : Word64)
  /-- TX_FRAME_START (R442): At a transmit opportunity, the engine starts the head frame of the highest queue that its gate admits. -/
  | txFrameStart (ch : Fin 32) (time : BitVec 48) (rowCorr : Nat) (rowUnc : Nat)
  /-- TX_FRAME_END (R446): A transmitted frame's last byte leaves, its cells return to FREE and any two-step stamp is queued. -/
  | txFrameEnd (ch : Fin 32)
  /-- CH_TXTS_POP (R446): A read of the lower half of CH_TXTS_POP pops a transmit-timestamp entry. -/
  | chTxtsPop (ch : Fin 32)
  /-- GATE_CHANGE (R451): At each listed time, the running gate list moves to its next entry or cycle. -/
  | gateChange (ch : Fin 32)
  /-- GATE_DISCARD (R454): A head frame that its gate never admitted through a whole cycle is discarded. -/
  | gateDiscard (ch : Fin 32) (q : Fin 8)
  /-- CH_QBV_CTRL_WRITE (R452): A write of CH_QBV_CTRL sets the gate-list controls, and clearing EN opens every gate. -/
  | chQbvCtrlWrite (src : SrcId) (ch : Fin 32) (data : BitVec 32)
  /-- GATE_BANK_WRITE (R455): A write to a gate-list bank is refused while that bank runs. -/
  | gateBankWrite (src : SrcId) (ch : Fin 32) (bank : Fin 2) (entry : Option (Fin 256)) (data : Word64)
  /-- LOFT_CH_WRITE (R433): A write of LOFT_CH sets a channel's minimum and cap after consistency checks. -/
  | loftChWrite (src : SrcId) (ch : Fin 32) (data : Word64)
  /-- PE_TOD_WRITE (R449): A write of PE_TOD commits the time-of-day base used for PTP80 conversion. -/
  | peTodWrite (src : SrcId) (seconds : Bool) (data : Word64)
  /-- LOFT_FREE_READ (R432): A read of LOFT_FREE samples all four loft books in one cycle and latches LOFT_BOOK. -/
  | loftFreeRead
  /-- BAR_ACCESS (R465): A host BAR TLP is split into NoC requests and completed from their responses. -/
  | barAccess (bar : Fin 2) (off : BitVec 28) (wr : Bool) (words : Nat) (partialBe : Bool) (data : Struck (List (BitVec 32)))
  /-- HOST_CONFIG_REQUEST (R461): The endpoint serves a PCI Express configuration request. -/
  | hostConfigRequest (wr : Bool) (dw : BitVec 10) (data : BitVec 32)
  /-- DMA_PI_WRITE (R466): A write of DMA_PI adds descriptors to an engine's ring. -/
  | dmaPiWrite (src : SrcId) (e : Fin 4) (data : BitVec 32)
  /-- DMA_ENABLE (R466): Setting EN in DMA_CFG resets PI and CI and sets STATE to IDLE. -/
  | dmaEnable (src : SrcId) (e : Fin 4)
  /-- DMA_DISABLE (R466): Clearing EN in DMA_CFG lets the descriptor in progress finish, and STATE then becomes OFF. -/
  | dmaDisable (src : SrcId) (e : Fin 4)
  /-- DMA_DESCRIPTOR_START (R468): An enabled engine fetches and starts the next descriptor when PI exceeds CI. -/
  | dmaDescriptorStart (e : Fin 4) (desc : BitVec 256)
  /-- DMA_DESCRIPTOR_COMPLETE (R468): A descriptor completes, CI advances and a completion record is written where required. -/
  | dmaDescriptorComplete (e : Fin 4) (data : Struck (List (BitVec 32)))
  /-- DMA_DESCRIPTOR_FAIL (R469): A failing descriptor stops, writes its record and halts the engine. -/
  | dmaDescriptorFail (e : Fin 4) (data : Struck (List (BitVec 32))) (hostFailed : Bool)
  /-- EVENT_RECORD_WRITE (R474): A FIFO record is written into host memory at TAIL when the ring has room. -/
  | eventRecordWrite (n : Fin 4)
  /-- EV_HEAD_WRITE (R476): A write of EV_HEAD returns ring slots to the device, or is refused and counted. -/
  | evHeadWrite (src : SrcId) (n : Fin 4) (data : BitVec 32)
  /-- EV_RING_ENABLE (R475): Setting EN in EV_CFG resets HEAD and TAIL to 0. -/
  | evRingEnable (src : SrcId) (n : Fin 4)
  /-- MSIX_SEND (R478): A ring sends its MSI-X message when IM_CNT records are unsignalled or IM_US has passed. -/
  | msixSend (n : Fin 4)
  /-- MSIX_UNMASK (R478): Unmasking a vector with its pending bit set sends one message. -/
  | msixUnmask (vec : Fin 64)
  /-- HL_MSIX_SEND (R479): A write of HL_MSIX_SEND from the site core sends one message on a vector. -/
  | hlMsixSend (src : SrcId) (vec : Fin 64)
  /-- HL_CFG_WRITE (R485): A write of a host-link configuration register posts one result in HL_CFG_RESULT. -/
  | hlCfgWrite (src : SrcId) (off : BitVec 12) (data : Word64)
  /-- HL_ERR_POP (R465): A read of the lower half of HL_ERR_POP pops the oldest host-link error. -/
  | hlErrPop
  /-- HOST_LINK_LOSS (R480): DL_Down, hot reset, PERST_L or FLR halts the DMA engines, disables the rings and discards BAR accesses. -/
  | hostLinkLoss (kind : Fin 4)
  /-- HOST_LINK_UP (R480): The link enters L0 and 0x0B31 is raised. -/
  | hostLinkUp (rate : Fin 6) (widthLog2 : Fin 4)
  /-- STREAM_HEADER (R493): A 64-byte stream header is checked field by field. -/
  | streamHeader (src : Fin 7) (bytes : List (BitVec 8))
  /-- STREAM_ACCEPT (R495): The descriptor passes its checks and signature, and the loader accepts the stream. -/
  | streamAccept (src : Fin 7) (bytes : List (BitVec 8))
  /-- BLOCK_ACCEPT (R497): A block passes its digest and tag, and its packets are parsed and written. -/
  | blockAccept (src : Fin 7) (bytes : List (BitVec 8))
  /-- PUSH_WRITE (R489): A write into the push intake window feeds stream bytes, or starts a stream. -/
  | pushWrite (src : SrcId) (bytes : List (BitVec 8))
  /-- LD_FLASH (R488): LD_CMD FLASH starts a stream read from the boot flash. -/
  | ldFlash (src : SrcId) (addr : BitVec 44)
  /-- LD_PULL (R488): LD_CMD PULL starts a stream read from a NoC address. -/
  | ldPull (src : SrcId) (addr : BitVec 44) (limit : BitVec 16)
  /-- LD_ABORT (R506): LD_CMD ABORT aborts a load and sends the device to BOOT. -/
  | ldAbort (src : SrcId)
  /-- LD_CLRERR (R508): LD_CMD CLRERR ends a partition's ERROR. -/
  | ldClrerr (src : SrcId) (part : Fin 32)
  /-- LD_ERR_POP (R506): A read of the lower half of LD_ERR_POP pops a failure record and latches LD_ERR_LOC. -/
  | ldErrPop
  /-- SS_SELECT (R488): SS_CS_L falling begins a slave serial stream or dictionary message, or wakes STANDBY. -/
  | ssSelect (dictMsg : Bool)
  /-- SS_DESELECT (R490): SS_CS_L rising before END ends the stream early. -/
  | ssDeselect
  /-- LOAD_DATA_TIMEOUT (R506): No stream data for LD_CTRL.TIMEOUT ends the load early with 0x0108. -/
  | loadDataTimeout
  /-- LOAD_CLEAR_COMPLETE (R504): The full load's clear of planes, memories and clocks completes. -/
  | loadClearComplete
  /-- LOAD_PLL_TIMEOUT (R504): PLLs or regulators not locked at step 5 or 6 fail partition 0 with 0x0145. -/
  | loadPllTimeout
  /-- LOAD_RELEASE (R504): At one tick, the loader releases the collars of the loaded boughs and the device enters RUN. -/
  | loadRelease
  /-- DARK_LOAD_DRAINED (R522): After the partition's drain, the collars clamp and both planes are cleared. -/
  | darkLoadDrained
  /-- DARK_LOAD_RELEASE (R522): The dark-loaded partition is released, set LOADED and 0x0134 is posted. -/
  | darkLoadRelease
  /-- SHADOW_LOAD_COMPLETE (R524): At END, the shadow plane is checked and set READY, and 0x0135 is posted. -/
  | shadowLoadComplete
  /-- SWAP_FREEZE (R530): At S0, the bough freezes, the plane inverts and the flip-flops take INIT or carry their values. -/
  | swapFreeze (b : BoughId)
  /-- SWAP_RELEASE (R530): At S24, the collar releases, the lines restart, the refill starts and 0x0130 is posted. -/
  | swapRelease (b : BoughId)
  /-- SWAP_REFILL_BLOCK (R536): The loader checks a stage slot's digest and refills its block, or fails the partition. -/
  | swapRefillBlock (q : Fin 32)
  /-- RB_CAPTURE (R538): RB_CMD CAPTURE snapshots the flip-flops of the masked boughs. -/
  | rbCapture (src : SrcId)
  /-- RB_CAP_POST (R539): Once every running line has given an edge after T_c, or after 1 µs, the bough posts RB_CAP. -/
  | rbCapPost (b : BoughId) (held : Bool)
  /-- READBACK_READ (R540): A read of the latch or frame window returns stored bits, subject to source and encryption rules. -/
  | readbackRead (src : SrcId) (frame : Bool) (word : Fin 3072)
  /-- PT_SWAP_POP (R542): A read of the lower half of PT_SWAP_POP pops a swap outcome entry. -/
  | ptSwapPop
  /-- GLEANER_BRANCH_CHECK (R552): A walker compares a branch's signature, corrects frames and lists or escalates suspect frames. -/
  | gleanerBranchCheck (q : Fin 4) (upsets : List (Fin 16 × Fin 4128)) (sigUpset : Fin 3) (map : List (BitVec 8))
  /-- GLEANER_PASS_COMPLETE (R548): A walker finishes its quadrant, counts a pass and starts again. -/
  | gleanerPassComplete (q : Fin 4)
  /-- GLEANER_REPAIR_START (R555): With the loader idle, a repair rereads the image blocks for the listed frames. -/
  | gleanerRepairStart (blocks : List (List (BitVec 8))) (status : BitVec 16)
  /-- GLEANER_REPAIR_COMPLETE (R555): A repaired branch is rewalked, and KIND 4 or KIND 5 is logged. -/
  | gleanerRepairComplete
  /-- GLEANER_DEFERRED_HANDLE (R557): After a swap's exclusion ends, the deferred differing branches are handled. -/
  | gleanerDeferredHandle (q : Fin 4) (map : List (BitVec 8))
  /-- WATCH_WALKER_TICK (R559): Every 1 ms, the watch walker votes the settings copies and checks the walker heartbeats. -/
  | watchWalkerTick (flips : Option (Fin 3 × BitVec 36)) (stuck : Bool) (stalled : BitVec 4)
  /-- GL_CTRL_WRITE (R562): A GL_CTRL write with the correct CONFIRM updates all three settings copies. -/
  | glCtrlWrite (src : SrcId) (data : BitVec 32)
  /-- GL_CLR_CNT (R562): GL_CMD CLR_CNT clears GL_CNT. -/
  | glClrCnt (src : SrcId)
  /-- GL_SCAN_NOW (R562): GL_CMD SCAN_NOW restarts every enabled walker at its first bough. -/
  | glScanNow (src : SrcId)
  /-- GL_LOG_POP (R562): A read of the lower half of GL_LOG_POP pops a log entry and latches its time. -/
  | glLogPop
  /-- SC_RESET_RELEASE (R573): The site core leaves reset and executes the boot ROM from 0x0000_0000. -/
  | scResetRelease
  /-- SC_GO (R574): A write of SC_CTRL.GO releases the boot ROM's wait under SRC = 0. -/
  | scGo (src : SrcId)
  /-- SC_RESET (R573): A write of SC_CTRL.RESET resets the site core with cause 3. -/
  | scReset (src : SrcId)
  /-- SC_FLASH_BOOT_COMPLETE (R574): The CMC reports the site-image copy complete or failed, and the boot ROM jumps or falls back. -/
  | scFlashBootComplete (image : List (BitVec 8))
  /-- SC_WINDOW_LOAD (R570): A core load through a NoC window waits for its response. -/
  | scWindowLoad (pc : BitVec 32) (w : Fin 4) (off : BitVec 28) (size : Fin 3) (sign : Bool) (rd : Struck (Fin 64))
  /-- SC_WINDOW_STORE (R570): A core word store through a NoC window is posted. -/
  | scWindowStore (pc : BitVec 32) (w : Fin 4) (off : BitVec 28) (size : Fin 3) (data : Struck (BitVec 32))
  /-- SC_FENCE (R570): A FENCE with O in its predecessor set waits for every posted store's response. -/
  | scFence (pc : BitVec 32)
  /-- SC_WFI (R575): WFI enters IDLE, SLEEP or OFF according to SC_SLEEP.TARGET. -/
  | scWfi (pc : BitVec 32)
  /-- SC_WAKE (R576): A watched source wakes the core from SLEEP, or restarts it from OFF. -/
  | scWake
  /-- SC_SYNC_TRAP (R586): A synchronous trap increments TRAPNEST and acts as the privileged specification states. -/
  | scSyncTrap (pc : BitVec 32) (cause : Fin 16) (tval : BitVec 32)
  /-- SC_MRET (R586): MRET returns from a trap, or starts the interrupt exit when TRAPNEST is 0. -/
  | scMret (pc : BitVec 32)
  /-- IC_SOURCE_EVENT (R582): A change of a source signal sets or clears IP according to SENSE. -/
  | icSourceEvent (n : Fin 384) (level : Bool)
  /-- IC_SETPEND (R582): A write of SETPEND sets IP for an edge source. -/
  | icSetpend (src : SrcId) (n : Fin 384)
  /-- IC_CLRPEND (R582): A write of CLRPEND clears IP for an edge source. -/
  | icClrpend (src : SrcId) (n : Fin 384)
  /-- IC_DOORBELL (R580): A write of 1 to an IC_DOORBELL bit pulses its doorbell source. -/
  | icDoorbell (src : SrcId) (w : Fin 4) (mask : BitVec 32)
  /-- IC_DELIVER (R584): The controller stacks a frame into the sheaf, claims the chosen source and enters its handler. -/
  | icDeliver (pc : BitVec 32)
  /-- IC_SHEAF_REFILL (R585): A freed sheaf slot is refilled from the most recently spilled frame. -/
  | icSheafRefill
  /-- TM_ARM (R588): Setting ARM in TM_CTRL arms a timer after target and period checks. -/
  | tmArm (src : SrcId) (n : Fin 8) (periodic : Bool)
  /-- TM_DISARM (R588): Setting DISARM in TM_CTRL disarms a timer. -/
  | tmDisarm (src : SrcId) (n : Fin 8)
  /-- TM_FIRE (R588): An armed timer fires at its target, sets FIRED and disarms or advances. -/
  | tmFire (n : Fin 8)
  /-- WDG_KICK (R590): A write of WDG_KICK with the right key reloads COUNT. -/
  | wdgKick (src : SrcId) (key : BitVec 16)
  /-- WDG_EXPIRY (R590): COUNT reaching 0 raises 0x0D30, resets the site core and reloads COUNT. -/
  | wdgExpiry
  /-- SP_CFG_WRITE (R593): A write of SP_CFG sets a serial port's mode, subject to pin ownership and busy checks. -/
  | spCfgWrite (src : SrcId) (k : Fin 4) (data : BitVec 32)
  /-- SP_CMD (R594): A write of SP_CMD starts an SPI or I²C transaction. -/
  | spCmd (src : SrcId) (k : Fin 4) (data : BitVec 32)
  /-- SP_TRANSACTION_DONE (R594): A serial-port transaction ends and posts its result in SP_RESULT. -/
  | spTransactionDone (k : Fin 4) (end3 : Fin 4) (rx : List (BitVec 8))
  /-- SP_DATA_PUSH (R594): A write of SP_DATA_POP pushes a byte into the transmit FIFO. -/
  | spDataPush (src : SrcId) (k : Fin 4) (byte : BitVec 8)
  /-- SP_DATA_POP (R594): A read of SP_DATA_POP pops a byte from the receive FIFO. -/
  | spDataPop (k : Fin 4)
  /-- UART_RX_BYTE (R594): A received UART byte enters the receive FIFO, or is dropped on overrun. -/
  | uartRxByte (k : Fin 4) (byte : BitVec 8) (err : Bool)
  /-- SC_EVT_POP (R596): A read of the lower half of SC_EVT_POP pops the oldest site event. -/
  | scEvtPop
  /-- AGZER_HELLO (R609): A HELLO opens a session slot and is answered with CHALLENGE or ACCEPT. -/
  | agzerHello (path : AgPath) (msg : List (BitVec 8))
  /-- AGZER_AUTH (R609): An AUTH proof is verified and the session is accepted, or refused with 0x050A. -/
  | agzerAuth (path : AgPath) (msg : List (BitVec 8))
  /-- AGZER_READ (R613): A READ message reads up to 32 dictionary items. -/
  | agzerRead (path : AgPath) (msg : List (BitVec 8))
  /-- AGZER_WRITE (R616): A WRITE message writes up to 32 dictionary items, all-or-nothing with ALL. -/
  | agzerWrite (path : AgPath) (msg : List (BitVec 8))
  /-- AGZER_XFER_START (R618): XFER_START opens a transfer of a long STRING or DOMAIN value. -/
  | agzerXferStart (path : AgPath) (msg : List (BitVec 8))
  /-- AGZER_XFER_DATA (R618): XFER_DATA moves one piece of an open transfer. -/
  | agzerXferData (path : AgPath) (msg : List (BitVec 8))
  /-- AGZER_CLOSE (R608): CLOSE frees the session slot. -/
  | agzerClose (path : AgPath) (msg : List (BitVec 8))
  /-- SESSION_IDLE_TIMEOUT (R608): A session silent for SESS_IDLE_TO is closed and 0x0521 is raised. -/
  | sessionIdleTimeout (slot : Fin 16)
  /-- AUTH_TIMEOUT (R608): AUTH not arriving within 2 s of CHALLENGE closes the slot. -/
  | authTimeout (slot : Fin 16)
  /-- LEVEL_LOCKOUT_EXPIRY (R610): A level locked for 60 s is unlocked. -/
  | levelLockoutExpiry (level : Fin 4)
  /-- MGT_ARP_REQUEST (R619): The management port answers an ARP request for MGT_IP. -/
  | mgtArpRequest (mac : BitVec 48) (sender : BitVec 32) (target : BitVec 32) (full : Bool)
  /-- MGT_ICMP_ECHO (R619): The management port answers an ICMPv4 echo request. -/
  | mgtIcmpEcho (mac : BitVec 48) (sender : BitVec 32) (target : BitVec 32) (echo : List (BitVec 8)) (full : Bool)
  /-- MB_DOORBELL (R620): A write of MB_DOORBELL executes the mailbox request and posts the response. -/
  | mbDoorbell (data : BitVec 32)
  /-- DICT_STORE_WRITE (R606): Persistent entries are written to the MRAM dictionary store after their writes. -/
  | dictStoreWrite (fail : Bool)
  /-- UO_DECLARE (R626): UO_CMD DECLARE reads, checks and installs a user-object declaration table. -/
  | uoDeclare (src : SrcId) (count : BitVec 11)
  /-- UO_CLEAR (R626): UO_CMD CLEAR empties the user-object table. -/
  | uoClear (src : SrcId) (count : BitVec 11)
  /-- TAP_RESET (R630): TRST_L low, or five TCK cycles with TMS high, resets the TAP and selects IDCODE. -/
  | tapReset (trst : Bool)
  /-- TAP_EXTEST (R633): EXTEST drives the pins from the boundary register. -/
  | tapExtest (data : BitVec 1146)
  /-- TAP_SAMPLE_PRELOAD (R633): SAMPLE/PRELOAD samples the pins into the boundary register. -/
  | tapSamplePreload (captured : BitVec 1146) (data : BitVec 1146)
  /-- TAP_IDCODE (R632): IDCODE selects the 32-bit identification register. -/
  | tapIdcode
  /-- TAP_CLAMP (R630): CLAMP holds the pins from the boundary register and selects bypass. -/
  | tapClamp
  /-- TAP_HIGHZ (R630): HIGHZ sets every pin to high impedance. -/
  | tapHighz
  /-- TAP_EXTEST_PULSE (R633): EXTEST_PULSE drives the lane pairs as IEEE 1149.6 defines. -/
  | tapExtestPulse (data : BitVec 1146)
  /-- TAP_EXTEST_TRAIN (R633): EXTEST_TRAIN drives the lane pairs with pulse trains. -/
  | tapExtestTrain (data : BitVec 1146)
  /-- TAP_AUTH_UPDATE (R637): Update-DR of the authorization register grants, revokes or refuses a debug level. -/
  | tapAuthUpdate (proof : BitVec 256) (level : BitVec 2) (revoke : Bool)
  /-- TAP_AUTH_LOCKOUT_EXPIRY (R637): The 60 s lockout of AUTH ends. -/
  | tapAuthLockoutExpiry
  /-- DAP_ACCESS (R639): Update-DR of the DAP register starts one NoC access from source 161. -/
  | dapAccess (data : Struck Word64) (addr : NocAddr) (op : BitVec 3)
  /-- TAP_AGZER (R635): Update-DR of the AGZER register passes one dictionary byte. -/
  | tapAgzer (valid : Bool) (byte : BitVec 8)
  /-- TAP_CFG_IN (R635): CFG_IN shifts stream bits into the loader. -/
  | tapCfgIn (bits : List Bool)
  /-- TAP_TAPSTAT (R631): TAPSTAT returns the last TAP refusal code and the debug level. -/
  | tapTapstat
  /-- TAP_WAKE (R634): WAKE in STANDBY triggers the TAP wake of cause 0x03. -/
  | tapWake
  /-- TAP_BYPASS (R631): BYPASS, or a refused instruction, selects the bypass register and reports the refusal. -/
  | tapBypass (code : BitVec 8)
  /-- DEBUG_GRANT_END (R638): When full authorization ends, breakpoints are disabled, ATTACH clears and halted cores resume. -/
  | debugGrantEnd
  /-- DBG_HALTREQ (R640): HALTREQ requests a site-core halt at an instruction boundary. -/
  | dbgHaltreq (src : SrcId)
  /-- SC_HALT (R640): The site core halts, sets DPC and raises 0x0E32. -/
  | scHalt (pc : BitVec 32)
  /-- SC_HALT_DEFERRED (R641): A halt deferred by an LR reservation is taken after the SC, or after 16 instructions. -/
  | scHaltDeferred (pc : BitVec 32)
  /-- DBG_RESUME (R642): RESUME continues the halted core at DPC. -/
  | dbgResume (src : SrcId)
  /-- DBG_STEP (R642): STEP executes one instruction and halts again. -/
  | dbgStep (src : SrcId)
  /-- DBG_RESET (R642): The debugger's RESET resets the site core with cause 4. -/
  | dbgReset (src : SrcId)
  /-- DBG_BREAKPOINT_HIT (R643): A breakpoint halts the core before the instruction at ADDR. -/
  | dbgBreakpointHit (n : Fin 8)
  /-- DBG_WATCHPOINT_HIT (R643): A watchpoint halts the core after a matching access. -/
  | dbgWatchpointHit (n : Fin 4) (addr : BitVec 32) (size : Fin 3) (store : Bool) (pc : BitVec 32)
  /-- DBG_EBREAK (R643): EBREAK halts the core with CAUSE 5 when EBREAKM is set. -/
  | dbgEbreak (pc : BitVec 32) (compressed : Bool) (tval : BitVec 32)
  /-- DBG_SC_REGCMD (R645): A write of DBG_SC_REGCMD reads or writes one register of the halted core. -/
  | dbgScRegcmd (src : SrcId) (data : Word64)
  /-- DBG_SQ_HALT (R647): DBG_SQ_CTRL HALT halts a sequencer at the first boundary not held off. -/
  | dbgSqHalt (src : SrcId) (b : BoughId) (a : SeqId) (held : Nat)
  /-- DBG_SQ_RESUME (R647): DBG_SQ_CTRL RESUME continues a halted sequencer. -/
  | dbgSqResume (src : SrcId) (b : BoughId) (a : SeqId)
  /-- DBG_SQ_STEP (R647): DBG_SQ_CTRL STEP runs a sequencer to the next boundary not held off and halts. -/
  | dbgSqStep (src : SrcId) (b : BoughId) (a : SeqId)
  /-- DBG_SQ_BREAKPOINT_HIT (R648): A sequencer breakpoint halts before the instruction at BP_j. -/
  | dbgSqBreakpointHit (b : BoughId) (a : SeqId) (j : Fin 2)
  /-- DBG_SQ_DATA_WRITE (R649): A write of DBG_SQ_DATA sets a V or S register of a stopped sequencer. -/
  | dbgSqDataWrite (src : SrcId) (b : BoughId) (a : SeqId) (data : Word64)
  /-- DBG_TXDATA_WRITE (R650): The site core writes a virtual-terminal word for the debugger. -/
  | dbgTxdataWrite (src : SrcId) (data : BitVec 32)
  /-- DBG_RXDATA_WRITE (R650): The debugger writes a virtual-terminal word for the core. -/
  | dbgRxdataWrite (src : SrcId) (data : BitVec 32)
  /-- TEMP_SAMPLE (R655): Every 1 ms, each temperature sensor is sampled and its thresholds are evaluated. -/
  | tempSample (readings : List (Fin 72 × Int))
  /-- VOLT_SAMPLE (R656): Every 100 µs, each rail monitor is sampled and its thresholds are evaluated. -/
  | voltSample (millivolts : List (Fin 18 × Nat))
  /-- RO_SAMPLE (R657): Every 10 s of powered time, each bough's ring-oscillator pair is measured. -/
  | roSample (counts : List (BoughId × Nat × Nat))
  /-- AUTO_EYE_SCAN (R659): Once per powered day, the CMC issues EYE_MARGIN on each active protocol lane. -/
  | autoEyeScan
  /-- HM_AGE_TICK (R662): Each powered second adds the acceleration factor to each wear monitor's equivalent age. -/
  | hmAgeTick
  /-- HM_DAILY_FIT (R663): Every powered day, each wear monitor's fit is updated and its end-of-life prediction posted. -/
  | hmDailyFit
  /-- HM_REBASE (R668): HM_CMD REBASE clears a wear monitor's fit and baseline. -/
  | hmRebase (src : SrcId) (mon : BitVec 9)
  /-- FUSE_POLICY_SET (R677): A POLICY_SET write burns policy bits. -/
  | fusePolicySet (isLocal : Bool) (level : Fin 4) (data : BitVec 32) (fail : Option (Fin 32))
  /-- FUSE_EF_KEY (R674): An EF_KEY write programs the eFuse stream key, then its CRC. -/
  | fuseEfKey (isLocal : Bool) (level : Fin 4) (key : BitVec 256) (fail : Option (Fin 288))
  /-- FUSE_PK_PROGRAM (R674): A PK_PROGRAM write programs a public-key digest slot. -/
  | fusePkProgram (isLocal : Bool) (level : Fin 4) (slot : BitVec 8) (digest : BitVec 384) (fail : Option (Fin 416))
  /-- FUSE_PK_REVOKE (R679): A PK_REVOKE write revokes a public-key slot. -/
  | fusePkRevoke (isLocal : Bool) (level : Fin 4) (slot : BitVec 8) (fail : Bool)
  /-- FUSE_DBG_KEY (R674): A DBG_KEY write programs a debug key. -/
  | fuseDbgKey (isLocal : Bool) (level : Fin 4) (full : Bool) (key : BitVec 256) (fail : Option (Fin 288))
  /-- RB_ADVANCE (R681): An RB_ADVANCE write raises the image anti-rollback counter. -/
  | rbAdvance (level : Fin 4) (v : BitVec 8) (fail : Option (Fin 64))
  /-- FW_RB_ADVANCE (R686): An FW_RB_ADVANCE write raises the firmware anti-rollback counter. -/
  | fwRbAdvance (level : Fin 4) (v : BitVec 8) (fail : Option (Fin 32))
  /-- RAM_KEY_WRITE (R676): A RAM_KEY write stores a key in the battery-backed key RAM. -/
  | ramKeyWrite (isLocal : Bool) (level : Fin 4) (key : BitVec 256)
  /-- RAM_KEY_ERASE (R689): A RAM_KEY_ERASE write erases the key RAM and raises 0x1031. -/
  | ramKeyErase (level : Fin 4)
  /-- TAMPER_CLR (R676): A TAMPER_CLR write clears TAMPER_SEEN and VBATT_LOST while TAMPER_L is high. -/
  | tamperClr (level : Fin 4)
  /-- FW_IMAGE_COMPLETE (R684): At the last byte of an FW_IMAGE transfer, the inactive slot is checked and marked VALID or INVALID. -/
  | fwImageComplete
  /-- FW_SWITCH (R685): An FW_SWITCH write restarts the CMC into the valid inactive slot. -/
  | fwSwitch (level : Fin 4)
  /-- SEC_RB_READ (R687): A read of SEC_RB_FRAME or SEC_RB_LATCH serves readback through the CMC. -/
  | secRbRead (level : Fin 4) (latch : Bool)
  /-- IO_TABLE_WRITE (R723): A write of IO_TABLE is checked and stored for the next full load. -/
  | ioTableWrite (level : Fin 4) (table : List (BitVec 8))
  /-- BOUGH_CLOCK_EDGE (R65): A rising edge of a bough clock line clocks the flip-flops, limb, graft, trigger and mark registers, block-memory ports and fabric-mode slices on it. The global lines that give an edge; flip-flops whose asynchronous set/reset pulse is too short, or (true) is released in the window of the edge; those whose data change in it. -/
  | boughClockEdge (globals : BitVec 32) (resets : List (Nat × Bool)) (late : List Nat)
  /-- TIME_CLOCK_TICK (R281): At every rising edge of TCLK the accumulator adds the effective increment, the dither advances, a slew absorbs its share and each consumer takes the tick's value. -/
  | timeClockTick
  /-- BRIDGE_REQ_IN (R356): The fabric takes a request flit on REQ_IN at a NOC_CLK edge with VALID and READY both 1, freeing bridge buffer space. -/
  | bridgeReqIn (b : BoughId)
  /-- BRIDGE_RSP_IN (R358): The fabric takes a response flit on RSP_IN, which also ends the discarding of responses after an acceptance timeout. -/
  | bridgeRspIn (b : BoughId)
  /-- ST_TX_SEND (R421): A transmit quad sends the next chunk or JESD frame from its FIFO, sending zero octets and counting UNDER when the FIFO is empty, or IDLE on the lane link. -/
  | stTxSend (q : Fin 2)
  /-- JESD_CRC12_FAIL (R418): A received JESD204C multiblock fails its CRC-12 check and adds one to CRC. -/
  | jesdCrc12Fail (q : Fin 2)
  /-- JSYNC_I_CHANGE (R418): The converter changes JSYNC_I_q, which a 204B transmit quad samples as its synchronisation request. -/
  | jsyncIChange (q : Fin 2) (level : Bool)
  /-- UART_TX_BYTE (R594): A UART port finishes sending a byte from its transmit FIFO, which may leave the FIFO empty and raise the TX-empty source. -/
  | uartTxByte (k : Fin 4)
  /-- SC_SRAM_ACCESS (R572): A site-core load, store or fetch to site SRAM is served, correcting and writing back a correctable row or faulting on an uncorrectable one. -/
  | scSramAccess (pc : BitVec 32) (addr : BitVec 20) (kind : Fin 5) (size : Fin 3) (sign : Bool) (rd : Fin 64) (data : BitVec 32) (upset : BitVec 144)
  /-- PUSH_REFUSAL_TIMEOUT (R510): After a refused push stream, the owner writes nothing for LD_CTRL.TIMEOUT and the loader stops answering its writes with the refusal code. -/
  | pushRefusalTimeout
deriving DecidableEq, Repr

end Sys2Proof
end

