-- ==== Sys2Proof/Decode.lean ====
section
/-!
DEFINITION. The block takes commands, not words: no row of spec/opcode_table.json gives an encoding, so no word spells a command.
-/
namespace Sys2Proof

/-- The command that a word spells by the table's bits. The table gives bits to no row. -/
def decodeTableWord (_nbits _w : Nat) : Option Instr := none

end Sys2Proof
end

