-- ==== Sys2Proof/Config.lean ====
section
/-!
DEFINITION. What one part fixes (the address map, the constants of the manual's tables) and the free values: functions
without a body, one for each value that the manual leaves open. No statement can see what a free value is.
-/
namespace Sys2Proof.Config

/-- A value that the manual leaves open: the first argument names the place, the second counts the uses of that place
(State.free), so that two uses need not agree. Notes: assumption 2. -/
opaque freeNat : Nat → Nat → Nat

/-- The digest, cipher and signature functions that the manual takes from public standards (R495, R497): they are
uninterpreted here. Notes: assumption 3. -/
opaque sha384 : List Nat → Nat
opaque hmac256 : Nat → List Nat → Nat
opaque gcmOpen : Nat → Nat → List Nat → List Nat → Option (List Nat)
opaque ecdsaOk : Nat → Nat → Nat → Bool
opaque aesBlock : Nat → Nat → Nat

/-- What one part was given at test: 0 SERIAL, 1 MGT_MAC, 2 the Vendor key, 3 the digest of the Vrelkor firmware key (R623, R624, R683); 16 + b the ratio K0 of bough b and
256 + p the trim slope K_T at point p, as binary64 words (R657, R658). Notes: assumption 15. -/
opaque partConst : Nat → Nat

/-- exp and power in binary64, whose last bits the manual does not fix (R662 to R664). Notes: assumption 2. -/
opaque exp64 : Nat → Nat
opaque pow64 : Nat → Nat → Nat

/-- NoC address of port `p` of router `n` (R36, R37): (4n + p) × 2^36. -/
def rp (n p : Nat) : Nat := (4 * n + p) * 68719476736

/-- Base of global channel `ch` = 4k + c: router k, port A, 0x1_0000 + 0x1000·c (R456). -/
def chBase (ch : Nat) : Nat := rp (ch / 4) 1 + 0x10000 + 0x1000 * (ch % 4)

/-- The router that carries quad `q` (R393). -/
def quadRouter (q : Nat) : Nat :=
  if q < 8 then q else if q < 10 then 8 else if q = 10 then 15 else 23

/-- Base of quad `q`'s register block (R393): 0x8_0000 on its router's port A, Q_9 at 0x8_1000. -/
def qdBase (q : Nat) : Nat := rp (quadRouter q) 1 + (if q = 9 then 0x81000 else 0x80000)

/-- Base of lane `n`'s registers: lane n = 4k + i of quad k, at +0x100·i (R392, R393). -/
def lnBase (n : Nat) : Nat := qdBase (n / 4) + 0x100 * (n % 4)

/-- The default route of router `r` toward destination `d` (R349): 0 LOCAL, 1 E, 2 W, 3 N, 4 S (R347). -/
def defaultRoute (r d : Nat) : Nat :=
  let dx := (d % 8 + 8 - r % 8) % 8
  let dy := (d / 8 + 8 - r / 8) % 8
  if dx ≠ 0 then (if dx ≤ 4 then 1 else 2) else if dy ≠ 0 then (if dy ≤ 4 then 3 else 4) else 0

/-- Word `w` of the default routing table of router `r` (R349, R367): the entry of destination 16w + i at [4i + 3 : 4i]. -/
def noc349 (r w : Nat) : Nat :=
  (List.range 16).foldl (fun a i => a + defaultRoute r (16 * w + i) * 2 ^ (4 * i)) 0

/-- The power-up values of TPLL_CFG for strap code TREF_FS (R286): N and FRAC; M is 1. -/
def trefN (fs : Nat) : Nat :=
  match fs with
  | 0 => 480 | 1 => 375 | 2 => 250 | 3 => 240 | 4 => 192 | 5 => 156 | 6 => 125 | _ => 120
def trefFrac (fs : Nat) : Nat := if fs = 5 then 0x400000 else 0

/-- Strap code that State.reset stands for; POR_RELEASE samples the real one. Notes: assumption 4. -/
def trefReset : Nat := 7

/-- The straps as one word, in the model's own layout: BOOT_SRC [1:0], TREF_FS [4:2], HL_EN [5], HL_W [7:6] (R286, R461, R492).
State.reset stands for BOOT_SRC 3, HL_EN 1, HL_W 3. Notes: assumption 4. -/
def strapReset : Nat := 3 + trefReset * 4 + 32 + 3 * 64

/-- Default base of site-core window `w` (R597). -/
def scWin (w : Nat) : Nat :=
  match w with
  | 0 => 0x4100 | 1 => 0x7D00 | 2 => 0x7E00 | _ => 0xE100

/-- Default threshold of health monitor `m` (R654) as an F32 word: 1 WARN, 2 ALARM. -/
def hm654 (which m : Nat) : Nat :=
  let pick (a b : Nat) := if which = 1 then a else b
  if m < 72 then pick 0x42C80000 0x42D80000
  else if m = 81 then pick 0x3FC00000 0x3FA66666
  else if m < 90 then pick 0x40400000 0x40A00000
  else if m < 154 then pick 0x469C4000 0x46EA6000
  else if m < 218 then pick 0x41400000 0x41800000
  else if m < 266 then pick 0x42200000 0x42400000
  else if m < 271 then pick 0x4DEE6B28 0x4E3EBC20
  else pick 0x41400000 0x41C00000

end Sys2Proof.Config
end

