-- ==== Sys2Proof/Machine/Crc.lean ====
section
/-!
DEFINITION. Cyclic redundancy checks that the manual names: CRC-32 of IEEE 802.3 (R411, R494, R552, R674) and CRC-64 of
ECMA-182 without inversion (R551). Bytes go in order, bit 0 of each byte first.
-/
namespace Sys2Proof.Machine

/-- One bit into a register that shifts toward bit 0; `poly` is the polynomial with its bits in reverse order. -/
def crcBit (poly crc b : Nat) : Nat := if (crc + b) % 2 = 1 then crc / 2 ^^^ poly else crc / 2

/-- The bits of a byte, bit 0 first. -/
def byteBits (v : Nat) : List Nat := (List.range 8).map (fun i => v / 2 ^ i % 2)

/-- The register of CRC-32 (IEEE 802.3) after more bytes; it starts at all ones. -/
def crc32Reg (reg : Nat) (bytes : List Nat) : Nat := (bytes.flatMap byteBits).foldl (fun c b => crcBit 0xEDB88320 c b) reg

/-- CRC-32 of bytes (IEEE 802.3). -/
def crc32 (bytes : List Nat) : Nat := crc32Reg 0xFFFFFFFF bytes ^^^ 0xFFFFFFFF

/-- CRC-64 of bytes, polynomial ECMA-182, initial value 0, no final inversion (R551). -/
def crc64 (bytes : List Nat) : Nat :=
  (bytes.flatMap byteBits).foldl (fun c b => crcBit 0xC96C5795D7870F42 c b) 0

/-- The bytes of a number, the least significant first. -/
def toBytes (n v : Nat) : List Nat := (List.range n).map (fun i => v / 2 ^ (8 * i) % 256)

/-- The number that bytes spell, the least significant first. -/
def ofBytes (l : List Nat) : Nat := l.foldr (fun b a => b % 256 + 256 * a) 0

end Sys2Proof.Machine
end

