-- ==== Sys2Proof/Machine/LaneLink.lean ====
section
/-!
DEFINITION. The blocks of the lane link (R411 to R414): their payloads as 64-bit numbers whose byte 0 is sent first, the scrambler, the content
of a CAPS set.
-/
namespace Sys2Proof.Machine
open Sys2Proof

/-- The payload through the self-synchronous scrambler x^58 + x^39 + 1 (R411): the register (newest sent bit in bit 0) and the scrambled payload. -/
def scramble (reg p : Nat) : Nat × Nat :=
  (List.range 64).foldl (fun (acc : Nat × Nat) i =>
    let b := (bit p i + bit acc.1 38 + bit acc.1 57) % 2
    ((2 * acc.1 + b) % 2 ^ 58, acc.2 + b * 2 ^ i)) (reg, 0)

/-- A block before its scrambler (R411): the sync header (1 data, 2 control) and the payload. -/
structure LlBlock where
  sync : Nat
  payload : Nat
deriving DecidableEq, Repr

/-- A control block of a type with a body of at most 7 bytes (R411). -/
def llCtrl (type : Nat) (body : List Nat) : LlBlock := ⟨2, ofBytes ((type :: body).take 8)⟩
def llIDLE : LlBlock := llCtrl 0x1E []
def llFILLER : LlBlock := llCtrl 0x2D []
/-- A data block of 8 payload bytes (R411). -/
def llData (bytes : List Nat) : LlBlock := ⟨1, ofBytes (bytes.take 8)⟩
/-- A MARKER (R411): the lane, the marker count, and the CRC-32 of the lane's data since its last MARKER. -/
def llMarker (lane count crc : Nat) : LlBlock := llCtrl 0x55 (lane :: (toBytes 2 count ++ toBytes 4 crc))
/-- A CAPS block (R411): content bytes 6·INDEX to 6·INDEX + 5. -/
def llCaps (index : Nat) (ack : Bool) (content : List Nat) : LlBlock :=
  llCtrl 0x4B ((index + 128 * ofFlag ack) :: (content.drop (6 * index)).take 6)

/-- The CAPS content that a device sends (R414): VERSION 1, stepping 1 (R1), LANES, F, TOL, 0, LINK_ID, zeros. -/
def capsContent (lanes f tol linkId : Nat) : List Nat :=
  [1, 1, lanes, f, tol, 0] ++ toBytes 4 linkId ++ List.replicate 14 0

end Sys2Proof.Machine
end

