-- ==== Sys2Proof/Machine/Regs.lean ====
section
/-!
DEFINITION. The register map: one Fld per register field that the spec's register tables give (its NoC address, its
bit position and width, its access code of R13 and its reset value), and one row per register for decoding a bus
address. Chapter and rule stand above each register. A field's index arguments are those of the table heading:
b a bough or router, n a lane, q a quad, ch a global channel, k a granary router or a port, the rest as the heading.
-/
namespace Sys2Proof.Machine
open Sys2Proof

/-- Access codes of R13. -/
inductive Acc where
  | ro | rw | wo | w1c | w1s | rc | rs
deriving DecidableEq, Repr

/-- One register field: address of its register, lowest bit, width, access code, reset value. -/
structure Fld where
  addr : Nat
  lo : Nat
  w : Nat
  acc : Acc
  rst : Nat
deriving DecidableEq, Repr

/-- The key under which the register store holds a field: registers are at most 64 bits wide. -/
def Fld.key (f : Fld) : Nat := f.addr * 64 + f.lo

namespace R

open Sys2Proof.Config

/-! DEV_MODE (01_architecture, R39): 32 bits. -/
def DEV_MODE_MODE : Fld := ⟨0x41000000000, 0, 3, .ro, 1⟩
def DEV_MODE_PREV_MODE : Fld := ⟨0x41000000000, 3, 3, .ro, 0⟩
def DEV_MODE_BUSY : Fld := ⟨0x41000000000, 6, 1, .ro, 0⟩
def DEV_MODE_CAUSE : Fld := ⟨0x41000000000, 8, 8, .ro, 1⟩
def DEV_MODE_STATUS : Fld := ⟨0x41000000000, 16, 16, .ro, 0⟩
/-! DEV_MODE_REQ (01_architecture, R39): 32 bits. -/
def DEV_MODE_REQ_TARGET : Fld := ⟨0x41000000008, 0, 3, .wo, 0⟩
def DEV_MODE_REQ_CONFIRM : Fld := ⟨0x41000000008, 16, 16, .wo, 0⟩
/-! DEV_MODE_RESULT (01_architecture, R39): 64 bits. -/
def DEV_MODE_RESULT_STATUS : Fld := ⟨0x41000000010, 0, 16, .ro, 0⟩
def DEV_MODE_RESULT_TARGET : Fld := ⟨0x41000000010, 16, 3, .ro, 0⟩
def DEV_MODE_RESULT_WAKE : Fld := ⟨0x41000000010, 19, 1, .ro, 0⟩
def DEV_MODE_RESULT_SEQ : Fld := ⟨0x41000000010, 32, 16, .ro, 0⟩
def DEV_MODE_RESULT_VALID : Fld := ⟨0x41000000010, 48, 1, .ro, 0⟩
def DEV_MODE_RESULT_STALE : Fld := ⟨0x41000000010, 49, 1, .ro, 0⟩
/-! DEV_WAKE (01_architecture, R39): 64 bits. -/
def DEV_WAKE_TARGET : Fld := ⟨0x41000000018, 0, 48, .rw, 0⟩
def DEV_WAKE_ARM : Fld := ⟨0x41000000018, 48, 1, .rw, 0⟩
def DEV_WAKE_WRAPS : Fld := ⟨0x41000000018, 49, 15, .rw, 0⟩
/-! DR_CTRL (03_branches_limbs_timing, R125): 32 bits. -/
def DR_CTRL_AUTO_DOWN (b : Nat) : Fld := ⟨rp b 3 + 0x1000, 0, 1, .rw, 0⟩
def DR_CTRL_EVT_EN (b : Nat) : Fld := ⟨rp b 3 + 0x1000, 1, 1, .rw, 1⟩
def DR_CTRL_WARN_STEPS (b : Nat) : Fld := ⟨rp b 3 + 0x1000, 8, 4, .rw, 4⟩
/-! DR_STATUS (03_branches_limbs_timing, R125): 32 bits. -/
def DR_STATUS_LOCKED (b : Nat) : Fld := ⟨rp b 3 + 0x1008, 0, 1, .ro, 0⟩
def DR_STATUS_HOLD (b : Nat) : Fld := ⟨rp b 3 + 0x1008, 1, 1, .ro, 0⟩
def DR_STATUS_WARN (b : Nat) : Fld := ⟨rp b 3 + 0x1008, 2, 1, .ro, 0⟩
def DR_STATUS_EXHAUSTED (b : Nat) : Fld := ⟨rp b 3 + 0x1008, 3, 1, .ro, 0⟩
def DR_STATUS_FLOOR (b : Nat) : Fld := ⟨rp b 3 + 0x1008, 4, 1, .ro, 0⟩
def DR_STATUS_UNGUARDED (b : Nat) : Fld := ⟨rp b 3 + 0x1008, 5, 1, .ro, 0⟩
def DR_STATUS_HOLD_DRIFT (b : Nat) : Fld := ⟨rp b 3 + 0x1008, 6, 1, .ro, 0⟩
def DR_STATUS_OP (b : Nat) : Fld := ⟨rp b 3 + 0x1008, 8, 2, .ro, 0⟩
def DR_STATUS_TRIM (b : Nat) : Fld := ⟨rp b 3 + 0x1008, 16, 6, .ro, 0⟩
def DR_STATUS_HEADROOM (b : Nat) : Fld := ⟨rp b 3 + 0x1008, 22, 6, .ro, 16⟩
/-! DR_MEAS (03_branches_limbs_timing, R125): 64 bits. -/
def DR_MEAS_RATIO (b : Nat) : Fld := ⟨rp b 3 + 0x1010, 0, 16, .ro, 0⟩
def DR_MEAS_SEQ (b : Nat) : Fld := ⟨rp b 3 + 0x1010, 32, 16, .ro, 0⟩
def DR_MEAS_VALID (b : Nat) : Fld := ⟨rp b 3 + 0x1010, 48, 1, .ro, 0⟩
def DR_MEAS_STALE (b : Nat) : Fld := ⟨rp b 3 + 0x1010, 49, 1, .ro, 0⟩
/-! DR_TRIM_SAVED (03_branches_limbs_timing, R125): 32 bits. -/
def DR_TRIM_SAVED_TRIM_L (b : Nat) : Fld := ⟨rp b 3 + 0x1018, 0, 6, .ro, 0⟩
def DR_TRIM_SAVED_TRIM_N (b : Nat) : Fld := ⟨rp b 3 + 0x1018, 8, 6, .ro, 0⟩
def DR_TRIM_SAVED_TRIM_H (b : Nat) : Fld := ⟨rp b 3 + 0x1018, 16, 6, .ro, 0⟩
def DR_TRIM_SAVED_SAVED_L (b : Nat) : Fld := ⟨rp b 3 + 0x1018, 22, 1, .ro, 0⟩
def DR_TRIM_SAVED_SAVED_N (b : Nat) : Fld := ⟨rp b 3 + 0x1018, 23, 1, .ro, 0⟩
def DR_TRIM_SAVED_SAVED_H (b : Nat) : Fld := ⟨rp b 3 + 0x1018, 24, 1, .ro, 0⟩
/-! DR_EVT (03_branches_limbs_timing, R125): 32 bits. -/
def DR_EVT_WARN_EVT (b : Nat) : Fld := ⟨rp b 3 + 0x1020, 0, 1, .w1c, 0⟩
def DR_EVT_EXH_EVT (b : Nat) : Fld := ⟨rp b 3 + 0x1020, 1, 1, .w1c, 0⟩
def DR_EVT_DOWN_EVT (b : Nat) : Fld := ⟨rp b 3 + 0x1020, 2, 1, .w1c, 0⟩
def DR_EVT_FLOOR_EVT (b : Nat) : Fld := ⟨rp b 3 + 0x1020, 3, 1, .w1c, 0⟩
def DR_EVT_DRIFT_EVT (b : Nat) : Fld := ⟨rp b 3 + 0x1020, 4, 1, .w1c, 0⟩
def DR_EVT_UNG_EVT (b : Nat) : Fld := ⟨rp b 3 + 0x1020, 5, 1, .w1c, 0⟩
/-! BM_CTRL (04_block_memory, R158): 32 bits. -/
def BM_CTRL_UNC_EVT_EN (b : Nat) : Fld := ⟨rp b 3 + 0x2000, 0, 1, .rw, 1⟩
def BM_CTRL_CORR_LOG_EN (b : Nat) : Fld := ⟨rp b 3 + 0x2000, 1, 1, .rw, 1⟩
def BM_CTRL_CNT_CLR (b : Nat) : Fld := ⟨rp b 3 + 0x2000, 2, 1, .wo, 0⟩
/-! BM_CNT (04_block_memory, R158): 32 bits. -/
def BM_CNT_CORR (b : Nat) : Fld := ⟨rp b 3 + 0x2008, 0, 16, .ro, 0⟩
def BM_CNT_UNC (b : Nat) : Fld := ⟨rp b 3 + 0x2008, 16, 16, .ro, 0⟩
/-! BM_ERR_POP (04_block_memory, R158): 64 bits. -/
def BM_ERR_POP_BLOCK (b : Nat) : Fld := ⟨rp b 3 + 0x2010, 0, 7, .rs, 0⟩
def BM_ERR_POP_PORT (b : Nat) : Fld := ⟨rp b 3 + 0x2010, 7, 1, .rs, 0⟩
def BM_ERR_POP_ROW (b : Nat) : Fld := ⟨rp b 3 + 0x2010, 8, 9, .rs, 0⟩
def BM_ERR_POP_KIND (b : Nat) : Fld := ⟨rp b 3 + 0x2010, 17, 1, .rs, 0⟩
def BM_ERR_POP_SEQ_PORT (b : Nat) : Fld := ⟨rp b 3 + 0x2010, 18, 1, .rs, 0⟩
def BM_ERR_POP_WB (b : Nat) : Fld := ⟨rp b 3 + 0x2010, 19, 1, .rs, 0⟩
def BM_ERR_POP_SYMBOL (b : Nat) : Fld := ⟨rp b 3 + 0x2010, 24, 8, .rs, 0⟩
def BM_ERR_POP_SYNDROME (b : Nat) : Fld := ⟨rp b 3 + 0x2010, 32, 16, .rs, 0⟩
def BM_ERR_POP_VALID (b : Nat) : Fld := ⟨rp b 3 + 0x2010, 48, 1, .rs, 0⟩
def BM_ERR_POP_OVF (b : Nat) : Fld := ⟨rp b 3 + 0x2010, 49, 1, .rs, 0⟩
/-! BM_INJECT (04_block_memory, R158): 32 bits. -/
def BM_INJECT_BLOCK (b : Nat) : Fld := ⟨rp b 3 + 0x2018, 0, 7, .rw, 0⟩
def BM_INJECT_SYMBOL (b : Nat) : Fld := ⟨rp b 3 + 0x2018, 8, 6, .rw, 0⟩
def BM_INJECT_PATTERN (b : Nat) : Fld := ⟨rp b 3 + 0x2018, 16, 4, .rw, 0⟩
def BM_INJECT_DOUBLE (b : Nat) : Fld := ⟨rp b 3 + 0x2018, 20, 1, .rw, 0⟩
def BM_INJECT_ARM (b : Nat) : Fld := ⟨rp b 3 + 0x2018, 21, 1, .rw, 0⟩
/-! SL_RES_P (05_arithmetic_slices, R186): 64 bits. -/
def SL_RES_P_P (b : Nat) (i : Nat) : Fld := ⟨rp b 3 + 0x3000 + 0x10 * i, 0, 56, .ro, 0⟩
def SL_RES_P_OVF (b : Nat) (i : Nat) : Fld := ⟨rp b 3 + 0x3000 + 0x10 * i, 56, 1, .ro, 0⟩
def SL_RES_P_SATD (b : Nat) (i : Nat) : Fld := ⟨rp b 3 + 0x3000 + 0x10 * i, 57, 1, .ro, 0⟩
def SL_RES_P_PDET (b : Nat) (i : Nat) : Fld := ⟨rp b 3 + 0x3000 + 0x10 * i, 58, 1, .ro, 0⟩
def SL_RES_P_POVF (b : Nat) (i : Nat) : Fld := ⟨rp b 3 + 0x3000 + 0x10 * i, 59, 1, .ro, 0⟩
/-! SL_RES_S (05_arithmetic_slices, R186): 64 bits. -/
def SL_RES_S_R (b : Nat) (i : Nat) : Fld := ⟨rp b 3 + 0x3008 + 0x10 * i, 0, 24, .ro, 0⟩
def SL_RES_S_RCLP (b : Nat) (i : Nat) : Fld := ⟨rp b 3 + 0x3008 + 0x10 * i, 24, 1, .ro, 0⟩
def SL_RES_S_SEQ (b : Nat) (i : Nat) : Fld := ⟨rp b 3 + 0x3008 + 0x10 * i, 32, 16, .ro, 0⟩
def SL_RES_S_VALID (b : Nat) (i : Nat) : Fld := ⟨rp b 3 + 0x3008 + 0x10 * i, 48, 1, .ro, 0⟩
def SL_RES_S_STALE (b : Nat) (i : Nat) : Fld := ⟨rp b 3 + 0x3008 + 0x10 * i, 49, 1, .ro, 0⟩
/-! SL_CTRL (05_arithmetic_slices, R186): 32 bits. -/
def SL_CTRL_OVF_EVT_EN (b : Nat) : Fld := ⟨rp b 3 + 0x4000, 0, 1, .rw, 0⟩
/-! SL_OVF_MAP (05_arithmetic_slices, R186): 64 bits. -/
def SL_OVF_MAP_OVF (b : Nat) (w : Nat) : Fld := ⟨rp b 3 + 0x4010 + 0x8 * w, 0, 64, .w1c, 0⟩
/-! SQ_CMD (06_sequencer_model, R218): 32 bits. -/
def SQ_CMD_CMD (b : Nat) (a : Nat) : Fld := ⟨rp b 3 + 0x5000 + 0x40 * a, 0, 4, .wo, 0⟩
def SQ_CMD_CH (b : Nat) (a : Nat) : Fld := ⟨rp b 3 + 0x5000 + 0x40 * a, 4, 2, .wo, 0⟩
/-! SQ_STATUS (06_sequencer_model, R218): 32 bits. -/
def SQ_STATUS_STATE (b : Nat) (a : Nat) : Fld := ⟨rp b 3 + 0x5008 + 0x40 * a, 0, 3, .ro, 0⟩
def SQ_STATUS_HELD (b : Nat) (a : Nat) : Fld := ⟨rp b 3 + 0x5008 + 0x40 * a, 3, 1, .ro, 0⟩
def SQ_STATUS_DEPTH (b : Nat) (a : Nat) : Fld := ⟨rp b 3 + 0x5008 + 0x40 * a, 4, 3, .ro, 0⟩
def SQ_STATUS_PEND (b : Nat) (a : Nat) : Fld := ⟨rp b 3 + 0x5008 + 0x40 * a, 8, 4, .ro, 0⟩
def SQ_STATUS_PC (b : Nat) (a : Nat) : Fld := ⟨rp b 3 + 0x5008 + 0x40 * a, 16, 11, .ro, 0⟩
/-! SQ_FAULT (06_sequencer_model, R218): 64 bits. -/
def SQ_FAULT_CODE (b : Nat) (a : Nat) : Fld := ⟨rp b 3 + 0x5010 + 0x40 * a, 0, 16, .ro, 0⟩
def SQ_FAULT_PC (b : Nat) (a : Nat) : Fld := ⟨rp b 3 + 0x5010 + 0x40 * a, 16, 11, .ro, 0⟩
def SQ_FAULT_SEQ (b : Nat) (a : Nat) : Fld := ⟨rp b 3 + 0x5010 + 0x40 * a, 32, 16, .ro, 0⟩
def SQ_FAULT_VALID (b : Nat) (a : Nat) : Fld := ⟨rp b 3 + 0x5010 + 0x40 * a, 48, 1, .ro, 0⟩
def SQ_FAULT_STALE (b : Nat) (a : Nat) : Fld := ⟨rp b 3 + 0x5010 + 0x40 * a, 49, 1, .ro, 0⟩
/-! SQ_CNT (06_sequencer_model, R218): 64 bits. -/
def SQ_CNT_STALLS (b : Nat) (a : Nat) : Fld := ⟨rp b 3 + 0x5018 + 0x40 * a, 0, 32, .ro, 0⟩
def SQ_CNT_EVLOST (b : Nat) (a : Nat) : Fld := ⟨rp b 3 + 0x5018 + 0x40 * a, 32, 16, .ro, 0⟩
def SQ_CNT_IFIX (b : Nat) (a : Nat) : Fld := ⟨rp b 3 + 0x5018 + 0x40 * a, 48, 16, .ro, 0⟩
/-! SQ_HOLDOFF (06_sequencer_model, R218): 32 bits. -/
def SQ_HOLDOFF_MAX (b : Nat) (a : Nat) : Fld := ⟨rp b 3 + 0x5020 + 0x40 * a, 0, 24, .ro, 0⟩
def SQ_HOLDOFF_OVR (b : Nat) (a : Nat) : Fld := ⟨rp b 3 + 0x5020 + 0x40 * a, 24, 1, .w1c, 0⟩
/-! SQ_CMD_RESULT (06_sequencer_model, R218): 64 bits. -/
def SQ_CMD_RESULT_STATUS (b : Nat) (a : Nat) : Fld := ⟨rp b 3 + 0x5028 + 0x40 * a, 0, 16, .ro, 0⟩
def SQ_CMD_RESULT_CMD (b : Nat) (a : Nat) : Fld := ⟨rp b 3 + 0x5028 + 0x40 * a, 16, 4, .ro, 0⟩
def SQ_CMD_RESULT_SEQ (b : Nat) (a : Nat) : Fld := ⟨rp b 3 + 0x5028 + 0x40 * a, 32, 16, .ro, 0⟩
def SQ_CMD_RESULT_VALID (b : Nat) (a : Nat) : Fld := ⟨rp b 3 + 0x5028 + 0x40 * a, 48, 1, .ro, 0⟩
def SQ_CMD_RESULT_STALE (b : Nat) (a : Nat) : Fld := ⟨rp b 3 + 0x5028 + 0x40 * a, 49, 1, .ro, 0⟩
/-! SQ_SIG (06_sequencer_model, R218): 32 bits. -/
def SQ_SIG_SIG (b : Nat) (a : Nat) : Fld := ⟨rp b 3 + 0x5030 + 0x40 * a, 0, 4, .w1c, 0⟩
/-! CK_STATUS (08_clocks_operating_points, R276): 32 bits. -/
def CK_STATUS_FOSC_ON : Fld := ⟨0x41000010000, 0, 1, .ro, 0⟩
def CK_STATUS_FOSC_QUAL : Fld := ⟨0x41000010000, 1, 1, .ro, 0⟩
def CK_STATUS_CMC_FOSC : Fld := ⟨0x41000010000, 2, 1, .ro, 0⟩
def CK_STATUS_TPLL_LOCK : Fld := ⟨0x41000010000, 3, 1, .ro, 0⟩
def CK_STATUS_CP_LOCK : Fld := ⟨0x41000010000, 16, 16, .ro, 0⟩
/-! CK_EVT_POP (08_clocks_operating_points, R276): 64 bits. -/
def CK_EVT_POP_CODE : Fld := ⟨0x41000010010, 0, 16, .rs, 0⟩
def CK_EVT_POP_MUX : Fld := ⟨0x41000010010, 16, 6, .rs, 0⟩
def CK_EVT_POP_MON : Fld := ⟨0x41000010010, 22, 4, .rs, 0⟩
def CK_EVT_POP_VALID : Fld := ⟨0x41000010010, 26, 1, .rs, 0⟩
def CK_EVT_POP_OVF : Fld := ⟨0x41000010010, 27, 1, .rs, 0⟩
def CK_EVT_POP_TIME : Fld := ⟨0x41000010010, 32, 32, .rs, 0⟩
/-! MON_CFG (08_clocks_operating_points, R276): 64 bits. -/
def MON_CFG_MEAS (m : Nat) : Fld := ⟨0x41000010100 + 0x10 * m, 0, 7, .rw, 0⟩
def MON_CFG_REF (m : Nat) : Fld := ⟨0x41000010100 + 0x10 * m, 7, 7, .rw, 0⟩
def MON_CFG_EN (m : Nat) : Fld := ⟨0x41000010100 + 0x10 * m, 14, 1, .rw, 0⟩
def MON_CFG_QUALN (m : Nat) : Fld := ⟨0x41000010100 + 0x10 * m, 15, 3, .rw, 1⟩
def MON_CFG_LOSS (m : Nat) : Fld := ⟨0x41000010100 + 0x10 * m, 18, 8, .rw, 1⟩
def MON_CFG_WIN (m : Nat) : Fld := ⟨0x41000010100 + 0x10 * m, 32, 16, .rw, 256⟩
def MON_CFG_TOL (m : Nat) : Fld := ⟨0x41000010100 + 0x10 * m, 48, 16, .rw, 0⟩
/-! MON_STAT (08_clocks_operating_points, R276): 64 bits. -/
def MON_STAT_EXP (m : Nat) : Fld := ⟨0x41000010108 + 0x10 * m, 0, 24, .rw, 0⟩
def MON_STAT_QUAL (m : Nat) : Fld := ⟨0x41000010108 + 0x10 * m, 24, 1, .ro, 0⟩
def MON_STAT_TRIPPED (m : Nat) : Fld := ⟨0x41000010108 + 0x10 * m, 25, 1, .ro, 0⟩
def MON_STAT_REF_LOSS (m : Nat) : Fld := ⟨0x41000010108 + 0x10 * m, 26, 1, .ro, 0⟩
def MON_STAT_LAST (m : Nat) : Fld := ⟨0x41000010108 + 0x10 * m, 32, 24, .ro, 0⟩
/-! CP_CFG (08_clocks_operating_points, R276): 64 bits. -/
def CP_CFG_M (p : Nat) : Fld := ⟨0x41000010200 + 0x10 * p, 0, 6, .rw, 1⟩
def CP_CFG_M_FB (p : Nat) : Fld := ⟨0x41000010200 + 0x10 * p, 6, 6, .rw, 1⟩
def CP_CFG_N (p : Nat) : Fld := ⟨0x41000010200 + 0x10 * p, 12, 10, .rw, 16⟩
def CP_CFG_EN (p : Nat) : Fld := ⟨0x41000010200 + 0x10 * p, 22, 1, .rw, 0⟩
def CP_CFG_GATE (p : Nat) : Fld := ⟨0x41000010200 + 0x10 * p, 23, 1, .rw, 1⟩
def CP_CFG_FRAC (p : Nat) : Fld := ⟨0x41000010200 + 0x10 * p, 24, 24, .rw, 0⟩
/-! CP_OUT (08_clocks_operating_points, R276): 32 bits. -/
def CP_OUT_O (p : Nat) : Fld := ⟨0x41000010208 + 0x10 * p, 0, 32, .rw, 0⟩
/-! CP_MUX (08_clocks_operating_points, R276): 32 bits. -/
def CP_MUX_PRI (p : Nat) : Fld := ⟨0x4100001020c + 0x10 * p, 0, 7, .rw, 127⟩
def CP_MUX_ALT (p : Nat) : Fld := ⟨0x4100001020c + 0x10 * p, 7, 7, .rw, 127⟩
def CP_MUX_GPRI (p : Nat) : Fld := ⟨0x4100001020c + 0x10 * p, 14, 4, .rw, 0⟩
def CP_MUX_GPRI_EN (p : Nat) : Fld := ⟨0x4100001020c + 0x10 * p, 18, 1, .rw, 0⟩
def CP_MUX_GALT (p : Nat) : Fld := ⟨0x4100001020c + 0x10 * p, 19, 4, .rw, 0⟩
def CP_MUX_GALT_EN (p : Nat) : Fld := ⟨0x4100001020c + 0x10 * p, 23, 1, .rw, 0⟩
def CP_MUX_FB (p : Nat) : Fld := ⟨0x4100001020c + 0x10 * p, 24, 1, .rw, 0⟩
def CP_MUX_AUTO (p : Nat) : Fld := ⟨0x4100001020c + 0x10 * p, 25, 1, .rw, 0⟩
def CP_MUX_REVERT (p : Nat) : Fld := ⟨0x4100001020c + 0x10 * p, 26, 1, .rw, 0⟩
def CP_MUX_SEL (p : Nat) : Fld := ⟨0x4100001020c + 0x10 * p, 27, 2, .rw, 0⟩
def CP_MUX_ACT (p : Nat) : Fld := ⟨0x4100001020c + 0x10 * p, 29, 2, .ro, 3⟩
def CP_MUX_DEFERRED (p : Nat) : Fld := ⟨0x4100001020c + 0x10 * p, 31, 1, .ro, 0⟩
/-! GCL_MUX (08_clocks_operating_points, R276): 32 bits. -/
def GCL_MUX_PRI (g : Nat) : Fld := ⟨0x41000010300 + 0x8 * g, 0, 7, .rw, 127⟩
def GCL_MUX_ALT (g : Nat) : Fld := ⟨0x41000010300 + 0x8 * g, 7, 7, .rw, 127⟩
def GCL_MUX_GPRI (g : Nat) : Fld := ⟨0x41000010300 + 0x8 * g, 14, 4, .rw, 0⟩
def GCL_MUX_GPRI_EN (g : Nat) : Fld := ⟨0x41000010300 + 0x8 * g, 18, 1, .rw, 0⟩
def GCL_MUX_GALT (g : Nat) : Fld := ⟨0x41000010300 + 0x8 * g, 19, 4, .rw, 0⟩
def GCL_MUX_GALT_EN (g : Nat) : Fld := ⟨0x41000010300 + 0x8 * g, 23, 1, .rw, 0⟩
def GCL_MUX_FB (g : Nat) : Fld := ⟨0x41000010300 + 0x8 * g, 24, 1, .rw, 0⟩
def GCL_MUX_AUTO (g : Nat) : Fld := ⟨0x41000010300 + 0x8 * g, 25, 1, .rw, 0⟩
def GCL_MUX_REVERT (g : Nat) : Fld := ⟨0x41000010300 + 0x8 * g, 26, 1, .rw, 0⟩
def GCL_MUX_SEL (g : Nat) : Fld := ⟨0x41000010300 + 0x8 * g, 27, 2, .rw, 0⟩
def GCL_MUX_ACT (g : Nat) : Fld := ⟨0x41000010300 + 0x8 * g, 29, 2, .ro, 3⟩
def GCL_MUX_DEFERRED (g : Nat) : Fld := ⟨0x41000010300 + 0x8 * g, 31, 1, .ro, 0⟩
/-! GCL_CFG (08_clocks_operating_points, R276): 32 bits. -/
def GCL_CFG_FNOM (g : Nat) : Fld := ⟨0x41000010304 + 0x8 * g, 0, 21, .rw, 0⟩
def GCL_CFG_OVERF (g : Nat) : Fld := ⟨0x41000010304 + 0x8 * g, 21, 1, .ro, 0⟩
def GCL_CFG_ON (g : Nat) : Fld := ⟨0x41000010304 + 0x8 * g, 22, 1, .rw, 0⟩
/-! CLKOUT (08_clocks_operating_points, R276): 64 bits. -/
def CLKOUT_SRC (o : Nat) : Fld := ⟨0x41000010400 + 0x8 * o, 0, 7, .rw, 0⟩
def CLKOUT_EN (o : Nat) : Fld := ⟨0x41000010400 + 0x8 * o, 7, 1, .rw, 0⟩
def CLKOUT_IDLE (o : Nat) : Fld := ⟨0x41000010400 + 0x8 * o, 8, 1, .rw, 0⟩
def CLKOUT_DIV (o : Nat) : Fld := ⟨0x41000010400 + 0x8 * o, 32, 17, .rw, 1⟩
/-! BCK (08_clocks_operating_points, R277): 32 bits. -/
def BCK_SRC (b : Nat) (n : Nat) : Fld := ⟨rp b 3 + 0xc00 + 0x4 * n, 0, 5, .rw, 0⟩
def BCK_ON (b : Nat) (n : Nat) : Fld := ⟨rp b 3 + 0xc00 + 0x4 * n, 5, 1, .rw, 0⟩
def BCK_DREQ (b : Nat) (n : Nat) : Fld := ⟨rp b 3 + 0xc00 + 0x4 * n, 6, 2, .rw, 0⟩
def BCK_DACT (b : Nat) (n : Nat) : Fld := ⟨rp b 3 + 0xc00 + 0x4 * n, 8, 2, .ro, 0⟩
def BCK_RUN (b : Nat) (n : Nat) : Fld := ⟨rp b 3 + 0xc00 + 0x4 * n, 10, 1, .ro, 0⟩
/-! SQCK (08_clocks_operating_points, R277): 32 bits. -/
def SQCK_SRC (b : Nat) : Fld := ⟨rp b 3 + 0xc40, 0, 5, .rw, 0⟩
def SQCK_ON (b : Nat) : Fld := ⟨rp b 3 + 0xc40, 5, 1, .rw, 0⟩
def SQCK_DREQ (b : Nat) : Fld := ⟨rp b 3 + 0xc40, 6, 2, .rw, 0⟩
def SQCK_DACT (b : Nat) : Fld := ⟨rp b 3 + 0xc40, 8, 2, .ro, 0⟩
def SQCK_RUN (b : Nat) : Fld := ⟨rp b 3 + 0xc40, 10, 1, .ro, 0⟩
/-! OP_REQ (08_clocks_operating_points, R277): 32 bits. -/
def OP_REQ_TARGET (b : Nat) : Fld := ⟨rp b 3 + 0xc48, 0, 3, .wo, 0⟩
/-! OP_STATUS (08_clocks_operating_points, R277): 32 bits. -/
def OP_STATUS_STATE (b : Nat) : Fld := ⟨rp b 3 + 0xc50, 0, 3, .ro, 0⟩
def OP_STATUS_BUSY (b : Nat) : Fld := ⟨rp b 3 + 0xc50, 3, 1, .ro, 0⟩
def OP_STATUS_STEP (b : Nat) : Fld := ⟨rp b 3 + 0xc50, 4, 3, .ro, 0⟩
def OP_STATUS_AUTO (b : Nat) : Fld := ⟨rp b 3 + 0xc50, 7, 1, .ro, 0⟩
def OP_STATUS_TARGET (b : Nat) : Fld := ⟨rp b 3 + 0xc50, 8, 3, .ro, 0⟩
def OP_STATUS_RAIL (b : Nat) : Fld := ⟨rp b 3 + 0xc50, 12, 2, .ro, 0⟩
/-! OP_RESULT (08_clocks_operating_points, R277): 64 bits. -/
def OP_RESULT_STATUS (b : Nat) : Fld := ⟨rp b 3 + 0xc58, 0, 16, .ro, 0⟩
def OP_RESULT_TARGET (b : Nat) : Fld := ⟨rp b 3 + 0xc58, 16, 3, .ro, 0⟩
def OP_RESULT_SEQ (b : Nat) : Fld := ⟨rp b 3 + 0xc58, 32, 16, .ro, 0⟩
def OP_RESULT_VALID (b : Nat) : Fld := ⟨rp b 3 + 0xc58, 48, 1, .ro, 0⟩
def OP_RESULT_STALE (b : Nat) : Fld := ⟨rp b 3 + 0xc58, 49, 1, .ro, 0⟩
/-! TP_STATUS (09_time_plane, R283): 32 bits. -/
def TP_STATUS_TPLL_LOCK : Fld := ⟨0x7d000000000, 0, 1, .ro, 0⟩
def TP_STATUS_HELD : Fld := ⟨0x7d000000000, 1, 1, .ro, 0⟩
def TP_STATUS_TPLL_FOSC : Fld := ⟨0x7d000000000, 2, 1, .ro, 0⟩
def TP_STATUS_DIST_OK : Fld := ⟨0x7d000000000, 3, 1, .ro, 0⟩
def TP_STATUS_TIME_BAD : Fld := ⟨0x7d000000000, 4, 1, .ro, 0⟩
def TP_STATUS_STEP_BUSY : Fld := ⟨0x7d000000000, 5, 1, .ro, 0⟩
def TP_STATUS_SLEW_BUSY : Fld := ⟨0x7d000000000, 6, 1, .ro, 0⟩
def TP_STATUS_ACT_CKID : Fld := ⟨0x7d000000000, 8, 7, .ro, 127⟩
def TP_STATUS_DIST_ERR : Fld := ⟨0x7d000000000, 16, 16, .ro, 0⟩
/-! TP_NOW (09_time_plane, R283): 64 bits. -/
def TP_NOW_TIME : Fld := ⟨0x7d000000008, 0, 48, .ro, 0⟩
def TP_NOW_WRAPS : Fld := ⟨0x7d000000008, 48, 16, .ro, 0⟩
/-! TP_INC_BASE (09_time_plane, R283): 64 bits. -/
def TP_INC_BASE_BASE : Fld := ⟨0x7d000000010, 0, 64, .rw, 5368709120⟩
/-! TP_INC (09_time_plane, R283): 64 bits. -/
def TP_INC_INC : Fld := ⟨0x7d000000018, 0, 64, .ro, 5368709120⟩
/-! TP_DINC (09_time_plane, R283): 64 bits. -/
def TP_DINC_DINC : Fld := ⟨0x7d000000020, 0, 40, .ro, 0⟩
/-! TPLL_CFG (09_time_plane, R288): 64 bits. -/
def TPLL_CFG_M : Fld := ⟨0x7d000000058, 0, 6, .rw, 1⟩
def TPLL_CFG_N : Fld := ⟨0x7d000000058, 6, 10, .rw, (trefN trefReset)⟩
def TPLL_CFG_FRAC : Fld := ⟨0x7d000000058, 16, 24, .rw, (trefFrac trefReset)⟩
/-! TP_STEP (09_time_plane, R297): 64 bits. -/
def TP_STEP_DELTA : Fld := ⟨0x7d000000028, 0, 48, .wo, 0⟩
/-! TP_SLEW (09_time_plane, R297): 64 bits. -/
def TP_SLEW_DELTA : Fld := ⟨0x7d000000030, 0, 48, .wo, 0⟩
def TP_SLEW_RATE : Fld := ⟨0x7d000000030, 48, 15, .wo, 0⟩
def TP_SLEW_ABORT : Fld := ⟨0x7d000000030, 63, 1, .wo, 0⟩
/-! TP_SLEW_REM (09_time_plane, R297): 64 bits. -/
def TP_SLEW_REM_REM : Fld := ⟨0x7d000000038, 0, 48, .ro, 0⟩
/-! TP_ADJ_RESULT (09_time_plane, R297): 64 bits. -/
def TP_ADJ_RESULT_STATUS : Fld := ⟨0x7d000000040, 0, 16, .ro, 0⟩
def TP_ADJ_RESULT_KIND : Fld := ⟨0x7d000000040, 16, 3, .ro, 0⟩
def TP_ADJ_RESULT_SEQ : Fld := ⟨0x7d000000040, 32, 16, .ro, 0⟩
def TP_ADJ_RESULT_VALID : Fld := ⟨0x7d000000040, 48, 1, .ro, 0⟩
def TP_ADJ_RESULT_STALE : Fld := ⟨0x7d000000040, 49, 1, .ro, 0⟩
/-! TP_EVT (09_time_plane, R297): 32 bits. -/
def TP_EVT_WRAP : Fld := ⟨0x7d000000048, 0, 1, .w1c, 0⟩
def TP_EVT_HALF : Fld := ⟨0x7d000000048, 1, 1, .w1c, 0⟩
def TP_EVT_STEP : Fld := ⟨0x7d000000048, 2, 1, .w1c, 0⟩
def TP_EVT_SLEW : Fld := ⟨0x7d000000048, 3, 1, .w1c, 0⟩
def TP_EVT_SRV : Fld := ⟨0x7d000000048, 4, 1, .w1c, 0⟩
def TP_EVT_HO_OUT : Fld := ⟨0x7d000000048, 5, 1, .w1c, 0⟩
def TP_EVT_PPS_0 : Fld := ⟨0x7d000000048, 6, 1, .w1c, 0⟩
def TP_EVT_PPS_1 : Fld := ⟨0x7d000000048, 7, 1, .w1c, 0⟩
def TP_EVT_DIST : Fld := ⟨0x7d000000048, 8, 1, .w1c, 0⟩
def TP_EVT_TPLL : Fld := ⟨0x7d000000048, 9, 1, .w1c, 0⟩
def TP_EVT_MODEL : Fld := ⟨0x7d000000048, 10, 1, .w1c, 0⟩
def TP_EVT_CLAMP : Fld := ⟨0x7d000000048, 11, 1, .w1c, 0⟩
/-! TPLL_MUX (09_time_plane, R312): 32 bits. -/
def TPLL_MUX_PRI : Fld := ⟨0x7d000000050, 0, 7, .rw, 0⟩
def TPLL_MUX_ALT : Fld := ⟨0x7d000000050, 7, 7, .rw, 1⟩
def TPLL_MUX_GPRI : Fld := ⟨0x7d000000050, 14, 4, .rw, 0⟩
def TPLL_MUX_GPRI_EN : Fld := ⟨0x7d000000050, 18, 1, .rw, 0⟩
def TPLL_MUX_GALT : Fld := ⟨0x7d000000050, 19, 4, .rw, 0⟩
def TPLL_MUX_GALT_EN : Fld := ⟨0x7d000000050, 23, 1, .rw, 0⟩
def TPLL_MUX_FB : Fld := ⟨0x7d000000050, 24, 1, .ro, 1⟩
def TPLL_MUX_AUTO : Fld := ⟨0x7d000000050, 25, 1, .rw, 1⟩
def TPLL_MUX_REVERT : Fld := ⟨0x7d000000050, 26, 1, .rw, 0⟩
def TPLL_MUX_SEL : Fld := ⟨0x7d000000050, 27, 2, .rw, 0⟩
def TPLL_MUX_ACT : Fld := ⟨0x7d000000050, 29, 2, .ro, 3⟩
def TPLL_MUX_DEFERRED : Fld := ⟨0x7d000000050, 31, 1, .ro, 0⟩
/-! SRV_CTRL (09_time_plane, R303): 32 bits. -/
def SRV_CTRL_EN : Fld := ⟨0x7d000000100, 0, 1, .rw, 0⟩
def SRV_CTRL_PSRC : Fld := ⟨0x7d000000100, 1, 2, .rw, 0⟩
def SRV_CTRL_FSRC : Fld := ⟨0x7d000000100, 3, 1, .rw, 0⟩
def SRV_CTRL_STEP_EN : Fld := ⟨0x7d000000100, 4, 1, .rw, 0⟩
def SRV_CTRL_MISS_TO : Fld := ⟨0x7d000000100, 16, 16, .rw, 3000⟩
/-! SRV_GAIN (09_time_plane, R303): 64 bits. -/
def SRV_GAIN_KP_M : Fld := ⟨0x7d000000108, 0, 16, .rw, 0⟩
def SRV_GAIN_KP_E : Fld := ⟨0x7d000000108, 16, 5, .rw, 0⟩
def SRV_GAIN_KI_M : Fld := ⟨0x7d000000108, 21, 16, .rw, 0⟩
def SRV_GAIN_KI_E : Fld := ⟨0x7d000000108, 37, 5, .rw, 0⟩
def SRV_GAIN_KF_M : Fld := ⟨0x7d000000108, 42, 16, .rw, 0⟩
def SRV_GAIN_KF_E : Fld := ⟨0x7d000000108, 58, 5, .rw, 0⟩
/-! SRV_LIM (09_time_plane, R303): 64 bits. -/
def SRV_LIM_FREQ_LIM : Fld := ⟨0x7d000000110, 0, 18, .rw, 10000⟩
def SRV_LIM_STEP_THR : Fld := ⟨0x7d000000110, 24, 24, .rw, 1000⟩
def SRV_LIM_LOCK_THR : Fld := ⟨0x7d000000110, 48, 12, .rw, 100⟩
def SRV_LIM_LOCK_N : Fld := ⟨0x7d000000110, 60, 4, .rw, 8⟩
/-! SRV_OFFS_WR (09_time_plane, R303): 64 bits. -/
def SRV_OFFS_WR_THETA : Fld := ⟨0x7d000000118, 0, 48, .wo, 0⟩
/-! SRV_CMD (09_time_plane, R303): 32 bits. -/
def SRV_CMD_CMD : Fld := ⟨0x7d000000120, 0, 4, .wo, 0⟩
/-! SRV_STAT (09_time_plane, R303): 64 bits. -/
def SRV_STAT_STATE : Fld := ⟨0x7d000000128, 0, 3, .ro, 0⟩
def SRV_STAT_FORCED : Fld := ⟨0x7d000000128, 3, 1, .ro, 0⟩
def SRV_STAT_CLAMP : Fld := ⟨0x7d000000128, 4, 1, .ro, 0⟩
def SRV_STAT_LOCKCNT : Fld := ⟨0x7d000000128, 16, 4, .ro, 0⟩
def SRV_STAT_NACC : Fld := ⟨0x7d000000128, 32, 32, .ro, 0⟩
/-! SRV_INTEG (09_time_plane, R303): 64 bits. -/
def SRV_INTEG_INTEG : Fld := ⟨0x7d000000130, 0, 40, .rw, 0⟩
/-! SRV_THETA (09_time_plane, R303): 64 bits. -/
def SRV_THETA_THETA : Fld := ⟨0x7d000000138, 0, 48, .ro, 0⟩
/-! SRV_RESULT (09_time_plane, R303): 64 bits. -/
def SRV_RESULT_STATUS : Fld := ⟨0x7d000000140, 0, 16, .ro, 0⟩
def SRV_RESULT_SRC : Fld := ⟨0x7d000000140, 16, 3, .ro, 0⟩
def SRV_RESULT_SEQ : Fld := ⟨0x7d000000140, 32, 16, .ro, 0⟩
def SRV_RESULT_VALID : Fld := ⟨0x7d000000140, 48, 1, .ro, 0⟩
def SRV_RESULT_STALE : Fld := ⟨0x7d000000140, 49, 1, .ro, 0⟩
/-! PPS_CFG (09_time_plane, R305): 64 bits. -/
def PPS_CFG_EN (i : Nat) : Fld := ⟨0x7d000000200 + 0x20 * i, 0, 1, .rw, 0⟩
def PPS_CFG_EDGE (i : Nat) : Fld := ⟨0x7d000000200 + 0x20 * i, 1, 1, .rw, 0⟩
def PPS_CFG_WIN (i : Nat) : Fld := ⟨0x7d000000200 + 0x20 * i, 8, 24, .rw, 1000⟩
def PPS_CFG_PERIOD (i : Nat) : Fld := ⟨0x7d000000200 + 0x20 * i, 32, 31, .rw, 1000000000⟩
/-! PPS_DLY (09_time_plane, R305): 64 bits. -/
def PPS_DLY_DLY (i : Nat) : Fld := ⟨0x7d000000208 + 0x20 * i, 0, 40, .rw, 0⟩
/-! PPS_EXP (09_time_plane, R305): 64 bits. -/
def PPS_EXP_EXPECT (i : Nat) : Fld := ⟨0x7d000000210 + 0x20 * i, 0, 48, .rw, 0⟩
/-! PPS_STAT (09_time_plane, R305): 64 bits. -/
def PPS_STAT_MISS (i : Nat) : Fld := ⟨0x7d000000218 + 0x20 * i, 0, 16, .ro, 0⟩
def PPS_STAT_OUTL (i : Nat) : Fld := ⟨0x7d000000218 + 0x20 * i, 16, 16, .ro, 0⟩
def PPS_STAT_SEEN (i : Nat) : Fld := ⟨0x7d000000218 + 0x20 * i, 32, 1, .ro, 0⟩
/-! FD_CFG (09_time_plane, R305): 64 bits. -/
def FD_CFG_EN : Fld := ⟨0x7d000000280, 0, 1, .rw, 0⟩
def FD_CFG_SRC : Fld := ⟨0x7d000000280, 8, 7, .rw, 0⟩
def FD_CFG_G : Fld := ⟨0x7d000000280, 16, 4, .rw, 10⟩
def FD_CFG_FREQ_HZ : Fld := ⟨0x7d000000280, 32, 30, .rw, 0⟩
/-! FD_RES (09_time_plane, R305): 64 bits. -/
def FD_RES_FERR : Fld := ⟨0x7d000000288, 0, 32, .ro, 0⟩
def FD_RES_SEQ : Fld := ⟨0x7d000000288, 32, 16, .ro, 0⟩
def FD_RES_VALID : Fld := ⟨0x7d000000288, 48, 1, .ro, 0⟩
def FD_RES_STALE : Fld := ⟨0x7d000000288, 49, 1, .ro, 0⟩
/-! HO_CTRL (09_time_plane, R311): 64 bits. -/
def HO_CTRL_LEARN_EN : Fld := ⟨0x7d000000300, 0, 1, .rw, 0⟩
def HO_CTRL_L : Fld := ⟨0x7d000000300, 1, 4, .rw, 4⟩
def HO_CTRL_F : Fld := ⟨0x7d000000300, 5, 5, .rw, 14⟩
def HO_CTRL_MODEL_CLR : Fld := ⟨0x7d000000300, 10, 1, .wo, 0⟩
def HO_CTRL_KC : Fld := ⟨0x7d000000300, 16, 8, .rw, 48⟩
def HO_CTRL_BUDGET : Fld := ⟨0x7d000000300, 32, 16, .rw, 1100⟩
def HO_CTRL_E0_FIX : Fld := ⟨0x7d000000300, 48, 16, .rw, 20⟩
/-! HO_TEMP (09_time_plane, R311): 64 bits. -/
def HO_TEMP_SRC : Fld := ⟨0x7d000000308, 0, 2, .rw, 0⟩
def HO_TEMP_SENS : Fld := ⟨0x7d000000308, 2, 7, .rw, 64⟩
def HO_TEMP_SP : Fld := ⟨0x7d000000308, 9, 2, .rw, 0⟩
def HO_TEMP_ADDR : Fld := ⟨0x7d000000308, 11, 7, .rw, 0⟩
def HO_TEMP_REG : Fld := ⟨0x7d000000308, 18, 8, .rw, 0⟩
def HO_TEMP_PER : Fld := ⟨0x7d000000308, 26, 4, .rw, 4⟩
def HO_TEMP_T0 : Fld := ⟨0x7d000000308, 32, 16, .rw, 6400⟩
def HO_TEMP_DT_ASSUME : Fld := ⟨0x7d000000308, 48, 8, .rw, 10⟩
/-! HO_TEMP_WR (09_time_plane, R311): 32 bits. -/
def HO_TEMP_WR_TEMP : Fld := ⟨0x7d000000310, 0, 16, .wo, 0⟩
/-! HO_STAT (09_time_plane, R311): 64 bits. -/
def HO_STAT_MODEL_VALID : Fld := ⟨0x7d000000318, 0, 1, .ro, 0⟩
def HO_STAT_TEMP_OK : Fld := ⟨0x7d000000318, 1, 1, .ro, 0⟩
def HO_STAT_LEARN : Fld := ⟨0x7d000000318, 2, 1, .ro, 0⟩
def HO_STAT_REF_LOST : Fld := ⟨0x7d000000318, 3, 1, .ro, 0⟩
def HO_STAT_TEMP_NOW : Fld := ⟨0x7d000000318, 16, 16, .ro, 0⟩
def HO_STAT_TMIN : Fld := ⟨0x7d000000318, 32, 16, .ro, 0⟩
def HO_STAT_TMAX : Fld := ⟨0x7d000000318, 48, 16, .ro, 0⟩
/-! HO_COEF_0 (09_time_plane, R311): 64 bits. -/
def HO_COEF_0_A0 : Fld := ⟨0x7d000000320, 0, 32, .ro, 0⟩
def HO_COEF_0_A1 : Fld := ⟨0x7d000000320, 32, 32, .ro, 0⟩
/-! HO_COEF_1 (09_time_plane, R311): 64 bits. -/
def HO_COEF_1_A2 : Fld := ⟨0x7d000000328, 0, 32, .ro, 0⟩
def HO_COEF_1_B : Fld := ⟨0x7d000000328, 32, 32, .ro, 0⟩
/-! HO_COEF_2 (09_time_plane, R311): 64 bits. -/
def HO_COEF_2_SIGF : Fld := ⟨0x7d000000330, 0, 32, .ro, 0⟩
def HO_COEF_2_SIGB : Fld := ⟨0x7d000000330, 32, 32, .ro, 0⟩
/-! HO_PRED (09_time_plane, R311): 64 bits. -/
def HO_PRED_REMAIN : Fld := ⟨0x7d000000338, 0, 32, .ro, 0⟩
def HO_PRED_SEQ : Fld := ⟨0x7d000000338, 32, 16, .ro, 0⟩
def HO_PRED_VALID : Fld := ⟨0x7d000000338, 48, 1, .ro, 0⟩
def HO_PRED_STALE : Fld := ⟨0x7d000000338, 49, 1, .ro, 0⟩
/-! HO_EACC (09_time_plane, R311): 64 bits. -/
def HO_EACC_E_ACC : Fld := ⟨0x7d000000340, 0, 32, .ro, 0⟩
def HO_EACC_TAU : Fld := ⟨0x7d000000340, 32, 32, .ro, 0⟩
/-! HO_LAST (09_time_plane, R311): 64 bits. -/
def HO_LAST_ERR : Fld := ⟨0x7d000000348, 0, 32, .ro, 0⟩
def HO_LAST_DUR : Fld := ⟨0x7d000000348, 32, 32, .ro, 0⟩
/-! TL_STATUS (10_timeline_capture, R334): 32 bits. -/
def TL_STATUS_NARMED : Fld := ⟨0x7e000000000, 0, 9, .ro, 0⟩
def TL_STATUS_BAD : Fld := ⟨0x7e000000000, 9, 1, .ro, 0⟩
/-! TL_CMD (10_timeline_capture, R334): 64 bits. -/
def TL_CMD_SLOT : Fld := ⟨0x7e000000008, 0, 8, .wo, 0⟩
def TL_CMD_OP : Fld := ⟨0x7e000000008, 8, 4, .wo, 0⟩
def TL_CMD_REL : Fld := ⟨0x7e000000008, 12, 1, .wo, 0⟩
/-! TL_CMD_RESULT (10_timeline_capture, R334): 64 bits. -/
def TL_CMD_RESULT_STATUS : Fld := ⟨0x7e000000010, 0, 16, .ro, 0⟩
def TL_CMD_RESULT_SLOT : Fld := ⟨0x7e000000010, 16, 8, .ro, 0⟩
def TL_CMD_RESULT_OP : Fld := ⟨0x7e000000010, 24, 4, .ro, 0⟩
def TL_CMD_RESULT_SEQ : Fld := ⟨0x7e000000010, 32, 16, .ro, 0⟩
def TL_CMD_RESULT_VALID : Fld := ⟨0x7e000000010, 48, 1, .ro, 0⟩
def TL_CMD_RESULT_STALE : Fld := ⟨0x7e000000010, 49, 1, .ro, 0⟩
/-! TL_LOG_POP (10_timeline_capture, R334): 64 bits. -/
def TL_LOG_POP_SLOT : Fld := ⟨0x7e000000018, 0, 8, .rs, 0⟩
def TL_LOG_POP_VALID : Fld := ⟨0x7e000000018, 8, 1, .rs, 0⟩
def TL_LOG_POP_OVF : Fld := ⟨0x7e000000018, 9, 1, .rs, 0⟩
def TL_LOG_POP_BAD : Fld := ⟨0x7e000000018, 10, 1, .rs, 0⟩
def TL_LOG_POP_STATUS : Fld := ⟨0x7e000000018, 16, 16, .rs, 0⟩
def TL_LOG_POP_TIME : Fld := ⟨0x7e000000018, 32, 32, .rs, 0⟩
/-! TL_ARMED (10_timeline_capture, R334): 64 bits. -/
def TL_ARMED_ARMED (w : Nat) : Fld := ⟨0x7e000000020 + 0x8 * w, 0, 64, .ro, 0⟩
/-! TL_BSET (10_timeline_capture, R334): 64 bits. -/
def TL_BSET_BOUGHS (n : Nat) : Fld := ⟨0x7e000000100 + 0x8 * n, 0, 64, .rw, 0⟩
/-! TL_SLOT_CTRL (10_timeline_capture, R334): 32 bits. -/
def TL_SLOT_CTRL_ARMED (s : Nat) : Fld := ⟨0x7e000001000 + 0x40 * s, 0, 1, .ro, 0⟩
def TL_SLOT_CTRL_PERIODIC (s : Nat) : Fld := ⟨0x7e000001000 + 0x40 * s, 1, 1, .rw, 0⟩
def TL_SLOT_CTRL_FOREVER (s : Nat) : Fld := ⟨0x7e000001000 + 0x40 * s, 2, 1, .rw, 0⟩
def TL_SLOT_CTRL_STEPPOL (s : Nat) : Fld := ⟨0x7e000001000 + 0x40 * s, 3, 1, .rw, 0⟩
def TL_SLOT_CTRL_EVT_EN (s : Nat) : Fld := ⟨0x7e000001000 + 0x40 * s, 4, 1, .rw, 0⟩
def TL_SLOT_CTRL_LOG (s : Nat) : Fld := ⟨0x7e000001000 + 0x40 * s, 5, 1, .rw, 0⟩
def TL_SLOT_CTRL_COUNT (s : Nat) : Fld := ⟨0x7e000001000 + 0x40 * s, 16, 16, .rw, 0⟩
/-! TL_SLOT_TARGET (10_timeline_capture, R334): 64 bits. -/
def TL_SLOT_TARGET_TARGET (s : Nat) : Fld := ⟨0x7e000001008 + 0x40 * s, 0, 48, .rw, 0⟩
/-! TL_SLOT_PERIOD (10_timeline_capture, R334): 64 bits. -/
def TL_SLOT_PERIOD_PERIOD (s : Nat) : Fld := ⟨0x7e000001010 + 0x40 * s, 0, 64, .rw, 0⟩
/-! TL_SLOT_DEST (10_timeline_capture, R334): 64 bits. -/
def TL_SLOT_DEST_ARGS (s : Nat) : Fld := ⟨0x7e000001018 + 0x40 * s, 0, 60, .rw, 0⟩
def TL_SLOT_DEST_KIND (s : Nat) : Fld := ⟨0x7e000001018 + 0x40 * s, 60, 4, .rw, 0⟩
/-! TL_SLOT_STAT (10_timeline_capture, R334): 64 bits. -/
def TL_SLOT_STAT_DONE (s : Nat) : Fld := ⟨0x7e000001020 + 0x40 * s, 0, 16, .ro, 0⟩
def TL_SLOT_STAT_LOST (s : Nat) : Fld := ⟨0x7e000001020 + 0x40 * s, 16, 16, .ro, 0⟩
def TL_SLOT_STAT_SKIPPED (s : Nat) : Fld := ⟨0x7e000001020 + 0x40 * s, 32, 16, .ro, 0⟩
def TL_SLOT_STAT_LAST_STATUS (s : Nat) : Fld := ⟨0x7e000001020 + 0x40 * s, 48, 16, .ro, 0⟩
/-! TL_SLOT_LAST (10_timeline_capture, R334): 64 bits. -/
def TL_SLOT_LAST_TIME (s : Nat) : Fld := ⟨0x7e000001028 + 0x40 * s, 0, 48, .ro, 0⟩
def TL_SLOT_LAST_BAD (s : Nat) : Fld := ⟨0x7e000001028 + 0x40 * s, 48, 1, .ro, 0⟩
/-! CU_CFG (10_timeline_capture, R334): 64 bits. -/
def CU_CFG_SRC (u : Nat) : Fld := ⟨0x7e000006000 + 0x20 * u, 0, 10, .rw, 0⟩
def CU_CFG_EN (u : Nat) : Fld := ⟨0x7e000006000 + 0x20 * u, 10, 1, .rw, 0⟩
def CU_CFG_EDGE (u : Nat) : Fld := ⟨0x7e000006000 + 0x20 * u, 11, 2, .rw, 0⟩
def CU_CFG_SINGLE (u : Nat) : Fld := ⟨0x7e000006000 + 0x20 * u, 13, 1, .rw, 0⟩
def CU_CFG_EVT_EN (u : Nat) : Fld := ⟨0x7e000006000 + 0x20 * u, 14, 1, .rw, 0⟩
def CU_CFG_DLY (u : Nat) : Fld := ⟨0x7e000006000 + 0x20 * u, 16, 40, .rw, 0⟩
/-! CU_POP (10_timeline_capture, R334): 64 bits. -/
def CU_POP_TIME (u : Nat) : Fld := ⟨0x7e000006008 + 0x20 * u, 0, 48, .rs, 0⟩
def CU_POP_WRAP8 (u : Nat) : Fld := ⟨0x7e000006008 + 0x20 * u, 48, 8, .rs, 0⟩
def CU_POP_VALID (u : Nat) : Fld := ⟨0x7e000006008 + 0x20 * u, 56, 1, .rs, 0⟩
def CU_POP_FALL (u : Nat) : Fld := ⟨0x7e000006008 + 0x20 * u, 57, 1, .rs, 0⟩
def CU_POP_OVF (u : Nat) : Fld := ⟨0x7e000006008 + 0x20 * u, 58, 1, .rs, 0⟩
def CU_POP_BAD (u : Nat) : Fld := ⟨0x7e000006008 + 0x20 * u, 59, 1, .rs, 0⟩
/-! CU_STAT (10_timeline_capture, R334): 64 bits. -/
def CU_STAT_COUNT (u : Nat) : Fld := ⟨0x7e000006010 + 0x20 * u, 0, 32, .ro, 0⟩
def CU_STAT_LOST (u : Nat) : Fld := ⟨0x7e000006010 + 0x20 * u, 32, 16, .ro, 0⟩
def CU_STAT_MERGED (u : Nat) : Fld := ⟨0x7e000006010 + 0x20 * u, 48, 16, .ro, 0⟩
/-! TRG_SW (10_timeline_capture, R335): 32 bits. -/
def TRG_SW_PULSE (b : Nat) : Fld := ⟨rp b 3 + 0x800, 0, 16, .wo, 0⟩
/-! NOC_CTRL (11_network_on_chip, R367): 32 bits. -/
def NOC_CTRL_RSP_TO (b : Nat) : Fld := ⟨rp b 3 + 0x0, 0, 16, .rw, 100⟩
def NOC_CTRL_ACC_TO (b : Nat) : Fld := ⟨rp b 3 + 0x0, 16, 8, .rw, 10⟩
def NOC_CTRL_DRAIN_TO (b : Nat) : Fld := ⟨rp b 3 + 0x0, 24, 8, .rw, 20⟩
/-! NOC_STATUS (11_network_on_chip, R367): 32 bits. -/
def NOC_STATUS_EPOCH (b : Nat) : Fld := ⟨rp b 3 + 0x8, 0, 1, .ro, 0⟩
def NOC_STATUS_CHANGING (b : Nat) : Fld := ⟨rp b 3 + 0x8, 1, 1, .ro, 0⟩
def NOC_STATUS_P0 (b : Nat) : Fld := ⟨rp b 3 + 0x8, 2, 3, .ro, 3⟩
def NOC_STATUS_OLDCNT (b : Nat) : Fld := ⟨rp b 3 + 0x8, 8, 12, .ro, 0⟩
/-! NOC_CNT (11_network_on_chip, R367): 64 bits. -/
def NOC_CNT_ASLEEP (b : Nat) : Fld := ⟨rp b 3 + 0x10, 0, 16, .ro, 0⟩
def NOC_CNT_TIMEOUT (b : Nat) : Fld := ⟨rp b 3 + 0x10, 16, 16, .ro, 0⟩
def NOC_CNT_LATE (b : Nat) : Fld := ⟨rp b 3 + 0x10, 32, 16, .ro, 0⟩
def NOC_CNT_HDR_UNC (b : Nat) : Fld := ⟨rp b 3 + 0x10, 48, 8, .ro, 0⟩
def NOC_CNT_POISON (b : Nat) : Fld := ⟨rp b 3 + 0x10, 56, 8, .ro, 0⟩
/-! NOC_CNT_CLR (11_network_on_chip, R367): 32 bits. -/
def NOC_CNT_CLR_CLR (b : Nat) : Fld := ⟨rp b 3 + 0x18, 0, 1, .wo, 0⟩
/-! NOC_ERR_POP (11_network_on_chip, R367): 64 bits. -/
def NOC_ERR_POP_CODE (b : Nat) : Fld := ⟨rp b 3 + 0x20, 0, 16, .rs, 0⟩
def NOC_ERR_POP_SRC (b : Nat) : Fld := ⟨rp b 3 + 0x20, 16, 8, .rs, 0⟩
def NOC_ERR_POP_TAG (b : Nat) : Fld := ⟨rp b 3 + 0x20, 24, 6, .rs, 0⟩
def NOC_ERR_POP_VALID (b : Nat) : Fld := ⟨rp b 3 + 0x20, 30, 1, .rs, 0⟩
def NOC_ERR_POP_OVF (b : Nat) : Fld := ⟨rp b 3 + 0x20, 31, 1, .rs, 0⟩
def NOC_ERR_POP_TIME (b : Nat) : Fld := ⟨rp b 3 + 0x20, 32, 32, .rs, 0⟩
/-! NOC_TBL (11_network_on_chip, R367): 64 bits. -/
def NOC_TBL_ENT (b : Nat) (e : Nat) (w : Nat) : Fld := ⟨rp b 3 + 0x100 + 0x20 * e + 0x8 * w, 0, 64, .rw, (noc349 b w)⟩
/-! NOC_LINK (11_network_on_chip, R367): 64 bits. -/
def NOC_LINK_CRED_0 (b : Nat) (l : Nat) : Fld := ⟨rp b 3 + 0x200 + 0x8 * l, 0, 4, .ro, 8⟩
def NOC_LINK_CRED_1 (b : Nat) (l : Nat) : Fld := ⟨rp b 3 + 0x200 + 0x8 * l, 16, 4, .ro, 8⟩
def NOC_LINK_CRED_2 (b : Nat) (l : Nat) : Fld := ⟨rp b 3 + 0x200 + 0x8 * l, 32, 4, .ro, 8⟩
def NOC_LINK_CRED_3 (b : Nat) (l : Nat) : Fld := ⟨rp b 3 + 0x200 + 0x8 * l, 48, 4, .ro, 8⟩
def NOC_LINK_OCC_0 (b : Nat) (l : Nat) : Fld := ⟨rp b 3 + 0x200 + 0x8 * l, 4, 4, .ro, 0⟩
def NOC_LINK_OCC_1 (b : Nat) (l : Nat) : Fld := ⟨rp b 3 + 0x200 + 0x8 * l, 20, 4, .ro, 0⟩
def NOC_LINK_OCC_2 (b : Nat) (l : Nat) : Fld := ⟨rp b 3 + 0x200 + 0x8 * l, 36, 4, .ro, 0⟩
def NOC_LINK_OCC_3 (b : Nat) (l : Nat) : Fld := ⟨rp b 3 + 0x200 + 0x8 * l, 52, 4, .ro, 0⟩
def NOC_LINK_RET_0 (b : Nat) (l : Nat) : Fld := ⟨rp b 3 + 0x200 + 0x8 * l, 8, 4, .ro, 0⟩
def NOC_LINK_RET_1 (b : Nat) (l : Nat) : Fld := ⟨rp b 3 + 0x200 + 0x8 * l, 24, 4, .ro, 0⟩
def NOC_LINK_RET_2 (b : Nat) (l : Nat) : Fld := ⟨rp b 3 + 0x200 + 0x8 * l, 40, 4, .ro, 0⟩
def NOC_LINK_RET_3 (b : Nat) (l : Nat) : Fld := ⟨rp b 3 + 0x200 + 0x8 * l, 56, 4, .ro, 0⟩
/-! NOC_EPOCH (11_network_on_chip, R368): 32 bits. -/
def NOC_EPOCH_CUR : Fld := ⟨0x41000020000, 0, 1, .ro, 0⟩
def NOC_EPOCH_BUSY : Fld := ⟨0x41000020000, 1, 1, .ro, 0⟩
/-! NOC_EPOCH_CMD (11_network_on_chip, R368): 32 bits. -/
def NOC_EPOCH_CMD_GO : Fld := ⟨0x41000020008, 0, 1, .wo, 0⟩
/-! NOC_EPOCH_RESULT (11_network_on_chip, R368): 64 bits. -/
def NOC_EPOCH_RESULT_STATUS : Fld := ⟨0x41000020010, 0, 16, .ro, 0⟩
def NOC_EPOCH_RESULT_ROUTER : Fld := ⟨0x41000020010, 16, 6, .ro, 0⟩
def NOC_EPOCH_RESULT_DEST : Fld := ⟨0x41000020010, 22, 6, .ro, 0⟩
def NOC_EPOCH_RESULT_SEQ : Fld := ⟨0x41000020010, 32, 16, .ro, 0⟩
def NOC_EPOCH_RESULT_VALID : Fld := ⟨0x41000020010, 48, 1, .ro, 0⟩
def NOC_EPOCH_RESULT_STALE : Fld := ⟨0x41000020010, 49, 1, .ro, 0⟩
/-! NOC_EPOCH_OLD (11_network_on_chip, R368): 64 bits. -/
def NOC_EPOCH_OLD_OLD : Fld := ⟨0x41000020018, 0, 64, .ro, 0⟩
/-! GR_CTRL (12_granary, R388): 32 bits. -/
def GR_CTRL_INTLV (k : Nat) : Fld := ⟨rp (56 + k) 2 + 0x0, 0, 1, .rw, 0⟩
def GR_CTRL_BT_EN (k : Nat) : Fld := ⟨rp (56 + k) 2 + 0x0, 1, 1, .rw, 0⟩
def GR_CTRL_AUTO_REPAIR (k : Nat) : Fld := ⟨rp (56 + k) 2 + 0x0, 2, 1, .rw, 1⟩
def GR_CTRL_REPAIR_PERSIST (k : Nat) : Fld := ⟨rp (56 + k) 2 + 0x0, 3, 1, .rw, 1⟩
def GR_CTRL_CORR_LOG_EN (k : Nat) : Fld := ⟨rp (56 + k) 2 + 0x0, 4, 1, .rw, 1⟩
def GR_CTRL_UNC_EVT_EN (k : Nat) : Fld := ⟨rp (56 + k) 2 + 0x0, 5, 1, .rw, 1⟩
def GR_CTRL_BT_INTERVAL (k : Nat) : Fld := ⟨rp (56 + k) 2 + 0x0, 16, 16, .rw, 10⟩
/-! GR_CMD (12_granary, R388): 32 bits. -/
def GR_CMD_OP (k : Nat) : Fld := ⟨rp (56 + k) 2 + 0x8, 0, 4, .wo, 0⟩
def GR_CMD_BANK (k : Nat) : Fld := ⟨rp (56 + k) 2 + 0x8, 4, 3, .wo, 0⟩
def GR_CMD_ROW (k : Nat) : Fld := ⟨rp (56 + k) 2 + 0x8, 7, 9, .wo, 0⟩
/-! GR_CMD_RESULT (12_granary, R388): 64 bits. -/
def GR_CMD_RESULT_STATUS (k : Nat) : Fld := ⟨rp (56 + k) 2 + 0x10, 0, 16, .ro, 0⟩
def GR_CMD_RESULT_OP (k : Nat) : Fld := ⟨rp (56 + k) 2 + 0x10, 16, 4, .ro, 0⟩
def GR_CMD_RESULT_BANK (k : Nat) : Fld := ⟨rp (56 + k) 2 + 0x10, 20, 3, .ro, 0⟩
def GR_CMD_RESULT_SEQ (k : Nat) : Fld := ⟨rp (56 + k) 2 + 0x10, 32, 16, .ro, 0⟩
def GR_CMD_RESULT_VALID (k : Nat) : Fld := ⟨rp (56 + k) 2 + 0x10, 48, 1, .ro, 0⟩
def GR_CMD_RESULT_STALE (k : Nat) : Fld := ⟨rp (56 + k) 2 + 0x10, 49, 1, .ro, 0⟩
/-! GR_ERR_POP (12_granary, R388): 64 bits. -/
def GR_ERR_POP_BANK (k : Nat) : Fld := ⟨rp (56 + k) 2 + 0x18, 0, 3, .rs, 0⟩
def GR_ERR_POP_KIND (k : Nat) : Fld := ⟨rp (56 + k) 2 + 0x18, 3, 2, .rs, 0⟩
def GR_ERR_POP_ROW (k : Nat) : Fld := ⟨rp (56 + k) 2 + 0x18, 5, 15, .rs, 0⟩
def GR_ERR_POP_SYMBOL (k : Nat) : Fld := ⟨rp (56 + k) 2 + 0x18, 20, 8, .rs, 0⟩
def GR_ERR_POP_SRC (k : Nat) : Fld := ⟨rp (56 + k) 2 + 0x18, 28, 8, .rs, 0⟩
def GR_ERR_POP_BT (k : Nat) : Fld := ⟨rp (56 + k) 2 + 0x18, 36, 1, .rs, 0⟩
def GR_ERR_POP_VALID (k : Nat) : Fld := ⟨rp (56 + k) 2 + 0x18, 37, 1, .rs, 0⟩
def GR_ERR_POP_OVF (k : Nat) : Fld := ⟨rp (56 + k) 2 + 0x18, 38, 1, .rs, 0⟩
/-! GR_INJECT (12_granary, R388): 32 bits. -/
def GR_INJECT_BANK (k : Nat) : Fld := ⟨rp (56 + k) 2 + 0x20, 0, 3, .rw, 0⟩
def GR_INJECT_SYMBOL (k : Nat) : Fld := ⟨rp (56 + k) 2 + 0x20, 8, 6, .rw, 0⟩
def GR_INJECT_PATTERN (k : Nat) : Fld := ⟨rp (56 + k) 2 + 0x20, 16, 4, .rw, 0⟩
def GR_INJECT_DOUBLE (k : Nat) : Fld := ⟨rp (56 + k) 2 + 0x20, 20, 1, .rw, 0⟩
def GR_INJECT_ARM (k : Nat) : Fld := ⟨rp (56 + k) 2 + 0x20, 21, 1, .rw, 0⟩
/-! GB_STATUS (12_granary, R388): 32 bits. -/
def GB_STATUS_PWR (k : Nat) (j : Nat) : Fld := ⟨rp (56 + k) 2 + 0x1000 + 0x800 * j, 0, 2, .ro, 2⟩
def GB_STATUS_BT_ACTIVE (k : Nat) (j : Nat) : Fld := ⟨rp (56 + k) 2 + 0x1000 + 0x800 * j, 2, 1, .ro, 0⟩
def GB_STATUS_REPAIRING (k : Nat) (j : Nat) : Fld := ⟨rp (56 + k) 2 + 0x1000 + 0x800 * j, 3, 1, .ro, 0⟩
def GB_STATUS_SPARES_FREE (k : Nat) (j : Nat) : Fld := ⟨rp (56 + k) 2 + 0x1000 + 0x800 * j, 4, 4, .ro, 8⟩
def GB_STATUS_FAULTS (k : Nat) (j : Nat) : Fld := ⟨rp (56 + k) 2 + 0x1000 + 0x800 * j, 16, 12, .ro, 0⟩
/-! GB_CNT (12_granary, R388): 64 bits. -/
def GB_CNT_CORR (k : Nat) (j : Nat) : Fld := ⟨rp (56 + k) 2 + 0x1008 + 0x800 * j, 0, 16, .ro, 0⟩
def GB_CNT_UNC (k : Nat) (j : Nat) : Fld := ⟨rp (56 + k) 2 + 0x1008 + 0x800 * j, 16, 16, .ro, 0⟩
def GB_CNT_BT_PASS (k : Nat) (j : Nat) : Fld := ⟨rp (56 + k) 2 + 0x1008 + 0x800 * j, 32, 16, .ro, 0⟩
def GB_CNT_BT_FAIL (k : Nat) (j : Nat) : Fld := ⟨rp (56 + k) 2 + 0x1008 + 0x800 * j, 48, 16, .ro, 0⟩
/-! GB_SPARE (12_granary, R388): 32 bits. -/
def GB_SPARE_ROW (k : Nat) (j : Nat) (s : Nat) : Fld := ⟨rp (56 + k) 2 + 0x1040 + 0x800 * j + 0x8 * s, 0, 9, .ro, 0⟩
def GB_SPARE_USED (k : Nat) (j : Nat) (s : Nat) : Fld := ⟨rp (56 + k) 2 + 0x1040 + 0x800 * j + 0x8 * s, 9, 1, .ro, 0⟩
def GB_SPARE_BAD (k : Nat) (j : Nat) (s : Nat) : Fld := ⟨rp (56 + k) 2 + 0x1040 + 0x800 * j + 0x8 * s, 10, 1, .ro, 0⟩
/-! GB_CONF (12_granary, R388): 32 bits. -/
def GB_CONF_COUNT (k : Nat) (j : Nat) (i : Nat) : Fld := ⟨rp (56 + k) 2 + 0x1100 + 0x800 * j + 0x4 * i, 0, 32, .ro, 0⟩
/-! QD_PLL (13_serial_lanes, R422): 64 bits. -/
def QD_PLL_REFSEL (q : Nat) (j : Nat) : Fld := ⟨qdBase q + 0x800 + 0x8 * j, 0, 2, .rw, 0⟩
def QD_PLL_EN (q : Nat) (j : Nat) : Fld := ⟨qdBase q + 0x800 + 0x8 * j, 2, 1, .rw, 0⟩
def QD_PLL_LOCK (q : Nat) (j : Nat) : Fld := ⟨qdBase q + 0x800 + 0x8 * j, 3, 1, .ro, 0⟩
def QD_PLL_M (q : Nat) (j : Nat) : Fld := ⟨qdBase q + 0x800 + 0x8 * j, 8, 3, .rw, 1⟩
def QD_PLL_N (q : Nat) (j : Nat) : Fld := ⟨qdBase q + 0x800 + 0x8 * j, 16, 8, .rw, 64⟩
def QD_PLL_FRAC (q : Nat) (j : Nat) : Fld := ⟨qdBase q + 0x800 + 0x8 * j, 24, 24, .rw, 0⟩
/-! LN_CFG (13_serial_lanes, R422): 64 bits. -/
def LN_CFG_MODE (n : Nat) : Fld := ⟨lnBase n + 0x0, 0, 2, .rw, if n / 8 = 4 then 1 else 0⟩
def LN_CFG_PLL (n : Nat) : Fld := ⟨lnBase n + 0x0, 2, 1, .rw, 0⟩
def LN_CFG_DIV (n : Nat) : Fld := ⟨lnBase n + 0x0, 3, 3, .rw, 0⟩
def LN_CFG_PAM4 (n : Nat) : Fld := ⟨lnBase n + 0x0, 6, 1, .rw, 0⟩
def LN_CFG_TX_INV (n : Nat) : Fld := ⟨lnBase n + 0x0, 7, 1, .rw, 0⟩
def LN_CFG_RX_INV (n : Nat) : Fld := ⟨lnBase n + 0x0, 8, 1, .rw, 0⟩
def LN_CFG_TX_EN (n : Nat) : Fld := ⟨lnBase n + 0x0, 9, 1, .rw, 0⟩
def LN_CFG_LOOP (n : Nat) : Fld := ⟨lnBase n + 0x0, 10, 2, .rw, 0⟩
def LN_CFG_LOOP_TX (n : Nat) : Fld := ⟨lnBase n + 0x0, 12, 1, .rw, 0⟩
def LN_CFG_EQ_AUTO (n : Nat) : Fld := ⟨lnBase n + 0x0, 13, 1, .rw, 1⟩
def LN_CFG_DET_EN (n : Nat) : Fld := ⟨lnBase n + 0x0, 14, 1, .rw, 0⟩
def LN_CFG_PRECODE (n : Nat) : Fld := ⟨lnBase n + 0x0, 15, 1, .rw, 0⟩
def LN_CFG_TRAIN_TO (n : Nat) : Fld := ⟨lnBase n + 0x0, 32, 16, .rw, 100⟩
def LN_CFG_LOCK_TO (n : Nat) : Fld := ⟨lnBase n + 0x0, 48, 16, .rw, 1000⟩
/-! LN_STAT (13_serial_lanes, R422): 32 bits. -/
def LN_STAT_STATE (n : Nat) : Fld := ⟨lnBase n + 0x8, 0, 3, .ro, 0⟩
def LN_STAT_SIGDET (n : Nat) : Fld := ⟨lnBase n + 0x8, 3, 1, .ro, 0⟩
def LN_STAT_RXPRES (n : Nat) : Fld := ⟨lnBase n + 0x8, 4, 1, .ro, 0⟩
def LN_STAT_CDR_LOCK (n : Nat) : Fld := ⟨lnBase n + 0x8, 5, 1, .ro, 0⟩
def LN_STAT_BLK_LOCK (n : Nat) : Fld := ⟨lnBase n + 0x8, 6, 1, .ro, 0⟩
def LN_STAT_ADAPTED (n : Nat) : Fld := ⟨lnBase n + 0x8, 7, 1, .ro, 0⟩
def LN_STAT_FAILS (n : Nat) : Fld := ⟨lnBase n + 0x8, 8, 8, .ro, 0⟩
def LN_STAT_LAST_FAIL (n : Nat) : Fld := ⟨lnBase n + 0x8, 16, 16, .ro, 0⟩
/-! LN_EQ_TX (13_serial_lanes, R422): 32 bits. -/
def LN_EQ_TX_PRE2 (n : Nat) : Fld := ⟨lnBase n + 0x10, 0, 5, .rw, 0⟩
def LN_EQ_TX_PRE1 (n : Nat) : Fld := ⟨lnBase n + 0x10, 5, 6, .rw, 0⟩
def LN_EQ_TX_MAIN (n : Nat) : Fld := ⟨lnBase n + 0x10, 11, 7, .rw, 64⟩
def LN_EQ_TX_POST1 (n : Nat) : Fld := ⟨lnBase n + 0x10, 18, 6, .rw, 0⟩
/-! LN_EQ_RX (13_serial_lanes, R422): 64 bits. -/
def LN_EQ_RX_CTLE (n : Nat) : Fld := ⟨lnBase n + 0x18, 0, 4, .rw, 8⟩
def LN_EQ_RX_VGA (n : Nat) : Fld := ⟨lnBase n + 0x18, 4, 6, .rw, 32⟩
def LN_EQ_RX_DFE (n : Nat) : Fld := ⟨lnBase n + 0x18, 16, 48, .ro, 0⟩
/-! LN_CMD (13_serial_lanes, R422): 32 bits. -/
def LN_CMD_CMD (n : Nat) : Fld := ⟨lnBase n + 0x20, 0, 4, .wo, 0⟩
/-! LN_RESULT (13_serial_lanes, R422): 64 bits. -/
def LN_RESULT_STATUS (n : Nat) : Fld := ⟨lnBase n + 0x28, 0, 16, .ro, 0⟩
def LN_RESULT_CMD (n : Nat) : Fld := ⟨lnBase n + 0x28, 16, 4, .ro, 0⟩
def LN_RESULT_SEQ (n : Nat) : Fld := ⟨lnBase n + 0x28, 32, 16, .ro, 0⟩
def LN_RESULT_VALID (n : Nat) : Fld := ⟨lnBase n + 0x28, 48, 1, .ro, 0⟩
def LN_RESULT_STALE (n : Nat) : Fld := ⟨lnBase n + 0x28, 49, 1, .ro, 0⟩
/-! LN_PRBS_CFG (13_serial_lanes, R422): 32 bits. -/
def LN_PRBS_CFG_GEN (n : Nat) : Fld := ⟨lnBase n + 0x30, 0, 4, .rw, 0⟩
def LN_PRBS_CFG_GEN_INV (n : Nat) : Fld := ⟨lnBase n + 0x30, 4, 1, .rw, 0⟩
def LN_PRBS_CFG_CHK (n : Nat) : Fld := ⟨lnBase n + 0x30, 5, 4, .rw, 0⟩
def LN_PRBS_CFG_CHK_INV (n : Nat) : Fld := ⟨lnBase n + 0x30, 9, 1, .rw, 0⟩
def LN_PRBS_CFG_INJ_RATE (n : Nat) : Fld := ⟨lnBase n + 0x30, 10, 5, .rw, 0⟩
/-! LN_PRBS_USER (13_serial_lanes, R422): 64 bits. -/
def LN_PRBS_USER_USER (n : Nat) : Fld := ⟨lnBase n + 0x38, 0, 64, .rw, 0⟩
/-! LN_PRBS_BITS (13_serial_lanes, R422): 64 bits. -/
def LN_PRBS_BITS_BITS (n : Nat) : Fld := ⟨lnBase n + 0x40, 0, 48, .ro, 0⟩
def LN_PRBS_BITS_LOCK (n : Nat) : Fld := ⟨lnBase n + 0x40, 48, 1, .ro, 0⟩
/-! LN_PRBS_ERR (13_serial_lanes, R422): 64 bits. -/
def LN_PRBS_ERR_ERR (n : Nat) : Fld := ⟨lnBase n + 0x48, 0, 48, .ro, 0⟩
def LN_PRBS_ERR_LOSTCNT (n : Nat) : Fld := ⟨lnBase n + 0x48, 48, 16, .ro, 0⟩
/-! LN_EYE_CFG (13_serial_lanes, R422): 64 bits. -/
def LN_EYE_CFG_PH (n : Nat) : Fld := ⟨lnBase n + 0x50, 0, 6, .rw, 0⟩
def LN_EYE_CFG_VOFF (n : Nat) : Fld := ⟨lnBase n + 0x50, 7, 8, .rw, 0⟩
def LN_EYE_CFG_EYE (n : Nat) : Fld := ⟨lnBase n + 0x50, 15, 2, .rw, 0⟩
def LN_EYE_CFG_LOG2BITS (n : Nat) : Fld := ⟨lnBase n + 0x50, 17, 6, .rw, 24⟩
def LN_EYE_CFG_ERRLIM (n : Nat) : Fld := ⟨lnBase n + 0x50, 32, 16, .rw, 1⟩
/-! LN_EYE_RES0 (13_serial_lanes, R422): 64 bits. -/
def LN_EYE_RES0_UI (n : Nat) : Fld := ⟨lnBase n + 0x58, 0, 48, .ro, 0⟩
def LN_EYE_RES0_ERRS (n : Nat) : Fld := ⟨lnBase n + 0x58, 48, 16, .ro, 0⟩
/-! LN_EYE_RES1 (13_serial_lanes, R422): 64 bits. -/
def LN_EYE_RES1_LEFT (n : Nat) : Fld := ⟨lnBase n + 0x60, 0, 6, .ro, 0⟩
def LN_EYE_RES1_RIGHT (n : Nat) : Fld := ⟨lnBase n + 0x60, 6, 6, .ro, 0⟩
def LN_EYE_RES1_TOP (n : Nat) : Fld := ⟨lnBase n + 0x60, 12, 7, .ro, 0⟩
def LN_EYE_RES1_BOTTOM (n : Nat) : Fld := ⟨lnBase n + 0x60, 19, 8, .ro, 0⟩
def LN_EYE_RES1_KIND (n : Nat) : Fld := ⟨lnBase n + 0x60, 27, 1, .ro, 0⟩
def LN_EYE_RES1_SEQ (n : Nat) : Fld := ⟨lnBase n + 0x60, 32, 16, .ro, 0⟩
def LN_EYE_RES1_VALID (n : Nat) : Fld := ⟨lnBase n + 0x60, 48, 1, .ro, 0⟩
def LN_EYE_RES1_STALE (n : Nat) : Fld := ⟨lnBase n + 0x60, 49, 1, .ro, 0⟩
/-! ST_CFG (13_serial_lanes, R422): 64 bits. -/
def ST_CFG_USE (q : Nat) : Fld := ⟨qdBase q + 0xa00, 0, 2, .rw, 0⟩
def ST_CFG_RING_LOG2 (q : Nat) : Fld := ⟨qdBase q + 0xa00, 8, 5, .rw, 4⟩
def ST_CFG_RING_BASE (q : Nat) : Fld := ⟨qdBase q + 0xa00, 16, 36, .rw, 0⟩
/-! ST_RX_WR (13_serial_lanes, R422): 32 bits. -/
def ST_RX_WR_WR (q : Nat) : Fld := ⟨qdBase q + 0xa10, 0, 32, .ro, 0⟩
/-! ST_RX_RD (13_serial_lanes, R422): 32 bits. -/
def ST_RX_RD_RD (q : Nat) : Fld := ⟨qdBase q + 0xa18, 0, 32, .rw, 0⟩
/-! ST_CNT (13_serial_lanes, R422): 64 bits. -/
def ST_CNT_DROP (q : Nat) : Fld := ⟨qdBase q + 0xa20, 0, 32, .ro, 0⟩
def ST_CNT_UNDER (q : Nat) : Fld := ⟨qdBase q + 0xa20, 32, 16, .ro, 0⟩
def ST_CNT_CRC (q : Nat) : Fld := ⟨qdBase q + 0xa20, 48, 8, .ro, 0⟩
def ST_CNT_OVFL (q : Nat) : Fld := ⟨qdBase q + 0xa20, 56, 8, .ro, 0⟩
/-! ST_MARK_TIME (13_serial_lanes, R422): 64 bits. -/
def ST_MARK_TIME_TIME (q : Nat) : Fld := ⟨qdBase q + 0xa28, 0, 48, .ro, 0⟩
/-! ST_MARK_POS (13_serial_lanes, R422): 64 bits. -/
def ST_MARK_POS_CHUNK (q : Nat) : Fld := ⟨qdBase q + 0xa30, 0, 32, .ro, 0⟩
def ST_MARK_POS_OCTET (q : Nat) : Fld := ⟨qdBase q + 0xa30, 32, 6, .ro, 0⟩
def ST_MARK_POS_SEQ (q : Nat) : Fld := ⟨qdBase q + 0xa30, 48, 16, .ro, 0⟩
/-! ST_MARK_FLAGS (13_serial_lanes, R422): 32 bits. -/
def ST_MARK_FLAGS_VALID (q : Nat) : Fld := ⟨qdBase q + 0xa38, 0, 1, .ro, 0⟩
def ST_MARK_FLAGS_STALE (q : Nat) : Fld := ⟨qdBase q + 0xa38, 1, 1, .ro, 0⟩
/-! JS_CFG (13_serial_lanes, R422): 64 bits. -/
def JS_CFG_EN (q : Nat) : Fld := ⟨qdBase q + 0xa40, 0, 1, .rw, 0⟩
def JS_CFG_VER (q : Nat) : Fld := ⟨qdBase q + 0xa40, 1, 1, .rw, 0⟩
def JS_CFG_DIR (q : Nat) : Fld := ⟨qdBase q + 0xa40, 2, 1, .rw, 0⟩
def JS_CFG_LCODE (q : Nat) : Fld := ⟨qdBase q + 0xa40, 3, 2, .rw, 0⟩
def JS_CFG_F (q : Nat) : Fld := ⟨qdBase q + 0xa40, 5, 8, .rw, 1⟩
def JS_CFG_KE (q : Nat) : Fld := ⟨qdBase q + 0xa40, 13, 6, .rw, 32⟩
def JS_CFG_RBD (q : Nat) : Fld := ⟨qdBase q + 0xa40, 19, 13, .rw, 0⟩
def JS_CFG_SCR (q : Nat) : Fld := ⟨qdBase q + 0xa40, 32, 1, .rw, 0⟩
def JS_CFG_SYSREF_CONT (q : Nat) : Fld := ⟨qdBase q + 0xa40, 33, 1, .rw, 0⟩
def JS_CFG_SYSREF_DLY (q : Nat) : Fld := ⟨qdBase q + 0xa40, 34, 8, .rw, 0⟩
/-! LL_CFG (13_serial_lanes, R422): 64 bits. -/
def LL_CFG_LANES (q : Nat) : Fld := ⟨qdBase q + 0xa48, 0, 3, .rw, 4⟩
def LL_CFG_F (q : Nat) : Fld := ⟨qdBase q + 0xa48, 3, 4, .rw, 12⟩
def LL_CFG_TOL (q : Nat) : Fld := ⟨qdBase q + 0xa48, 7, 8, .rw, 100⟩
def LL_CFG_LINK_ID (q : Nat) : Fld := ⟨qdBase q + 0xa48, 16, 32, .rw, 0⟩
def LL_CFG_CAPS_TO (q : Nat) : Fld := ⟨qdBase q + 0xa48, 48, 16, .rw, 100⟩
/-! LL_STAT (13_serial_lanes, R422): 64 bits. -/
def LL_STAT_LANES (q : Nat) : Fld := ⟨qdBase q + 0xa50, 0, 3, .ro, 0⟩
def LL_STAT_UP (q : Nat) : Fld := ⟨qdBase q + 0xa50, 3, 1, .ro, 0⟩
def LL_STAT_PF (q : Nat) : Fld := ⟨qdBase q + 0xa50, 4, 4, .ro, 0⟩
def LL_STAT_PTOL (q : Nat) : Fld := ⟨qdBase q + 0xa50, 8, 8, .ro, 0⟩
def LL_STAT_PLINK_ID (q : Nat) : Fld := ⟨qdBase q + 0xa50, 16, 32, .ro, 0⟩
def LL_STAT_PSTEP (q : Nat) : Fld := ⟨qdBase q + 0xa50, 48, 8, .ro, 0⟩
/-! PE_CFG (14_port_engines, R456): 64 bits. -/
def PE_CFG_CFG (k : Nat) : Fld := ⟨rp k 1 + 0x0, 0, 3, .rw, 0⟩
def PE_CFG_REF (k : Nat) : Fld := ⟨rp k 1 + 0x0, 3, 1, .rw, 0⟩
def PE_CFG_RCV_CH (k : Nat) : Fld := ⟨rp k 1 + 0x0, 4, 2, .rw, 0⟩
def PE_CFG_RCV_EN (k : Nat) : Fld := ⟨rp k 1 + 0x0, 6, 1, .rw, 0⟩
def PE_CFG_RCV_DIV (k : Nat) : Fld := ⟨rp k 1 + 0x0, 8, 10, .rw, 1⟩
def PE_CFG_HAIRPIN (k : Nat) : Fld := ⟨rp k 1 + 0x0, 18, 3, .rw, 0⟩
def PE_CFG_HP_EN (k : Nat) : Fld := ⟨rp k 1 + 0x0, 21, 1, .rw, 0⟩
/-! PE_STATUS (14_port_engines, R456): 32 bits. -/
def PE_STATUS_LINK (k : Nat) : Fld := ⟨rp k 1 + 0x8, 0, 4, .ro, 0⟩
def PE_STATUS_RCV_RUN (k : Nat) : Fld := ⟨rp k 1 + 0x8, 4, 1, .ro, 0⟩
def PE_STATUS_HP_ACTIVE (k : Nat) : Fld := ⟨rp k 1 + 0x8, 5, 1, .ro, 0⟩
/-! CH_CFG (14_port_engines, R456): 64 bits. -/
def CH_CFG_FEC (ch : Nat) : Fld := ⟨chBase ch + 0x0, 0, 2, .rw, 0⟩
def CH_CFG_EN (ch : Nat) : Fld := ⟨chBase ch + 0x0, 2, 1, .rw, 0⟩
def CH_CFG_CORR_EN (ch : Nat) : Fld := ⟨chBase ch + 0x0, 3, 1, .rw, 1⟩
def CH_CFG_END (ch : Nat) : Fld := ⟨chBase ch + 0x0, 4, 2, .rw, 0⟩
def CH_CFG_MTU (ch : Nat) : Fld := ⟨chBase ch + 0x0, 16, 14, .rw, 1518⟩
/-! CH_STAT (14_port_engines, R456): 32 bits. -/
def CH_STAT_LINK (ch : Nat) : Fld := ⟨chBase ch + 0x8, 0, 1, .ro, 0⟩
def CH_STAT_BAD (ch : Nat) : Fld := ⟨chBase ch + 0x8, 1, 1, .ro, 0⟩
def CH_STAT_TXTS_Q (ch : Nat) : Fld := ⟨chBase ch + 0x8, 8, 6, .ro, 0⟩
def CH_STAT_TXTS_F (ch : Nat) : Fld := ⟨chBase ch + 0x8, 16, 6, .ro, 32⟩
/-! CH_TS_DLY (14_port_engines, R456): 64 bits. -/
def CH_TS_DLY_TX_DLY (ch : Nat) : Fld := ⟨chBase ch + 0x10, 0, 20, .rw, 0⟩
def CH_TS_DLY_RX_DLY (ch : Nat) : Fld := ⟨chBase ch + 0x10, 32, 20, .rw, 0⟩
/-! CH_RXMAP (14_port_engines, R456): 64 bits. -/
def CH_RXMAP_ECPRI_Q (ch : Nat) : Fld := ⟨chBase ch + 0x18, 0, 24, .rw, 0⟩
def CH_RXMAP_PTP_Q (ch : Nat) : Fld := ⟨chBase ch + 0x18, 24, 3, .rw, 7⟩
def CH_RXMAP_PCP_Q (ch : Nat) : Fld := ⟨chBase ch + 0x18, 27, 24, .rw, 0⟩
def CH_RXMAP_DEFAULT_Q (ch : Nat) : Fld := ⟨chBase ch + 0x18, 51, 3, .rw, 0⟩
/-! CH_TXQ_ENQ (14_port_engines, R456): 64 bits. -/
def CH_TXQ_ENQ_HANDLE (ch : Nat) : Fld := ⟨chBase ch + 0x20, 0, 17, .wo, 0⟩
def CH_TXQ_ENQ_LEN (ch : Nat) : Fld := ⟨chBase ch + 0x20, 17, 14, .wo, 0⟩
def CH_TXQ_ENQ_QUEUE (ch : Nat) : Fld := ⟨chBase ch + 0x20, 31, 3, .wo, 0⟩
def CH_TXQ_ENQ_TSMODE (ch : Nat) : Fld := ⟨chBase ch + 0x20, 34, 3, .wo, 0⟩
def CH_TXQ_ENQ_ECPRI_GEN (ch : Nat) : Fld := ⟨chBase ch + 0x20, 37, 1, .wo, 0⟩
def CH_TXQ_ENQ_TS_ID (ch : Nat) : Fld := ⟨chBase ch + 0x20, 48, 16, .wo, 0⟩
/-! CH_TXTS_POP (14_port_engines, R456): 64 bits. -/
def CH_TXTS_POP_ID (ch : Nat) : Fld := ⟨chBase ch + 0x30, 0, 16, .rs, 0⟩
def CH_TXTS_POP_VALID (ch : Nat) : Fld := ⟨chBase ch + 0x30, 16, 1, .rs, 0⟩
def CH_TXTS_POP_OVF (ch : Nat) : Fld := ⟨chBase ch + 0x30, 17, 1, .rs, 0⟩
def CH_TXTS_POP_BAD (ch : Nat) : Fld := ⟨chBase ch + 0x30, 18, 1, .rs, 0⟩
def CH_TXTS_POP_CORR (ch : Nat) : Fld := ⟨chBase ch + 0x30, 19, 1, .rs, 0⟩
def CH_TXTS_POP_WRAP8 (ch : Nat) : Fld := ⟨chBase ch + 0x30, 24, 8, .rs, 0⟩
def CH_TXTS_POP_NS (ch : Nat) : Fld := ⟨chBase ch + 0x30, 32, 32, .rs, 0⟩
/-! CH_TXTS_FRAC (14_port_engines, R456): 32 bits. -/
def CH_TXTS_FRAC_FRAC (ch : Nat) : Fld := ⟨chBase ch + 0x38, 0, 16, .ro, 0⟩
/-! CH_CNT_RX (14_port_engines, R456): 64 bits. -/
def CH_CNT_RX_FRAMES (ch : Nat) : Fld := ⟨chBase ch + 0x40, 0, 32, .ro, 0⟩
def CH_CNT_RX_DROP_LOFT (ch : Nat) : Fld := ⟨chBase ch + 0x40, 32, 16, .ro, 0⟩
def CH_CNT_RX_DROP_FCS (ch : Nat) : Fld := ⟨chBase ch + 0x40, 48, 8, .ro, 0⟩
def CH_CNT_RX_DROP_LEN (ch : Nat) : Fld := ⟨chBase ch + 0x40, 56, 4, .ro, 0⟩
def CH_CNT_RX_DROP_DIR (ch : Nat) : Fld := ⟨chBase ch + 0x40, 60, 4, .ro, 0⟩
/-! CH_CNT_TX (14_port_engines, R456): 64 bits. -/
def CH_CNT_TX_FRAMES (ch : Nat) : Fld := ⟨chBase ch + 0x48, 0, 32, .ro, 0⟩
def CH_CNT_TX_TXTS_OVF (ch : Nat) : Fld := ⟨chBase ch + 0x48, 32, 12, .ro, 0⟩
def CH_CNT_TX_ONESTEP_MISS (ch : Nat) : Fld := ⟨chBase ch + 0x48, 44, 8, .ro, 0⟩
def CH_CNT_TX_GATE_DISCARD (ch : Nat) : Fld := ⟨chBase ch + 0x48, 52, 8, .ro, 0⟩
def CH_CNT_TX_TX_UNC (ch : Nat) : Fld := ⟨chBase ch + 0x48, 60, 4, .ro, 0⟩
/-! CH_CNT_FEC (14_port_engines, R456): 64 bits. -/
def CH_CNT_FEC_CORR (ch : Nat) : Fld := ⟨chBase ch + 0x50, 0, 32, .ro, 0⟩
def CH_CNT_FEC_UNC (ch : Nat) : Fld := ⟨chBase ch + 0x50, 32, 16, .ro, 0⟩
def CH_CNT_FEC_ECPRI_BAD (ch : Nat) : Fld := ⟨chBase ch + 0x50, 48, 16, .ro, 0⟩
/-! CH_RXQ_POP (14_port_engines, R456): 64 bits. -/
def CH_RXQ_POP_HANDLE (ch : Nat) (q : Nat) : Fld := ⟨chBase ch + 0x80 + 0x10 * q, 0, 17, .rs, 0⟩
def CH_RXQ_POP_VALID (ch : Nat) (q : Nat) : Fld := ⟨chBase ch + 0x80 + 0x10 * q, 17, 1, .rs, 0⟩
def CH_RXQ_POP_ECPRI (ch : Nat) (q : Nat) : Fld := ⟨chBase ch + 0x80 + 0x10 * q, 18, 1, .rs, 0⟩
def CH_RXQ_POP_CBIT (ch : Nat) (q : Nat) : Fld := ⟨chBase ch + 0x80 + 0x10 * q, 19, 1, .rs, 0⟩
def CH_RXQ_POP_PTP (ch : Nat) (q : Nat) : Fld := ⟨chBase ch + 0x80 + 0x10 * q, 20, 1, .rs, 0⟩
def CH_RXQ_POP_MSGTYPE (ch : Nat) (q : Nat) : Fld := ⟨chBase ch + 0x80 + 0x10 * q, 21, 8, .rs, 0⟩
def CH_RXQ_POP_LEN (ch : Nat) (q : Nat) : Fld := ⟨chBase ch + 0x80 + 0x10 * q, 32, 14, .rs, 0⟩
def CH_RXQ_POP_FEC_OFS (ch : Nat) (q : Nat) : Fld := ⟨chBase ch + 0x80 + 0x10 * q, 46, 11, .rs, 0⟩
/-! CH_RXQ_TS (14_port_engines, R456): 64 bits. -/
def CH_RXQ_TS_TIME (ch : Nat) (q : Nat) : Fld := ⟨chBase ch + 0x88 + 0x10 * q, 0, 48, .ro, 0⟩
def CH_RXQ_TS_WRAP8 (ch : Nat) (q : Nat) : Fld := ⟨chBase ch + 0x88 + 0x10 * q, 48, 8, .ro, 0⟩
def CH_RXQ_TS_CORR (ch : Nat) (q : Nat) : Fld := ⟨chBase ch + 0x88 + 0x10 * q, 56, 1, .ro, 0⟩
def CH_RXQ_TS_BAD (ch : Nat) (q : Nat) : Fld := ⟨chBase ch + 0x88 + 0x10 * q, 57, 1, .ro, 0⟩
/-! CH_QBV_CTRL (14_port_engines, R456): 32 bits. -/
def CH_QBV_CTRL_EN (ch : Nat) : Fld := ⟨chBase ch + 0x100, 0, 1, .rw, 0⟩
def CH_QBV_CTRL_NEXT (ch : Nat) : Fld := ⟨chBase ch + 0x100, 1, 1, .rw, 0⟩
def CH_QBV_CTRL_RUN_BANK (ch : Nat) : Fld := ⟨chBase ch + 0x100, 2, 1, .ro, 0⟩
def CH_QBV_CTRL_RUNNING (ch : Nat) : Fld := ⟨chBase ch + 0x100, 3, 1, .ro, 0⟩
def CH_QBV_CTRL_LEN_0 (ch : Nat) : Fld := ⟨chBase ch + 0x100, 8, 9, .rw, 0⟩
def CH_QBV_CTRL_LEN_1 (ch : Nat) : Fld := ⟨chBase ch + 0x100, 17, 9, .rw, 0⟩
/-! CH_QBV_CYCLE (14_port_engines, R456): 64 bits. -/
def CH_QBV_CYCLE_CYCLE (ch : Nat) (n : Nat) : Fld := ⟨chBase ch + 0x108 + 0x8 * n, 0, 64, .rw, 0⟩
/-! CH_GCL (14_port_engines, R456): 32 bits. -/
def CH_GCL_GATES (ch : Nat) (n : Nat) (e : Nat) : Fld := ⟨chBase ch + 0x800 + 0x400 * n + 0x4 * e, 0, 8, .rw, 255⟩
def CH_GCL_INTERVAL (ch : Nat) (n : Nat) (e : Nat) : Fld := ⟨chBase ch + 0x800 + 0x400 * n + 0x4 * e, 8, 24, .rw, 0⟩
/-! LOFT_FREE (14_port_engines, R456): 32 bits. -/
def LOFT_FREE_FREE : Fld := ⟨0x1000060000, 0, 18, .ro, 131072⟩
def LOFT_FREE_INFLIGHT : Fld := ⟨0x1000060000, 18, 7, .ro, 0⟩
/-! LOFT_BOOK (14_port_engines, R456): 64 bits. -/
def LOFT_BOOK_HELD : Fld := ⟨0x1000060008, 0, 18, .ro, 0⟩
def LOFT_BOOK_QUEUED : Fld := ⟨0x1000060008, 32, 18, .ro, 0⟩
/-! LOFT_CMD (14_port_engines, R456): 64 bits. -/
def LOFT_CMD_OP : Fld := ⟨0x1000060010, 0, 4, .wo, 0⟩
def LOFT_CMD_CH : Fld := ⟨0x1000060010, 4, 5, .wo, 0⟩
def LOFT_CMD_LEN : Fld := ⟨0x1000060010, 9, 14, .wo, 0⟩
def LOFT_CMD_HANDLE : Fld := ⟨0x1000060010, 32, 17, .wo, 0⟩
/-! LOFT_CNT (14_port_engines, R456): 64 bits. -/
def LOFT_CNT_CORR : Fld := ⟨0x1000060018, 0, 32, .ro, 0⟩
def LOFT_CNT_UNC : Fld := ⟨0x1000060018, 32, 16, .ro, 0⟩
/-! PE_TOD (14_port_engines, R456): 64 bits. -/
def PE_TOD_BASE_NS : Fld := ⟨0x1000060020, 0, 30, .rw, 0⟩
def PE_TOD_W0 : Fld := ⟨0x1000060020, 32, 16, .rw, 0⟩
/-! PE_TOD_S (14_port_engines, R456): 64 bits. -/
def PE_TOD_S_BASE_S : Fld := ⟨0x1000060028, 0, 48, .rw, 0⟩
/-! LOFT_CH (14_port_engines, R456): 64 bits. -/
def LOFT_CH_MIN (ch : Nat) : Fld := ⟨0x1000060100 + 0x8 * ch, 0, 18, .rw, 0⟩
def LOFT_CH_CAP (ch : Nat) : Fld := ⟨0x1000060100 + 0x8 * ch, 32, 18, .rw, 131072⟩
/-! LOFT_USE (14_port_engines, R456): 32 bits. -/
def LOFT_USE_USE (ch : Nat) : Fld := ⟨0x1000060200 + 0x4 * ch, 0, 18, .ro, 0⟩
/-! LOFT_RESULT (14_port_engines, R456): 64 bits. -/
def LOFT_RESULT_STATUS (s : Nat) : Fld := ⟨0x1000064000 + 0x8 * s, 0, 16, .ro, 0⟩
def LOFT_RESULT_HANDLE (s : Nat) : Fld := ⟨0x1000064000 + 0x8 * s, 16, 17, .ro, 0⟩
def LOFT_RESULT_OP (s : Nat) : Fld := ⟨0x1000064000 + 0x8 * s, 33, 3, .ro, 0⟩
def LOFT_RESULT_SEQ (s : Nat) : Fld := ⟨0x1000064000 + 0x8 * s, 36, 16, .ro, 0⟩
def LOFT_RESULT_VALID (s : Nat) : Fld := ⟨0x1000064000 + 0x8 * s, 52, 1, .ro, 0⟩
def LOFT_RESULT_STALE (s : Nat) : Fld := ⟨0x1000064000 + 0x8 * s, 53, 1, .ro, 0⟩
/-! HL_STATUS (15_host_link_events, R485): 32 bits. -/
def HL_STATUS_UP : Fld := ⟨0x21000000000, 0, 1, .ro, 0⟩
def HL_STATUS_RATE : Fld := ⟨0x21000000000, 1, 3, .ro, 0⟩
def HL_STATUS_WIDTH : Fld := ⟨0x21000000000, 4, 4, .ro, 0⟩
def HL_STATUS_BME : Fld := ⟨0x21000000000, 8, 1, .ro, 0⟩
/-! HL_CFG_RESULT (15_host_link_events, R485): 64 bits. -/
def HL_CFG_RESULT_STATUS : Fld := ⟨0x21000000008, 0, 16, .ro, 0⟩
def HL_CFG_RESULT_OFFSET : Fld := ⟨0x21000000008, 16, 12, .ro, 0⟩
def HL_CFG_RESULT_SEQ : Fld := ⟨0x21000000008, 32, 16, .ro, 0⟩
def HL_CFG_RESULT_VALID : Fld := ⟨0x21000000008, 48, 1, .ro, 0⟩
def HL_CFG_RESULT_STALE : Fld := ⟨0x21000000008, 49, 1, .ro, 0⟩
/-! HL_ERR_POP (15_host_link_events, R485): 64 bits. -/
def HL_ERR_POP_CODE : Fld := ⟨0x21000000010, 0, 16, .rs, 0⟩
def HL_ERR_POP_VALID : Fld := ⟨0x21000000010, 16, 1, .rs, 0⟩
def HL_ERR_POP_OVF : Fld := ⟨0x21000000010, 17, 1, .rs, 0⟩
def HL_ERR_POP_ADDR : Fld := ⟨0x21000000010, 20, 44, .rs, 0⟩
/-! HL_MSIX_SEND (15_host_link_events, R485): 32 bits. -/
def HL_MSIX_SEND_VEC : Fld := ⟨0x21000000018, 0, 6, .wo, 0⟩
/-! HL_APT (15_host_link_events, R485): 32 bits. -/
def HL_APT_BASE (a : Nat) : Fld := ⟨0x21000000040 + 0x8 * a, 0, 20, .rw, (a)⟩
/-! LD_STATUS (16_configuration_loading, R512): 32 bits. -/
def LD_STATUS_STATE : Fld := ⟨0x42000000000, 0, 3, .ro, 0⟩
def LD_STATUS_SRC : Fld := ⟨0x42000000000, 3, 3, .ro, 0⟩
def LD_STATUS_KIND : Fld := ⟨0x42000000000, 6, 2, .ro, 0⟩
def LD_STATUS_PART : Fld := ⟨0x42000000000, 8, 5, .ro, 0⟩
def LD_STATUS_SEEDED : Fld := ⟨0x42000000000, 13, 1, .ro, 0⟩
def LD_STATUS_CFG_DONE : Fld := ⟨0x42000000000, 14, 1, .ro, 0⟩
def LD_STATUS_CFG_ERR : Fld := ⟨0x42000000000, 15, 1, .ro, 0⟩
def LD_STATUS_OWNER : Fld := ⟨0x42000000000, 16, 8, .ro, 0⟩
/-! LD_CTRL (16_configuration_loading, R512): 32 bits. -/
def LD_CTRL_TIMEOUT : Fld := ⟨0x42000000008, 0, 16, .rw, 200⟩
def LD_CTRL_SAFE_OPEN : Fld := ⟨0x42000000008, 16, 1, .ro, 0⟩
/-! LD_ARG (16_configuration_loading, R512): 64 bits. -/
def LD_ARG_ADDR : Fld := ⟨0x42000000010, 0, 44, .rw, 0⟩
/-! LD_CMD (16_configuration_loading, R512): 64 bits. -/
def LD_CMD_OP : Fld := ⟨0x42000000018, 0, 4, .wo, 0⟩
def LD_CMD_PART : Fld := ⟨0x42000000018, 4, 5, .wo, 0⟩
def LD_CMD_LIMIT : Fld := ⟨0x42000000018, 32, 16, .wo, 0⟩
/-! LD_RESULT (16_configuration_loading, R512): 64 bits. -/
def LD_RESULT_STATUS : Fld := ⟨0x42000000020, 0, 16, .ro, 0⟩
def LD_RESULT_OP : Fld := ⟨0x42000000020, 16, 4, .ro, 0⟩
def LD_RESULT_PART : Fld := ⟨0x42000000020, 20, 5, .ro, 0⟩
def LD_RESULT_SEQ : Fld := ⟨0x42000000020, 32, 16, .ro, 0⟩
def LD_RESULT_VALID : Fld := ⟨0x42000000020, 48, 1, .ro, 0⟩
def LD_RESULT_STALE : Fld := ⟨0x42000000020, 49, 1, .ro, 0⟩
/-! LD_ERR_POP (16_configuration_loading, R512): 64 bits. -/
def LD_ERR_POP_CODE : Fld := ⟨0x42000000028, 0, 16, .rs, 0⟩
def LD_ERR_POP_DETAIL : Fld := ⟨0x42000000028, 16, 16, .rs, 0⟩
def LD_ERR_POP_VALID : Fld := ⟨0x42000000028, 32, 1, .rs, 0⟩
def LD_ERR_POP_OVF : Fld := ⟨0x42000000028, 33, 1, .rs, 0⟩
def LD_ERR_POP_PARTITION : Fld := ⟨0x42000000028, 34, 5, .rs, 0⟩
def LD_ERR_POP_BLOCK : Fld := ⟨0x42000000028, 39, 13, .rs, 0⟩
/-! LD_ERR_LOC (16_configuration_loading, R512): 64 bits. -/
def LD_ERR_LOC_B : Fld := ⟨0x42000000030, 0, 6, .ro, 0⟩
def LD_ERR_LOC_ROW : Fld := ⟨0x42000000030, 6, 3, .ro, 0⟩
def LD_ERR_LOC_COL : Fld := ⟨0x42000000030, 9, 6, .ro, 0⟩
def LD_ERR_LOC_INDEX : Fld := ⟨0x42000000030, 15, 4, .ro, 0⟩
def LD_ERR_LOC_PLANE : Fld := ⟨0x42000000030, 19, 1, .ro, 0⟩
def LD_ERR_LOC_TWIG : Fld := ⟨0x42000000030, 20, 5, .ro, 0⟩
def LD_ERR_LOC_BITOFS : Fld := ⟨0x42000000030, 25, 12, .ro, 0⟩
def LD_ERR_LOC_TWOFS : Fld := ⟨0x42000000030, 37, 11, .ro, 0⟩
/-! LD_PROG (16_configuration_loading, R512): 64 bits. -/
def LD_PROG_BLOCKS : Fld := ⟨0x42000000038, 0, 32, .ro, 0⟩
def LD_PROG_NBLOCKS : Fld := ⟨0x42000000038, 32, 32, .ro, 0⟩
/-! LD_PART_STAT (16_configuration_loading, R512): 64 bits. -/
def LD_PART_STAT_STATE : Fld := ⟨0x42000000040, 0, 64, .ro, 0⟩
/-! PT_STAT (17_partitions_swap, R542): 64 bits. -/
def PT_STAT_STATE (q : Nat) : Fld := ⟨0x42000001000 + 0x10 * q, 0, 2, .ro, 0⟩
def PT_STAT_DEFINED (q : Nat) : Fld := ⟨0x42000001000 + 0x10 * q, 2, 1, .ro, 0⟩
def PT_STAT_PRIV (q : Nat) : Fld := ⟨0x42000001000 + 0x10 * q, 3, 1, .ro, 0⟩
def PT_STAT_PLANE (q : Nat) : Fld := ⟨0x42000001000 + 0x10 * q, 4, 1, .ro, 0⟩
def PT_STAT_SHADOW (q : Nat) : Fld := ⟨0x42000001000 + 0x10 * q, 5, 3, .ro, 0⟩
def PT_STAT_ACT (q : Nat) : Fld := ⟨0x42000001000 + 0x10 * q, 8, 2, .ro, 0⟩
def PT_STAT_SWAPS (q : Nat) : Fld := ⟨0x42000001000 + 0x10 * q, 16, 16, .ro, 0⟩
def PT_STAT_LAST_STATUS (q : Nat) : Fld := ⟨0x42000001000 + 0x10 * q, 32, 16, .ro, 0⟩
/-! PT_BOUGHS (17_partitions_swap, R542): 64 bits. -/
def PT_BOUGHS_BOUGHS (q : Nat) : Fld := ⟨0x42000001008 + 0x10 * q, 0, 64, .ro, 0⟩
/-! PT_CTRL (17_partitions_swap, R542): 32 bits. -/
def PT_CTRL_POLICY (q : Nat) : Fld := ⟨0x42000001200 + 0x8 * q, 0, 2, .rw, 0⟩
/-! PT_SWAP_POP (17_partitions_swap, R542): 64 bits. -/
def PT_SWAP_POP_PART : Fld := ⟨0x42000001300, 0, 5, .rs, 0⟩
def PT_SWAP_POP_VALID : Fld := ⟨0x42000001300, 5, 1, .rs, 0⟩
def PT_SWAP_POP_OVF : Fld := ⟨0x42000001300, 6, 1, .rs, 0⟩
def PT_SWAP_POP_STATUS : Fld := ⟨0x42000001300, 16, 16, .rs, 0⟩
def PT_SWAP_POP_TIME : Fld := ⟨0x42000001300, 32, 32, .rs, 0⟩
/-! RB_MASK (17_partitions_swap, R542): 64 bits. -/
def RB_MASK_BOUGHS : Fld := ⟨0x42000001400, 0, 64, .rw, 0⟩
/-! RB_CMD (17_partitions_swap, R542): 32 bits. -/
def RB_CMD_OP : Fld := ⟨0x42000001408, 0, 4, .wo, 0⟩
/-! RB_SEL (17_partitions_swap, R542): 32 bits. -/
def RB_SEL_B : Fld := ⟨0x42000001410, 0, 6, .rw, 0⟩
def RB_SEL_ROW : Fld := ⟨0x42000001410, 6, 3, .rw, 0⟩
def RB_SEL_COL : Fld := ⟨0x42000001410, 9, 6, .rw, 0⟩
def RB_SEL_INDEX : Fld := ⟨0x42000001410, 15, 4, .rw, 0⟩
def RB_SEL_PLANE : Fld := ⟨0x42000001410, 19, 1, .rw, 0⟩
/-! RB_RESULT (17_partitions_swap, R542): 64 bits. -/
def RB_RESULT_STATUS : Fld := ⟨0x42000001418, 0, 16, .ro, 0⟩
def RB_RESULT_SEQ : Fld := ⟨0x42000001418, 32, 16, .ro, 0⟩
def RB_RESULT_VALID : Fld := ⟨0x42000001418, 48, 1, .ro, 0⟩
def RB_RESULT_STALE : Fld := ⟨0x42000001418, 49, 1, .ro, 0⟩
/-! RB_CAP (17_partitions_swap, R542): 64 bits. -/
def RB_CAP_TIME (b : Nat) : Fld := ⟨0x42000001500 + 0x8 * b, 0, 32, .ro, 0⟩
def RB_CAP_SEQ (b : Nat) : Fld := ⟨0x42000001500 + 0x8 * b, 32, 16, .ro, 0⟩
def RB_CAP_VALID (b : Nat) : Fld := ⟨0x42000001500 + 0x8 * b, 48, 1, .ro, 0⟩
def RB_CAP_STALE (b : Nat) : Fld := ⟨0x42000001500 + 0x8 * b, 49, 1, .ro, 0⟩
def RB_CAP_HELD (b : Nat) : Fld := ⟨0x42000001500 + 0x8 * b, 50, 1, .ro, 0⟩
/-! GL_CTRL (18_gleaner, R562): 32 bits. -/
def GL_CTRL_EN : Fld := ⟨0x41000021000, 0, 1, .rw, 1⟩
def GL_CTRL_REPAIR_EN : Fld := ⟨0x41000021000, 1, 1, .rw, 1⟩
def GL_CTRL_QMASK : Fld := ⟨0x41000021000, 4, 4, .rw, 15⟩
def GL_CTRL_CONFIRM : Fld := ⟨0x41000021000, 16, 16, .wo, 0⟩
/-! GL_STATUS (18_gleaner, R562): 32 bits. -/
def GL_STATUS_WALK : Fld := ⟨0x41000021008, 0, 4, .ro, 0⟩
def GL_STATUS_PAUSE : Fld := ⟨0x41000021008, 4, 1, .ro, 0⟩
def GL_STATUS_REPAIR : Fld := ⟨0x41000021008, 5, 1, .ro, 0⟩
def GL_STATUS_REPQ : Fld := ⟨0x41000021008, 8, 7, .ro, 0⟩
def GL_STATUS_DEFQ : Fld := ⟨0x41000021008, 16, 7, .ro, 0⟩
/-! GL_PASS (18_gleaner, R562): 64 bits. -/
def GL_PASS_PASSES (q : Nat) : Fld := ⟨0x41000021010 + 0x8 * q, 0, 32, .ro, 0⟩
def GL_PASS_LAST_US (q : Nat) : Fld := ⟨0x41000021010 + 0x8 * q, 32, 16, .ro, 0⟩
def GL_PASS_B (q : Nat) : Fld := ⟨0x41000021010 + 0x8 * q, 48, 6, .ro, 0⟩
def GL_PASS_PLANE (q : Nat) : Fld := ⟨0x41000021010 + 0x8 * q, 54, 1, .ro, 0⟩
/-! GL_CNT (18_gleaner, R562): 64 bits. -/
def GL_CNT_CORR : Fld := ⟨0x41000021030, 0, 16, .ro, 0⟩
def GL_CNT_UNC : Fld := ⟨0x41000021030, 16, 16, .ro, 0⟩
def GL_CNT_REPAIRED : Fld := ⟨0x41000021030, 32, 16, .ro, 0⟩
def GL_CNT_ESS : Fld := ⟨0x41000021030, 48, 8, .ro, 0⟩
def GL_CNT_FAILED : Fld := ⟨0x41000021030, 56, 8, .ro, 0⟩
/-! GL_CMD (18_gleaner, R562): 32 bits. -/
def GL_CMD_OP : Fld := ⟨0x41000021038, 0, 4, .wo, 0⟩
/-! GL_CMD_RESULT (18_gleaner, R562): 64 bits. -/
def GL_CMD_RESULT_STATUS : Fld := ⟨0x41000021040, 0, 16, .ro, 0⟩
def GL_CMD_RESULT_OP : Fld := ⟨0x41000021040, 16, 4, .ro, 0⟩
def GL_CMD_RESULT_SEQ : Fld := ⟨0x41000021040, 32, 16, .ro, 0⟩
def GL_CMD_RESULT_VALID : Fld := ⟨0x41000021040, 48, 1, .ro, 0⟩
def GL_CMD_RESULT_STALE : Fld := ⟨0x41000021040, 49, 1, .ro, 0⟩
/-! GL_LOG_POP (18_gleaner, R562): 64 bits. -/
def GL_LOG_POP_KIND : Fld := ⟨0x41000021048, 0, 3, .rs, 0⟩
def GL_LOG_POP_VALID : Fld := ⟨0x41000021048, 3, 1, .rs, 0⟩
def GL_LOG_POP_OVF : Fld := ⟨0x41000021048, 4, 1, .rs, 0⟩
def GL_LOG_POP_PLANE : Fld := ⟨0x41000021048, 5, 1, .rs, 0⟩
def GL_LOG_POP_B : Fld := ⟨0x41000021048, 6, 6, .rs, 0⟩
def GL_LOG_POP_ROW : Fld := ⟨0x41000021048, 12, 3, .rs, 0⟩
def GL_LOG_POP_COL : Fld := ⟨0x41000021048, 15, 6, .rs, 0⟩
def GL_LOG_POP_INDEX : Fld := ⟨0x41000021048, 21, 4, .rs, 0⟩
def GL_LOG_POP_BITOFS : Fld := ⟨0x41000021048, 25, 12, .rs, 0⟩
def GL_LOG_POP_DBL : Fld := ⟨0x41000021048, 37, 1, .rs, 0⟩
def GL_LOG_POP_LOCATED : Fld := ⟨0x41000021048, 38, 1, .rs, 0⟩
def GL_LOG_POP_DETAIL : Fld := ⟨0x41000021048, 39, 16, .rs, 0⟩
/-! GL_LOG_TIME (18_gleaner, R562): 32 bits. -/
def GL_LOG_TIME_TIME : Fld := ⟨0x41000021050, 0, 32, .ro, 0⟩
/-! GL_SET (18_gleaner, R562): 32 bits. -/
def GL_SET_DISAGREE : Fld := ⟨0x41000021058, 0, 16, .ro, 0⟩
def GL_SET_COPY : Fld := ⟨0x41000021058, 16, 2, .ro, 0⟩
/-! GL_WATCH (18_gleaner, R562): 32 bits. -/
def GL_WATCH_HB_TO : Fld := ⟨0x41000021060, 0, 16, .rw, 100⟩
def GL_WATCH_RESET_LIM : Fld := ⟨0x41000021060, 16, 4, .rw, 3⟩
def GL_WATCH_RESETS : Fld := ⟨0x41000021060, 24, 8, .ro, 0⟩
/-! SC_CTRL (19_site_core, R597): 32 bits. -/
def SC_CTRL_DIV : Fld := ⟨0x61001000000, 0, 2, .rw, 1⟩
def SC_CTRL_GO : Fld := ⟨0x61001000000, 2, 1, .w1s, 0⟩
def SC_CTRL_RESET : Fld := ⟨0x61001000000, 3, 1, .wo, 0⟩
/-! SC_STATUS (19_site_core, R597): 32 bits. -/
def SC_STATUS_STATE : Fld := ⟨0x61001000008, 0, 2, .ro, 0⟩
def SC_STATUS_RCAUSE : Fld := ⟨0x61001000008, 2, 3, .ro, 0⟩
def SC_STATUS_RESETS : Fld := ⟨0x61001000008, 8, 8, .ro, 0⟩
def SC_STATUS_BOOTERR : Fld := ⟨0x61001000008, 16, 16, .ro, 0⟩
/-! SC_BOOT (19_site_core, R597): 64 bits. -/
def SC_BOOT_SRC : Fld := ⟨0x61001000010, 0, 1, .rw, 0⟩
def SC_BOOT_ENTRY : Fld := ⟨0x61001000010, 1, 19, .rw, 0⟩
def SC_BOOT_FLASH_ADDR : Fld := ⟨0x61001000010, 32, 32, .rw, 0⟩
/-! SC_SLEEP (19_site_core, R597): 32 bits. -/
def SC_SLEEP_TARGET : Fld := ⟨0x61001000018, 0, 2, .rw, 0⟩
/-! SC_NOCERR (19_site_core, R597): 64 bits. -/
def SC_NOCERR_ADDR : Fld := ⟨0x61001000020, 0, 44, .ro, 0⟩
def SC_NOCERR_WR : Fld := ⟨0x61001000020, 44, 1, .ro, 0⟩
def SC_NOCERR_STATUS : Fld := ⟨0x61001000020, 48, 16, .ro, 0⟩
/-! SC_WIN (19_site_core, R597): 32 bits. -/
def SC_WIN_BASE (w : Nat) : Fld := ⟨0x61001000040 + 0x8 * w, 0, 16, .rw, (scWin w)⟩
/-! SC_EVT_EN (19_site_core, R597): 32 bits. -/
def SC_EVT_EN_EN : Fld := ⟨0x61001000080, 1, 18, .rw, 0⟩
/-! SC_EVT_POP (19_site_core, R597): 64 bits. -/
def SC_EVT_POP_CODE : Fld := ⟨0x61001000088, 0, 16, .rs, 0⟩
def SC_EVT_POP_VALID : Fld := ⟨0x61001000088, 16, 1, .rs, 0⟩
def SC_EVT_POP_OVF : Fld := ⟨0x61001000088, 17, 1, .rs, 0⟩
def SC_EVT_POP_UNIT : Fld := ⟨0x61001000088, 18, 14, .rs, 0⟩
def SC_EVT_POP_TIME : Fld := ⟨0x61001000088, 32, 32, .rs, 0⟩
/-! IC_CTRL (19_site_core, R597): 32 bits. -/
def IC_CTRL_THRESH : Fld := ⟨0x61001001000, 0, 4, .rw, 0⟩
/-! IC_STAT (19_site_core, R597): 32 bits. -/
def IC_STAT_LEVEL : Fld := ⟨0x61001001008, 0, 4, .ro, 0⟩
def IC_STAT_DEPTH : Fld := ⟨0x61001001008, 4, 4, .ro, 0⟩
def IC_STAT_SRC : Fld := ⟨0x61001001008, 8, 9, .ro, 0⟩
def IC_STAT_SPFAULT : Fld := ⟨0x61001001008, 17, 1, .w1c, 0⟩
def IC_STAT_SLEEPLOST : Fld := ⟨0x61001001008, 18, 14, .ro, 0⟩
/-! IC_VTBASE (19_site_core, R597): 32 bits. -/
def IC_VTBASE_ADDR : Fld := ⟨0x61001001010, 0, 32, .rw, 0⟩
/-! IC_SP (19_site_core, R597): 32 bits. -/
def IC_SP_ADDR : Fld := ⟨0x61001001018, 0, 32, .rw, 0⟩
/-! IC_SPLIM (19_site_core, R597): 32 bits. -/
def IC_SPLIM_ADDR : Fld := ⟨0x61001001020, 0, 32, .rw, 0⟩
/-! IC_PINSEL (19_site_core, R597): 32 bits. -/
def IC_PINSEL_PIN (j : Nat) : Fld := ⟨0x61001001100 + 0x4 * j, 0, 9, .rw, 0⟩
/-! IC_WAKE (19_site_core, R597): 32 bits. -/
def IC_WAKE_SRC (n : Nat) : Fld := ⟨0x61001001200 + 0x4 * n, 0, 9, .rw, 0⟩
def IC_WAKE_EN (n : Nat) : Fld := ⟨0x61001001200 + 0x4 * n, 9, 1, .rw, 0⟩
/-! IC_SRC (19_site_core, R597): 32 bits. -/
def IC_SRC_PRIO (s : Nat) : Fld := ⟨0x61001002000 + 0x4 * s, 0, 4, .rw, 0⟩
def IC_SRC_SENSE (s : Nat) : Fld := ⟨0x61001002000 + 0x4 * s, 4, 3, .rw, 0⟩
def IC_SRC_IE (s : Nat) : Fld := ⟨0x61001002000 + 0x4 * s, 7, 1, .rw, 0⟩
def IC_SRC_IP (s : Nat) : Fld := ⟨0x61001002000 + 0x4 * s, 8, 1, .ro, 0⟩
def IC_SRC_ACTIVE (s : Nat) : Fld := ⟨0x61001002000 + 0x4 * s, 9, 1, .ro, 0⟩
def IC_SRC_SETPEND (s : Nat) : Fld := ⟨0x61001002000 + 0x4 * s, 10, 1, .wo, 0⟩
def IC_SRC_CLRPEND (s : Nat) : Fld := ⟨0x61001002000 + 0x4 * s, 11, 1, .wo, 0⟩
/-! IC_DOORBELL (19_site_core, R597): 32 bits. -/
def IC_DOORBELL_RING (w : Nat) : Fld := ⟨0x61001003000 + 0x4 * w, 0, 32, .w1s, 0⟩
/-! TM_CTRL (19_site_core, R597): 32 bits. -/
def TM_CTRL_ARM (n : Nat) : Fld := ⟨0x61001004000 + 0x20 * n, 0, 1, .w1s, 0⟩
def TM_CTRL_DISARM (n : Nat) : Fld := ⟨0x61001004000 + 0x20 * n, 1, 1, .wo, 0⟩
def TM_CTRL_PERIODIC (n : Nat) : Fld := ⟨0x61001004000 + 0x20 * n, 2, 1, .rw, 0⟩
def TM_CTRL_FIRED (n : Nat) : Fld := ⟨0x61001004000 + 0x20 * n, 3, 1, .w1c, 0⟩
def TM_CTRL_MISSED (n : Nat) : Fld := ⟨0x61001004000 + 0x20 * n, 16, 16, .ro, 0⟩
/-! TM_TARGET (19_site_core, R597): 64 bits. -/
def TM_TARGET_TARGET (n : Nat) : Fld := ⟨0x61001004008 + 0x20 * n, 0, 48, .rw, 0⟩
/-! TM_PERIOD (19_site_core, R597): 64 bits. -/
def TM_PERIOD_PERIOD (n : Nat) : Fld := ⟨0x61001004010 + 0x20 * n, 0, 64, .rw, 0⟩
/-! WDG_CTRL (19_site_core, R597): 64 bits. -/
def WDG_CTRL_EN : Fld := ⟨0x61001005000, 0, 1, .rw, 0⟩
def WDG_CTRL_LOCK : Fld := ⟨0x61001005000, 1, 1, .w1s, 0⟩
def WDG_CTRL_SLEEP_HOLD : Fld := ⟨0x61001005000, 2, 1, .rw, 0⟩
def WDG_CTRL_LOAD : Fld := ⟨0x61001005000, 32, 32, .rw, 1000000⟩
/-! WDG_KICK (19_site_core, R597): 32 bits. -/
def WDG_KICK_KEY : Fld := ⟨0x61001005008, 0, 16, .wo, 0⟩
/-! WDG_STAT (19_site_core, R597): 64 bits. -/
def WDG_STAT_COUNT : Fld := ⟨0x61001005010, 0, 32, .ro, 1000000⟩
def WDG_STAT_WARN : Fld := ⟨0x61001005010, 32, 1, .ro, 0⟩
def WDG_STAT_FROZEN : Fld := ⟨0x61001005010, 33, 1, .ro, 0⟩
def WDG_STAT_EXPIRIES : Fld := ⟨0x61001005010, 48, 16, .ro, 0⟩
/-! WDG_WARNAT (19_site_core, R597): 32 bits. -/
def WDG_WARNAT_WARNAT : Fld := ⟨0x61001005018, 0, 32, .rw, 100000⟩
/-! SP_CFG (19_site_core, R597): 32 bits. -/
def SP_CFG_MODE (k : Nat) : Fld := ⟨0x61001006000 + 0x100 * k, 0, 2, .rw, 0⟩
def SP_CFG_FLOW (k : Nat) : Fld := ⟨0x61001006000 + 0x100 * k, 2, 1, .rw, 0⟩
def SP_CFG_PARITY (k : Nat) : Fld := ⟨0x61001006000 + 0x100 * k, 3, 2, .rw, 0⟩
def SP_CFG_STOP2 (k : Nat) : Fld := ⟨0x61001006000 + 0x100 * k, 5, 1, .rw, 0⟩
def SP_CFG_CPOL (k : Nat) : Fld := ⟨0x61001006000 + 0x100 * k, 6, 1, .rw, 0⟩
def SP_CFG_CPHA (k : Nat) : Fld := ⟨0x61001006000 + 0x100 * k, 7, 1, .rw, 0⟩
def SP_CFG_DIV (k : Nat) : Fld := ⟨0x61001006000 + 0x100 * k, 16, 16, .rw, 868⟩
/-! SP_CMD (19_site_core, R597): 32 bits. -/
def SP_CMD_WLEN (k : Nat) : Fld := ⟨0x61001006008 + 0x100 * k, 0, 5, .wo, 0⟩
def SP_CMD_RLEN (k : Nat) : Fld := ⟨0x61001006008 + 0x100 * k, 5, 5, .wo, 0⟩
def SP_CMD_ADDR (k : Nat) : Fld := ⟨0x61001006008 + 0x100 * k, 10, 7, .wo, 0⟩
def SP_CMD_KEEP_CS (k : Nat) : Fld := ⟨0x61001006008 + 0x100 * k, 17, 1, .wo, 0⟩
/-! SP_DATA_POP (19_site_core, R597): 32 bits. -/
def SP_DATA_POP_BYTE (k : Nat) : Fld := ⟨0x61001006010 + 0x100 * k, 0, 8, .rs, 0⟩
def SP_DATA_POP_VALID (k : Nat) : Fld := ⟨0x61001006010 + 0x100 * k, 8, 1, .rs, 0⟩
def SP_DATA_POP_ERR (k : Nat) : Fld := ⟨0x61001006010 + 0x100 * k, 9, 1, .rs, 0⟩
/-! SP_RESULT (19_site_core, R597): 64 bits. -/
def SP_RESULT_STATUS (k : Nat) : Fld := ⟨0x61001006018 + 0x100 * k, 0, 16, .ro, 0⟩
def SP_RESULT_TXFILL (k : Nat) : Fld := ⟨0x61001006018 + 0x100 * k, 16, 5, .ro, 0⟩
def SP_RESULT_RXFILL (k : Nat) : Fld := ⟨0x61001006018 + 0x100 * k, 21, 5, .ro, 0⟩
def SP_RESULT_SEQ (k : Nat) : Fld := ⟨0x61001006018 + 0x100 * k, 32, 16, .ro, 0⟩
def SP_RESULT_VALID (k : Nat) : Fld := ⟨0x61001006018 + 0x100 * k, 48, 1, .ro, 0⟩
def SP_RESULT_STALE (k : Nat) : Fld := ⟨0x61001006018 + 0x100 * k, 49, 1, .ro, 0⟩
/-! MB_DOORBELL (20_object_dictionary, R628): 32 bits. -/
def MB_DOORBELL_LEN : Fld := ⟨0x100000001000, 0, 11, .wo, 0⟩
/-! MB_STATUS (20_object_dictionary, R628): 32 bits. -/
def MB_STATUS_BUSY : Fld := ⟨0x100000001008, 0, 1, .ro, 0⟩
def MB_STATUS_DONE : Fld := ⟨0x100000001008, 1, 1, .w1c, 0⟩
def MB_STATUS_RLEN : Fld := ⟨0x100000001008, 2, 11, .ro, 0⟩
/-! MB_RESULT (20_object_dictionary, R628): 64 bits. -/
def MB_RESULT_STATUS : Fld := ⟨0x100000001010, 0, 16, .ro, 0⟩
def MB_RESULT_SEQ : Fld := ⟨0x100000001010, 32, 16, .ro, 0⟩
def MB_RESULT_VALID : Fld := ⟨0x100000001010, 48, 1, .ro, 0⟩
def MB_RESULT_STALE : Fld := ⟨0x100000001010, 49, 1, .ro, 0⟩
/-! UO_BASE (20_object_dictionary, R628): 64 bits. -/
def UO_BASE_ADDR : Fld := ⟨0x41000022000, 0, 44, .rw, 0⟩
/-! UO_CMD (20_object_dictionary, R628): 32 bits. -/
def UO_CMD_COUNT : Fld := ⟨0x41000022008, 0, 11, .wo, 0⟩
def UO_CMD_OP : Fld := ⟨0x41000022008, 11, 2, .wo, 0⟩
/-! UO_RESULT (20_object_dictionary, R628): 64 bits. -/
def UO_RESULT_STATUS : Fld := ⟨0x41000022010, 0, 16, .ro, 0⟩
def UO_RESULT_ENTRY : Fld := ⟨0x41000022010, 16, 10, .ro, 0⟩
def UO_RESULT_SEQ : Fld := ⟨0x41000022010, 32, 16, .ro, 0⟩
def UO_RESULT_VALID : Fld := ⟨0x41000022010, 48, 1, .ro, 0⟩
def UO_RESULT_STALE : Fld := ⟨0x41000022010, 49, 1, .ro, 0⟩
/-! DBG_SC_CTRL (21_debug, R646): 32 bits. -/
def DBG_SC_CTRL_ATTACH : Fld := ⟨0xa1000000000, 0, 1, .rw, 0⟩
def DBG_SC_CTRL_HALTREQ : Fld := ⟨0xa1000000000, 1, 1, .wo, 0⟩
def DBG_SC_CTRL_RESUME : Fld := ⟨0xa1000000000, 2, 1, .wo, 0⟩
def DBG_SC_CTRL_STEP : Fld := ⟨0xa1000000000, 3, 1, .wo, 0⟩
def DBG_SC_CTRL_RESET : Fld := ⟨0xa1000000000, 4, 1, .wo, 0⟩
def DBG_SC_CTRL_HALTRESET : Fld := ⟨0xa1000000000, 5, 1, .rw, 0⟩
def DBG_SC_CTRL_STEPIE : Fld := ⟨0xa1000000000, 6, 1, .rw, 0⟩
def DBG_SC_CTRL_EBREAKM : Fld := ⟨0xa1000000000, 7, 1, .rw, 0⟩
/-! DBG_SC_STAT (21_debug, R646): 32 bits. -/
def DBG_SC_STAT_HALTED : Fld := ⟨0xa1000000008, 0, 1, .ro, 0⟩
def DBG_SC_STAT_DEFERRED : Fld := ⟨0xa1000000008, 1, 1, .ro, 0⟩
def DBG_SC_STAT_EMUL : Fld := ⟨0xa1000000008, 2, 1, .ro, 0⟩
def DBG_SC_STAT_CAUSE : Fld := ⟨0xa1000000008, 3, 3, .ro, 0⟩
def DBG_SC_STAT_IDX : Fld := ⟨0xa1000000008, 6, 4, .ro, 0⟩
/-! DBG_SC_REGCMD (21_debug, R646): 64 bits. -/
def DBG_SC_REGCMD_REGNO : Fld := ⟨0xa1000000010, 0, 13, .wo, 0⟩
def DBG_SC_REGCMD_WRITE : Fld := ⟨0xa1000000010, 13, 1, .wo, 0⟩
def DBG_SC_REGCMD_DATA : Fld := ⟨0xa1000000010, 32, 32, .wo, 0⟩
/-! DBG_SC_REGDATA (21_debug, R646): 32 bits. -/
def DBG_SC_REGDATA_DATA : Fld := ⟨0xa1000000018, 0, 32, .ro, 0⟩
/-! DBG_SC_REGRES (21_debug, R646): 64 bits. -/
def DBG_SC_REGRES_STATUS : Fld := ⟨0xa1000000020, 0, 16, .ro, 0⟩
def DBG_SC_REGRES_SEQ : Fld := ⟨0xa1000000020, 32, 16, .ro, 0⟩
def DBG_SC_REGRES_VALID : Fld := ⟨0xa1000000020, 48, 1, .ro, 0⟩
def DBG_SC_REGRES_STALE : Fld := ⟨0xa1000000020, 49, 1, .ro, 0⟩
/-! DBG_BP (21_debug, R646): 32 bits. -/
def DBG_BP_EN (n : Nat) : Fld := ⟨0xa1000000040 + 0x8 * n, 0, 1, .rw, 0⟩
def DBG_BP_ADDR (n : Nat) : Fld := ⟨0xa1000000040 + 0x8 * n, 1, 31, .rw, 0⟩
/-! DBG_WP (21_debug, R646): 64 bits. -/
def DBG_WP_ADDR (n : Nat) : Fld := ⟨0xa1000000080 + 0x8 * n, 0, 32, .rw, 0⟩
def DBG_WP_LOG2SIZE (n : Nat) : Fld := ⟨0xa1000000080 + 0x8 * n, 32, 4, .rw, 2⟩
def DBG_WP_KIND (n : Nat) : Fld := ⟨0xa1000000080 + 0x8 * n, 36, 2, .rw, 0⟩
/-! DBG_SQ_CTRL (21_debug, R649): 32 bits. -/
def DBG_SQ_CTRL_CMD (b : Nat) (a : Nat) : Fld := ⟨rp b 3 + 0x8000 + 0x40 * a, 0, 2, .wo, 0⟩
/-! DBG_SQ_BP (21_debug, R649): 32 bits. -/
def DBG_SQ_BP_BP_0 (b : Nat) (a : Nat) : Fld := ⟨rp b 3 + 0x8008 + 0x40 * a, 0, 11, .rw, 0⟩
def DBG_SQ_BP_EN_0 (b : Nat) (a : Nat) : Fld := ⟨rp b 3 + 0x8008 + 0x40 * a, 11, 1, .rw, 0⟩
def DBG_SQ_BP_BP_1 (b : Nat) (a : Nat) : Fld := ⟨rp b 3 + 0x8008 + 0x40 * a, 12, 11, .rw, 0⟩
def DBG_SQ_BP_EN_1 (b : Nat) (a : Nat) : Fld := ⟨rp b 3 + 0x8008 + 0x40 * a, 23, 1, .rw, 0⟩
/-! DBG_SQ_STAT (21_debug, R649): 32 bits. -/
def DBG_SQ_STAT_HALTED (b : Nat) (a : Nat) : Fld := ⟨rp b 3 + 0x8010 + 0x40 * a, 0, 1, .ro, 0⟩
def DBG_SQ_STAT_PENDHALT (b : Nat) (a : Nat) : Fld := ⟨rp b 3 + 0x8010 + 0x40 * a, 1, 1, .ro, 0⟩
def DBG_SQ_STAT_CAUSE (b : Nat) (a : Nat) : Fld := ⟨rp b 3 + 0x8010 + 0x40 * a, 2, 2, .ro, 0⟩
def DBG_SQ_STAT_BPIDX (b : Nat) (a : Nat) : Fld := ⟨rp b 3 + 0x8010 + 0x40 * a, 4, 1, .ro, 0⟩
def DBG_SQ_STAT_HELDBP (b : Nat) (a : Nat) : Fld := ⟨rp b 3 + 0x8010 + 0x40 * a, 5, 1, .ro, 0⟩
def DBG_SQ_STAT_LAST (b : Nat) (a : Nat) : Fld := ⟨rp b 3 + 0x8010 + 0x40 * a, 16, 16, .ro, 0⟩
/-! DBG_SQ_SEL (21_debug, R649): 32 bits. -/
def DBG_SQ_SEL_ITEM (b : Nat) (a : Nat) : Fld := ⟨rp b 3 + 0x8018 + 0x40 * a, 0, 3, .rw, 0⟩
def DBG_SQ_SEL_NUM (b : Nat) (a : Nat) : Fld := ⟨rp b 3 + 0x8018 + 0x40 * a, 3, 4, .rw, 0⟩
def DBG_SQ_SEL_LANE (b : Nat) (a : Nat) : Fld := ⟨rp b 3 + 0x8018 + 0x40 * a, 7, 3, .rw, 0⟩
/-! DBG_SQ_DATA (21_debug, R649): 64 bits. -/
def DBG_SQ_DATA_DATA (b : Nat) (a : Nat) : Fld := ⟨rp b 3 + 0x8020 + 0x40 * a, 0, 64, .rw, 0⟩
/-! DBG_TXDATA (21_debug, R650): 32 bits. -/
def DBG_TXDATA_DATA : Fld := ⟨0x61001007000, 0, 32, .rw, 0⟩
/-! DBG_RXDATA (21_debug, R650): 32 bits. -/
def DBG_RXDATA_DATA : Fld := ⟨0x61001007008, 0, 32, .rw, 0⟩
/-! DBG_VT_FLAGS (21_debug, R650): 32 bits. -/
def DBG_VT_FLAGS_TXFULL : Fld := ⟨0x61001007010, 0, 1, .w1c, 0⟩
def DBG_VT_FLAGS_RXFULL : Fld := ⟨0x61001007010, 1, 1, .w1c, 0⟩
def DBG_VT_FLAGS_TXOVR : Fld := ⟨0x61001007010, 8, 8, .ro, 0⟩
def DBG_VT_FLAGS_RXOVR : Fld := ⟨0x61001007010, 16, 8, .ro, 0⟩
/-! HM_CTRL (22_health_ageing, R669): 32 bits. -/
def HM_CTRL_AUTO_EYE : Fld := ⟨0x41000023000, 0, 1, .rw, 1⟩
def HM_CTRL_KC : Fld := ⟨0x41000023000, 8, 8, .rw, 48⟩
def HM_CTRL_EOL_WARN : Fld := ⟨0x41000023000, 16, 16, .rw, 365⟩
/-! HM_EOL (22_health_ageing, R669): 64 bits. -/
def HM_EOL_DAYS_LO : Fld := ⟨0x41000023008, 0, 32, .ro, 4294967295⟩
def HM_EOL_MON : Fld := ⟨0x41000023008, 32, 9, .ro, 0⟩
def HM_EOL_VALID : Fld := ⟨0x41000023008, 41, 1, .ro, 0⟩
/-! HM_CMD (22_health_ageing, R669): 32 bits. -/
def HM_CMD_OP : Fld := ⟨0x41000023010, 0, 4, .wo, 0⟩
def HM_CMD_MON : Fld := ⟨0x41000023010, 4, 9, .wo, 0⟩
/-! HM_CMD_RESULT (22_health_ageing, R669): 64 bits. -/
def HM_CMD_RESULT_STATUS : Fld := ⟨0x41000023018, 0, 16, .ro, 0⟩
def HM_CMD_RESULT_MON : Fld := ⟨0x41000023018, 16, 9, .ro, 0⟩
def HM_CMD_RESULT_SEQ : Fld := ⟨0x41000023018, 32, 16, .ro, 0⟩
def HM_CMD_RESULT_VALID : Fld := ⟨0x41000023018, 48, 1, .ro, 0⟩
def HM_CMD_RESULT_STALE : Fld := ⟨0x41000023018, 49, 1, .ro, 0⟩
/-! HM_VAL (22_health_ageing, R669): 64 bits. -/
def HM_VAL_VALUE (m : Nat) : Fld := ⟨0x241000024000 + 0x8 * m, 0, 32, .ro, 0⟩
def HM_VAL_VALID (m : Nat) : Fld := ⟨0x241000024000 + 0x8 * m, 32, 1, .ro, 0⟩
def HM_VAL_WARN (m : Nat) : Fld := ⟨0x241000024000 + 0x8 * m, 33, 1, .ro, 0⟩
def HM_VAL_ALARM (m : Nat) : Fld := ⟨0x241000024000 + 0x8 * m, 34, 1, .ro, 0⟩
def HM_VAL_BASED (m : Nat) : Fld := ⟨0x241000024000 + 0x8 * m, 35, 1, .ro, 0⟩
def HM_VAL_N (m : Nat) : Fld := ⟨0x241000024000 + 0x8 * m, 48, 16, .ro, 0⟩
/-! HM_THR (22_health_ageing, R669): 64 bits. -/
def HM_THR_WARN (m : Nat) : Fld := ⟨0x241000025000 + 0x8 * m, 0, 32, .rw, (hm654 1 m)⟩
def HM_THR_ALARM (m : Nat) : Fld := ⟨0x241000025000 + 0x8 * m, 32, 32, .rw, (hm654 2 m)⟩
/-! HM_PRED (22_health_ageing, R669): 64 bits. -/
def HM_PRED_DAYS (m : Nat) : Fld := ⟨0x241000026000 + 0x8 * m, 0, 32, .ro, 4294967295⟩
def HM_PRED_DAYS_LO (m : Nat) : Fld := ⟨0x241000026000 + 0x8 * m, 32, 32, .ro, 4294967295⟩
/-! SEC_STATUS (23_security, R688): 32 bits. -/
def SEC_STATUS_EF_PRESENT : Fld := ⟨0x41000024000, 0, 1, .ro, 0⟩
def SEC_STATUS_RAM_PRESENT : Fld := ⟨0x41000024000, 1, 1, .ro, 0⟩
def SEC_STATUS_TAMPER : Fld := ⟨0x41000024000, 2, 1, .ro, 0⟩
def SEC_STATUS_TAMPER_SEEN : Fld := ⟨0x41000024000, 3, 1, .ro, 0⟩
def SEC_STATUS_VBATT_LOST : Fld := ⟨0x41000024000, 4, 1, .ro, 0⟩
def SEC_STATUS_OPEN : Fld := ⟨0x41000024000, 5, 1, .ro, 1⟩
def SEC_STATUS_FW_SLOT : Fld := ⟨0x41000024000, 6, 1, .ro, 0⟩
def SEC_STATUS_RB : Fld := ⟨0x41000024000, 8, 7, .ro, 0⟩
def SEC_STATUS_FW_RB : Fld := ⟨0x41000024000, 16, 6, .ro, 0⟩
/-! PWR_STATUS (24_power_reset_insertion, R711): 32 bits. -/
def PWR_STATUS_GOOD : Fld := ⟨0x41000025000, 0, 18, .ro, 0⟩
def PWR_STATUS_INSERT : Fld := ⟨0x41000025000, 18, 1, .ro, 0⟩
def PWR_STATUS_THERM : Fld := ⟨0x41000025000, 19, 1, .ro, 0⟩
/-! PWR_CTRL (24_power_reset_insertion, R711): 32 bits. -/
def PWR_CTRL_THERM_SHUT : Fld := ⟨0x41000025008, 0, 8, .rw, 118⟩
def PWR_CTRL_THERM_HOT : Fld := ⟨0x41000025008, 8, 8, .rw, 105⟩
/-! PWR_EVT (24_power_reset_insertion, R711): 32 bits. -/
def PWR_EVT_RAIL_LOST : Fld := ⟨0x41000025010, 0, 1, .w1c, 0⟩
def PWR_EVT_RAIL_GOOD : Fld := ⟨0x41000025010, 1, 1, .w1c, 0⟩
def PWR_EVT_REMOVAL : Fld := ⟨0x41000025010, 2, 1, .w1c, 0⟩
def PWR_EVT_SHUT : Fld := ⟨0x41000025010, 3, 1, .w1c, 0⟩
def PWR_EVT_HOT : Fld := ⟨0x41000025010, 4, 1, .w1c, 0⟩
def PWR_EVT_FAB_OFF : Fld := ⟨0x41000025010, 5, 1, .w1c, 0⟩
def PWR_EVT_INSERT_POR : Fld := ⟨0x41000025010, 6, 1, .w1c, 0⟩
/-! PWR_LOG (24_power_reset_insertion, R711): 64 bits. -/
def PWR_LOG_LAST_LOST : Fld := ⟨0x41000025018, 0, 5, .ro, 31⟩
def PWR_LOG_REMOVALS : Fld := ⟨0x41000025018, 8, 16, .ro, 0⟩
def PWR_LOG_TIME : Fld := ⟨0x41000025018, 32, 32, .ro, 0⟩
/-! IO_STATUS (25_package_electrical, R734): 32 bits. -/
def IO_STATUS_STATE : Fld := ⟨0x41000026000, 0, 2, .ro, 0⟩
def IO_STATUS_MATCH : Fld := ⟨0x41000026000, 2, 1, .ro, 0⟩
def IO_STATUS_VCCO_OK : Fld := ⟨0x41000026000, 8, 8, .ro, 0⟩
/-! IO_BANK (25_package_electrical, R734): 32 bits. -/
def IO_BANK_VCCO (n : Nat) : Fld := ⟨0x41000026020 + 0x4 * n, 0, 3, .ro, 0⟩
/-! IO_PIN (25_package_electrical, R734): 32 bits. -/
def IO_PIN_STD (p : Nat) : Fld := ⟨0x41000026100 + 0x4 * p, 0, 4, .ro, 0⟩
def IO_PIN_DIR (p : Nat) : Fld := ⟨0x41000026100 + 0x4 * p, 4, 2, .ro, 0⟩
def IO_PIN_DRIVE (p : Nat) : Fld := ⟨0x41000026100 + 0x4 * p, 6, 3, .ro, 0⟩
def IO_PIN_SLEW (p : Nat) : Fld := ⟨0x41000026100 + 0x4 * p, 9, 2, .ro, 0⟩
def IO_PIN_PULL (p : Nat) : Fld := ⟨0x41000026100 + 0x4 * p, 11, 2, .ro, 0⟩
def IO_PIN_TERM (p : Nat) : Fld := ⟨0x41000026100 + 0x4 * p, 13, 1, .ro, 0⟩
/-! EV_BASE (15_host_link_events, R485): 64 bits. -/
def EV_BASE_BASE (n : Nat) : Fld := ⟨0x21000000100 + 0x40 * n, 0, 64, .rw, 0⟩
/-! EV_CFG (15_host_link_events, R485): 64 bits. -/
def EV_CFG_EN (n : Nat) : Fld := ⟨0x21000000108 + 0x40 * n, 0, 1, .rw, 0⟩
def EV_CFG_LOG2 (n : Nat) : Fld := ⟨0x21000000108 + 0x40 * n, 1, 5, .rw, 4⟩
def EV_CFG_VEC (n : Nat) : Fld := ⟨0x21000000108 + 0x40 * n, 6, 6, .rw, 0⟩
def EV_CFG_IM_CNT (n : Nat) : Fld := ⟨0x21000000108 + 0x40 * n, 12, 8, .rw, 1⟩
def EV_CFG_IM_US (n : Nat) : Fld := ⟨0x21000000108 + 0x40 * n, 20, 16, .rw, 0⟩
def EV_CFG_TYPEMASK (n : Nat) : Fld := ⟨0x21000000108 + 0x40 * n, 36, 4, .rw, 0⟩
def EV_CFG_BLOCKS (n : Nat) : Fld := ⟨0x21000000108 + 0x40 * n, 40, 17, .rw, 0⟩
/-! EV_HEAD (15_host_link_events, R485): 32 bits. -/
def EV_HEAD_HEAD (n : Nat) : Fld := ⟨0x21000000110 + 0x40 * n, 0, 32, .rw, 0⟩
/-! EV_TAIL (15_host_link_events, R485): 32 bits. -/
def EV_TAIL_TAIL (n : Nat) : Fld := ⟨0x21000000118 + 0x40 * n, 0, 32, .ro, 0⟩
/-! EV_STAT (15_host_link_events, R485): 64 bits. -/
def EV_STAT_LOST (n : Nat) : Fld := ⟨0x21000000120 + 0x40 * n, 0, 32, .ro, 0⟩
def EV_STAT_FULL (n : Nat) : Fld := ⟨0x21000000120 + 0x40 * n, 32, 1, .ro, 0⟩
def EV_STAT_FIFO (n : Nat) : Fld := ⟨0x21000000120 + 0x40 * n, 33, 6, .ro, 0⟩
def EV_STAT_BADHEAD (n : Nat) : Fld := ⟨0x21000000120 + 0x40 * n, 48, 16, .ro, 0⟩
/-! DMA_BASE (15_host_link_events, R485): 64 bits. -/
def DMA_BASE_BASE (e : Nat) : Fld := ⟨0x21000000200 + 0x40 * e, 0, 64, .rw, 0⟩
/-! DMA_CFG (15_host_link_events, R485): 32 bits. -/
def DMA_CFG_EN (e : Nat) : Fld := ⟨0x21000000208 + 0x40 * e, 0, 1, .rw, 0⟩
def DMA_CFG_LOG2 (e : Nat) : Fld := ⟨0x21000000208 + 0x40 * e, 1, 4, .rw, 4⟩
def DMA_CFG_RING (e : Nat) : Fld := ⟨0x21000000208 + 0x40 * e, 5, 2, .rw, 0⟩
/-! DMA_PI (15_host_link_events, R485): 32 bits. -/
def DMA_PI_PI (e : Nat) : Fld := ⟨0x21000000210 + 0x40 * e, 0, 32, .rw, 0⟩
/-! DMA_CI (15_host_link_events, R485): 32 bits. -/
def DMA_CI_CI (e : Nat) : Fld := ⟨0x21000000218 + 0x40 * e, 0, 32, .ro, 0⟩
/-! DMA_STAT (15_host_link_events, R485): 64 bits. -/
def DMA_STAT_STATE (e : Nat) : Fld := ⟨0x21000000220 + 0x40 * e, 0, 2, .ro, 0⟩
def DMA_STAT_HALT_CODE (e : Nat) : Fld := ⟨0x21000000220 + 0x40 * e, 16, 16, .ro, 0⟩
def DMA_STAT_DONE (e : Nat) : Fld := ⟨0x21000000220 + 0x40 * e, 32, 32, .ro, 0⟩

end R

/-- The registers of the map, by name. -/
inductive RegName where
  | DEV_MODE | DEV_MODE_REQ | DEV_MODE_RESULT | DEV_WAKE | DR_CTRL | DR_STATUS | DR_MEAS | DR_TRIM_SAVED | DR_EVT | BM_CTRL | BM_CNT | BM_ERR_POP | BM_INJECT | SL_RES_P | SL_RES_S | SL_CTRL | SL_OVF_MAP | SQ_CMD | SQ_STATUS | SQ_FAULT | SQ_CNT | SQ_HOLDOFF | SQ_CMD_RESULT | SQ_SIG | CK_STATUS | CK_EVT_POP | MON_CFG | MON_STAT | CP_CFG | CP_OUT | CP_MUX | GCL_MUX | GCL_CFG | CLKOUT | BCK | SQCK | OP_REQ | OP_STATUS | OP_RESULT | TP_STATUS | TP_NOW | TP_INC_BASE | TP_INC | TP_DINC | TPLL_CFG | TP_STEP | TP_SLEW | TP_SLEW_REM | TP_ADJ_RESULT | TP_EVT | TPLL_MUX | SRV_CTRL | SRV_GAIN | SRV_LIM | SRV_OFFS_WR | SRV_CMD | SRV_STAT | SRV_INTEG | SRV_THETA | SRV_RESULT | PPS_CFG | PPS_DLY | PPS_EXP | PPS_STAT | FD_CFG | FD_RES | HO_CTRL | HO_TEMP | HO_TEMP_WR | HO_STAT | HO_COEF_0 | HO_COEF_1 | HO_COEF_2 | HO_PRED | HO_EACC | HO_LAST | TL_STATUS | TL_CMD | TL_CMD_RESULT | TL_LOG_POP | TL_ARMED | TL_BSET | TL_SLOT_CTRL | TL_SLOT_TARGET | TL_SLOT_PERIOD | TL_SLOT_DEST | TL_SLOT_STAT | TL_SLOT_LAST | CU_CFG | CU_POP | CU_STAT | TRG_SW | NOC_CTRL | NOC_STATUS | NOC_CNT | NOC_CNT_CLR | NOC_ERR_POP | NOC_TBL | NOC_LINK | NOC_EPOCH | NOC_EPOCH_CMD | NOC_EPOCH_RESULT | NOC_EPOCH_OLD | GR_CTRL | GR_CMD | GR_CMD_RESULT | GR_ERR_POP | GR_INJECT | GB_STATUS | GB_CNT | GB_SPARE | GB_CONF | QD_PLL | LN_CFG | LN_STAT | LN_EQ_TX | LN_EQ_RX | LN_CMD | LN_RESULT | LN_PRBS_CFG | LN_PRBS_USER | LN_PRBS_BITS | LN_PRBS_ERR | LN_EYE_CFG | LN_EYE_RES0 | LN_EYE_RES1 | ST_CFG | ST_RX_WR | ST_RX_RD | ST_CNT | ST_MARK_TIME | ST_MARK_POS | ST_MARK_FLAGS | JS_CFG | LL_CFG | LL_STAT | PE_CFG | PE_STATUS | CH_CFG | CH_STAT | CH_TS_DLY | CH_RXMAP | CH_TXQ_ENQ | CH_TXTS_POP | CH_TXTS_FRAC | CH_CNT_RX | CH_CNT_TX | CH_CNT_FEC | CH_RXQ_POP | CH_RXQ_TS | CH_QBV_CTRL | CH_QBV_CYCLE | CH_GCL | LOFT_FREE | LOFT_BOOK | LOFT_CMD | LOFT_CNT | PE_TOD | PE_TOD_S | LOFT_CH | LOFT_USE | LOFT_RESULT | HL_STATUS | HL_CFG_RESULT | HL_ERR_POP | HL_MSIX_SEND | HL_APT | LD_STATUS | LD_CTRL | LD_ARG | LD_CMD | LD_RESULT | LD_ERR_POP | LD_ERR_LOC | LD_PROG | LD_PART_STAT | PT_STAT | PT_BOUGHS | PT_CTRL | PT_SWAP_POP | RB_MASK | RB_CMD | RB_SEL | RB_RESULT | RB_CAP | GL_CTRL | GL_STATUS | GL_PASS | GL_CNT | GL_CMD | GL_CMD_RESULT | GL_LOG_POP | GL_LOG_TIME | GL_SET | GL_WATCH | SC_CTRL | SC_STATUS | SC_BOOT | SC_SLEEP | SC_NOCERR | SC_WIN | SC_EVT_EN | SC_EVT_POP | IC_CTRL | IC_STAT | IC_VTBASE | IC_SP | IC_SPLIM | IC_PINSEL | IC_WAKE | IC_SRC | IC_DOORBELL | TM_CTRL | TM_TARGET | TM_PERIOD | WDG_CTRL | WDG_KICK | WDG_STAT | WDG_WARNAT | SP_CFG | SP_CMD | SP_DATA_POP | SP_RESULT | MB_DOORBELL | MB_STATUS | MB_RESULT | UO_BASE | UO_CMD | UO_RESULT | DBG_SC_CTRL | DBG_SC_STAT | DBG_SC_REGCMD | DBG_SC_REGDATA | DBG_SC_REGRES | DBG_BP | DBG_WP | DBG_SQ_CTRL | DBG_SQ_BP | DBG_SQ_STAT | DBG_SQ_SEL | DBG_SQ_DATA | DBG_TXDATA | DBG_RXDATA | DBG_VT_FLAGS | HM_CTRL | HM_EOL | HM_CMD | HM_CMD_RESULT | HM_VAL | HM_THR | HM_PRED | SEC_STATUS | PWR_STATUS | PWR_CTRL | PWR_EVT | PWR_LOG | IO_STATUS | IO_BANK | IO_PIN | EV_BASE | EV_CFG | EV_HEAD | EV_TAIL | EV_STAT | DMA_BASE | DMA_CFG | DMA_PI | DMA_CI | DMA_STAT
deriving DecidableEq, Repr

/-- The blocks of the address map in which registers repeat (R36, R37, R393, R456). -/
inductive Blk where
  | abs (base : Nat)
  | router (port off : Nat)
  | gran (off : Nat)
  | port (off : Nat)
  | chan (off : Nat)
  | quad (off : Nat)
  | stq (off : Nat)
deriving DecidableEq, Repr

/-- One register of the map: its name, its block, two further strides with their counts, its width and its fields. -/
structure RegRow where
  name : RegName
  blk : Blk
  d1 : Nat
  n1 : Nat
  d2 : Nat
  n2 : Nat
  width : Nat
  fields : Nat → Nat → Nat → List Fld

/-- The registers of spec chapter 01. -/
def regRows01 : List RegRow :=
  open R in
  [ ⟨.DEV_MODE, .abs 0x41000000000, 0, 1, 0, 1, 32, fun _ _ _ => [DEV_MODE_MODE, DEV_MODE_PREV_MODE, DEV_MODE_BUSY, DEV_MODE_CAUSE, DEV_MODE_STATUS]⟩,
    ⟨.DEV_MODE_REQ, .abs 0x41000000008, 0, 1, 0, 1, 32, fun _ _ _ => [DEV_MODE_REQ_TARGET, DEV_MODE_REQ_CONFIRM]⟩,
    ⟨.DEV_MODE_RESULT, .abs 0x41000000010, 0, 1, 0, 1, 64, fun _ _ _ => [DEV_MODE_RESULT_STATUS, DEV_MODE_RESULT_TARGET, DEV_MODE_RESULT_WAKE, DEV_MODE_RESULT_SEQ, DEV_MODE_RESULT_VALID, DEV_MODE_RESULT_STALE]⟩,
    ⟨.DEV_WAKE, .abs 0x41000000018, 0, 1, 0, 1, 64, fun _ _ _ => [DEV_WAKE_TARGET, DEV_WAKE_ARM, DEV_WAKE_WRAPS]⟩ ]

/-- The registers of spec chapter 03. -/
def regRows03 : List RegRow :=
  open R in
  [ ⟨.DR_CTRL, .router 3 0x1000, 0, 1, 0, 1, 32, fun i0 _ _ => [DR_CTRL_AUTO_DOWN i0, DR_CTRL_EVT_EN i0, DR_CTRL_WARN_STEPS i0]⟩,
    ⟨.DR_STATUS, .router 3 0x1008, 0, 1, 0, 1, 32, fun i0 _ _ => [DR_STATUS_LOCKED i0, DR_STATUS_HOLD i0, DR_STATUS_WARN i0, DR_STATUS_EXHAUSTED i0, DR_STATUS_FLOOR i0, DR_STATUS_UNGUARDED i0, DR_STATUS_HOLD_DRIFT i0, DR_STATUS_OP i0, DR_STATUS_TRIM i0, DR_STATUS_HEADROOM i0]⟩,
    ⟨.DR_MEAS, .router 3 0x1010, 0, 1, 0, 1, 64, fun i0 _ _ => [DR_MEAS_RATIO i0, DR_MEAS_SEQ i0, DR_MEAS_VALID i0, DR_MEAS_STALE i0]⟩,
    ⟨.DR_TRIM_SAVED, .router 3 0x1018, 0, 1, 0, 1, 32, fun i0 _ _ => [DR_TRIM_SAVED_TRIM_L i0, DR_TRIM_SAVED_TRIM_N i0, DR_TRIM_SAVED_TRIM_H i0, DR_TRIM_SAVED_SAVED_L i0, DR_TRIM_SAVED_SAVED_N i0, DR_TRIM_SAVED_SAVED_H i0]⟩,
    ⟨.DR_EVT, .router 3 0x1020, 0, 1, 0, 1, 32, fun i0 _ _ => [DR_EVT_WARN_EVT i0, DR_EVT_EXH_EVT i0, DR_EVT_DOWN_EVT i0, DR_EVT_FLOOR_EVT i0, DR_EVT_DRIFT_EVT i0, DR_EVT_UNG_EVT i0]⟩ ]

/-- The registers of spec chapter 04. -/
def regRows04 : List RegRow :=
  open R in
  [ ⟨.BM_CTRL, .router 3 0x2000, 0, 1, 0, 1, 32, fun i0 _ _ => [BM_CTRL_UNC_EVT_EN i0, BM_CTRL_CORR_LOG_EN i0, BM_CTRL_CNT_CLR i0]⟩,
    ⟨.BM_CNT, .router 3 0x2008, 0, 1, 0, 1, 32, fun i0 _ _ => [BM_CNT_CORR i0, BM_CNT_UNC i0]⟩,
    ⟨.BM_ERR_POP, .router 3 0x2010, 0, 1, 0, 1, 64, fun i0 _ _ => [BM_ERR_POP_BLOCK i0, BM_ERR_POP_PORT i0, BM_ERR_POP_ROW i0, BM_ERR_POP_KIND i0, BM_ERR_POP_SEQ_PORT i0, BM_ERR_POP_WB i0, BM_ERR_POP_SYMBOL i0, BM_ERR_POP_SYNDROME i0, BM_ERR_POP_VALID i0, BM_ERR_POP_OVF i0]⟩,
    ⟨.BM_INJECT, .router 3 0x2018, 0, 1, 0, 1, 32, fun i0 _ _ => [BM_INJECT_BLOCK i0, BM_INJECT_SYMBOL i0, BM_INJECT_PATTERN i0, BM_INJECT_DOUBLE i0, BM_INJECT_ARM i0]⟩ ]

/-- The registers of spec chapter 05. -/
def regRows05 : List RegRow :=
  open R in
  [ ⟨.SL_RES_P, .router 3 0x3000, 16, 256, 0, 1, 64, fun i0 i1 _ => [SL_RES_P_P i0 i1, SL_RES_P_OVF i0 i1, SL_RES_P_SATD i0 i1, SL_RES_P_PDET i0 i1, SL_RES_P_POVF i0 i1]⟩,
    ⟨.SL_RES_S, .router 3 0x3008, 16, 256, 0, 1, 64, fun i0 i1 _ => [SL_RES_S_R i0 i1, SL_RES_S_RCLP i0 i1, SL_RES_S_SEQ i0 i1, SL_RES_S_VALID i0 i1, SL_RES_S_STALE i0 i1]⟩,
    ⟨.SL_CTRL, .router 3 0x4000, 0, 1, 0, 1, 32, fun i0 _ _ => [SL_CTRL_OVF_EVT_EN i0]⟩,
    ⟨.SL_OVF_MAP, .router 3 0x4010, 8, 4, 0, 1, 64, fun i0 i1 _ => [SL_OVF_MAP_OVF i0 i1]⟩ ]

/-- The registers of spec chapter 06. -/
def regRows06 : List RegRow :=
  open R in
  [ ⟨.SQ_CMD, .router 3 0x5000, 64, 32, 0, 1, 32, fun i0 i1 _ => [SQ_CMD_CMD i0 i1, SQ_CMD_CH i0 i1]⟩,
    ⟨.SQ_STATUS, .router 3 0x5008, 64, 32, 0, 1, 32, fun i0 i1 _ => [SQ_STATUS_STATE i0 i1, SQ_STATUS_HELD i0 i1, SQ_STATUS_DEPTH i0 i1, SQ_STATUS_PEND i0 i1, SQ_STATUS_PC i0 i1]⟩,
    ⟨.SQ_FAULT, .router 3 0x5010, 64, 32, 0, 1, 64, fun i0 i1 _ => [SQ_FAULT_CODE i0 i1, SQ_FAULT_PC i0 i1, SQ_FAULT_SEQ i0 i1, SQ_FAULT_VALID i0 i1, SQ_FAULT_STALE i0 i1]⟩,
    ⟨.SQ_CNT, .router 3 0x5018, 64, 32, 0, 1, 64, fun i0 i1 _ => [SQ_CNT_STALLS i0 i1, SQ_CNT_EVLOST i0 i1, SQ_CNT_IFIX i0 i1]⟩,
    ⟨.SQ_HOLDOFF, .router 3 0x5020, 64, 32, 0, 1, 32, fun i0 i1 _ => [SQ_HOLDOFF_MAX i0 i1, SQ_HOLDOFF_OVR i0 i1]⟩,
    ⟨.SQ_CMD_RESULT, .router 3 0x5028, 64, 32, 0, 1, 64, fun i0 i1 _ => [SQ_CMD_RESULT_STATUS i0 i1, SQ_CMD_RESULT_CMD i0 i1, SQ_CMD_RESULT_SEQ i0 i1, SQ_CMD_RESULT_VALID i0 i1, SQ_CMD_RESULT_STALE i0 i1]⟩,
    ⟨.SQ_SIG, .router 3 0x5030, 64, 32, 0, 1, 32, fun i0 i1 _ => [SQ_SIG_SIG i0 i1]⟩ ]

/-- The registers of spec chapter 08. -/
def regRows08 : List RegRow :=
  open R in
  [ ⟨.CK_STATUS, .abs 0x41000010000, 0, 1, 0, 1, 32, fun _ _ _ => [CK_STATUS_FOSC_ON, CK_STATUS_FOSC_QUAL, CK_STATUS_CMC_FOSC, CK_STATUS_TPLL_LOCK, CK_STATUS_CP_LOCK]⟩,
    ⟨.CK_EVT_POP, .abs 0x41000010010, 0, 1, 0, 1, 64, fun _ _ _ => [CK_EVT_POP_CODE, CK_EVT_POP_MUX, CK_EVT_POP_MON, CK_EVT_POP_VALID, CK_EVT_POP_OVF, CK_EVT_POP_TIME]⟩,
    ⟨.MON_CFG, .abs 0x41000010100, 16, 16, 0, 1, 64, fun _ i1 _ => [MON_CFG_MEAS i1, MON_CFG_REF i1, MON_CFG_EN i1, MON_CFG_QUALN i1, MON_CFG_LOSS i1, MON_CFG_WIN i1, MON_CFG_TOL i1]⟩,
    ⟨.MON_STAT, .abs 0x41000010108, 16, 16, 0, 1, 64, fun _ i1 _ => [MON_STAT_EXP i1, MON_STAT_QUAL i1, MON_STAT_TRIPPED i1, MON_STAT_REF_LOSS i1, MON_STAT_LAST i1]⟩,
    ⟨.CP_CFG, .abs 0x41000010200, 16, 16, 0, 1, 64, fun _ i1 _ => [CP_CFG_M i1, CP_CFG_M_FB i1, CP_CFG_N i1, CP_CFG_EN i1, CP_CFG_GATE i1, CP_CFG_FRAC i1]⟩,
    ⟨.CP_OUT, .abs 0x41000010208, 16, 16, 0, 1, 32, fun _ i1 _ => [CP_OUT_O i1]⟩,
    ⟨.CP_MUX, .abs 0x4100001020c, 16, 16, 0, 1, 32, fun _ i1 _ => [CP_MUX_PRI i1, CP_MUX_ALT i1, CP_MUX_GPRI i1, CP_MUX_GPRI_EN i1, CP_MUX_GALT i1, CP_MUX_GALT_EN i1, CP_MUX_FB i1, CP_MUX_AUTO i1, CP_MUX_REVERT i1, CP_MUX_SEL i1, CP_MUX_ACT i1, CP_MUX_DEFERRED i1]⟩,
    ⟨.GCL_MUX, .abs 0x41000010300, 8, 32, 0, 1, 32, fun _ i1 _ => [GCL_MUX_PRI i1, GCL_MUX_ALT i1, GCL_MUX_GPRI i1, GCL_MUX_GPRI_EN i1, GCL_MUX_GALT i1, GCL_MUX_GALT_EN i1, GCL_MUX_FB i1, GCL_MUX_AUTO i1, GCL_MUX_REVERT i1, GCL_MUX_SEL i1, GCL_MUX_ACT i1, GCL_MUX_DEFERRED i1]⟩,
    ⟨.GCL_CFG, .abs 0x41000010304, 8, 32, 0, 1, 32, fun _ i1 _ => [GCL_CFG_FNOM i1, GCL_CFG_OVERF i1, GCL_CFG_ON i1]⟩,
    ⟨.CLKOUT, .abs 0x41000010400, 8, 2, 0, 1, 64, fun _ i1 _ => [CLKOUT_SRC i1, CLKOUT_EN i1, CLKOUT_IDLE i1, CLKOUT_DIV i1]⟩,
    ⟨.BCK, .router 3 0xc00, 4, 16, 0, 1, 32, fun i0 i1 _ => [BCK_SRC i0 i1, BCK_ON i0 i1, BCK_DREQ i0 i1, BCK_DACT i0 i1, BCK_RUN i0 i1]⟩,
    ⟨.SQCK, .router 3 0xc40, 0, 1, 0, 1, 32, fun i0 _ _ => [SQCK_SRC i0, SQCK_ON i0, SQCK_DREQ i0, SQCK_DACT i0, SQCK_RUN i0]⟩,
    ⟨.OP_REQ, .router 3 0xc48, 0, 1, 0, 1, 32, fun i0 _ _ => [OP_REQ_TARGET i0]⟩,
    ⟨.OP_STATUS, .router 3 0xc50, 0, 1, 0, 1, 32, fun i0 _ _ => [OP_STATUS_STATE i0, OP_STATUS_BUSY i0, OP_STATUS_STEP i0, OP_STATUS_AUTO i0, OP_STATUS_TARGET i0, OP_STATUS_RAIL i0]⟩,
    ⟨.OP_RESULT, .router 3 0xc58, 0, 1, 0, 1, 64, fun i0 _ _ => [OP_RESULT_STATUS i0, OP_RESULT_TARGET i0, OP_RESULT_SEQ i0, OP_RESULT_VALID i0, OP_RESULT_STALE i0]⟩ ]

/-- The registers of spec chapter 09. -/
def regRows09 : List RegRow :=
  open R in
  [ ⟨.TP_STATUS, .abs 0x7d000000000, 0, 1, 0, 1, 32, fun _ _ _ => [TP_STATUS_TPLL_LOCK, TP_STATUS_HELD, TP_STATUS_TPLL_FOSC, TP_STATUS_DIST_OK, TP_STATUS_TIME_BAD, TP_STATUS_STEP_BUSY, TP_STATUS_SLEW_BUSY, TP_STATUS_ACT_CKID, TP_STATUS_DIST_ERR]⟩,
    ⟨.TP_NOW, .abs 0x7d000000008, 0, 1, 0, 1, 64, fun _ _ _ => [TP_NOW_TIME, TP_NOW_WRAPS]⟩,
    ⟨.TP_INC_BASE, .abs 0x7d000000010, 0, 1, 0, 1, 64, fun _ _ _ => [TP_INC_BASE_BASE]⟩,
    ⟨.TP_INC, .abs 0x7d000000018, 0, 1, 0, 1, 64, fun _ _ _ => [TP_INC_INC]⟩,
    ⟨.TP_DINC, .abs 0x7d000000020, 0, 1, 0, 1, 64, fun _ _ _ => [TP_DINC_DINC]⟩,
    ⟨.TPLL_CFG, .abs 0x7d000000058, 0, 1, 0, 1, 64, fun _ _ _ => [TPLL_CFG_M, TPLL_CFG_N, TPLL_CFG_FRAC]⟩,
    ⟨.TP_STEP, .abs 0x7d000000028, 0, 1, 0, 1, 64, fun _ _ _ => [TP_STEP_DELTA]⟩,
    ⟨.TP_SLEW, .abs 0x7d000000030, 0, 1, 0, 1, 64, fun _ _ _ => [TP_SLEW_DELTA, TP_SLEW_RATE, TP_SLEW_ABORT]⟩,
    ⟨.TP_SLEW_REM, .abs 0x7d000000038, 0, 1, 0, 1, 64, fun _ _ _ => [TP_SLEW_REM_REM]⟩,
    ⟨.TP_ADJ_RESULT, .abs 0x7d000000040, 0, 1, 0, 1, 64, fun _ _ _ => [TP_ADJ_RESULT_STATUS, TP_ADJ_RESULT_KIND, TP_ADJ_RESULT_SEQ, TP_ADJ_RESULT_VALID, TP_ADJ_RESULT_STALE]⟩,
    ⟨.TP_EVT, .abs 0x7d000000048, 0, 1, 0, 1, 32, fun _ _ _ => [TP_EVT_WRAP, TP_EVT_HALF, TP_EVT_STEP, TP_EVT_SLEW, TP_EVT_SRV, TP_EVT_HO_OUT, TP_EVT_PPS_0, TP_EVT_PPS_1, TP_EVT_DIST, TP_EVT_TPLL, TP_EVT_MODEL, TP_EVT_CLAMP]⟩,
    ⟨.TPLL_MUX, .abs 0x7d000000050, 0, 1, 0, 1, 32, fun _ _ _ => [TPLL_MUX_PRI, TPLL_MUX_ALT, TPLL_MUX_GPRI, TPLL_MUX_GPRI_EN, TPLL_MUX_GALT, TPLL_MUX_GALT_EN, TPLL_MUX_FB, TPLL_MUX_AUTO, TPLL_MUX_REVERT, TPLL_MUX_SEL, TPLL_MUX_ACT, TPLL_MUX_DEFERRED]⟩,
    ⟨.SRV_CTRL, .abs 0x7d000000100, 0, 1, 0, 1, 32, fun _ _ _ => [SRV_CTRL_EN, SRV_CTRL_PSRC, SRV_CTRL_FSRC, SRV_CTRL_STEP_EN, SRV_CTRL_MISS_TO]⟩,
    ⟨.SRV_GAIN, .abs 0x7d000000108, 0, 1, 0, 1, 64, fun _ _ _ => [SRV_GAIN_KP_M, SRV_GAIN_KP_E, SRV_GAIN_KI_M, SRV_GAIN_KI_E, SRV_GAIN_KF_M, SRV_GAIN_KF_E]⟩,
    ⟨.SRV_LIM, .abs 0x7d000000110, 0, 1, 0, 1, 64, fun _ _ _ => [SRV_LIM_FREQ_LIM, SRV_LIM_STEP_THR, SRV_LIM_LOCK_THR, SRV_LIM_LOCK_N]⟩,
    ⟨.SRV_OFFS_WR, .abs 0x7d000000118, 0, 1, 0, 1, 64, fun _ _ _ => [SRV_OFFS_WR_THETA]⟩,
    ⟨.SRV_CMD, .abs 0x7d000000120, 0, 1, 0, 1, 32, fun _ _ _ => [SRV_CMD_CMD]⟩,
    ⟨.SRV_STAT, .abs 0x7d000000128, 0, 1, 0, 1, 64, fun _ _ _ => [SRV_STAT_STATE, SRV_STAT_FORCED, SRV_STAT_CLAMP, SRV_STAT_LOCKCNT, SRV_STAT_NACC]⟩,
    ⟨.SRV_INTEG, .abs 0x7d000000130, 0, 1, 0, 1, 64, fun _ _ _ => [SRV_INTEG_INTEG]⟩,
    ⟨.SRV_THETA, .abs 0x7d000000138, 0, 1, 0, 1, 64, fun _ _ _ => [SRV_THETA_THETA]⟩,
    ⟨.SRV_RESULT, .abs 0x7d000000140, 0, 1, 0, 1, 64, fun _ _ _ => [SRV_RESULT_STATUS, SRV_RESULT_SRC, SRV_RESULT_SEQ, SRV_RESULT_VALID, SRV_RESULT_STALE]⟩,
    ⟨.PPS_CFG, .abs 0x7d000000200, 32, 2, 0, 1, 64, fun _ i1 _ => [PPS_CFG_EN i1, PPS_CFG_EDGE i1, PPS_CFG_WIN i1, PPS_CFG_PERIOD i1]⟩,
    ⟨.PPS_DLY, .abs 0x7d000000208, 32, 2, 0, 1, 64, fun _ i1 _ => [PPS_DLY_DLY i1]⟩,
    ⟨.PPS_EXP, .abs 0x7d000000210, 32, 2, 0, 1, 64, fun _ i1 _ => [PPS_EXP_EXPECT i1]⟩,
    ⟨.PPS_STAT, .abs 0x7d000000218, 32, 2, 0, 1, 64, fun _ i1 _ => [PPS_STAT_MISS i1, PPS_STAT_OUTL i1, PPS_STAT_SEEN i1]⟩,
    ⟨.FD_CFG, .abs 0x7d000000280, 0, 1, 0, 1, 64, fun _ _ _ => [FD_CFG_EN, FD_CFG_SRC, FD_CFG_G, FD_CFG_FREQ_HZ]⟩,
    ⟨.FD_RES, .abs 0x7d000000288, 0, 1, 0, 1, 64, fun _ _ _ => [FD_RES_FERR, FD_RES_SEQ, FD_RES_VALID, FD_RES_STALE]⟩,
    ⟨.HO_CTRL, .abs 0x7d000000300, 0, 1, 0, 1, 64, fun _ _ _ => [HO_CTRL_LEARN_EN, HO_CTRL_L, HO_CTRL_F, HO_CTRL_MODEL_CLR, HO_CTRL_KC, HO_CTRL_BUDGET, HO_CTRL_E0_FIX]⟩,
    ⟨.HO_TEMP, .abs 0x7d000000308, 0, 1, 0, 1, 64, fun _ _ _ => [HO_TEMP_SRC, HO_TEMP_SENS, HO_TEMP_SP, HO_TEMP_ADDR, HO_TEMP_REG, HO_TEMP_PER, HO_TEMP_T0, HO_TEMP_DT_ASSUME]⟩,
    ⟨.HO_TEMP_WR, .abs 0x7d000000310, 0, 1, 0, 1, 32, fun _ _ _ => [HO_TEMP_WR_TEMP]⟩,
    ⟨.HO_STAT, .abs 0x7d000000318, 0, 1, 0, 1, 64, fun _ _ _ => [HO_STAT_MODEL_VALID, HO_STAT_TEMP_OK, HO_STAT_LEARN, HO_STAT_REF_LOST, HO_STAT_TEMP_NOW, HO_STAT_TMIN, HO_STAT_TMAX]⟩,
    ⟨.HO_COEF_0, .abs 0x7d000000320, 0, 1, 0, 1, 64, fun _ _ _ => [HO_COEF_0_A0, HO_COEF_0_A1]⟩,
    ⟨.HO_COEF_1, .abs 0x7d000000328, 0, 1, 0, 1, 64, fun _ _ _ => [HO_COEF_1_A2, HO_COEF_1_B]⟩,
    ⟨.HO_COEF_2, .abs 0x7d000000330, 0, 1, 0, 1, 64, fun _ _ _ => [HO_COEF_2_SIGF, HO_COEF_2_SIGB]⟩,
    ⟨.HO_PRED, .abs 0x7d000000338, 0, 1, 0, 1, 64, fun _ _ _ => [HO_PRED_REMAIN, HO_PRED_SEQ, HO_PRED_VALID, HO_PRED_STALE]⟩,
    ⟨.HO_EACC, .abs 0x7d000000340, 0, 1, 0, 1, 64, fun _ _ _ => [HO_EACC_E_ACC, HO_EACC_TAU]⟩,
    ⟨.HO_LAST, .abs 0x7d000000348, 0, 1, 0, 1, 64, fun _ _ _ => [HO_LAST_ERR, HO_LAST_DUR]⟩ ]

/-- The registers of spec chapter 10. -/
def regRows10 : List RegRow :=
  open R in
  [ ⟨.TL_STATUS, .abs 0x7e000000000, 0, 1, 0, 1, 32, fun _ _ _ => [TL_STATUS_NARMED, TL_STATUS_BAD]⟩,
    ⟨.TL_CMD, .abs 0x7e000000008, 0, 1, 0, 1, 64, fun _ _ _ => [TL_CMD_SLOT, TL_CMD_OP, TL_CMD_REL]⟩,
    ⟨.TL_CMD_RESULT, .abs 0x7e000000010, 0, 1, 0, 1, 64, fun _ _ _ => [TL_CMD_RESULT_STATUS, TL_CMD_RESULT_SLOT, TL_CMD_RESULT_OP, TL_CMD_RESULT_SEQ, TL_CMD_RESULT_VALID, TL_CMD_RESULT_STALE]⟩,
    ⟨.TL_LOG_POP, .abs 0x7e000000018, 0, 1, 0, 1, 64, fun _ _ _ => [TL_LOG_POP_SLOT, TL_LOG_POP_VALID, TL_LOG_POP_OVF, TL_LOG_POP_BAD, TL_LOG_POP_STATUS, TL_LOG_POP_TIME]⟩,
    ⟨.TL_ARMED, .abs 0x7e000000020, 8, 4, 0, 1, 64, fun _ i1 _ => [TL_ARMED_ARMED i1]⟩,
    ⟨.TL_BSET, .abs 0x7e000000100, 8, 16, 0, 1, 64, fun _ i1 _ => [TL_BSET_BOUGHS i1]⟩,
    ⟨.TL_SLOT_CTRL, .abs 0x7e000001000, 64, 256, 0, 1, 32, fun _ i1 _ => [TL_SLOT_CTRL_ARMED i1, TL_SLOT_CTRL_PERIODIC i1, TL_SLOT_CTRL_FOREVER i1, TL_SLOT_CTRL_STEPPOL i1, TL_SLOT_CTRL_EVT_EN i1, TL_SLOT_CTRL_LOG i1, TL_SLOT_CTRL_COUNT i1]⟩,
    ⟨.TL_SLOT_TARGET, .abs 0x7e000001008, 64, 256, 0, 1, 64, fun _ i1 _ => [TL_SLOT_TARGET_TARGET i1]⟩,
    ⟨.TL_SLOT_PERIOD, .abs 0x7e000001010, 64, 256, 0, 1, 64, fun _ i1 _ => [TL_SLOT_PERIOD_PERIOD i1]⟩,
    ⟨.TL_SLOT_DEST, .abs 0x7e000001018, 64, 256, 0, 1, 64, fun _ i1 _ => [TL_SLOT_DEST_ARGS i1, TL_SLOT_DEST_KIND i1]⟩,
    ⟨.TL_SLOT_STAT, .abs 0x7e000001020, 64, 256, 0, 1, 64, fun _ i1 _ => [TL_SLOT_STAT_DONE i1, TL_SLOT_STAT_LOST i1, TL_SLOT_STAT_SKIPPED i1, TL_SLOT_STAT_LAST_STATUS i1]⟩,
    ⟨.TL_SLOT_LAST, .abs 0x7e000001028, 64, 256, 0, 1, 64, fun _ i1 _ => [TL_SLOT_LAST_TIME i1, TL_SLOT_LAST_BAD i1]⟩,
    ⟨.CU_CFG, .abs 0x7e000006000, 32, 32, 0, 1, 64, fun _ i1 _ => [CU_CFG_SRC i1, CU_CFG_EN i1, CU_CFG_EDGE i1, CU_CFG_SINGLE i1, CU_CFG_EVT_EN i1, CU_CFG_DLY i1]⟩,
    ⟨.CU_POP, .abs 0x7e000006008, 32, 32, 0, 1, 64, fun _ i1 _ => [CU_POP_TIME i1, CU_POP_WRAP8 i1, CU_POP_VALID i1, CU_POP_FALL i1, CU_POP_OVF i1, CU_POP_BAD i1]⟩,
    ⟨.CU_STAT, .abs 0x7e000006010, 32, 32, 0, 1, 64, fun _ i1 _ => [CU_STAT_COUNT i1, CU_STAT_LOST i1, CU_STAT_MERGED i1]⟩,
    ⟨.TRG_SW, .router 3 0x800, 0, 1, 0, 1, 32, fun i0 _ _ => [TRG_SW_PULSE i0]⟩ ]

/-- The registers of spec chapter 11. -/
def regRows11 : List RegRow :=
  open R in
  [ ⟨.NOC_CTRL, .router 3 0x0, 0, 1, 0, 1, 32, fun i0 _ _ => [NOC_CTRL_RSP_TO i0, NOC_CTRL_ACC_TO i0, NOC_CTRL_DRAIN_TO i0]⟩,
    ⟨.NOC_STATUS, .router 3 0x8, 0, 1, 0, 1, 32, fun i0 _ _ => [NOC_STATUS_EPOCH i0, NOC_STATUS_CHANGING i0, NOC_STATUS_P0 i0, NOC_STATUS_OLDCNT i0]⟩,
    ⟨.NOC_CNT, .router 3 0x10, 0, 1, 0, 1, 64, fun i0 _ _ => [NOC_CNT_ASLEEP i0, NOC_CNT_TIMEOUT i0, NOC_CNT_LATE i0, NOC_CNT_HDR_UNC i0, NOC_CNT_POISON i0]⟩,
    ⟨.NOC_CNT_CLR, .router 3 0x18, 0, 1, 0, 1, 32, fun i0 _ _ => [NOC_CNT_CLR_CLR i0]⟩,
    ⟨.NOC_ERR_POP, .router 3 0x20, 0, 1, 0, 1, 64, fun i0 _ _ => [NOC_ERR_POP_CODE i0, NOC_ERR_POP_SRC i0, NOC_ERR_POP_TAG i0, NOC_ERR_POP_VALID i0, NOC_ERR_POP_OVF i0, NOC_ERR_POP_TIME i0]⟩,
    ⟨.NOC_TBL, .router 3 0x100, 32, 2, 8, 4, 64, fun i0 i1 i2 => [NOC_TBL_ENT i0 i1 i2]⟩,
    ⟨.NOC_LINK, .router 3 0x200, 8, 4, 0, 1, 64, fun i0 i1 _ => [NOC_LINK_CRED_0 i0 i1, NOC_LINK_CRED_1 i0 i1, NOC_LINK_CRED_2 i0 i1, NOC_LINK_CRED_3 i0 i1, NOC_LINK_OCC_0 i0 i1, NOC_LINK_OCC_1 i0 i1, NOC_LINK_OCC_2 i0 i1, NOC_LINK_OCC_3 i0 i1, NOC_LINK_RET_0 i0 i1, NOC_LINK_RET_1 i0 i1, NOC_LINK_RET_2 i0 i1, NOC_LINK_RET_3 i0 i1]⟩,
    ⟨.NOC_EPOCH, .abs 0x41000020000, 0, 1, 0, 1, 32, fun _ _ _ => [NOC_EPOCH_CUR, NOC_EPOCH_BUSY]⟩,
    ⟨.NOC_EPOCH_CMD, .abs 0x41000020008, 0, 1, 0, 1, 32, fun _ _ _ => [NOC_EPOCH_CMD_GO]⟩,
    ⟨.NOC_EPOCH_RESULT, .abs 0x41000020010, 0, 1, 0, 1, 64, fun _ _ _ => [NOC_EPOCH_RESULT_STATUS, NOC_EPOCH_RESULT_ROUTER, NOC_EPOCH_RESULT_DEST, NOC_EPOCH_RESULT_SEQ, NOC_EPOCH_RESULT_VALID, NOC_EPOCH_RESULT_STALE]⟩,
    ⟨.NOC_EPOCH_OLD, .abs 0x41000020018, 0, 1, 0, 1, 64, fun _ _ _ => [NOC_EPOCH_OLD_OLD]⟩ ]

/-- The registers of spec chapter 12. -/
def regRows12 : List RegRow :=
  open R in
  [ ⟨.GR_CTRL, .gran 0x0, 0, 1, 0, 1, 32, fun i0 _ _ => [GR_CTRL_INTLV i0, GR_CTRL_BT_EN i0, GR_CTRL_AUTO_REPAIR i0, GR_CTRL_REPAIR_PERSIST i0, GR_CTRL_CORR_LOG_EN i0, GR_CTRL_UNC_EVT_EN i0, GR_CTRL_BT_INTERVAL i0]⟩,
    ⟨.GR_CMD, .gran 0x8, 0, 1, 0, 1, 32, fun i0 _ _ => [GR_CMD_OP i0, GR_CMD_BANK i0, GR_CMD_ROW i0]⟩,
    ⟨.GR_CMD_RESULT, .gran 0x10, 0, 1, 0, 1, 64, fun i0 _ _ => [GR_CMD_RESULT_STATUS i0, GR_CMD_RESULT_OP i0, GR_CMD_RESULT_BANK i0, GR_CMD_RESULT_SEQ i0, GR_CMD_RESULT_VALID i0, GR_CMD_RESULT_STALE i0]⟩,
    ⟨.GR_ERR_POP, .gran 0x18, 0, 1, 0, 1, 64, fun i0 _ _ => [GR_ERR_POP_BANK i0, GR_ERR_POP_KIND i0, GR_ERR_POP_ROW i0, GR_ERR_POP_SYMBOL i0, GR_ERR_POP_SRC i0, GR_ERR_POP_BT i0, GR_ERR_POP_VALID i0, GR_ERR_POP_OVF i0]⟩,
    ⟨.GR_INJECT, .gran 0x20, 0, 1, 0, 1, 32, fun i0 _ _ => [GR_INJECT_BANK i0, GR_INJECT_SYMBOL i0, GR_INJECT_PATTERN i0, GR_INJECT_DOUBLE i0, GR_INJECT_ARM i0]⟩,
    ⟨.GB_STATUS, .gran 0x1000, 2048, 8, 0, 1, 32, fun i0 i1 _ => [GB_STATUS_PWR i0 i1, GB_STATUS_BT_ACTIVE i0 i1, GB_STATUS_REPAIRING i0 i1, GB_STATUS_SPARES_FREE i0 i1, GB_STATUS_FAULTS i0 i1]⟩,
    ⟨.GB_CNT, .gran 0x1008, 2048, 8, 0, 1, 64, fun i0 i1 _ => [GB_CNT_CORR i0 i1, GB_CNT_UNC i0 i1, GB_CNT_BT_PASS i0 i1, GB_CNT_BT_FAIL i0 i1]⟩,
    ⟨.GB_SPARE, .gran 0x1040, 2048, 8, 8, 24, 32, fun i0 i1 i2 => [GB_SPARE_ROW i0 i1 i2, GB_SPARE_USED i0 i1 i2, GB_SPARE_BAD i0 i1 i2]⟩,
    ⟨.GB_CONF, .gran 0x1100, 2048, 8, 4, 256, 32, fun i0 i1 i2 => [GB_CONF_COUNT i0 i1 i2]⟩ ]

/-- The registers of spec chapter 13. -/
def regRows13 : List RegRow :=
  open R in
  [ ⟨.QD_PLL, .quad 0x800, 8, 2, 0, 1, 64, fun i0 i1 _ => [QD_PLL_REFSEL i0 i1, QD_PLL_EN i0 i1, QD_PLL_LOCK i0 i1, QD_PLL_M i0 i1, QD_PLL_N i0 i1, QD_PLL_FRAC i0 i1]⟩,
    ⟨.LN_CFG, .quad 0x0, 256, 4, 0, 1, 64, fun i0 i1 _ => [LN_CFG_MODE (4 * i0 + i1), LN_CFG_PLL (4 * i0 + i1), LN_CFG_DIV (4 * i0 + i1), LN_CFG_PAM4 (4 * i0 + i1), LN_CFG_TX_INV (4 * i0 + i1), LN_CFG_RX_INV (4 * i0 + i1), LN_CFG_TX_EN (4 * i0 + i1), LN_CFG_LOOP (4 * i0 + i1), LN_CFG_LOOP_TX (4 * i0 + i1), LN_CFG_EQ_AUTO (4 * i0 + i1), LN_CFG_DET_EN (4 * i0 + i1), LN_CFG_PRECODE (4 * i0 + i1), LN_CFG_TRAIN_TO (4 * i0 + i1), LN_CFG_LOCK_TO (4 * i0 + i1)]⟩,
    ⟨.LN_STAT, .quad 0x8, 256, 4, 0, 1, 32, fun i0 i1 _ => [LN_STAT_STATE (4 * i0 + i1), LN_STAT_SIGDET (4 * i0 + i1), LN_STAT_RXPRES (4 * i0 + i1), LN_STAT_CDR_LOCK (4 * i0 + i1), LN_STAT_BLK_LOCK (4 * i0 + i1), LN_STAT_ADAPTED (4 * i0 + i1), LN_STAT_FAILS (4 * i0 + i1), LN_STAT_LAST_FAIL (4 * i0 + i1)]⟩,
    ⟨.LN_EQ_TX, .quad 0x10, 256, 4, 0, 1, 32, fun i0 i1 _ => [LN_EQ_TX_PRE2 (4 * i0 + i1), LN_EQ_TX_PRE1 (4 * i0 + i1), LN_EQ_TX_MAIN (4 * i0 + i1), LN_EQ_TX_POST1 (4 * i0 + i1)]⟩,
    ⟨.LN_EQ_RX, .quad 0x18, 256, 4, 0, 1, 64, fun i0 i1 _ => [LN_EQ_RX_CTLE (4 * i0 + i1), LN_EQ_RX_VGA (4 * i0 + i1), LN_EQ_RX_DFE (4 * i0 + i1)]⟩,
    ⟨.LN_CMD, .quad 0x20, 256, 4, 0, 1, 32, fun i0 i1 _ => [LN_CMD_CMD (4 * i0 + i1)]⟩,
    ⟨.LN_RESULT, .quad 0x28, 256, 4, 0, 1, 64, fun i0 i1 _ => [LN_RESULT_STATUS (4 * i0 + i1), LN_RESULT_CMD (4 * i0 + i1), LN_RESULT_SEQ (4 * i0 + i1), LN_RESULT_VALID (4 * i0 + i1), LN_RESULT_STALE (4 * i0 + i1)]⟩,
    ⟨.LN_PRBS_CFG, .quad 0x30, 256, 4, 0, 1, 32, fun i0 i1 _ => [LN_PRBS_CFG_GEN (4 * i0 + i1), LN_PRBS_CFG_GEN_INV (4 * i0 + i1), LN_PRBS_CFG_CHK (4 * i0 + i1), LN_PRBS_CFG_CHK_INV (4 * i0 + i1), LN_PRBS_CFG_INJ_RATE (4 * i0 + i1)]⟩,
    ⟨.LN_PRBS_USER, .quad 0x38, 256, 4, 0, 1, 64, fun i0 i1 _ => [LN_PRBS_USER_USER (4 * i0 + i1)]⟩,
    ⟨.LN_PRBS_BITS, .quad 0x40, 256, 4, 0, 1, 64, fun i0 i1 _ => [LN_PRBS_BITS_BITS (4 * i0 + i1), LN_PRBS_BITS_LOCK (4 * i0 + i1)]⟩,
    ⟨.LN_PRBS_ERR, .quad 0x48, 256, 4, 0, 1, 64, fun i0 i1 _ => [LN_PRBS_ERR_ERR (4 * i0 + i1), LN_PRBS_ERR_LOSTCNT (4 * i0 + i1)]⟩,
    ⟨.LN_EYE_CFG, .quad 0x50, 256, 4, 0, 1, 64, fun i0 i1 _ => [LN_EYE_CFG_PH (4 * i0 + i1), LN_EYE_CFG_VOFF (4 * i0 + i1), LN_EYE_CFG_EYE (4 * i0 + i1), LN_EYE_CFG_LOG2BITS (4 * i0 + i1), LN_EYE_CFG_ERRLIM (4 * i0 + i1)]⟩,
    ⟨.LN_EYE_RES0, .quad 0x58, 256, 4, 0, 1, 64, fun i0 i1 _ => [LN_EYE_RES0_UI (4 * i0 + i1), LN_EYE_RES0_ERRS (4 * i0 + i1)]⟩,
    ⟨.LN_EYE_RES1, .quad 0x60, 256, 4, 0, 1, 64, fun i0 i1 _ => [LN_EYE_RES1_LEFT (4 * i0 + i1), LN_EYE_RES1_RIGHT (4 * i0 + i1), LN_EYE_RES1_TOP (4 * i0 + i1), LN_EYE_RES1_BOTTOM (4 * i0 + i1), LN_EYE_RES1_KIND (4 * i0 + i1), LN_EYE_RES1_SEQ (4 * i0 + i1), LN_EYE_RES1_VALID (4 * i0 + i1), LN_EYE_RES1_STALE (4 * i0 + i1)]⟩,
    ⟨.ST_CFG, .stq 0xa00, 0, 1, 0, 1, 64, fun i0 _ _ => [ST_CFG_USE i0, ST_CFG_RING_LOG2 i0, ST_CFG_RING_BASE i0]⟩,
    ⟨.ST_RX_WR, .stq 0xa10, 0, 1, 0, 1, 32, fun i0 _ _ => [ST_RX_WR_WR i0]⟩,
    ⟨.ST_RX_RD, .stq 0xa18, 0, 1, 0, 1, 32, fun i0 _ _ => [ST_RX_RD_RD i0]⟩,
    ⟨.ST_CNT, .stq 0xa20, 0, 1, 0, 1, 64, fun i0 _ _ => [ST_CNT_DROP i0, ST_CNT_UNDER i0, ST_CNT_CRC i0, ST_CNT_OVFL i0]⟩,
    ⟨.ST_MARK_TIME, .stq 0xa28, 0, 1, 0, 1, 64, fun i0 _ _ => [ST_MARK_TIME_TIME i0]⟩,
    ⟨.ST_MARK_POS, .stq 0xa30, 0, 1, 0, 1, 64, fun i0 _ _ => [ST_MARK_POS_CHUNK i0, ST_MARK_POS_OCTET i0, ST_MARK_POS_SEQ i0]⟩,
    ⟨.ST_MARK_FLAGS, .stq 0xa38, 0, 1, 0, 1, 32, fun i0 _ _ => [ST_MARK_FLAGS_VALID i0, ST_MARK_FLAGS_STALE i0]⟩,
    ⟨.JS_CFG, .stq 0xa40, 0, 1, 0, 1, 64, fun i0 _ _ => [JS_CFG_EN i0, JS_CFG_VER i0, JS_CFG_DIR i0, JS_CFG_LCODE i0, JS_CFG_F i0, JS_CFG_KE i0, JS_CFG_RBD i0, JS_CFG_SCR i0, JS_CFG_SYSREF_CONT i0, JS_CFG_SYSREF_DLY i0]⟩,
    ⟨.LL_CFG, .stq 0xa48, 0, 1, 0, 1, 64, fun i0 _ _ => [LL_CFG_LANES i0, LL_CFG_F i0, LL_CFG_TOL i0, LL_CFG_LINK_ID i0, LL_CFG_CAPS_TO i0]⟩,
    ⟨.LL_STAT, .stq 0xa50, 0, 1, 0, 1, 64, fun i0 _ _ => [LL_STAT_LANES i0, LL_STAT_UP i0, LL_STAT_PF i0, LL_STAT_PTOL i0, LL_STAT_PLINK_ID i0, LL_STAT_PSTEP i0]⟩ ]

/-- The registers of spec chapter 14. -/
def regRows14 : List RegRow :=
  open R in
  [ ⟨.PE_CFG, .port 0x0, 0, 1, 0, 1, 64, fun i0 _ _ => [PE_CFG_CFG i0, PE_CFG_REF i0, PE_CFG_RCV_CH i0, PE_CFG_RCV_EN i0, PE_CFG_RCV_DIV i0, PE_CFG_HAIRPIN i0, PE_CFG_HP_EN i0]⟩,
    ⟨.PE_STATUS, .port 0x8, 0, 1, 0, 1, 32, fun i0 _ _ => [PE_STATUS_LINK i0, PE_STATUS_RCV_RUN i0, PE_STATUS_HP_ACTIVE i0]⟩,
    ⟨.CH_CFG, .chan 0x0, 0, 1, 0, 1, 64, fun i0 _ _ => [CH_CFG_FEC i0, CH_CFG_EN i0, CH_CFG_CORR_EN i0, CH_CFG_END i0, CH_CFG_MTU i0]⟩,
    ⟨.CH_STAT, .chan 0x8, 0, 1, 0, 1, 32, fun i0 _ _ => [CH_STAT_LINK i0, CH_STAT_BAD i0, CH_STAT_TXTS_Q i0, CH_STAT_TXTS_F i0]⟩,
    ⟨.CH_TS_DLY, .chan 0x10, 0, 1, 0, 1, 64, fun i0 _ _ => [CH_TS_DLY_TX_DLY i0, CH_TS_DLY_RX_DLY i0]⟩,
    ⟨.CH_RXMAP, .chan 0x18, 0, 1, 0, 1, 64, fun i0 _ _ => [CH_RXMAP_ECPRI_Q i0, CH_RXMAP_PTP_Q i0, CH_RXMAP_PCP_Q i0, CH_RXMAP_DEFAULT_Q i0]⟩,
    ⟨.CH_TXQ_ENQ, .chan 0x20, 0, 1, 0, 1, 64, fun i0 _ _ => [CH_TXQ_ENQ_HANDLE i0, CH_TXQ_ENQ_LEN i0, CH_TXQ_ENQ_QUEUE i0, CH_TXQ_ENQ_TSMODE i0, CH_TXQ_ENQ_ECPRI_GEN i0, CH_TXQ_ENQ_TS_ID i0]⟩,
    ⟨.CH_TXTS_POP, .chan 0x30, 0, 1, 0, 1, 64, fun i0 _ _ => [CH_TXTS_POP_ID i0, CH_TXTS_POP_VALID i0, CH_TXTS_POP_OVF i0, CH_TXTS_POP_BAD i0, CH_TXTS_POP_CORR i0, CH_TXTS_POP_WRAP8 i0, CH_TXTS_POP_NS i0]⟩,
    ⟨.CH_TXTS_FRAC, .chan 0x38, 0, 1, 0, 1, 32, fun i0 _ _ => [CH_TXTS_FRAC_FRAC i0]⟩,
    ⟨.CH_CNT_RX, .chan 0x40, 0, 1, 0, 1, 64, fun i0 _ _ => [CH_CNT_RX_FRAMES i0, CH_CNT_RX_DROP_LOFT i0, CH_CNT_RX_DROP_FCS i0, CH_CNT_RX_DROP_LEN i0, CH_CNT_RX_DROP_DIR i0]⟩,
    ⟨.CH_CNT_TX, .chan 0x48, 0, 1, 0, 1, 64, fun i0 _ _ => [CH_CNT_TX_FRAMES i0, CH_CNT_TX_TXTS_OVF i0, CH_CNT_TX_ONESTEP_MISS i0, CH_CNT_TX_GATE_DISCARD i0, CH_CNT_TX_TX_UNC i0]⟩,
    ⟨.CH_CNT_FEC, .chan 0x50, 0, 1, 0, 1, 64, fun i0 _ _ => [CH_CNT_FEC_CORR i0, CH_CNT_FEC_UNC i0, CH_CNT_FEC_ECPRI_BAD i0]⟩,
    ⟨.CH_RXQ_POP, .chan 0x80, 16, 8, 0, 1, 64, fun i0 i1 _ => [CH_RXQ_POP_HANDLE i0 i1, CH_RXQ_POP_VALID i0 i1, CH_RXQ_POP_ECPRI i0 i1, CH_RXQ_POP_CBIT i0 i1, CH_RXQ_POP_PTP i0 i1, CH_RXQ_POP_MSGTYPE i0 i1, CH_RXQ_POP_LEN i0 i1, CH_RXQ_POP_FEC_OFS i0 i1]⟩,
    ⟨.CH_RXQ_TS, .chan 0x88, 16, 8, 0, 1, 64, fun i0 i1 _ => [CH_RXQ_TS_TIME i0 i1, CH_RXQ_TS_WRAP8 i0 i1, CH_RXQ_TS_CORR i0 i1, CH_RXQ_TS_BAD i0 i1]⟩,
    ⟨.CH_QBV_CTRL, .chan 0x100, 0, 1, 0, 1, 32, fun i0 _ _ => [CH_QBV_CTRL_EN i0, CH_QBV_CTRL_NEXT i0, CH_QBV_CTRL_RUN_BANK i0, CH_QBV_CTRL_RUNNING i0, CH_QBV_CTRL_LEN_0 i0, CH_QBV_CTRL_LEN_1 i0]⟩,
    ⟨.CH_QBV_CYCLE, .chan 0x108, 8, 2, 0, 1, 64, fun i0 i1 _ => [CH_QBV_CYCLE_CYCLE i0 i1]⟩,
    ⟨.CH_GCL, .chan 0x800, 1024, 2, 4, 256, 32, fun i0 i1 i2 => [CH_GCL_GATES i0 i1 i2, CH_GCL_INTERVAL i0 i1 i2]⟩,
    ⟨.LOFT_FREE, .abs 0x1000060000, 0, 1, 0, 1, 32, fun _ _ _ => [LOFT_FREE_FREE, LOFT_FREE_INFLIGHT]⟩,
    ⟨.LOFT_BOOK, .abs 0x1000060008, 0, 1, 0, 1, 64, fun _ _ _ => [LOFT_BOOK_HELD, LOFT_BOOK_QUEUED]⟩,
    ⟨.LOFT_CMD, .abs 0x1000060010, 0, 1, 0, 1, 64, fun _ _ _ => [LOFT_CMD_OP, LOFT_CMD_CH, LOFT_CMD_LEN, LOFT_CMD_HANDLE]⟩,
    ⟨.LOFT_CNT, .abs 0x1000060018, 0, 1, 0, 1, 64, fun _ _ _ => [LOFT_CNT_CORR, LOFT_CNT_UNC]⟩,
    ⟨.PE_TOD, .abs 0x1000060020, 0, 1, 0, 1, 64, fun _ _ _ => [PE_TOD_BASE_NS, PE_TOD_W0]⟩,
    ⟨.PE_TOD_S, .abs 0x1000060028, 0, 1, 0, 1, 64, fun _ _ _ => [PE_TOD_S_BASE_S]⟩,
    ⟨.LOFT_CH, .abs 0x1000060100, 8, 32, 0, 1, 64, fun _ i1 _ => [LOFT_CH_MIN i1, LOFT_CH_CAP i1]⟩,
    ⟨.LOFT_USE, .abs 0x1000060200, 4, 32, 0, 1, 32, fun _ i1 _ => [LOFT_USE_USE i1]⟩,
    ⟨.LOFT_RESULT, .abs 0x1000064000, 8, 256, 0, 1, 64, fun _ i1 _ => [LOFT_RESULT_STATUS i1, LOFT_RESULT_HANDLE i1, LOFT_RESULT_OP i1, LOFT_RESULT_SEQ i1, LOFT_RESULT_VALID i1, LOFT_RESULT_STALE i1]⟩ ]

/-- The registers of spec chapter 15. -/
def regRows15 : List RegRow :=
  open R in
  [ ⟨.HL_STATUS, .abs 0x21000000000, 0, 1, 0, 1, 32, fun _ _ _ => [HL_STATUS_UP, HL_STATUS_RATE, HL_STATUS_WIDTH, HL_STATUS_BME]⟩,
    ⟨.HL_CFG_RESULT, .abs 0x21000000008, 0, 1, 0, 1, 64, fun _ _ _ => [HL_CFG_RESULT_STATUS, HL_CFG_RESULT_OFFSET, HL_CFG_RESULT_SEQ, HL_CFG_RESULT_VALID, HL_CFG_RESULT_STALE]⟩,
    ⟨.HL_ERR_POP, .abs 0x21000000010, 0, 1, 0, 1, 64, fun _ _ _ => [HL_ERR_POP_CODE, HL_ERR_POP_VALID, HL_ERR_POP_OVF, HL_ERR_POP_ADDR]⟩,
    ⟨.HL_MSIX_SEND, .abs 0x21000000018, 0, 1, 0, 1, 32, fun _ _ _ => [HL_MSIX_SEND_VEC]⟩,
    ⟨.HL_APT, .abs 0x21000000040, 8, 16, 0, 1, 32, fun _ i1 _ => [HL_APT_BASE i1]⟩,
    ⟨.EV_BASE, .abs 0x21000000100, 64, 4, 0, 1, 64, fun _ i1 _ => [EV_BASE_BASE i1]⟩,
    ⟨.EV_CFG, .abs 0x21000000108, 64, 4, 0, 1, 64, fun _ i1 _ => [EV_CFG_EN i1, EV_CFG_LOG2 i1, EV_CFG_VEC i1, EV_CFG_IM_CNT i1, EV_CFG_IM_US i1, EV_CFG_TYPEMASK i1, EV_CFG_BLOCKS i1]⟩,
    ⟨.EV_HEAD, .abs 0x21000000110, 64, 4, 0, 1, 32, fun _ i1 _ => [EV_HEAD_HEAD i1]⟩,
    ⟨.EV_TAIL, .abs 0x21000000118, 64, 4, 0, 1, 32, fun _ i1 _ => [EV_TAIL_TAIL i1]⟩,
    ⟨.EV_STAT, .abs 0x21000000120, 64, 4, 0, 1, 64, fun _ i1 _ => [EV_STAT_LOST i1, EV_STAT_FULL i1, EV_STAT_FIFO i1, EV_STAT_BADHEAD i1]⟩,
    ⟨.DMA_BASE, .abs 0x21000000200, 64, 4, 0, 1, 64, fun _ i1 _ => [DMA_BASE_BASE i1]⟩,
    ⟨.DMA_CFG, .abs 0x21000000208, 64, 4, 0, 1, 32, fun _ i1 _ => [DMA_CFG_EN i1, DMA_CFG_LOG2 i1, DMA_CFG_RING i1]⟩,
    ⟨.DMA_PI, .abs 0x21000000210, 64, 4, 0, 1, 32, fun _ i1 _ => [DMA_PI_PI i1]⟩,
    ⟨.DMA_CI, .abs 0x21000000218, 64, 4, 0, 1, 32, fun _ i1 _ => [DMA_CI_CI i1]⟩,
    ⟨.DMA_STAT, .abs 0x21000000220, 64, 4, 0, 1, 64, fun _ i1 _ => [DMA_STAT_STATE i1, DMA_STAT_HALT_CODE i1, DMA_STAT_DONE i1]⟩ ]

/-- The registers of spec chapter 16. -/
def regRows16 : List RegRow :=
  open R in
  [ ⟨.LD_STATUS, .abs 0x42000000000, 0, 1, 0, 1, 32, fun _ _ _ => [LD_STATUS_STATE, LD_STATUS_SRC, LD_STATUS_KIND, LD_STATUS_PART, LD_STATUS_SEEDED, LD_STATUS_CFG_DONE, LD_STATUS_CFG_ERR, LD_STATUS_OWNER]⟩,
    ⟨.LD_CTRL, .abs 0x42000000008, 0, 1, 0, 1, 32, fun _ _ _ => [LD_CTRL_TIMEOUT, LD_CTRL_SAFE_OPEN]⟩,
    ⟨.LD_ARG, .abs 0x42000000010, 0, 1, 0, 1, 64, fun _ _ _ => [LD_ARG_ADDR]⟩,
    ⟨.LD_CMD, .abs 0x42000000018, 0, 1, 0, 1, 64, fun _ _ _ => [LD_CMD_OP, LD_CMD_PART, LD_CMD_LIMIT]⟩,
    ⟨.LD_RESULT, .abs 0x42000000020, 0, 1, 0, 1, 64, fun _ _ _ => [LD_RESULT_STATUS, LD_RESULT_OP, LD_RESULT_PART, LD_RESULT_SEQ, LD_RESULT_VALID, LD_RESULT_STALE]⟩,
    ⟨.LD_ERR_POP, .abs 0x42000000028, 0, 1, 0, 1, 64, fun _ _ _ => [LD_ERR_POP_CODE, LD_ERR_POP_DETAIL, LD_ERR_POP_VALID, LD_ERR_POP_OVF, LD_ERR_POP_PARTITION, LD_ERR_POP_BLOCK]⟩,
    ⟨.LD_ERR_LOC, .abs 0x42000000030, 0, 1, 0, 1, 64, fun _ _ _ => [LD_ERR_LOC_B, LD_ERR_LOC_ROW, LD_ERR_LOC_COL, LD_ERR_LOC_INDEX, LD_ERR_LOC_PLANE, LD_ERR_LOC_TWIG, LD_ERR_LOC_BITOFS, LD_ERR_LOC_TWOFS]⟩,
    ⟨.LD_PROG, .abs 0x42000000038, 0, 1, 0, 1, 64, fun _ _ _ => [LD_PROG_BLOCKS, LD_PROG_NBLOCKS]⟩,
    ⟨.LD_PART_STAT, .abs 0x42000000040, 0, 1, 0, 1, 64, fun _ _ _ => [LD_PART_STAT_STATE]⟩ ]

/-- The registers of spec chapter 17. -/
def regRows17 : List RegRow :=
  open R in
  [ ⟨.PT_STAT, .abs 0x42000001000, 16, 32, 0, 1, 64, fun _ i1 _ => [PT_STAT_STATE i1, PT_STAT_DEFINED i1, PT_STAT_PRIV i1, PT_STAT_PLANE i1, PT_STAT_SHADOW i1, PT_STAT_ACT i1, PT_STAT_SWAPS i1, PT_STAT_LAST_STATUS i1]⟩,
    ⟨.PT_BOUGHS, .abs 0x42000001008, 16, 32, 0, 1, 64, fun _ i1 _ => [PT_BOUGHS_BOUGHS i1]⟩,
    ⟨.PT_CTRL, .abs 0x42000001200, 8, 32, 0, 1, 32, fun _ i1 _ => [PT_CTRL_POLICY i1]⟩,
    ⟨.PT_SWAP_POP, .abs 0x42000001300, 0, 1, 0, 1, 64, fun _ _ _ => [PT_SWAP_POP_PART, PT_SWAP_POP_VALID, PT_SWAP_POP_OVF, PT_SWAP_POP_STATUS, PT_SWAP_POP_TIME]⟩,
    ⟨.RB_MASK, .abs 0x42000001400, 0, 1, 0, 1, 64, fun _ _ _ => [RB_MASK_BOUGHS]⟩,
    ⟨.RB_CMD, .abs 0x42000001408, 0, 1, 0, 1, 32, fun _ _ _ => [RB_CMD_OP]⟩,
    ⟨.RB_SEL, .abs 0x42000001410, 0, 1, 0, 1, 32, fun _ _ _ => [RB_SEL_B, RB_SEL_ROW, RB_SEL_COL, RB_SEL_INDEX, RB_SEL_PLANE]⟩,
    ⟨.RB_RESULT, .abs 0x42000001418, 0, 1, 0, 1, 64, fun _ _ _ => [RB_RESULT_STATUS, RB_RESULT_SEQ, RB_RESULT_VALID, RB_RESULT_STALE]⟩,
    ⟨.RB_CAP, .abs 0x42000001500, 8, 64, 0, 1, 64, fun _ i1 _ => [RB_CAP_TIME i1, RB_CAP_SEQ i1, RB_CAP_VALID i1, RB_CAP_STALE i1, RB_CAP_HELD i1]⟩ ]

/-- The registers of spec chapter 18. -/
def regRows18 : List RegRow :=
  open R in
  [ ⟨.GL_CTRL, .abs 0x41000021000, 0, 1, 0, 1, 32, fun _ _ _ => [GL_CTRL_EN, GL_CTRL_REPAIR_EN, GL_CTRL_QMASK, GL_CTRL_CONFIRM]⟩,
    ⟨.GL_STATUS, .abs 0x41000021008, 0, 1, 0, 1, 32, fun _ _ _ => [GL_STATUS_WALK, GL_STATUS_PAUSE, GL_STATUS_REPAIR, GL_STATUS_REPQ, GL_STATUS_DEFQ]⟩,
    ⟨.GL_PASS, .abs 0x41000021010, 8, 4, 0, 1, 64, fun _ i1 _ => [GL_PASS_PASSES i1, GL_PASS_LAST_US i1, GL_PASS_B i1, GL_PASS_PLANE i1]⟩,
    ⟨.GL_CNT, .abs 0x41000021030, 0, 1, 0, 1, 64, fun _ _ _ => [GL_CNT_CORR, GL_CNT_UNC, GL_CNT_REPAIRED, GL_CNT_ESS, GL_CNT_FAILED]⟩,
    ⟨.GL_CMD, .abs 0x41000021038, 0, 1, 0, 1, 32, fun _ _ _ => [GL_CMD_OP]⟩,
    ⟨.GL_CMD_RESULT, .abs 0x41000021040, 0, 1, 0, 1, 64, fun _ _ _ => [GL_CMD_RESULT_STATUS, GL_CMD_RESULT_OP, GL_CMD_RESULT_SEQ, GL_CMD_RESULT_VALID, GL_CMD_RESULT_STALE]⟩,
    ⟨.GL_LOG_POP, .abs 0x41000021048, 0, 1, 0, 1, 64, fun _ _ _ => [GL_LOG_POP_KIND, GL_LOG_POP_VALID, GL_LOG_POP_OVF, GL_LOG_POP_PLANE, GL_LOG_POP_B, GL_LOG_POP_ROW, GL_LOG_POP_COL, GL_LOG_POP_INDEX, GL_LOG_POP_BITOFS, GL_LOG_POP_DBL, GL_LOG_POP_LOCATED, GL_LOG_POP_DETAIL]⟩,
    ⟨.GL_LOG_TIME, .abs 0x41000021050, 0, 1, 0, 1, 32, fun _ _ _ => [GL_LOG_TIME_TIME]⟩,
    ⟨.GL_SET, .abs 0x41000021058, 0, 1, 0, 1, 32, fun _ _ _ => [GL_SET_DISAGREE, GL_SET_COPY]⟩,
    ⟨.GL_WATCH, .abs 0x41000021060, 0, 1, 0, 1, 32, fun _ _ _ => [GL_WATCH_HB_TO, GL_WATCH_RESET_LIM, GL_WATCH_RESETS]⟩ ]

/-- The registers of spec chapter 19. -/
def regRows19 : List RegRow :=
  open R in
  [ ⟨.SC_CTRL, .abs 0x61001000000, 0, 1, 0, 1, 32, fun _ _ _ => [SC_CTRL_DIV, SC_CTRL_GO, SC_CTRL_RESET]⟩,
    ⟨.SC_STATUS, .abs 0x61001000008, 0, 1, 0, 1, 32, fun _ _ _ => [SC_STATUS_STATE, SC_STATUS_RCAUSE, SC_STATUS_RESETS, SC_STATUS_BOOTERR]⟩,
    ⟨.SC_BOOT, .abs 0x61001000010, 0, 1, 0, 1, 64, fun _ _ _ => [SC_BOOT_SRC, SC_BOOT_ENTRY, SC_BOOT_FLASH_ADDR]⟩,
    ⟨.SC_SLEEP, .abs 0x61001000018, 0, 1, 0, 1, 32, fun _ _ _ => [SC_SLEEP_TARGET]⟩,
    ⟨.SC_NOCERR, .abs 0x61001000020, 0, 1, 0, 1, 64, fun _ _ _ => [SC_NOCERR_ADDR, SC_NOCERR_WR, SC_NOCERR_STATUS]⟩,
    ⟨.SC_WIN, .abs 0x61001000040, 8, 4, 0, 1, 32, fun _ i1 _ => [SC_WIN_BASE i1]⟩,
    ⟨.SC_EVT_EN, .abs 0x61001000080, 0, 1, 0, 1, 32, fun _ _ _ => [SC_EVT_EN_EN]⟩,
    ⟨.SC_EVT_POP, .abs 0x61001000088, 0, 1, 0, 1, 64, fun _ _ _ => [SC_EVT_POP_CODE, SC_EVT_POP_VALID, SC_EVT_POP_OVF, SC_EVT_POP_UNIT, SC_EVT_POP_TIME]⟩,
    ⟨.IC_CTRL, .abs 0x61001001000, 0, 1, 0, 1, 32, fun _ _ _ => [IC_CTRL_THRESH]⟩,
    ⟨.IC_STAT, .abs 0x61001001008, 0, 1, 0, 1, 32, fun _ _ _ => [IC_STAT_LEVEL, IC_STAT_DEPTH, IC_STAT_SRC, IC_STAT_SPFAULT, IC_STAT_SLEEPLOST]⟩,
    ⟨.IC_VTBASE, .abs 0x61001001010, 0, 1, 0, 1, 32, fun _ _ _ => [IC_VTBASE_ADDR]⟩,
    ⟨.IC_SP, .abs 0x61001001018, 0, 1, 0, 1, 32, fun _ _ _ => [IC_SP_ADDR]⟩,
    ⟨.IC_SPLIM, .abs 0x61001001020, 0, 1, 0, 1, 32, fun _ _ _ => [IC_SPLIM_ADDR]⟩,
    ⟨.IC_PINSEL, .abs 0x61001001100, 4, 32, 0, 1, 32, fun _ i1 _ => [IC_PINSEL_PIN i1]⟩,
    ⟨.IC_WAKE, .abs 0x61001001200, 4, 32, 0, 1, 32, fun _ i1 _ => [IC_WAKE_SRC i1, IC_WAKE_EN i1]⟩,
    ⟨.IC_SRC, .abs 0x61001002000, 4, 384, 0, 1, 32, fun _ i1 _ => [IC_SRC_PRIO i1, IC_SRC_SENSE i1, IC_SRC_IE i1, IC_SRC_IP i1, IC_SRC_ACTIVE i1, IC_SRC_SETPEND i1, IC_SRC_CLRPEND i1]⟩,
    ⟨.IC_DOORBELL, .abs 0x61001003000, 4, 4, 0, 1, 32, fun _ i1 _ => [IC_DOORBELL_RING i1]⟩,
    ⟨.TM_CTRL, .abs 0x61001004000, 32, 8, 0, 1, 32, fun _ i1 _ => [TM_CTRL_ARM i1, TM_CTRL_DISARM i1, TM_CTRL_PERIODIC i1, TM_CTRL_FIRED i1, TM_CTRL_MISSED i1]⟩,
    ⟨.TM_TARGET, .abs 0x61001004008, 32, 8, 0, 1, 64, fun _ i1 _ => [TM_TARGET_TARGET i1]⟩,
    ⟨.TM_PERIOD, .abs 0x61001004010, 32, 8, 0, 1, 64, fun _ i1 _ => [TM_PERIOD_PERIOD i1]⟩,
    ⟨.WDG_CTRL, .abs 0x61001005000, 0, 1, 0, 1, 64, fun _ _ _ => [WDG_CTRL_EN, WDG_CTRL_LOCK, WDG_CTRL_SLEEP_HOLD, WDG_CTRL_LOAD]⟩,
    ⟨.WDG_KICK, .abs 0x61001005008, 0, 1, 0, 1, 32, fun _ _ _ => [WDG_KICK_KEY]⟩,
    ⟨.WDG_STAT, .abs 0x61001005010, 0, 1, 0, 1, 64, fun _ _ _ => [WDG_STAT_COUNT, WDG_STAT_WARN, WDG_STAT_FROZEN, WDG_STAT_EXPIRIES]⟩,
    ⟨.WDG_WARNAT, .abs 0x61001005018, 0, 1, 0, 1, 32, fun _ _ _ => [WDG_WARNAT_WARNAT]⟩,
    ⟨.SP_CFG, .abs 0x61001006000, 256, 4, 0, 1, 32, fun _ i1 _ => [SP_CFG_MODE i1, SP_CFG_FLOW i1, SP_CFG_PARITY i1, SP_CFG_STOP2 i1, SP_CFG_CPOL i1, SP_CFG_CPHA i1, SP_CFG_DIV i1]⟩,
    ⟨.SP_CMD, .abs 0x61001006008, 256, 4, 0, 1, 32, fun _ i1 _ => [SP_CMD_WLEN i1, SP_CMD_RLEN i1, SP_CMD_ADDR i1, SP_CMD_KEEP_CS i1]⟩,
    ⟨.SP_DATA_POP, .abs 0x61001006010, 256, 4, 0, 1, 32, fun _ i1 _ => [SP_DATA_POP_BYTE i1, SP_DATA_POP_VALID i1, SP_DATA_POP_ERR i1]⟩,
    ⟨.SP_RESULT, .abs 0x61001006018, 256, 4, 0, 1, 64, fun _ i1 _ => [SP_RESULT_STATUS i1, SP_RESULT_TXFILL i1, SP_RESULT_RXFILL i1, SP_RESULT_SEQ i1, SP_RESULT_VALID i1, SP_RESULT_STALE i1]⟩ ]

/-- The registers of spec chapter 20. -/
def regRows20 : List RegRow :=
  open R in
  [ ⟨.MB_DOORBELL, .abs 0x100000001000, 0, 1, 0, 1, 32, fun _ _ _ => [MB_DOORBELL_LEN]⟩,
    ⟨.MB_STATUS, .abs 0x100000001008, 0, 1, 0, 1, 32, fun _ _ _ => [MB_STATUS_BUSY, MB_STATUS_DONE, MB_STATUS_RLEN]⟩,
    ⟨.MB_RESULT, .abs 0x100000001010, 0, 1, 0, 1, 64, fun _ _ _ => [MB_RESULT_STATUS, MB_RESULT_SEQ, MB_RESULT_VALID, MB_RESULT_STALE]⟩,
    ⟨.UO_BASE, .abs 0x41000022000, 0, 1, 0, 1, 64, fun _ _ _ => [UO_BASE_ADDR]⟩,
    ⟨.UO_CMD, .abs 0x41000022008, 0, 1, 0, 1, 32, fun _ _ _ => [UO_CMD_COUNT, UO_CMD_OP]⟩,
    ⟨.UO_RESULT, .abs 0x41000022010, 0, 1, 0, 1, 64, fun _ _ _ => [UO_RESULT_STATUS, UO_RESULT_ENTRY, UO_RESULT_SEQ, UO_RESULT_VALID, UO_RESULT_STALE]⟩ ]

/-- The registers of spec chapter 21. -/
def regRows21 : List RegRow :=
  open R in
  [ ⟨.DBG_SC_CTRL, .abs 0xa1000000000, 0, 1, 0, 1, 32, fun _ _ _ => [DBG_SC_CTRL_ATTACH, DBG_SC_CTRL_HALTREQ, DBG_SC_CTRL_RESUME, DBG_SC_CTRL_STEP, DBG_SC_CTRL_RESET, DBG_SC_CTRL_HALTRESET, DBG_SC_CTRL_STEPIE, DBG_SC_CTRL_EBREAKM]⟩,
    ⟨.DBG_SC_STAT, .abs 0xa1000000008, 0, 1, 0, 1, 32, fun _ _ _ => [DBG_SC_STAT_HALTED, DBG_SC_STAT_DEFERRED, DBG_SC_STAT_EMUL, DBG_SC_STAT_CAUSE, DBG_SC_STAT_IDX]⟩,
    ⟨.DBG_SC_REGCMD, .abs 0xa1000000010, 0, 1, 0, 1, 64, fun _ _ _ => [DBG_SC_REGCMD_REGNO, DBG_SC_REGCMD_WRITE, DBG_SC_REGCMD_DATA]⟩,
    ⟨.DBG_SC_REGDATA, .abs 0xa1000000018, 0, 1, 0, 1, 32, fun _ _ _ => [DBG_SC_REGDATA_DATA]⟩,
    ⟨.DBG_SC_REGRES, .abs 0xa1000000020, 0, 1, 0, 1, 64, fun _ _ _ => [DBG_SC_REGRES_STATUS, DBG_SC_REGRES_SEQ, DBG_SC_REGRES_VALID, DBG_SC_REGRES_STALE]⟩,
    ⟨.DBG_BP, .abs 0xa1000000040, 8, 8, 0, 1, 32, fun _ i1 _ => [DBG_BP_EN i1, DBG_BP_ADDR i1]⟩,
    ⟨.DBG_WP, .abs 0xa1000000080, 8, 4, 0, 1, 64, fun _ i1 _ => [DBG_WP_ADDR i1, DBG_WP_LOG2SIZE i1, DBG_WP_KIND i1]⟩,
    ⟨.DBG_SQ_CTRL, .router 3 0x8000, 64, 32, 0, 1, 32, fun i0 i1 _ => [DBG_SQ_CTRL_CMD i0 i1]⟩,
    ⟨.DBG_SQ_BP, .router 3 0x8008, 64, 32, 0, 1, 32, fun i0 i1 _ => [DBG_SQ_BP_BP_0 i0 i1, DBG_SQ_BP_EN_0 i0 i1, DBG_SQ_BP_BP_1 i0 i1, DBG_SQ_BP_EN_1 i0 i1]⟩,
    ⟨.DBG_SQ_STAT, .router 3 0x8010, 64, 32, 0, 1, 32, fun i0 i1 _ => [DBG_SQ_STAT_HALTED i0 i1, DBG_SQ_STAT_PENDHALT i0 i1, DBG_SQ_STAT_CAUSE i0 i1, DBG_SQ_STAT_BPIDX i0 i1, DBG_SQ_STAT_HELDBP i0 i1, DBG_SQ_STAT_LAST i0 i1]⟩,
    ⟨.DBG_SQ_SEL, .router 3 0x8018, 64, 32, 0, 1, 32, fun i0 i1 _ => [DBG_SQ_SEL_ITEM i0 i1, DBG_SQ_SEL_NUM i0 i1, DBG_SQ_SEL_LANE i0 i1]⟩,
    ⟨.DBG_SQ_DATA, .router 3 0x8020, 64, 32, 0, 1, 64, fun i0 i1 _ => [DBG_SQ_DATA_DATA i0 i1]⟩,
    ⟨.DBG_TXDATA, .abs 0x61001007000, 0, 1, 0, 1, 32, fun _ _ _ => [DBG_TXDATA_DATA]⟩,
    ⟨.DBG_RXDATA, .abs 0x61001007008, 0, 1, 0, 1, 32, fun _ _ _ => [DBG_RXDATA_DATA]⟩,
    ⟨.DBG_VT_FLAGS, .abs 0x61001007010, 0, 1, 0, 1, 32, fun _ _ _ => [DBG_VT_FLAGS_TXFULL, DBG_VT_FLAGS_RXFULL, DBG_VT_FLAGS_TXOVR, DBG_VT_FLAGS_RXOVR]⟩ ]

/-- The registers of spec chapter 22. -/
def regRows22 : List RegRow :=
  open R in
  [ ⟨.HM_CTRL, .abs 0x41000023000, 0, 1, 0, 1, 32, fun _ _ _ => [HM_CTRL_AUTO_EYE, HM_CTRL_KC, HM_CTRL_EOL_WARN]⟩,
    ⟨.HM_EOL, .abs 0x41000023008, 0, 1, 0, 1, 64, fun _ _ _ => [HM_EOL_DAYS_LO, HM_EOL_MON, HM_EOL_VALID]⟩,
    ⟨.HM_CMD, .abs 0x41000023010, 0, 1, 0, 1, 32, fun _ _ _ => [HM_CMD_OP, HM_CMD_MON]⟩,
    ⟨.HM_CMD_RESULT, .abs 0x41000023018, 0, 1, 0, 1, 64, fun _ _ _ => [HM_CMD_RESULT_STATUS, HM_CMD_RESULT_MON, HM_CMD_RESULT_SEQ, HM_CMD_RESULT_VALID, HM_CMD_RESULT_STALE]⟩,
    ⟨.HM_VAL, .abs 0x41000024000, 8, 272, 0, 1, 64, fun _ i1 _ => [HM_VAL_VALUE i1, HM_VAL_VALID i1, HM_VAL_WARN i1, HM_VAL_ALARM i1, HM_VAL_BASED i1, HM_VAL_N i1]⟩,
    ⟨.HM_THR, .abs 0x41000025000, 8, 272, 0, 1, 64, fun _ i1 _ => [HM_THR_WARN i1, HM_THR_ALARM i1]⟩,
    ⟨.HM_PRED, .abs 0x41000026000, 8, 272, 0, 1, 64, fun _ i1 _ => [HM_PRED_DAYS i1, HM_PRED_DAYS_LO i1]⟩ ]

/-- The registers of spec chapter 23. -/
def regRows23 : List RegRow :=
  open R in
  [ ⟨.SEC_STATUS, .abs 0x41000024000, 0, 1, 0, 1, 32, fun _ _ _ => [SEC_STATUS_EF_PRESENT, SEC_STATUS_RAM_PRESENT, SEC_STATUS_TAMPER, SEC_STATUS_TAMPER_SEEN, SEC_STATUS_VBATT_LOST, SEC_STATUS_OPEN, SEC_STATUS_FW_SLOT, SEC_STATUS_RB, SEC_STATUS_FW_RB]⟩ ]

/-- The registers of spec chapter 24. -/
def regRows24 : List RegRow :=
  open R in
  [ ⟨.PWR_STATUS, .abs 0x41000025000, 0, 1, 0, 1, 32, fun _ _ _ => [PWR_STATUS_GOOD, PWR_STATUS_INSERT, PWR_STATUS_THERM]⟩,
    ⟨.PWR_CTRL, .abs 0x41000025008, 0, 1, 0, 1, 32, fun _ _ _ => [PWR_CTRL_THERM_SHUT, PWR_CTRL_THERM_HOT]⟩,
    ⟨.PWR_EVT, .abs 0x41000025010, 0, 1, 0, 1, 32, fun _ _ _ => [PWR_EVT_RAIL_LOST, PWR_EVT_RAIL_GOOD, PWR_EVT_REMOVAL, PWR_EVT_SHUT, PWR_EVT_HOT, PWR_EVT_FAB_OFF, PWR_EVT_INSERT_POR]⟩,
    ⟨.PWR_LOG, .abs 0x41000025018, 0, 1, 0, 1, 64, fun _ _ _ => [PWR_LOG_LAST_LOST, PWR_LOG_REMOVALS, PWR_LOG_TIME]⟩ ]

/-- The registers of spec chapter 25. -/
def regRows25 : List RegRow :=
  open R in
  [ ⟨.IO_STATUS, .abs 0x41000026000, 0, 1, 0, 1, 32, fun _ _ _ => [IO_STATUS_STATE, IO_STATUS_MATCH, IO_STATUS_VCCO_OK]⟩,
    ⟨.IO_BANK, .abs 0x41000026020, 4, 8, 0, 1, 32, fun _ i1 _ => [IO_BANK_VCCO i1]⟩,
    ⟨.IO_PIN, .abs 0x41000026100, 4, 336, 0, 1, 32, fun _ i1 _ => [IO_PIN_STD i1, IO_PIN_DIR i1, IO_PIN_DRIVE i1, IO_PIN_SLEW i1, IO_PIN_PULL i1, IO_PIN_TERM i1]⟩ ]

/-- Every register of the map. -/
def regRows : List RegRow :=
  regRows01 ++ regRows03 ++ regRows04 ++ regRows05 ++ regRows06 ++ regRows08 ++ regRows09 ++ regRows10 ++ regRows11 ++ regRows12 ++ regRows13 ++ regRows14 ++ regRows15 ++ regRows16 ++ regRows17 ++ regRows18 ++ regRows19 ++ regRows20 ++ regRows21 ++ regRows23 ++ regRows24 ++ regRows25 ++ regRows22

end Sys2Proof.Machine
end

