-- ==== Sys2Proof/Machine/SMap.lean ====
section
/-!
DEFINITION. Sparse data by number: a list of (key, value) pairs in one canonical form, keys strictly rising and no entry
equal to what an unlisted key reads as. Register fields, frames, memories and per-unit records are held this way.
-/
namespace Sys2Proof.Machine

/-- A sparse map from numbers to values. -/
abbrev SMap (α : Type) := List (Nat × α)

/-- The value at a key; `d` where the key is not listed. -/
def SMap.get {α : Type} (m : SMap α) (d : α) (k : Nat) : α :=
  match m with
  | [] => d
  | (k', v) :: t => if k' = k then v else SMap.get t d k

/-- The map without a key. -/
def SMap.drop {α : Type} (m : SMap α) (k : Nat) : SMap α :=
  match m with
  | [] => []
  | (k', v) :: t => if k' = k then SMap.drop t k else (k', v) :: SMap.drop t k

/-- Puts a pair in its place by key; the map is without that key. -/
def SMap.put {α : Type} (m : SMap α) (k : Nat) (v : α) : SMap α :=
  match m with
  | [] => [(k, v)]
  | (k', v') :: t => if k < k' then (k, v) :: (k', v') :: t else (k', v') :: SMap.put t k v

/-- Writes a value at a key; writing what an unlisted key reads as removes the entry. -/
def SMap.set {α : Type} [DecidableEq α] (m : SMap α) (d : α) (k : Nat) (v : α) : SMap α :=
  if v = d then SMap.drop m k else SMap.put (SMap.drop m k) k v

/-- The keys rise strictly from `lo` on. -/
def SMap.sortedFrom {α : Type} (lo : Nat) (m : SMap α) : Bool :=
  match m with
  | [] => true
  | (k, _) :: t => decide (lo ≤ k) && SMap.sortedFrom (k + 1) t

/-- The canonical form: keys strictly rising, no entry equal to the unlisted value. -/
def SMap.wf {α : Type} [DecidableEq α] (d : α) (m : SMap α) : Bool :=
  SMap.sortedFrom 0 m && m.all (fun p => decide (p.2 ≠ d))

/-- Writes a run of values at consecutive keys. -/
def SMap.setRun {α : Type} [DecidableEq α] (m : SMap α) (d : α) (k : Nat) (vs : List α) : SMap α :=
  match vs with
  | [] => m
  | v :: t => SMap.setRun (SMap.set m d k v) d (k + 1) t

/-- The map without the keys a test names. -/
def SMap.without {α : Type} (m : SMap α) (p : Nat → Bool) : SMap α := m.filter (fun e => !p e.1)

/-- The map with the keys `lo` to `hi - 1` back at the unlisted value. -/
def SMap.clear {α : Type} (m : SMap α) (lo hi : Nat) : SMap α :=
  SMap.without m (fun k => decide (lo ≤ k) && decide (k < hi))

end Sys2Proof.Machine
end

