-- ==== Sys2Proof/Machine/State.lean ====
section
/-!
DEFINITION. The state of the block: every register field, queue, buffer, counter, mode and pin that the manual gives it,
as plain data, with the queue of waiting commands, and State.reset, the machine after power-on reset.
-/
namespace Sys2Proof.Machine
open Sys2Proof

/-- The answer of the last register access: its status (R23, R737) and the data a read returned. -/
structure Answer where
  status : Nat
  data : Nat
deriving DecidableEq, Repr

/-- A mode transition between its trigger and its completion (R41, R53, R54). -/
structure Trans where
  cause : Nat
  target : Nat
  status : Nat
deriving DecidableEq, Repr

/-- The mode hardware (R40 to R54): the transition in progress; conditions and header acceptances that a higher trigger
displaced and that are evaluated again in the new mode (R53); the accepted request that waits for its result; whether a
LOAD request is armed (R43); the wrap count C of DEV_WAKE (R44); whether a quiet exit has ended in this SAFE (R48, R705);
the straps sampled at POR release; whether the 500 ms window of R701 is still open; the times (TIME32, oldest first) of the wakes that
fired outside STANDBY and were logged (R44). -/
structure ModeSt where
  trans : Option Trans
  displaced : List Trans
  request : Option Nat
  armed : Bool
  wakeC : Int
  quiet : Bool
  straps : Nat
  bootWindow : Bool
  wakeLog : List Nat
deriving DecidableEq, Repr

/-- Levels of pins that a rule reads or drives (R703, R676, R462, R708, R488): true is high. -/
structure Pins where
  insertL : Bool
  tamperL : Bool
  perstL : Bool
  thermL : Bool
  ssRdy : Bool
deriving DecidableEq, Repr

/-- A record of an event ring as it is offered (R470, R471): PHASE and SEQ are set when it is written. -/
structure EvRec where
  typ : Nat
  code : Nat
  bad : Bool
  loss : Bool
  time : Nat
  wraps : Nat
  unit : Nat
  lost : Nat
  detail : Nat
  data : List Nat
deriving DecidableEq, Repr

/-- What an event ring holds beside its registers (R474, R477, R478): the FIFO, records lost since, whether a run of drops is on,
records written and not signalled, and when the oldest of them was written (2^-16 ns). -/
structure Ring where
  fifo : List EvRec
  lostPend : Nat
  dropping : Bool
  unsignalled : Nat
  oldest : Int
deriving DecidableEq, Repr


/-- What the host link sends to the host: a memory write, a memory read, an MSI-X message, a completion (its status 0 is
success, 1 UR, 4 Completer Abort) (R465, R468, R474, R478). -/
inductive HostTlp where
  | write (addr : Nat) (bytes : List Nat)
  | read (addr len : Nat)
  | msix (vector : Nat)
  | completion (status : Nat) (bytes : List Nat)
deriving DecidableEq, Repr

/-- What a command sent out of the device or returned on a medium other than the register answer: a host-link TLP, bytes on
a port, a NoC packet. The model's own field: it holds what the last sending command sent. -/
inductive OutItem where
  | bytes (port : Nat) (data : List Nat)
  | word (port value : Nat)
  /-- A flit that the bridge offers the fabric (R356): its header and the 16 words of its payload; none is a word outside the range of a request, which
  the receiver ignores (R341). -/
  | flit (port header : Nat) (payload : List (Option Nat))
  /-- What the transmitter of a serial lane sends: the bits of one 64-bit word, or a reply of its protocol (R397, R409). -/
  | lane (n value : Nat)
  /-- Octets that a stream engine sends over its lanes (R419, R421); none is a lane-link IDLE. -/
  | stream (q : Nat) (octets : List Nat)
  /-- A frame that a MAC sends, with its FCS (R442). -/
  | frame (ch : Nat) (bytes : List Nat)
  /-- A packet of the host link. -/
  | tlp (t : HostTlp)
deriving DecidableEq, Repr

/-- Whether a bough runs (R107, R50): empty (BOOT), loading (full or dark load), running, frozen (swap), rest, off,
stopped (SAFE). -/
inductive BoughRun where
  | empty | loading | running | frozen | rest | off | stopped
deriving DecidableEq, Repr

/-- A trigger firing or TRG_SW write that waits for its TRG_CLK edge (R326): its line, the tick it came at, and whether the first edge that may
take it passes it by. -/
structure TrigPend where
  line : Nat
  tick : Nat
  second : Bool
deriving DecidableEq, Repr

/-- One bough beside its registers: run state, active plane, collar clamp, the clock lines whose release edge is still to
come (R66), the trigger and mark registers (R326, R330) with the trigger firings that wait for a TRG_CLK edge, the graft
edges that step 4 of R123 clamps, and the point that REST keeps (R273). -/
structure Bough where
  run : BoughRun
  plane : Nat
  clamped : Bool
  relLines : Nat
  trig : Nat
  trigPend : List TrigPend
  mark : Nat
  edgeOff : Nat
  keepOp : Nat
deriving DecidableEq, Repr

/-- One access of a block-memory port, as its inputs present it at an edge (R131). -/
structure BmAcc where
  addr : Nat
  caddr : Nat
  di : Nat
  we : Nat
  en : Bool
  orst : Bool
  oce : Bool
deriving DecidableEq, Repr

/-- The access that port A of an operand store made at the last edge of its line, if it made one (R141, R152): row, bits of the word, bits it wrote,
the row before it, and whether its read data stand in the latch. -/
structure BmNear where
  row : Nat
  lo : Nat
  w : Nat
  wmask : Nat
  old : Nat
  latched : Bool
deriving DecidableEq, Repr

/-- One block-memory port (R138 to R150): the output latch and register with their flags (bit 0 SBE, 1 DBE, 2 COLL),
the cascade stages on the way in and back, the pending write-back (member block, row, data; R146), and the last access. -/
structure BmPort where
  latch : Nat
  latchF : Nat
  oreg : Nat
  oregF : Nat
  inStage : Option BmAcc
  outStage : Nat
  outF : Nat
  wb : Option (Nat × Nat × Nat)
  last : Option BmNear
deriving DecidableEq, Repr

/-- One slice operation with the controls that travel with it (R164, R168): operands as 24-bit words. -/
structure SliceOp where
  a : Nat
  b : Nat
  d : Nat
  c : Nat
  a2 : Nat
  b2 : Nat
  acc : Bool
  sub : Bool
  psub : Bool
  casc : Bool
  pub : Bool
deriving DecidableEq, Repr

/-- One arithmetic slice (R167 to R182): the input-stage operands that ACIN and BCIN carry on, the two stages, P and its
flags, the pending publications, whether one was made since the last release, and the snapshot of the result slot (R182). OVF stands in SL_OVF_MAP. -/
structure Slice where
  aReg : Nat
  bReg : Nat
  inOp : Option SliceOp
  mOp : Option SliceOp
  p : Nat
  satd : Bool
  povf : Bool
  pend : Nat
  pubd : Bool
  snap : Option (Nat × Option Nat)
deriving DecidableEq, Repr

/-- The fabric: frames and their check bits by (plane, b, row, column, index), flip-flops, limb registers, graft output and capture registers
with the capture count of R108, boughs, block memories and slices. -/
structure Fabric where
  frames : SMap Nat
  checks : SMap Nat
  ffs : SMap Nat
  limbs : SMap Nat
  gout : SMap Nat
  gcap : SMap Nat
  gcnt : SMap Nat
  boughs : SMap Bough
  bmRows : SMap Nat
  bmNotReady : SMap Nat
  bmPorts : SMap BmPort
  slices : SMap Slice
deriving DecidableEq, Repr

/-- The mode state of one sequencer lane (R184, R190). -/
structure LaneMode where
  dual : Bool
  ovsat : Bool
  rnd : Nat
  rshift : Nat
  rsat : Bool
  bconst : Nat
  pattern : Nat
  pmask : Nat
deriving DecidableEq, Repr

/-- An address generator (R190, R197): STRIDE is a 12-bit two's-complement number. -/
structure AddrGen where
  base : Nat
  ptr : Nat
  len : Nat
  stride : Nat
  circ : Bool
deriving DecidableEq, Repr

/-- One active REPEAT loop (R205): first and last address of the body, iterations left. -/
structure LoopEnt where
  start : Nat
  stop : Nat
  count : Nat
deriving DecidableEq, Repr

/-- What one lane of a MAC carries from stage A to stage W (R232, R233). -/
structure MacLane where
  op : SliceOp
  mode : LaneMode
deriving DecidableEq, Repr

/-- A write that an instruction has still to make in its stage W (R200 to R202). -/
inductive WAct where
  | setV (lane r v : Nat)
  | setS (r v : Nat)
  | mac (lanes : List MacLane) (cshift : Nat) (shr24 pre clrovf : Bool)
deriving DecidableEq, Repr

/-- The instruction that was fetched and has not entered stage D (R200): its word and address, whether it is a delay slot,
whether it stands at one of the last two addresses of an active loop body (R204), whether it lies in one (R209), the fault that stage D finds
whatever its class (0 for none; R224), and whether it is stalled on a block with READY = 0 (R196). -/
structure SeqInstr where
  word : Nat
  addr : Nat
  slot : Bool
  nearEnd : Bool
  inLoop : Bool
  bad : Nat
  stalled : Bool
deriving DecidableEq, Repr

/-- One sequencer (R190) beside STATE and PEND, which stand in SQ_STATUS: lane and scalar registers, lane modes, PC,
generators with a SETAG write that D of the next instruction does not see yet (R199), loops (innermost first), the fetched
instruction, the stage-W writes of the three older instructions (newest first), the delay slots still to fetch with the
taken target, the cycles for which each block is still busy (R193), the mask of the WAIT in stage A, a STOP and a debug halt
that wait for a boundary (haltPend: 0 none, 1 HALT, 2 a step that has run its instruction, 3 a breakpoint, 4 a step before that), the state that HALT left, the address of the
WAIT in stage A (R218), and the last level of each channel's fabric event select (R207). -/
structure Seq where
  v : SMap Nat
  s : SMap Nat
  modes : SMap LaneMode
  pc : Nat
  ags : SMap AddrGen
  setag : Option (Nat × AddrGen × Bool)
  loops : List LoopEnt
  cur : Option SeqInstr
  wq : List (List WAct)
  slots : Nat
  target : Option Nat
  busy : List Nat
  waitMask : Nat
  stopPend : Bool
  haltPend : Nat
  haltFrom : Nat
  waitAddr : Nat
  evLevel : Nat
deriving DecidableEq, Repr

/-- A change of operating point in progress (R271 to R275): former and target state, whether it is an automatic reduction,
whether it is a load's own change (R269), whether its rail switch was granted, and whether it returns to the former rail after 10 ms without
LOCKED (R271 step 5). -/
structure OpChange where
  former : Nat
  target : Nat
  auto : Bool
  byLoad : Bool
  granted : Bool
  back : Bool
deriving DecidableEq, Repr

/-- A switch of the source of a bough clock line (R277, R254, R255): the line as it ran before (SRC, DACT), the rising edges of that old clock
and of the new one since the request, and whether the old clock is gated off, the new edges then counting from there. -/
structure LineSwitch where
  src : Nat
  dact : Nat
  olds : Nat
  news : Nat
  low : Bool
deriving DecidableEq, Repr

/-- Clocks beside their registers: passing windows of MON_F and of the monitors, the input toward which a mux switches (one
more than PRI 0, ALT 1, FOSC 2; 0 for none), the muxes that hold their output low in a switch (R254 step 3, R256), the source that each CLKOUT
passes (R268), the crown-wide phase count of each global line, modulo 8 (R266), the DACT that waits for the end of a line's divided period by
(17b + n), one more than the value (R265), switches of a line's source by the same number (R277); the effective frequency that a measurement raised (R263; 0 for none), the
images' line records by (((plane × 64 + b) × 17 + line) × 4 + point) (R118), changes of operating point, boughs that wait for a rail slot,
the point below which a waiting reduction leads (R275), monitor trips; of the delay regulators, windows in a row above and
below at a limit (R123, R124), the junction temperature of the last window and when HOLD was set (R122), and when the last eight rail slots were
granted (R270). -/
structure Clocks where
  monfPasses : Nat
  monPasses : SMap Nat
  muxSw : SMap Nat
  muxLow : List Nat
  outSrc : SMap Nat
  phase : SMap Nat
  dactNext : SMap Nat
  lineSw : SMap (Option LineSwitch)
  gclEff : SMap Nat
  lineRec : SMap Nat
  opCh : SMap (Option OpChange)
  opQueue : List Nat
  autoWait : SMap Nat
  trips : Nat
  drOver : SMap Nat
  drUnder : SMap Nat
  drTemp : SMap Int
  drHoldTemp : SMap Int
  slotTimes : List Int
deriving DecidableEq, Repr

/-- An accepted adjustment of the time plane that waits for its apply tick (R290): a base write, a change of DINC_SRV, a
step (of firmware or of the servo), a slew start, a slew abort. -/
inductive Adj where
  | base (v : Nat)
  | dinc (v : Int)
  | step (delta : Int) (servo : Bool)
  | slew (delta : Int) (rate : Nat)
  | abort
deriving DecidableEq, Repr

/-- A running slew (R296): the amount still to absorb in units of 2^-48 ns, and the DINC it adds per tick. -/
structure Slew where
  rest : Int
  dinc : Int
deriving DecidableEq, Repr

/-- The holdover model (R307): coefficients A0, A1, A2, B, the matrix P row by row, s2, all as binary64 words; samples;
the extended time of the first sample in ns and the temperature range in Q8.8. -/
structure HoModel where
  a : List Nat
  p : List Nat
  s2 : Nat
  nsamp : Nat
  epoch : Int
  tmin : Option Int
  tmax : Option Int
deriving DecidableEq, Repr

/-- The learning interval in progress (R307): sums of DINC_SRV and of the temperature over its ticks, the ticks, whether every
tick qualified. -/
structure HoInterval where
  dinc : Int
  temp : Int
  ticks : Nat
  kept : Bool
deriving DecidableEq, Repr

/-- The phase measurement that updated the servo since the last tick (R300): its value, what the integrator and the last proportional term were
before it, whether the servo was in holdover before it, and whether it asked for a step instead. -/
structure PhaseNow where
  theta : Int
  integ : Int
  pLast : Int
  held : Bool
  stepped : Bool
deriving DecidableEq, Repr

/-- The time plane beside its registers: the accumulator (32.32), the dither, WRAPS, wraps without the modulus, the tick
count, DINC_SRV as it acts, the adjustments that wait with their apply ticks, the slew; the servo's last proportional
term and last accepted phase; failed inputs of the time PLL (R285); consumers with TIME_BAD and their runs of failures
(R292); of the estimator the model, the interval in progress, E_acc (binary64), seconds in holdover, failed polls, whether a
holdover still waits for HO_LAST (R311), the last good temperature (Q8.8). The integrator stands in SRV_INTEG. Then, of each consumer whose values
fail their check, the value it extrapolates (2^-32 ns, no modulus) and the increment it adds (R292); the phase measurement of the present tick (R300);
whether the frequency detector's running gate is discarded (R303). -/
structure TimePlane where
  acc : Nat
  da : Nat
  wraps : Nat
  wide : Int
  tick : Nat
  dincSrv : Int
  adj : List (Nat × Adj)
  slew : Option Slew
  pLast : Int
  thetaLast : Int
  failed : List Nat
  badConsumers : List Nat
  distRun : SMap Nat
  ho : HoModel
  cur : HoInterval
  eacc : Nat
  tau : Nat
  pollFails : Nat
  wasHoldover : Bool
  tempGood : Int
  heldTime : SMap (Option (Int × Nat))
  phaseNow : Option PhaseNow
  fdDrop : Bool
deriving DecidableEq, Repr

/-- Closing edge of a pin pulse that a firing opened (R328): its tick, pin, level and delay-line steps. -/
structure PinClose where
  tick : Nat
  pin : Nat
  level : Nat
  steps : Nat
deriving DecidableEq, Repr

/-- Timeline and capture units beside their registers: pending targets T in 32.32 by slot (R317), the last tick at which a
slot that was disarmed still fires (R319), slots that raised 0x0394 under the present TIME_BAD (R323), levels of timed
output pins and the delay steps of their last edge (R328), pulses still to close, lost actions and skipped periods since
power-up (R336), levels of capture inputs by SRC (R332), the stamp (56 bits) and the tick of each unit's last accepted edge, slots whose pin edge
left before their firing tick (R328), and the level each unit last saw (R332). -/
structure TimelineSt where
  target : SMap Nat
  cut : SMap Nat
  badSeen : List Nat
  pinLevel : SMap Nat
  pinSteps : SMap Nat
  closing : List PinClose
  lost : Nat
  skipped : Nat
  inLevel : SMap Nat
  lastEdge : SMap (Option (Nat × Nat))
  released : List Nat
  unitLevel : SMap Nat
deriving DecidableEq, Repr

/-- A NoC request (R340, R341): its own serial number, header fields, and the words of its range. -/
structure NocReq where
  id : Nat
  src : Nat
  tag : Nat
  waddr : Nat
  last : Nat
  wr : Bool
  epoch : Nat
  data : List Nat
deriving DecidableEq, Repr

/-- A NoC response (R343): the serial number of its request, header fields, the index in its 256-byte region of its first word, words. -/
structure NocRsp where
  id : Nat
  dest : Nat
  resp : Nat
  status : Nat
  tag : Nat
  wr : Bool
  epoch : Nat
  first : Nat
  data : List Nat
deriving DecidableEq, Repr

/-- What a packet carries: a request or a response. -/
inductive NocBody where
  | req (q : NocReq)
  | rsp (r : NocRsp)
deriving DecidableEq, Repr

/-- A packet on the network: its dateline class (R350), its poison bit, and the upset that will strike it (R354). -/
structure NocPkt where
  body : NocBody
  cls : Nat
  poison : Bool
  upset : Option NocUpset
deriving DecidableEq, Repr

/-- A packet of the fabric of which the bridge has taken only some flits (R357, R362): of a request its header, of a response also its STATUS; the 16-word
payloads so far; whether the response is being discarded. -/
structure FabPart where
  tag : Nat
  wr : Bool
  waddr : Nat
  last : Nat
  dest : Nat
  status : Nat
  words : List Nat
  bad : Bool
  upset : Option NocUpset
deriving DecidableEq, Repr

/-- The NoC beside its registers: the next serial number; requests outstanding at their injecting ports (R363); responses that their ports have ready;
packets that wait at a local port to be injected, by (2 × port + kind), kind 1 a response; the receivers' buffers by (4 × buffer + VC) (R346), with the
credits that their senders hold, 8 where unlisted (R353), buffer 8r + o being at the far end of output o of router r (o 0 to 3 its local ports, 4 to 7 its
links E, W, N, S) and buffer 512 + 4r + p being what router r holds from its local port p; by (2 × output + kind) the input served last, plus one, and by output the responses served in a row
(R352); by bough the bridge's REQ_IN buffer with the flits already taken of its head, the table (R357), the RSP_IN buffer with the flits already taken
of its head (R356), the fabric's request and response that were taken in part; boughs whose responses are being discarded (R358) and whose drain reached DRAIN_TO (R360);
the serial numbers of requests whose responses a DMA engine takes, and those that have come. -/
structure Noc where
  next : Nat
  outst : List NocReq
  rsps : List NocRsp
  inj : SMap (List NocPkt)
  bufs : SMap (List NocPkt)
  cred : SMap Nat
  served : SMap Nat
  inRow : SMap Nat
  buf : SMap (List NocReq)
  reqTaken : SMap Nat
  table : SMap (List NocReq)
  rspIn : SMap (List NocRsp)
  rspTaken : SMap Nat
  partReq : SMap (Option FabPart)
  partRsp : SMap (Option FabPart)
  dropping : List Nat
  timedOut : List Nat
  catching : List Nat
  caught : List NocRsp
deriving DecidableEq, Repr

/-- A repair in progress at a router (R384): bank, physical row, spare, whether a command asked for it. -/
structure GrRepair where
  bank : Nat
  row : Nat
  spare : Nat
  byCmd : Bool
deriving DecidableEq, Repr

/-- The granary beside its registers: 144-bit rows by (bank × 33,280 + row), the 32,768 data rows before the 512 rows of the
spares; requests queued by bank, each with whether its wait was counted (R375, R380); banks on the way to a power state (the
state plus 1; R386); repairs in progress by router; the next test region by router; routers with a test asked for (R383); and
the repairs that the CMC has recorded (R385); the banks tested in the present pass of their router (R381). -/
structure Granary where
  rows : SMap Nat
  queues : SMap (List (NocReq × Bool))
  pwr : SMap Nat
  repair : SMap (Option GrRepair)
  btNext : SMap Nat
  btAsked : List Nat
  recorded : List (Nat × Nat)
  tested : List Nat
deriving DecidableEq, Repr

/-- An eye scan in progress (R403, R404): its CMD (4 point, 5 margin), 2^LOG2BITS and ERRLIM as they stood at its start. -/
structure EyeScan where
  cmd : Nat
  log2 : Nat
  errLim : Nat
deriving DecidableEq, Repr

/-- What a PRBS checker holds (R408): the last received bits (newest in bit 0) and how many since it last seeded; the run of
correct predictions; while locked, its own register or USER position, and the mismatches of the last 64 bits (the 64 that
brought the lock matched). -/
structure PrbsChk where
  hist : Nat
  seen : Nat
  run : Nat
  pred : Nat
  win : Nat
deriving DecidableEq, Repr

/-- One serial lane beside its registers: the running scan, the generator's register (or bit position) and the bits sent since
it started (R407, R409), the checker, whether training controls the taps (R397), the adapted CTLE and VGA (R398), the
snapshots of LN_PRBS_ERR and LN_EYE_RES0 (R408, R403). -/
structure Lane where
  scan : Option EyeScan
  gen : Nat
  sent : Nat
  chk : PrbsChk
  training : Bool
  adCtle : Nat
  adVga : Nat
  errSnap : Nat
  eyeSnap : Nat
deriving DecidableEq, Repr

/-- A stream engine (Q_10 is 0, Q_11 is 1) beside its registers: octets of the transmit FIFO (R421), chunks that wait to be
written to the ring, the head being the one whose write is under way when `busy` (R420), whether the multiframe counter is
aligned, whether a first SYSREF has come since EN and the firing ticks of the SYSREF edges on their way (R417), whether 0x0A32 was
raised, the last CAPS set with how many identical ones came and the two ACKs (R414), whether blocks are discarded until a
MARKER (R413), the snapshots of ST_MARK_TIME and ST_MARK_FLAGS, the levels of JSYNC_O and JSYNC_I (R418), whether the ILAS of a 204B receive quad
has come and agrees with JS_CFG (R418); of the lane link's transmitter the blocks that each lane sent since its last MARKER and its last FILLER,
the count of MARKERs, each lane's scrambler and CRC-32 register, and which block of the CAPS exchange comes next (R411 to R414). -/
structure Stream where
  tx : List Nat
  rx : List (List Nat)
  busy : Bool
  aligned : Bool
  sysrefDue : List Nat
  timeoutRaised : Bool
  capsLast : List Nat
  capsSame : Nat
  ackSent : Bool
  ackSeen : Bool
  discard : Bool
  markSnap : Nat
  markFlags : Nat
  jsyncO : Bool
  jsyncI : Bool
  ilas : Bool
  sinceMarker : Nat
  sinceFiller : Nat
  markers : Nat
  scr : SMap (Option Nat)
  crc : SMap Nat
  capsIdx : Nat
deriving DecidableEq, Repr

/-- A frame in loft cells (R432): its cells in chain order, whether it is in a queue, the channel its cells are charged to,
and for a received frame its descriptor and stamp as CH_RXQ_POP and CH_RXQ_TS return them. -/
structure Frame where
  cells : List Nat
  queued : Bool
  ch : Nat
  desc : Nat
  ts : Nat
deriving DecidableEq, Repr

/-- A frame on a transmit queue (R441). -/
structure TxEnt where
  handle : Nat
  len : Nat
  queue : Nat
  tsMode : Nat
  gen : Bool
  tsId : Nat
deriving DecidableEq, Repr

/-- A frame that the MAC is sending (R442): its entry, its stamp and whether it was corrected or bad, the bytes on the wire
with the FCS, and the MAC's own time (all times in 2^-16 ns, without modulus). -/
structure TxSend where
  ent : TxEnt
  stamp : Int
  corr : Bool
  bad : Bool
  bytes : List Nat
  tMac : Int
deriving DecidableEq, Repr

/-- A running gate list (R452, R454): its bank and start, the cycle and entry it has reached, the frames that stood at the
head of their queues when the cycle began with whether their gate has opened since, and those due for a discard. -/
structure GateRun where
  bank : Nat
  start : Int
  cycle : Int
  entry : Nat
  heads : List (Nat × Nat × Bool)
  due : List (Nat × Nat)
deriving DecidableEq, Repr

/-- A base of PTP80 (R449): seconds, nanoseconds, wrap count. -/
structure Tod where
  secs : Nat
  ns : Nat
  w0 : Nat
deriving DecidableEq, Repr

/-- A channel beside its registers: received frames in its receive queues as (queue, handle), oldest first, its transmit queues
in the order enqueued, the frame being sent, its gate list, and when it last raised 0x0421 (R435). -/
structure Chan where
  rx : List (Nat × Nat)
  tx : List TxEnt
  send : Option TxSend
  gate : Option GateRun
  last421 : Option Int
deriving DecidableEq, Repr

/-- The loft (R432, R440): frames by handle, cell contents by (cell × 256 + byte). -/
structure Loft where
  frames : SMap Frame
  mem : SMap Nat
deriving DecidableEq, Repr

/-- A descriptor that a DMA engine works on (R467, R468). -/
structure DmaJob where
  host : Nat
  noc : Nat
  len : Nat
  flags : Nat
  user : Nat
  index : Nat
deriving DecidableEq, Repr

/-- A BAR access that waits for the responses of its NoC requests (R465): by request its serial number, its NoC address, and the status
and words of its response once that has come. -/
structure BarJob where
  wr : Bool
  parts : List (Nat × Nat × Option (Nat × List Nat))
deriving DecidableEq, Repr

/-- The host link beside its registers: rings; MSI-X table words (vector × 4 + word), the mask bit of word 3 held inverted, and
pending bits; DMA descriptors in progress; records lost to link loss (0x7000:04); of the configuration space Memory Space
Enable and the bases of BAR 0 and BAR 2 (Bus Master Enable stands in HL_STATUS); BAR accesses whose responses are awaited (R465). -/
structure HostLink where
  rings : SMap Ring
  msixTab : SMap Nat
  msixPend : Nat
  jobs : SMap (Option DmaJob)
  lostDown : Nat
  memEn : Bool
  bar0 : Nat
  bar2 : Nat
  bars : List BarJob
deriving DecidableEq, Repr

/-- A partition record of a descriptor (R494). -/
structure LdRec where
  part : Nat
  flags : Nat
  seed : Nat
  boughs : Nat
  first : Nat
  nblk : Nat
deriving DecidableEq, Repr

/-- The header and descriptor of an accepted stream (R493, R494). INIT_STATE and FREQ stand by bough: `init` by b, `freq` by
((16b + n) × 4 + point). -/
structure LdImage where
  kind : Nat
  part : Nat
  keysel : Nat
  keyVal : Nat
  imageId : Nat
  version : Nat
  salt : Nat
  ess : Nat
  cstage : Nat
  boughs : Nat
  nblocks : Nat
  seedAddr : Nat
  recs : List LdRec
  init : SMap Nat
  freq : SMap Nat
deriving DecidableEq, Repr

/-- The loader beside its registers: bytes taken and not yet judged; the header that awaits its descriptor; the accepted image;
the start address of a flash or pull stream, the most blocks of a pull and the bytes taken so far; the OP of the command that began it (0xF for none); the next
block and its expected digest; whose seed is loading (the partition, 0 the crown); the crown seed that the full image named;
failed partitions with their codes, in order; the partition whose packets are passed over; whether END was seen; the count of REG
entries, the stage slots (b, k, RAW) of a SHADOW image and the bytes written to them by (9,216 slot + byte); INIT_STATE by bough; partition seeds that wait; the source and code of a refused stream that is being
discarded (R510); LD_ERR_LOC words beside LD_ERR_POP; IMAGE_ID and VERSION of the last accepted FULL image (R513); partitions that failed in RUN
while the loader was busy and whose seeds wait (R536, R556). -/
structure Loader where
  buf : List Nat
  hdr : List Nat
  img : Option LdImage
  start : Nat
  limit : Nat
  taken : Nat
  op : Nat
  next : Nat
  expect : Nat
  seedFor : Option Nat
  crownSeed : Nat
  failed : List (Nat × Nat)
  skip : Option Nat
  ended : Bool
  regs : Nat
  slots : List (Nat × Nat × Bool)
  stageImg : SMap Nat
  init : SMap Nat
  seeds : List Nat
  discard : Option (Nat × Nat)
  locs : List Nat
  lastImage : Nat
  lastVersion : Nat
  waitSeeds : List Nat
deriving DecidableEq, Repr

/-- The loader at rest. -/
def Loader.reset : Loader := ⟨[], [], none, 0, 0, 0, 15, 0, 0, none, 0xFFFFFFFF, [], none, false, 0, [], [], [], [], none, [], 0, 0, []⟩

/-- What wrote a plane of a partition and where it can be read again (R553, R554): the source (only 1 flash and 3 NoC pull can be read again) with its start address, what
the descriptor gave (SALT, IMAGE_ID, KEYSEL, ESS_ADDR, BOUGHS), the partition's blocks and the digest of the first of them. -/
structure RepairSrc where
  src : Nat
  start : Nat
  salt : Nat
  imageId : Nat
  version : Nat
  keysel : Nat
  ess : Nat
  boughs : Nat
  first : Nat
  nblk : Nat
  digest : Nat
deriving DecidableEq, Repr

/-- One slot of a contents stage (R525): its block, whether its rows are RAW, and the digest of the slot as written. -/
structure StageSlot where
  b : Nat
  k : Nat
  raw : Bool
  digest : Nat
deriving DecidableEq, Repr

/-- A swap in progress (R529, R530, R536): boughs before S0, boughs between S0 and S24, blocks that wait for their refill. -/
structure Swap where
  freeze : List Nat
  frozen : List Nat
  refill : List (Nat × Nat)
  tick : Nat
deriving DecidableEq, Repr

/-- A capture in progress (R538, R539): the time T_c that it posts, the tick of its firing or command, and whether its latches have taken. -/
structure CapPend where
  time : Int
  tick : Nat
  taken : Bool
deriving DecidableEq, Repr

/-- Partitions beside their registers: SEED_ADDR and the KEYSEL of the loaded image by partition; repair sources, CSTAGE and the
slots of the contents stage by (2q + plane); carry lists by (64 plane + b); golden signatures by branch and plane; the pin
entries that a clamped collar latched by (64b + e), one more than the entry (R521); pending register latches by address
(R526), one more than the value; running swaps by partition; the capture latches by flip-flop, and captures in progress by bough; boughs of failed partitions whose
ports still drain (R523), 1 where a seed follows and 2 where ERROR does. -/
structure Parts where
  seed : SMap Nat
  keysel : SMap Nat
  repair : SMap (Option RepairSrc)
  cstage : SMap Nat
  stage : SMap (List StageSlot)
  carry : SMap (List Nat)
  sig : SMap Nat
  pinLatch : SMap Nat
  held : SMap Nat
  swaps : SMap (Option Swap)
  capLatch : SMap Nat
  capPend : SMap (Option CapPend)
  falling : SMap Nat
deriving DecidableEq, Repr

/-- A frame on the repair list (R555), or a branch in a deferral queue (its index then 0): partition, plane, bough, place. -/
structure GlFrame where
  part : Nat
  plane : Nat
  b : Nat
  row : Nat
  col : Nat
  idx : Nat
deriving DecidableEq, Repr

/-- The gleaner beside its registers: the next branch of each walker, as ((2·(bough's place in the quadrant) + plane)·321 + branch),
and when its pass began (2^-16 ns); the repair list; the deferral queues by walker; the frames of a running repair that were written,
and those that failed with their status; the three settings copies (EN [0], REPAIR_EN [1], QMASK [7:4], HB_TO [31:16], RESET_LIM
[35:32]); TIME of the entries of GL_LOG_POP; times of walker resets; corrected and uncorrectable frames by hour (R563); corrected (0) and uncorrectable (1) frames, repaired frames (2) and finds (3) since power-up (R564). -/
structure Gleaner where
  pos : SMap Nat
  began : SMap Int
  list : List GlFrame
  defer : SMap (List GlFrame)
  fixed : List GlFrame
  lost : List (GlFrame × Nat)
  copies : SMap Nat
  times : List Nat
  resets : List Int
  hours : SMap Nat
  totals : SMap Nat
deriving DecidableEq, Repr

/-- A transaction of a serial port that runs (R594): the bytes out, how many come in, the address, and whether CS stays low. -/
structure SpTx where
  out : List Nat
  rlen : Nat
  addr : Nat
  keep : Bool
deriving DecidableEq, Repr

/-- The site core and its peripherals beside their registers: whether it is held in reset, and whether BOOT or LOAD holds it there (R50); what its boot ROM waits for (1 GO, 2 the
flash copy); pc, privilege (0 U, 3 M), TRAPNEST, the LR reservation; x and f registers (f at 32 and up) and CSRs by number; the sheaf (oldest first) and the
frames spilled; SRAM rows of 144 bits and rows corrected; a window load under way (request, destination, size 1, 2 or 4, sign, core
address); posted stores under way (requests), with the window and BASE of each; a FENCE that waits; a SLEEP (1) or OFF (2) that waits for posted stores; sampled levels of
the sources; a watched event that was caught; WRAPS as they stood at the last reset; timer targets (32.32) and the ticks at which their
DISARM cuts them off; transmit and receive FIFOs (bit 9 ERR) and the transactions of SP_k, and whether its CS_L stays low; a halt request and a step that wait. -/
structure SiteCore where
  held : Bool
  modeHeld : Bool
  boot : Nat
  pc : Nat
  priv : Nat
  trapnest : Nat
  resv : Bool
  x : SMap Nat
  csr : SMap Nat
  sheaf : List (List Nat)
  spilled : Nat
  sram : SMap Nat
  corrected : Nat
  load : Option (Nat × Nat × Nat × Bool × Nat)
  posted : List Nat
  winOut : List (Nat × Nat × Nat)
  fence : Bool
  sleepPend : Nat
  level : SMap Nat
  wake : Bool
  wrapBase : Int
  tmT : SMap Nat
  tmCut : SMap Nat
  txf : SMap (List Nat)
  rxf : SMap (List Nat)
  spRun : SMap (Option SpTx)
  csLow : SMap Bool
  hreq : Bool
  step : Bool
deriving DecidableEq, Repr

/-- A transfer that runs in a session (R618, R684): the entry, whether it writes, TOTAL, the bytes moved so far, and the bytes of a
write that came or those that a read still returns. -/
structure Xfer where
  index : Nat
  sub : Nat
  write : Bool
  total : Nat
  moved : Nat
  buf : List Nat
deriving DecidableEq, Repr

/-- A session slot (R607 to R618): 0 free, 1 half-open, 2 open; level; path (0 mailbox, 1 slave serial, 2 JTAG, 3 UDP, 4 raw); session
id; the source address it is bound to (MAC, IP, UDP port; R611); the nonces NC and ND; the session key; the last executed SEQ with the response kept
for it; when its last message came (2^-16 ns); its transfer. -/
structure Session where
  state : Nat
  level : Nat
  path : Nat
  sid : Nat
  addr : Nat × Nat × Nat
  nc : Nat
  nd : Nat
  skey : Nat
  lastSeq : Nat
  stored : List Nat
  seen : Int
  xfer : Option Xfer
deriving DecidableEq, Repr

/-- A free slot. -/
def Session.free : Session := ⟨0, 0, 0, 0, (0, 0, 0), 0, 0, 0, 0, [], 0, none⟩

/-- A user object (R626): index, sub, type, access, level, SIZE, NoC address, NAME. -/
structure UserObj where
  index : Nat
  sub : Nat
  typ : Nat
  access : Nat
  level : Nat
  size : Nat
  addr : Nat
  name : List Nat
deriving DecidableEq, Repr

/-- The object dictionary beside its registers: sessions by slot; by index × 256 + sub, the value in use of each persistent entry that no register
holds and what the MRAM store holds (wire bytes; an unlisted entry has its Default), and the entries whose store write is due (R606); times of AUTH
failures by level and the locked levels (R610); AUTH_FAILS; MGT_LINK and MGT_RX_DROP; MB_REQ by byte and the response in MB_RSP (R620); bytes of a
message on the slave serial port; the user table (R626). -/
structure Dict where
  sess : SMap Session
  vals : SMap (Option (List Nat))
  store : SMap (Option (List Nat))
  due : List Nat
  fails : SMap (List Int)
  locked : List Nat
  authFails : Nat
  mgtLink : Bool
  mgtDrop : Nat
  mbReq : SMap Nat
  mbRsp : List Nat
  serial : Option (List Nat)
  user : List UserObj
deriving DecidableEq, Repr

/-- The TAP and the debug access port (R630 to R639): the instruction in force; the outcome of the last Update-IR and the refusal code of TAPSTAT (R631);
the boundary register and the pin-driving instruction in force (R633); times of the counted AUTH failures, the lockout, DBG_AUTH_FAILS (R637, R651);
the DAP's last result and the serial number of the request it waits for (R639); whether full authorization has ended and the device has still to act on it (R638);
bytes of the AGZER request and of its response (R635); stream bits of CFG_IN short of a byte. -/
structure Tap where
  ir : Nat
  outcome : Nat
  tapstat : Nat
  boundary : Nat
  pins : Option Nat
  fails : List Int
  locked : Bool
  authFails : Nat
  dapData : Nat
  dapStatus : Nat
  dapWait : Option Nat
  ending : Bool
  agReq : List Nat
  agRsp : List Nat
  cfgBits : List Nat
deriving DecidableEq, Repr

/-- The model of a wear monitor (R662 to R664) beside its registers: τ, BASE, Sxx, Sxy, Syy (binary64 words); of the day: the sum of its measurements (binary64) and how
many, the last of them (binary32), and the sum of AF over its seconds (binary64). -/
structure Wear where
  tau : Nat
  base : Nat
  sxx : Nat
  sxy : Nat
  syy : Nat
  daySum : Nat
  dayN : Nat
  last : Nat
  afSum : Nat
deriving DecidableEq, Repr

/-- Health beside its registers: wear models by monitor, and the records of them in the MRAM log area (none: lost or never written; R667) with N and BASED; writes to
MRAM by (region × 65,536 + item) (R660); powered seconds since manufacture, and of the present day; sensors that are faulty (R655); lanes that posted a margin
result today (R659); whether EOL stood below EOL_WARN; monitors whose alarm waits for BOOT (R671), and whose REBASE waits for the daily sample (R666). -/
structure Health where
  wear : SMap Wear
  recs : SMap (Option (Wear × Nat × Bool))
  writes : SMap Nat
  powered : Nat
  secs : Nat
  faulty : List Nat
  margins : List Nat
  below : Bool
  waiting : List (Nat × Nat)
  rebase : List Nat
deriving DecidableEq, Repr

/-- A fuse field of data and CRC-32, or key RAM (R673, R674, R676). -/
structure KeyField where
  data : Nat
  crc : Nat
deriving DecidableEq, Repr

/-- Keys and firmware (R673 to R687): EF_KEY, the four PK slots with PK_REV, the debug keys (level 1, level 2), RB and FW_RB as
counts; key RAM, TAMPER_SEEN and VBATT_LOST of the VBATT domain, with events that wait for the next BOOT; the MRAM firmware
slots (A, B) with the SECVER of the running firmware, FW_STATE, FW_LASTERR; SEC_RB_SEL. -/
structure Sec where
  efKey : KeyField
  pk : SMap KeyField
  pkRev : Nat
  dbgKey : SMap KeyField
  rb : Nat
  fwRb : Nat
  ramKey : KeyField
  tamperSeen : Bool
  vbattLost : Bool
  waiting : List Nat
  slots : SMap (List Nat)
  runSecver : Nat
  fwState : Nat
  fwLastErr : Nat
  rbSel : Nat
deriving DecidableEq, Repr

/-- Faults of a step. -/
inductive Fault where
  /-- No meaning of this model raises it: the block has no stop of its own (safe: a run never ends here). -/
  | none
deriving DecidableEq, Repr

/-- Refusals of a step. -/
inductive Refusal where
  /-- Raised by Dispatch.exec for a command that has no meaning yet; the string is its mnemonic (safe). -/
  | notModelled (mnemonic : String)
deriving DecidableEq, Repr

/-- The state of the YL9048 (R57, R702 and the state that each chapter names).
-/
structure State where
  /-- Register fields by Fld.key; an unlisted field reads as its Reset column. -/
  regs : SMap Nat
  /-- _POP queues by register address: 64-bit entry words, oldest first (R22). -/
  pops : SMap (List Nat)
  /-- By register address: 1 while an entry was dropped and the next stored entry must carry OVF. -/
  popOvf : SMap Nat
  /-- The half latch of R8, by register address. -/
  half : SMap (Option Nat)
  /-- The staging latch of R7, by register address. -/
  stage : SMap (Option Nat)
  /-- The answer of the last access (the model's own field). -/
  answer : Answer
  /-- What the last sending command sent (the model's own field). -/
  out : List OutItem
  /-- The count that free values are drawn with (the model's own field; no statement rests on its value). -/
  free : Nat
  /-- The commands that wait, first in, first out (the model's own field). -/
  pending : List Instr
  /-- The mode hardware. -/
  mode : ModeSt
  /-- Levels of single pins. -/
  pins : Pins
  /-- The site event queue (R596): words laid out as SC_EVT_POP, oldest first. -/
  siteEvts : List Nat
  /-- LOST of the site event queue (R596). -/
  siteLost : Nat
  /-- Whether the next site event carries OVF (R596). -/
  siteOvf : Bool
  /-- The debug authorization: 0 none, 1 non-invasive, 2 full (R636). -/
  dbgLevel : Nat
  /-- The policy word burnt in fuses (R677). -/
  policy : Nat
  /-- The fabric. -/
  fab : Fabric
  /-- The sequencers, by 32b + a. -/
  seqs : SMap Seq
  /-- Instruction words by ((plane × 64 + b) × 32 + a) × 2048 + word (R212). -/
  istore : SMap Nat
  /-- Clocks beside their registers. -/
  clk : Clocks
  /-- The time plane beside its registers. -/
  tp : TimePlane
  /-- The timeline and the capture units beside their registers. -/
  tl : TimelineSt
  /-- The NoC beside its registers. -/
  noc : Noc
  /-- The granary beside its registers. -/
  gr : Granary
  /-- The serial lanes beside their registers. -/
  lanes : SMap Lane
  /-- The stream engines of Q_10 and Q_11 beside their registers. -/
  streams : SMap Stream
  /-- Frequency of LREF_k in kHz, by quad (R394); an unlisted one is 156,250. -/
  lref : SMap Nat
  /-- The port engines' channels beside their registers. -/
  chans : SMap Chan
  /-- The loft. -/
  loft : Loft
  /-- What was written to PE_TOD_S and waits for a write of PE_TOD (R449). -/
  todS : Option Nat
  /-- When a write of PE_TOD last loaded a base (time without modulus) and the base before it (R449). -/
  todPrev : Option (Int × Tod)
  /-- The host link beside its registers. -/
  hl : HostLink
  /-- The loader beside its registers. -/
  ld : Loader
  /-- Partitions, planes and captures beside their registers. -/
  pt : Parts
  /-- The gleaner beside its registers. -/
  gl : Gleaner
  /-- The site core and its peripherals beside their registers. -/
  sc : SiteCore
  /-- The object dictionary beside its registers. -/
  dict : Dict
  /-- The TAP and the debug access port. -/
  tap : Tap
  /-- Health monitoring beside its registers. -/
  hm : Health
  /-- Keys, counters and firmware slots. -/
  sec : Sec
  /-- PWR_EST_W as an F32 word (R712). -/
  estW : Nat
deriving DecidableEq, Repr

/-- The machine right after power-on reset: STANDBY with cause 0x01 (R45, R700, R702), every register at the value of its
Reset column. Values that the manual does not give are those of assumptions 4 and 5. -/
def State.reset : State where
  regs := []
  pops := []
  popOvf := []
  half := []
  stage := []
  answer := ⟨0, 0⟩
  out := []
  free := 0
  pending := []
  mode := ⟨none, [], none, false, 0, false, Config.strapReset, true, []⟩
  pins := ⟨false, true, true, true, false⟩
  siteEvts := []
  siteLost := 0
  siteOvf := false
  dbgLevel := 0
  policy := 0
  fab := ⟨[], [], [], [], [], [], [], [], [], [], [], []⟩
  seqs := []
  istore := []
  clk := ⟨0, [], [(48, 1)], [], [], [], [], [], [], [], [], [], [], 0, [], [], [], [], []⟩
  tp := ⟨0, 0, 0, 0, 0, 0, [], none, 0, 0, [], [], [], ⟨[0, 0, 0, 0], [], 0, 0, 0, none, none⟩, ⟨0, 0, 0, true⟩, 0, 0, 0, false, 0, [], none, false⟩
  tl := ⟨[], [], [], [], [], [], 0, 0, [], [], [], []⟩
  noc := ⟨1, [], [], [], [], [], [], [], [], [], [], [], [], [], [], [], [], [], []⟩
  gr := ⟨[], [], [], [], [], [], [], []⟩
  lanes := []
  streams := []
  lref := []
  chans := []
  loft := ⟨[], []⟩
  todS := none
  todPrev := none
  hl := ⟨[], [], 0, [], 0, false, 0, 0, []⟩
  ld := Loader.reset
  pt := ⟨[], [], [], [], [], [], [], [], [], [], [], [], []⟩
  gl := ⟨[], [], [], [], [], [], [], [], [], [], []⟩
  sc := ⟨true, true, 0, 0, 3, 0, false, [], [], [], 0, [], 0, none, [], [], false, 0, [], false, 0, [], [], [], [], [], [], false, false⟩
  dict := ⟨[], [], [], [], [], [], 0, false, 0, [], [], none, []⟩
  tap := ⟨0x02, 0, 0, 0, none, [], false, 0, 0, 0, none, false, [], [], []⟩
  hm := ⟨[], [], [], 0, 0, [], [], false, [], []⟩
  sec := ⟨⟨0, 0⟩, [], 0, [], 0, 0, ⟨0, 0⟩, false, false, [], [], 0, 0, 0, 0⟩
  estW := 0

end Sys2Proof.Machine
end

