-- ==== Sys2Proof/Machine/Ops.lean ====
section
/-!
DEFINITION. The named operations that every chapter shares: reading and writing register fields, posting results,
_POP queues, raising codes toward the event rings and the site core, starting a mode transition, the present time.
-/
namespace Sys2Proof.Machine
open Sys2Proof

/-- The value of a register field. -/
def State.get (s : State) (f : Fld) : Nat := SMap.get s.regs f.rst f.key

/-- Writes a register field, cut to its width. -/
def State.set (s : State) (f : Fld) (v : Nat) : State :=
  { s with regs := SMap.set s.regs f.rst f.key (v % 2 ^ f.w) }

/-- Whether a one-bit field is 1. -/
def State.has (s : State) (f : Fld) : Bool := decide (s.get f ≠ 0)

/-- Writes a one-bit field. -/
def State.put (s : State) (f : Fld) (b : Bool) : State := s.set f (ofFlag b)

/-- Writes a list of fields, in order. -/
def State.sets (s : State) (l : List (Fld × Nat)) : State := l.foldl (fun t p => t.set p.1 p.2) s

/-- Adds to a saturating count field. -/
def State.bump (s : State) (f : Fld) (n : Nat) : State := s.set f (satAdd (2 ^ f.w - 1) (s.get f) n)

/-- The whole word of a register, from its fields. -/
def State.word (s : State) (l : List Fld) : Nat := l.foldl (fun a f => a + s.get f * 2 ^ f.lo) 0

/-- Writes the fields of a register from its whole word. -/
def State.setWord (s : State) (l : List Fld) (v : Nat) : State := l.foldl (fun t f => t.set f (v / 2 ^ f.lo)) s

/-- A free value of a place of the manual, and the count moved on (assumption 2). -/
def State.fresh (s : State) (place : Nat) : Nat × State := (Config.freeNat place s.free, { s with free := s.free + 1 })

/-- Every meaning ends in a next state. -/
def done (s : State) : Host.Outcome State Fault Refusal := .next s

/-- The answer of a register access (R23, R737). -/
def State.reply (s : State) (status data : Nat) : State := { s with answer := ⟨status, data⟩ }

/-- A 64-bit write of the register at `a` commits at once (R7): nothing stays in its staging latch. -/
def State.commit (s : State) (a : Nat) : State := { s with stage := SMap.set s.stage none a none }

/-! The result fields that every result register has beside its STATUS field (R20, R21). -/
def resSeq (st : Fld) : Fld := ⟨st.addr, 32, 16, .ro, 0⟩
def resValid (st : Fld) : Fld := ⟨st.addr, 48, 1, .ro, 0⟩
def resStale (st : Fld) : Fld := ⟨st.addr, 49, 1, .ro, 0⟩

/-- Posts a result (R20, R21): the status, SEQ one higher, VALID set, STALE clear. -/
def State.post (s : State) (st : Fld) (code : Nat) : State :=
  s.sets [(st, code), (resSeq st, s.get (resSeq st) + 1), (resValid st, 1), (resStale st, 0)]

/-- Opens a result that a later command posts (R21): VALID clear, STALE set. -/
def State.expect (s : State) (st : Fld) : State := s.sets [(resValid st, 0), (resStale st, 1)]

/-- Whether a result register shows a result that is not yet posted. -/
def State.expecting (s : State) (st : Fld) : Bool := s.has (resStale st)

/-- The entries of a _POP queue. -/
def State.queue (s : State) (addr : Nat) : List Nat := SMap.get s.pops [] addr

/-- Stores an entry in a _POP queue of a capacity; a full queue drops it and marks the drop for OVF. `ovf` is the weight of
the entry's OVF bit (0 for a queue without one). -/
def State.enqueue (s : State) (addr cap ovf word : Nat) : State :=
  let q := s.queue addr
  if q.length < cap then
    { s with pops := SMap.set s.pops [] addr (q ++ [word + SMap.get s.popOvf 0 addr * ovf])
             popOvf := SMap.set s.popOvf 0 addr 0 }
  else { s with popOvf := SMap.set s.popOvf 0 addr 1 }

/-- Pops the oldest entry of a _POP queue into the answer; the upper half stays in the half latch (R8). An empty queue
answers 0, VALID clear, and stays as it is (R22). -/
def State.popRead (s : State) (addr : Nat) : State :=
  match s.queue addr with
  | [] => { s.reply 0 0 with half := SMap.set s.half none addr (some 0) }
  | w :: t =>
    { s.reply 0 w with
      pops := SMap.set s.pops [] addr t
      half := SMap.set s.half none addr (some (w / 2 ^ 32)) }

/-! The present time (R281): the accumulator shown as TIME48F, TIME32 and the wrap count. -/
def State.now48 (s : State) : Nat := s.tp.acc / 2 ^ 16 % 2 ^ 48
def State.now32 (s : State) : Nat := s.tp.acc / 2 ^ 32 % 2 ^ 32

/-- The time of a consumer of R289 in units of 2^-16 ns without modulus: the time plane's, or, while its values fail their check, the value that it
extrapolates (R292); the same as TIME48F. -/
def State.timeWide (s : State) (c : Nat) : Int :=
  match SMap.get s.tp.heldTime none c with
  | some h => h.1 / 65536
  | none => s.tp.wide * 2 ^ 48 + s.now48
def State.time48 (s : State) (c : Nat) : Nat := encode2 48 (s.timeWide c)
/-- Whether a consumer has TIME_BAD set (R292). -/
def State.timeBad (s : State) (c : Nat) : Bool := s.tp.badConsumers.contains c

def State.mode0 (s : State) : Nat := s.get R.DEV_MODE_MODE

/-- The device modes (R45). -/
def mOFF : Nat := 0
def mSTANDBY : Nat := 1
def mBOOT : Nat := 2
def mLOAD : Nat := 3
def mRUN : Nat := 4
def mSAFE : Nat := 5

/-- Whether rail `r` is good (R693); the two rails that every mode but OFF needs are. -/
def State.railOk (s : State) (r : Nat) : Bool :=
  decide (bit (s.get R.PWR_STATUS_GOOD) r = 1) || ((decide (r = 0) || decide (r = 8)) && decide (s.mode0 ≠ mOFF))

/-- The rails that BOOT and LOAD need beside those of STANDBY (R697). -/
def State.coreRails (s : State) : Bool := s.railOk 4 && s.railOk 5

def State.inMode (s : State) (l : List Nat) : Bool := l.contains s.mode0

/-- Whether a source may write the registers that accept 33, 65, 97 and, under full debug authorization, 161. -/
def State.srcOk (s : State) (src : Nat) : Bool :=
  src = 33 || src = 65 || src = 97 || (src = 161 && s.dbgLevel = 2)

/-- Offers a code to the site event queue (R596). -/
def State.siteOffer (s : State) (code unit : Nat) : State :=
  if bit (s.get R.SC_EVT_EN_EN * 2) (code / 256) = 0 then s
  else if s.siteEvts.length < 64 then
    { s with
      siteEvts := s.siteEvts ++
        [code + 2 ^ 16 + ofFlag s.siteOvf * 2 ^ 17 + unit % 2 ^ 14 * 2 ^ 18 + s.now32 * 2 ^ 32]
      siteOvf := false }
  else { s with siteLost := s.siteLost + 1, siteOvf := true }

/-- The default state of an event ring's on-die part. -/
def Ring.empty : Ring := ⟨[], 0, false, 0, 0⟩
def State.ring (s : State) (n : Nat) : Ring := SMap.get s.hl.rings Ring.empty n
def State.setRing (s : State) (n : Nat) (r : Ring) : State :=
  { s with hl := { s.hl with rings := SMap.set s.hl.rings Ring.empty n r } }

/-- Offers a record to ring `n`'s FIFO of 32 (R474, R477). -/
def State.ringPush (s : State) (n : Nat) (r : EvRec) : State :=
  let g := s.ring n
  if !s.has (R.EV_CFG_EN n) then s
  else if g.fifo.length < 32 then
    (s.setRing n { g with fifo := g.fifo ++ [{ r with loss := decide (g.lostPend ≠ 0), lost := g.lostPend }]
                          lostPend := 0, dropping := false }).set (R.EV_STAT_FIFO n) (g.fifo.length + 1)
  else
    let s1 := (s.setRing n { g with lostPend := satAdd (2 ^ 32 - 1) g.lostPend 1, dropping := true }).bump (R.EV_STAT_LOST n) 1
    if g.dropping then s1 else s1.siteOffer 0x0B20 0

/-- A record with the host link's present time (R289, R470). -/
def State.mkRec (s : State) (typ code unit detail : Nat) (data : List Nat) : EvRec :=
  ⟨typ, code, s.timeBad 76, false, s.time48 76, encode2 16 (s.timeWide 76 / 2 ^ 48), unit, 0, detail, data⟩

/-- Offers a record to the rings that a filter accepts (R471, R474). -/
def State.offer (s : State) (accept : State → Nat → Bool) (r : EvRec) : State :=
  [0, 1, 2, 3].foldl (fun t n => if accept t n then t.ringPush n r else t) s

/-- Raises a code (R471 TYPE 0x01, R472, R596): the site event queue and every ring whose BLOCKS bit names its block. -/
def State.raise (s : State) (code unit detail : Nat) : State :=
  (s.siteOffer code unit).offer (fun t n => bit (t.get (R.EV_CFG_BLOCKS n)) (code / 256 - 1) = 1)
    (s.mkRec 1 code unit detail [])

/-- Offers a FIRING, STAMP or SIG record (TYPE 3 to 5) under its TYPEMASK bit (R471). -/
def State.raiseTyped (s : State) (typ code unit detail : Nat) (data : List Nat) : State :=
  s.offer (fun t n => bit (t.get (R.EV_CFG_TYPEMASK n)) (typ - 3) = 1) (s.mkRec typ code unit detail data)

/-- The DEV_MODE word. -/
def devModeFields : List Fld :=
  [R.DEV_MODE_MODE, R.DEV_MODE_PREV_MODE, R.DEV_MODE_BUSY, R.DEV_MODE_CAUSE, R.DEV_MODE_STATUS]

/-! ## Partitions -/

/-- The partition that a bough belongs to. -/
def State.partOf (s : State) (b : Nat) : Option Nat :=
  (List.range 32).find? (fun q => s.has (R.PT_STAT_DEFINED q) && decide (bit (s.get (R.PT_BOUGHS_BOUGHS q)) b = 1))

/-- Whether a swap of a bough has been accepted and its S0 has not come yet (R529, R532). -/
def State.swapWaits (s : State) (b : Nat) : Bool :=
  match s.partOf b with
  | none => false
  | some q => (SMap.get s.pt.swaps none q).any (fun x => x.freeze.contains b)

/-! ## User pins -/

/-- The bank of user pin `p` (R719). -/
def pinBank (p : Nat) : Nat := if p < 288 then p / 48 else 6 + (p - 288) / 24

/-- Pin 0 of slow port SP_`k` (R719). -/
def spPin (k : Nat) : Nat := 288 + 24 * (k / 2) + 4 * (k % 2)

end Sys2Proof.Machine
end

