-- ==== Sys2Proof/Machine/Fabric.lean ====
section
/-!
DEFINITION. The fabric between clock edges (chapters 2 to 5): frames, the boughs, crossbar selects, look-up tables, carry
chains, limbs, grafts, and the sources that block memories and slices offer. Values are 0 or 1.
-/
namespace Sys2Proof.Machine
open Sys2Proof

/-! Frames (R31): 4,096-bit words, all 0 where nothing is written (R81). Column 40, row 0 is the collar. -/
def frameKey (plane b row col idx : Nat) : Nat := (((plane * 64 + b) * 8 + row) * 41 + col) * 16 + idx
def State.frame (s : State) (plane b row col idx : Nat) : Nat := SMap.get s.fab.frames 0 (frameKey plane b row col idx)
def State.setFrame (s : State) (plane b row col idx v : Nat) : State :=
  { s with fab := { s.fab with frames := SMap.set s.fab.frames 0 (frameKey plane b row col idx) (v % 2 ^ 4096) } }

/-- A bough outside RUN's loaded designs: off, clamped, nothing pending. -/
def Bough.reset : Bough := ⟨.off, 0, true, 0, 0, [], 0, 0, 0⟩
def State.bough (s : State) (b : Nat) : Bough := SMap.get s.fab.boughs Bough.reset b
def State.setBough (s : State) (b : Nat) (x : Bough) : State :=
  { s with fab := { s.fab with boughs := SMap.set s.fab.boughs Bough.reset b x } }
def State.running (s : State) (b : Nat) : Bool := decide ((s.bough b).run = .running)

/-- A frame of a bough's active plane. -/
def State.af (s : State) (b row col idx : Nat) : Nat := s.frame (s.bough b).plane b row col idx

/-- The branch types (R28): 0 L, 1 M, 2 A. -/
def branchType (col : Nat) : Nat := if col % 10 = 4 then 1 else if col % 10 = 9 then 2 else 0

/-- The lane word of a lane of a branch (R100, R110, R132, R165). -/
def State.laneWord (s : State) (b row col lane : Nat) : Nat :=
  bits (s.af b row col (if branchType col = 0 then 15 else 3)) (20 * lane) 20

/-- The position of the lowest set bit. -/
def lowestBit (v w : Nat) : Nat := ((List.range w).find? (fun i => bit v i = 1)).getD 0

/-- The crossbar input that a twig select word connects (R75, R77); none gives the constant 0. -/
def twigInput (word : Nat) : Option Nat :=
  let g := bits word 0 9
  let m := bits word 9 8
  if g = 0 ∨ m = 0 then none else some (8 * lowestBit g 9 + lowestBit m 8)

/-! Edges of a bough: 0 north, 1 east, 2 south, 3 west (R112); the neighbour across an edge (R32). -/
def neighbour (b e : Nat) : Option Nat :=
  match e with
  | 0 => if b < 56 then some (b + 8) else none
  | 1 => if b % 8 < 7 then some (b + 1) else none
  | 2 => if 8 ≤ b then some (b - 8) else none
  | _ => if 0 < b % 8 then some (b - 1) else none
def opposite (e : Nat) : Nat := (e + 2) % 4

/-- The edge byte of a bough's collar frame 0 (R112), and the same bough's fields in it. -/
def State.edgeByte (s : State) (b e : Nat) : Nat := bits (s.af b 0 40 0) (8 * e) 8
def State.graftClk (s : State) (b e : Nat) : Nat := bits (s.edgeByte b e) 0 5
def State.graftOn (s : State) (b e : Nat) : Bool := bit (s.edgeByte b e) 5 = 1
def State.graftHold (s : State) (b e : Nat) : Bool := bit (s.edgeByte b e) 6 = 1

/-- Limits of an operating point in kHz (R115, R85): bough lines, as 10^9 over the period in ps, rounded down. -/
def bclLimit (point : Nat) : Nat := match point with | 1 => 650195 | 2 => 850340 | _ => 1000000

/-- The operating point a bough runs at: 1 OP_L, 2 OP_N, 3 OP_H, or 0. -/
def State.point (s : State) (b : Nat) : Nat := if s.get (R.OP_STATUS_STATE b) ≤ 3 then s.get (R.OP_STATUS_STATE b) else (s.bough b).keepOp

/-- Whether a global line takes TCLK, TPO_1 or TPO_2 (R248). -/
def State.gclOfTime (s : State) (g : Nat) : Bool :=
  let act := s.get (R.GCL_MUX_ACT g)
  let ck := if act = 0 then s.get (R.GCL_MUX_PRI g) else s.get (R.GCL_MUX_ALT g)
  decide (act < 2) && decide (0x18 ≤ ck) && decide (ck ≤ 0x1A)

/-- The effective frequency of a global line in kHz (R263, R288). -/
def State.gclFreq (s : State) (g : Nat) : Nat :=
  let fnom := s.get (R.GCL_CFG_FNOM g)
  let meas := SMap.get s.clk.gclEff 0 g
  let act := s.get (R.GCL_MUX_ACT g)
  let ck := if act = 0 then s.get (R.GCL_MUX_PRI g) else s.get (R.GCL_MUX_ALT g)
  let base :=
    if act = 2 then 412000
    else if s.gclOfTime g ∧ (!s.has R.CK_STATUS_TPLL_LOCK || s.has R.TP_STATUS_TPLL_FOSC) then (fnom * 103 + 99) / 100
    else if act < 2 ∧ 0x20 ≤ ck ∧ ck < 0x60 ∧ s.get (R.CP_MUX_ACT ((ck - 0x20) / 4)) = 2 then (fnom * 103 + 99) / 100
    else fnom
  if meas = 0 then base else max ((fnom * 103 + 99) / 100) meas

/-- The first lane of channel `c` of port `k` under its CFG (R426). -/
def State.firstLane (s : State) (k c : Nat) : Nat := 4 * k + (if s.get (R.PE_CFG_CFG k) = 2 then 2 * c else c)

/-- Whether RCV_k runs (R430): offered, its channel exists, and lane 0 of that channel is ACTIVE. -/
def State.rcvRun (s : State) (k : Nat) : Bool :=
  s.has (R.PE_CFG_RCV_EN k) && decide (s.get (R.PE_CFG_CFG k) ≠ 0)
    && decide (s.get (R.LN_STAT_STATE (s.firstLane k (s.get (R.PE_CFG_RCV_CH k)) % 48)) = 6)

/-- Whether output `o` of a crown PLL gives edges (R260, R261): the PLL runs, the output is on, and a gate does not stop it while LOCK is 0. -/
def State.pllLive (s : State) (p o : Nat) : Bool :=
  s.has (R.CP_CFG_EN p) && (decide (bit (s.get R.CK_STATUS_CP_LOCK) p = 1) || !s.has (R.CP_CFG_GATE p))
    && decide (bits (s.get (R.CP_OUT_O p)) (8 * o) 8 ≠ 0)

/-- Whether CP_14 or CP_15 clocks what it belongs to (R262): CP_15 the NoC and the site core, CP_14 the port engines and the host link. -/
def State.devClk (s : State) (p : Nat) : Bool := s.pllLive p 0

/-- Whether a global line gives edges (R253, R256, R261, R264, R248): on, an input active and not held low by a switch, and the PLL behind it
not gated. -/
def State.gclLive (s : State) (g : Nat) : Bool :=
  let act := s.get (R.GCL_MUX_ACT g)
  let ck := if act = 0 then s.get (R.GCL_MUX_PRI g) else s.get (R.GCL_MUX_ALT g)
  s.has (R.GCL_CFG_ON g) && decide (act < 3) && !s.clk.muxLow.contains (16 + g)
    && (if act = 2 then s.has R.CK_STATUS_FOSC_ON
        else if ck < 0x20 then true
        else s.pllLive ((ck - 0x20) / 4) ((ck - 0x20) % 4))

/-- The point whose limits bind a bough's graft edges (R267): while it is being lowered, the lower one (R272 step 3). -/
def State.graftPoint (s : State) (b : Nat) : Nat :=
  match SMap.get s.clk.opCh none b with
  | some c => if 0 < c.target ∧ c.target < c.former ∧ c.former < 4 then c.target else s.point b
  | none => s.point b

/-- Whether the receiving collar of edge `e` of bough `b` captures (R107, R267, step 4 of R123). That the receiving bough runs too is the model's
choice (assumption 169). -/
def State.captures (s : State) (b e : Nat) : Bool :=
  match neighbour b e with
  | none => false
  | some nb =>
    s.graftOn b e && s.graftOn nb (opposite e) && decide (s.graftClk b e = s.graftClk nb (opposite e))
      && s.running nb && s.running b
      && decide (bit (s.bough b).edgeOff e = 0) && decide (bit (s.bough nb).edgeOff (opposite e) = 0)
      && decide (s.gclFreq (s.graftClk b e) ≤ bclLimit (s.graftPoint b))
      && decide (s.gclFreq (s.graftClk b e) ≤ bclLimit (s.graftPoint nb))

def graftKey (b e j : Nat) : Nat := (b * 4 + e) * 256 + j

/-- The value that graft input `j` of edge `e` of bough `b` reads (R107, R108, R33). -/
def State.graftIn (s : State) (b e j : Nat) : Nat :=
  match neighbour b e with
  | none => 0
  | some _ =>
    if (s.captures b e && decide (2 ≤ SMap.get s.fab.gcnt 0 (b * 4 + e))) || s.graftHold b e then
      SMap.get s.fab.gcap 0 (graftKey b e j)
    else 0

/-- The L-index of an L column (R105). -/
def lIndex (col : Nat) : Nat := 8 * (col / 10) + (if col % 10 < 4 then col % 10 else col % 10 - 1)

/-- The sender of a limb position (R101): row, column, lane, and the span that must match; none outside the bough. -/
def limbSender (row col n : Nat) : Option (Nat × Nat × Nat × Nat) :=
  if n < 832 then
    let d := (n - 768) / 16 + 1
    if d ≤ col then some (row, col - d, (n - 768) % 16, d - 1) else none
  else if n < 896 then
    let d := (n - 832) / 16 + 1
    if col + d < 40 then some (row, col + d, 16 + (n - 832) % 16, d - 1) else none
  else if n < 928 then
    let d := (n - 896) / 16 + 1
    if d ≤ row then some (row - d, col, 32 + (n - 896) % 16, d - 1) else none
  else
    let d := (n - 928) / 16 + 1
    if row + d < 8 then some (row + d, col, 48 + (n - 928) % 16, d - 1) else none

/-- Whether a source exists at a branch (R91, R94, R101, R130, R163). -/
def srcExists (row col n : Nat) : Bool :=
  if n < 768 then
    match branchType col with
    | 0 => true
    | 1 => decide (n < 576) || (decide (n < 616) && decide ((n - 576) % 10 < 7))
    | _ => decide (n < 640) || (decide (n < 704) && decide ((n - 640) % 8 < 6))
  else if n < 960 then (limbSender row col n).isSome
  else if n < 968 then decide (branchType col = 0) && (decide (row = 7) || decide (row = 0))
  else if n < 1000 then decide (col = 0) || decide (col = 38)
  else decide (n < 1017)

def limbKey (b row col n : Nat) : Nat := ((b * 8 + row) * 40 + col) * 1024 + n

/-- Whether the sender's lane drives a limb position (R101, R103). -/
def State.limbDriven (s : State) (b row col n : Nat) : Bool :=
  match limbSender row col n with
  | none => false
  | some (r, c, lane, span) =>
    let w := s.laneWord b r c lane
    decide (bit w 10 = 1) && decide (bits w 11 2 = span)

/-- The value of an incoming limb position. -/
def State.limbIn (s : State) (b row col n : Nat) : Nat :=
  if s.limbDriven b row col n then SMap.get s.fab.limbs 0 (limbKey b row col n) else 0

/-- Flip-flop `ab` (0 FA, 1 FB) of a leaf. -/
def ffKey (b row col t k ab : Nat) : Nat := ((((b * 8 + row) * 40 + col) * 24 + t) * 8 + k) * 2 + ab
def State.ff (s : State) (b row col t k ab : Nat) : Nat := SMap.get s.fab.ffs 0 (ffKey b row col t k ab)

/-- A twig word and a leaf word (R83). -/
def State.twigWord (s : State) (b row col t : Nat) : Nat := bits (s.af b row col (t / 2)) (2048 * (t % 2)) 2048
def State.leafWord (s : State) (b row col t k : Nat) : Nat := bits (s.twigWord b row col t) (96 * k) 96

/-! Block memories: numbering (R129), block words (R132), ports. -/
def bmCol (k : Nat) : Nat := 10 * (k / 32) + 4
def bmRow (k : Nat) : Nat := k / 4 % 8
def State.blockWord (s : State) (b k : Nat) : Nat := bits (s.af b (bmRow k) (bmCol k) 4) (64 * (k % 4)) 64

/-- Whether a block word is one that the loader accepts (R133); another leaves the block inert. -/
def blockLegal (w : Nat) : Bool :=
  let ops := bit w 27 = 1
  let wok (p : Nat) : Bool := let wd := bits w (3 + 3 * p) 3
    decide (wd ≤ 4) && (decide (wd ≠ 4) || (decide (p = 1) && decide ops))
      && (decide (bits w 1 2 ≠ 1) || (decide (p = 1) && decide ops) || decide (wd = 3))
  decide (bits w 1 2 ≤ 1) && decide (bits w 9 2 ≤ 2) && decide (bits w 11 2 ≤ 2) && decide (bits w 28 3 ≤ 5)
    && wok 0 && wok 1 && (decide (bit w 23 = 0) || decide (bits w 1 2 = 1)) && decide (bits w 24 2 ≤ 2)
    && (!decide ops || (decide (bits w 6 3 = 4) && decide (bits w 28 3 = 0))) && decide (bits w 31 33 = 0)
def State.blockUsed (s : State) (b k : Nat) : Bool := decide (bit (s.blockWord b k) 0 = 1) && blockLegal (s.blockWord b k)
def State.bmReady (s : State) (b k : Nat) : Bool := decide (SMap.get s.fab.bmNotReady 0 (b * 128 + k) = 0)
def BmPort.reset : BmPort := ⟨0, 0, 0, 0, none, 0, 0, none, none⟩
def bmPortKey (b k p : Nat) : Nat := (b * 128 + k) * 2 + p
def State.bmPort (s : State) (b k p : Nat) : BmPort := SMap.get s.fab.bmPorts BmPort.reset (bmPortKey b k p)
def State.setBmPort (s : State) (b k p : Nat) (x : BmPort) : State :=
  { s with fab := { s.fab with bmPorts := SMap.set s.fab.bmPorts BmPort.reset (bmPortKey b k p) x } }
def bmRowKey (b k row : Nat) : Nat := (b * 128 + k) * 512 + row
def State.bmData (s : State) (b k row : Nat) : Nat := SMap.get s.fab.bmRows 0 (bmRowKey b k row)
def State.setBmData (s : State) (b k row v : Nat) : State :=
  { s with fab := { s.fab with bmRows := SMap.set s.fab.bmRows 0 (bmRowKey b k row) (v % 2 ^ 144) } }

/-- The length of the cascade that a block belongs to (R149), and whether it is the head. -/
def cascLen (w : Nat) : Nat := if bits w 28 3 = 0 then 1 else 2 ^ bits w 28 3
def State.isHead (s : State) (b k : Nat) : Bool := decide (k % cascLen (s.blockWord b k) = 0)

/-- What a port offers at its source positions: data and flags (R130, R139, R149, R150, R152, R155). -/
def State.bmOut (s : State) (b k p : Nat) : Nat × Nat :=
  let w := s.blockWord b k
  let x := s.bmPort b k p
  if !s.blockUsed b k || !s.isHead b k || (decide (p = 1) && decide (bit w 27 = 1)) then (0, 0)
  else if cascLen w > 1 then (x.outStage, x.outF)
  else if bit w (13 + p) = 1 then (x.oreg, x.oregF) else (x.latch, x.latchF)

/-! Slices: numbering (R162), slice words and branch words (R165). -/
def slCol (a : Nat) : Nat := 10 * (a % 4) + 9
def slRow (a : Nat) : Nat := a / 4
def State.sliceWord (s : State) (b i : Nat) : Nat :=
  bits (s.af b (slRow (i / 8)) (slCol (i / 8)) 4) (256 * (i % 8)) 256
def State.abranchWord (s : State) (b a : Nat) : Nat := bits (s.af b (slRow a) (slCol a) 5) 0 64
def Slice.reset : Slice := ⟨0, 0, none, none, 0, false, false, 0, false, none⟩
def State.slice (s : State) (b i : Nat) : Slice := SMap.get s.fab.slices Slice.reset (b * 256 + i)
def State.setSlice (s : State) (b i : Nat) (x : Slice) : State :=
  { s with fab := { s.fab with slices := SMap.set s.fab.slices Slice.reset (b * 256 + i) x } }

/-- Whether slice `k` belongs to a complex quad (R177), and its position in it. -/
def inQuad (abr k : Nat) : Bool := decide (bit abr (1 + k / 4) = 1)

/-- Clamps to a two's-complement width. -/
def clampTo (w : Nat) (v : Int) : Int :=
  let hi : Int := 2 ^ (w - 1)
  if v < -hi then -hi else if hi - 1 < v then hi - 1 else v

/-- One rounded shift of an integer (R173): q after rounding. -/
def roundShift (rnd sh : Nat) (p : Int) : Int :=
  let q := p / (2 ^ sh : Nat)
  let r := (p % (2 ^ sh : Nat)).toNat
  if sh = 0 then p
  else if rnd = 1 ∧ 2 ^ (sh - 1) ≤ r then q + 1
  else if rnd = 2 ∧ (2 ^ (sh - 1) < r ∨ (r = 2 ^ (sh - 1) ∧ q % 2 = 1)) then q + 1
  else q

/-- R and RCLP of a 56-bit P (R173), for DUAL, RND, RSHIFT and RSAT. In dual mode lane h stands at [12h + 11 : 12h] of R, and RCLP is that of either
lane (the model's choice, assumption 176). -/
def roundOut (dual : Bool) (rnd sh : Nat) (rsat : Bool) (p : Nat) : Nat × Nat :=
  let one (w pw v : Nat) : Nat × Nat :=
    let q := roundShift rnd sh (signed pw v)
    (encode2 w (if rsat then clampTo w q else q), ofFlag (rsat && decide (clampTo w q ≠ q)))
  if dual then
    let l := one 12 28 (bits p 0 28)
    let h := one 12 28 (bits p 28 28)
    (l.1 + h.1 * 2 ^ 12, max l.2 h.2)
  else one 24 56 p

/-- PDET (R174). -/
def patternHit (p pattern mask : Nat) : Nat := ofFlag (decide ((p ^^^ pattern) &&& ((2 ^ 56 - 1) ^^^ mask % 2 ^ 56) = 0))

/-- Whether a slice word by itself is one that the loader accepts (R166). -/
def sliceLegal (w : Nat) : Bool :=
  decide (bits w 3 2 ≤ 1) && decide (bits w 5 2 ≤ 2) && decide (bits w 9 2 ≤ 1) && decide (bits w 11 2 ≤ 2)
    && decide (bits w 13 6 ≤ 32) && decide (bits w 20 6 ≤ 32)
    && (decide (bit w 1 = 0) || (decide (bit w 2 = 0) && decide (bits w 20 6 = 0) && decide (bit w 26 = 0) && decide (bits w 13 6 ≤ 16)))
    && decide (bit w 31 = 0) && decide (bits w 168 88 = 0)
/-- The fields that a slice word leaves 0 in sequenced mode (R183). -/
def seqWordOk (w : Nat) : Bool :=
  decide (bit w 2 = 0) && decide (bits w 3 4 = 0) && decide (bits w 7 2 = 0) && decide (bits w 20 6 = 0) && decide (bit w 26 = 0)
    && decide (bits w 27 4 = 0)
/-- Whether the word of position `pos` of a quad agrees with the word of position 0 (R178). -/
def quadWordOk (pos w0 w : Nat) : Bool :=
  decide (bits w 7 12 = bits w0 7 12) && decide (bit w 19 = bit w0 19) && decide (bits w 27 4 = bits w0 27 4) && decide (bits w 1 2 = 0)
    && (decide (2 ≤ pos) || decide (bits w 3 4 = 0))
/-- The fields in which joined slices agree (R176): CLK, IREG, MREG. -/
def joinFields : List (Nat × Nat) := [(7, 1), (8, 1), (27, 4)]
def joinClash (x y : Nat) : Option Nat := (joinFields.find? (fun f => decide (bits x f.1 f.2 ≠ bits y f.1 f.2))).map Prod.fst

/-- The selects that a quad leaves in use (R177, R178): position in the quad, select number within the slice. -/
def quadSel (pos n : Nat) : Bool :=
  match pos with
  | 0 => decide (n < 48) || decide (96 ≤ n && n ≠ 101)
  | 1 => decide (n < 48) || (decide (72 ≤ n) && decide (n < 96))
  | 2 => false
  | _ => decide (72 ≤ n) && decide (n < 96)

/-- The input selects of a slice, 12 bits each (R164, R165). -/
def State.sliceSels (s : State) (b i : Nat) : Nat :=
  let f (n : Nat) : Nat := bits (s.af b (slRow (i / 8)) (slCol (i / 8)) n) 0 3840
  bits (f 0 + f 1 * 2 ^ 3840 + f 2 * 2 ^ 7680) (1260 * (i % 8)) 1260
/-- The selects that a position of a quad may not use. -/
def quadIdle (pos : Nat) : Nat := (List.range 105).foldl (fun a n => a + (if quadSel pos n then 0 else 0xFFF * 2 ^ (12 * n))) 0
/-- Whether a slice agrees with the slice below that it takes PCIN, ACIN or BCIN from (R176). -/
def State.joinOk (s : State) (b i : Nat) : Bool :=
  let w := s.sliceWord b i
  let casc := decide (bits (s.sliceSels b i) (12 * 102) 12 ≠ 0)
  let ab := decide (bits w 3 2 = 1) || decide (bits w 5 2 = 2)
  if i % 8 ≠ 0 then
    !(casc || ab) || ((joinClash w (s.sliceWord b (i - 1))).isNone && (!ab || decide (bit (s.sliceWord b (i - 1)) 7 = 1)))
  else !casc || decide (bit (s.abranchWord b (i / 8)) 5 = 0) || decide (i / 8 < 4)
    || (joinClash w (s.sliceWord b (8 * (i / 8 - 4) + 7))).isNone
/-- Whether the words and selects that a slice depends on are ones that the loader accepts (R166): others make the slice give 0. A clash with the
slice below makes the upper slice give 0, a breach of a quad its four slices, a reserved bit of the branch word the whole branch (the model's choice,
assumption 176). -/
def State.sliceFits (s : State) (b i : Nat) : Bool :=
  let w := s.sliceWord b i
  let abr := s.abranchWord b (i / 8)
  sliceLegal w && decide (bits abr 6 58 = 0)
    && (decide (i % 8 ≠ 0) || (decide (bits w 3 2 = 0) && decide (bits w 5 2 ≤ 1) && (decide (bit abr 5 = 0) || decide (4 ≤ i / 8))))
    && (if bit abr 0 = 1 then seqWordOk w && decide (s.sliceSels b i = 0) else s.joinOk b i)
    && (!inQuad abr (i % 8) || (List.range 4).all (fun j => quadWordOk j (s.sliceWord b (4 * (i / 4))) (s.sliceWord b (4 * (i / 4) + j))
      && decide (s.sliceSels b (4 * (i / 4) + j) &&& quadIdle j = 0)))
/-- Whether a slice gives results: used, its words legal, not an inner slice of a quad (R163, R166, R177). -/
def State.sliceOn (s : State) (b i : Nat) : Bool :=
  let w := s.sliceWord b i
  let abr := s.abranchWord b (i / 8)
  decide (bit w 0 = 1) && s.sliceFits b i && !(inQuad abr (i % 8) && decide (i % 2 = 0))

/-- The OVF bits that SL_OVF_MAP shows: those of slices that are not used, and of the inner slices of quads, read 0 (R186). -/
def State.ovfMap (s : State) (b w : Nat) : Nat :=
  (List.range 64).foldl (fun a j =>
    let i := 64 * w + j
    if bit (s.get (R.SL_OVF_MAP_OVF b w)) j = 1 ∧ bit (s.sliceWord b i) 0 = 1
      ∧ !(inQuad (s.abranchWord b (i / 8)) (i % 8) && decide (i % 2 = 0)) then a + 2 ^ j else a) 0

/-- OVF of a slice: the live bit of SL_OVF_MAP (R172, R186). -/
def State.sliceOvf (s : State) (b i : Nat) : Bool := bit (s.get (R.SL_OVF_MAP_OVF b (i / 64))) (i % 64) = 1
def State.setSliceOvf (s : State) (b i : Nat) (v : Bool) : State :=
  let f := R.SL_OVF_MAP_OVF b (i / 64)
  let m := s.get f
  s.set f (m - bit m (i % 64) * 2 ^ (i % 64) + ofFlag v * 2 ^ (i % 64))

/-- R and RCLP of a slice now. -/
def State.sliceR (s : State) (b i : Nat) : Nat × Nat :=
  let w := s.sliceWord b i
  roundOut (bit w 1 = 1) (bits w 11 2) (bits w 13 6) (bit w 19 = 1) (s.slice b i).p

/-- The source positions of an A branch below 704 (R163). -/
def State.sliceSrc (s : State) (b row col n : Nat) : Nat :=
  let a := 4 * row + (col - 9) / 10
  if bit (s.abranchWord b a) 0 = 1 then 0
  else
    let i := 8 * a + (if n < 448 then n / 56 else if n < 640 then (n - 448) / 24 else (n - 640) / 8)
    let x := s.slice b i
    let w := s.sliceWord b i
    if !s.sliceOn b i then 0
    else if n < 448 then bit x.p (n % 56)
    else if n < 640 then bit (s.sliceR b i).1 ((n - 448) % 24)
    else match (n - 640) % 8 with
      | 0 => ofFlag (s.sliceOvf b i)
      | 1 => ofFlag x.satd
      | 2 => patternHit x.p (bits w 56 56) (bits w 112 56)
      | 3 => s.get (R.SL_RES_S_VALID b i)
      | 4 => ofFlag x.povf
      | 5 => (s.sliceR b i).2
      | _ => 0

/-- The source positions of an M branch below 616 (R130). -/
def State.blockSrc (s : State) (b row col n : Nat) : Nat :=
  let base := 32 * ((col - 4) / 10) + 4 * row
  if n < 576 then bit (s.bmOut b (base + n / 144) (n / 72 % 2)).1 (n % 72)
  else
    let k := base + (n - 576) / 10
    match (n - 576) % 10 with
    | 0 => bit (s.bmOut b k 0).2 0
    | 1 => bit (s.bmOut b k 0).2 1
    | 2 => bit (s.bmOut b k 1).2 0
    | 3 => bit (s.bmOut b k 1).2 1
    | 4 => bit (s.bmOut b k 0).2 2
    | 5 => bit (s.bmOut b k 1).2 2
    | 6 => ofFlag (s.blockUsed b k && s.isHead b k && s.bmReady b k)
    | _ => 0

/-- The combinational nodes of a bough that depend on look-up tables. -/
inductive Node where
  | src (row col n : Nat)
  | tin (row col t i : Nat)
  | tsel (row col t sel : Nat)
  | la (row col t k : Nat)
  | lb (row col t k : Nat)
  | sum (row col t k : Nat)
  | cin (row col t k : Nat)
  | cout (row col t k : Nat)
deriving DecidableEq, Repr

/-- A number of its own for a node. -/
def Node.num : Node → Nat
  | .src row col n => ((row * 64 + col) * 1024 + n) * 8
  | .tin row col t i => (((row * 64 + col) * 32 + t) * 128 + i) * 8 + 1
  | .tsel row col t sel => (((row * 64 + col) * 32 + t) * 128 + sel) * 8 + 2
  | .la row col t k => (((row * 64 + col) * 32 + t) * 8 + k) * 8 + 3
  | .lb row col t k => (((row * 64 + col) * 32 + t) * 8 + k) * 8 + 4
  | .sum row col t k => (((row * 64 + col) * 32 + t) * 8 + k) * 8 + 5
  | .cin row col t k => (((row * 64 + col) * 32 + t) * 8 + k) * 8 + 6
  | .cout row col t k => (((row * 64 + col) * 32 + t) * 8 + k) * 8 + 7

/-- The select word of a branch crossbar output: twig `t`'s input TI_i (R92, R110). -/
def State.branchSel (s : State) (b row col t i : Nat) : Nat := bits (s.af b row col (12 + t / 8)) (12 * (40 * (t % 8) + i)) 12

/-- The value of a combinational node of bough `b` (R60, R61, R72 to R80, R91 to R98). The first argument bounds the depth;
a loop of look-up tables, which settles at no value that the manual gives, ends there with a free value. -/
def nodeVal (s : State) (b : Nat) : Nat → Node → Nat
  | 0, n => Config.freeNat 1 ((s.free * 64 + b) * 2 ^ 32 + n.num) % 2
  | d + 1, .src row col n =>
    if branchType col = 1 ∧ n < 616 then s.blockSrc b row col n
    else if branchType col = 2 ∧ n < 704 then s.sliceSrc b row col n
    else if n < 768 then (if branchType col = 0 then nodeVal s b d (.tin row col (n / 32) (40 + n % 32)) else 0)
    else if n < 960 then s.limbIn b row col n
    else if n < 968 then
      if branchType col ≠ 0 then 0
      else if row = 7 then s.graftIn b 0 (8 * lIndex col + (n - 960))
      else if row = 0 then s.graftIn b 2 (8 * lIndex col + (n - 960)) else 0
    else if n < 1000 then
      if col = 0 then s.graftIn b 3 (32 * row + (n - 968))
      else if col = 38 then s.graftIn b 1 (32 * row + (n - 968)) else 0
    else if n < 1016 then bit (s.bough b).trig (n - 1000)
    else if n = 1016 then 1 else 0
  | d + 1, .tin row col t i =>
    if i < 40 then
      let w := s.branchSel b row col t i
      if bit w 10 = 1 then nodeVal s b d (.src row col (bits w 0 10)) else 0
    else
      let k := (i - 40) / 4
      match (i - 40) % 4 with
      | 0 => nodeVal s b d (.la row col t k)
      | 1 => nodeVal s b d (.lb row col t k)
      | 2 => s.ff b row col t k 0
      | _ => s.ff b row col t k 1
  | d + 1, .tsel row col t sel =>
    match twigInput (bits (s.twigWord b row col t) (768 + 17 * sel) 17) with
    | none => 0
    | some i => nodeVal s b d (.tin row col t i)
  | d + 1, .la row col t k =>
    let lw := s.leafWord b row col t k
    if bits lw 64 2 = 2 then nodeVal s b d (.sum row col t k)
    else
      let in5 := (List.range 5).foldl (fun a j => a + nodeVal s b d (.tsel row col t (8 * k + j)) * 2 ^ j) 0
      if bits lw 64 2 = 1 then bit lw (32 + in5)
      else bit lw (in5 + 32 * nodeVal s b d (.tsel row col t (8 * k + 5)))
  | d + 1, .lb row col t k =>
    let lw := s.leafWord b row col t k
    if bits lw 64 2 = 2 then nodeVal s b d (.cout row col t k)
    else bit lw ((List.range 5).foldl (fun a j => a + nodeVal s b d (.tsel row col t (8 * k + j)) * 2 ^ j) 0)
  | d + 1, .sum row col t k =>
    let lw := s.leafWord b row col t k
    let c := nodeVal s b d (.cin row col t k)
    if bits lw 64 2 = 2 then
      let in5 := (List.range 5).foldl (fun a j => a + nodeVal s b d (.tsel row col t (8 * k + j)) * 2 ^ j) 0
      (bit lw (32 + in5) + c) % 2
    else (nodeVal s b d (.la row col t k) + c) % 2
  | d + 1, .cin row col t k =>
    if 0 < k then nodeVal s b d (.cout row col t (k - 1))
    else match bits (s.twigWord b row col t) 1951 2 with
      | 0 =>
        if 0 < t then nodeVal s b d (.cout row col (t - 1) 7)
        else if bit (s.af b row col 15) 1760 = 1 ∧ 0 < row then nodeVal s b d (.cout (row - 1) col 23 7) else 0
      | 1 => 0
      | 2 => 1
      | _ => nodeVal s b d (.tsel row col t 68)
  | d + 1, .cout row col t k =>
    let lw := s.leafWord b row col t k
    if bits lw 64 2 = 2 then
      let in5 := (List.range 5).foldl (fun a j => a + nodeVal s b d (.tsel row col t (8 * k + j)) * 2 ^ j) 0
      if bit lw (32 + in5) = 1 then nodeVal s b d (.cin row col t k) else bit lw in5
    else nodeVal s b d (.cin row col t k)

/-- The depth to which nodes are followed. A path longer than this crosses every leaf of a bough more than once. -/
def nodeDepth : Nat := 500000

def State.node (s : State) (b : Nat) (n : Node) : Nat := nodeVal s b nodeDepth n

/-- The output of a select word of the 12-bit form at a branch (R93, R95). -/
def State.selVal (s : State) (b row col word : Nat) : Nat :=
  if bit word 10 = 1 then s.node b (.src row col (bits word 0 10)) else 0

/-- A graft edge that may not capture forgets the edges since it last could: it waits for its second edge anew (R107, R108, R267). -/
def State.graftSweep (s : State) : State :=
  { s with fab := { s.fab with gcnt := SMap.without s.fab.gcnt (fun k => !s.captures (k / 4) (k % 4)) } }

/-- A bough leaves or enters the running state, with what follows for its grafts, on both sides (R107, R108). -/
def State.setRun (s : State) (b : Nat) (r : BoughRun) : State := (s.setBough b { s.bough b with run := r }).graftSweep

/-- The register of a lane that does not drive its position holds 0 (R102). -/
def State.limbSweep (s : State) (b : Nat) : State :=
  { s with fab := { s.fab with limbs := SMap.without s.fab.limbs (fun k =>
      decide (k / 327680 = b) && !s.limbDriven b (k / 40960 % 8) (k / 1024 % 40) (k % 1024)) } }

/-- Clears a bough's limb and graft registers (R104). -/
def State.clearLinks (s : State) (b : Nat) : State :=
  { s with fab := { s.fab with
      limbs := SMap.clear s.fab.limbs (limbKey b 0 0 0) (limbKey (b + 1) 0 0 0)
      gout := SMap.clear s.fab.gout (graftKey b 0 0) (graftKey (b + 1) 0 0)
      gcap := SMap.clear s.fab.gcap (graftKey b 0 0) (graftKey (b + 1) 0 0) } }

end Sys2Proof.Machine
end

