-- ==== Sys2Proof/Machine/BlockMem.lean ====
section
/-!
DEFINITION. Block memories (chapter 4): the symbol code, the service of the accesses that meet at one block, error
counting and logging, and the commands on a block memory's registers.
-/
namespace Sys2Proof.Machine
open Sys2Proof

/-- The product in GF(16) (R144). -/
def gmul (a b : Nat) : Nat :=
  let p := (List.range 4).foldl (fun p i => if bit b i = 1 then p ^^^ (a * 2 ^ i) else p) 0
  (List.range 4).foldl (fun p j => let i := 7 - j; if bit p i = 1 then p ^^^ (0x13 * 2 ^ (i - 4)) else p) p % 16
def ginv (e : Nat) : Nat := ((List.range 16).find? (fun x => gmul e x = 1)).getD 0
/-- The quadric Q (R143). -/
def gq (x y : Nat) : Nat := gmul x x ^^^ gmul x y ^^^ gmul 8 (gmul y y)

/-- The row of 128 data bits with its check symbols (R144). -/
def symEncode (data : Nat) : Nat :=
  let d (i : Nat) := bits data (4 * i) 4
  let sum (f : Nat → Nat → Nat) := (List.range 32).foldl (fun a i => a ^^^ gmul (d i) (f (i % 16) (2 + i / 16))) 0
  let d0 := sum (fun _ _ => 1)
  let d1 := sum (fun x _ => x)
  let d2 := sum (fun _ y => y)
  let d3 := sum gq
  data % 2 ^ 128 + (d0 ^^^ d1 ^^^ d2) * 2 ^ 128 + (d3 ^^^ d1 ^^^ gmul 8 d2) * 2 ^ 132 + d1 * 2 ^ 136 + d2 * 2 ^ 140

/-- The column of a symbol (R143). -/
def symCol (t : Nat) : Nat × Nat × Nat × Nat :=
  if t < 32 then (1, t % 16, 2 + t / 16, gq (t % 16) (2 + t / 16))
  else if t = 32 then (1, 0, 0, 0) else if t = 33 then (0, 0, 0, 1) else if t = 34 then (1, 1, 0, 1) else (1, 0, 1, 8)

/-- The syndrome of a row, S0 lowest (R143). -/
def syndrome (row : Nat) : Nat :=
  let sum (f : Nat × Nat × Nat × Nat → Nat) :=
    (List.range 36).foldl (fun a t => a ^^^ gmul (bits row (4 * t) 4) (f (symCol t))) 0
  sum (·.1) + sum (·.2.1) * 16 + sum (·.2.2.1) * 256 + sum (·.2.2.2) * 4096

/-- What decoding a row finds (R144): kind 0 none, 1 corrected, 2 uncorrectable; the symbol, its error value. -/
structure SymDec where
  kind : Nat
  sym : Nat
  err : Nat
  syn : Nat
deriving DecidableEq, Repr

def symDecode (row : Nat) : SymDec :=
  let sy := syndrome row
  let s0 := sy % 16
  let s1 := sy / 16 % 16
  let s2 := sy / 256 % 16
  let s3 := sy / 4096
  let bad : SymDec := ⟨2, 0xFF, 0, sy⟩
  if sy = 0 then ⟨0, 0, 0, 0⟩
  else if s0 ≠ 0 then
    let x := gmul s1 (ginv s0)
    let y := gmul s2 (ginv s0)
    if s3 ≠ gmul s0 (gq x y) then bad
    else if x = 0 ∧ y = 0 then ⟨1, 32, s0, sy⟩
    else if x = 1 ∧ y = 0 then ⟨1, 34, s0, sy⟩
    else if x = 0 ∧ y = 1 then ⟨1, 35, s0, sy⟩
    else if y = 2 ∨ y = 3 then ⟨1, 16 * (y - 2) + x, s0, sy⟩ else bad
  else if s1 = 0 ∧ s2 = 0 then ⟨1, 33, s3, sy⟩ else bad

/-- The row with a decoded error removed. -/
def symFix (row : Nat) (d : SymDec) : Nat := if d.kind = 1 then row ^^^ (d.err * 2 ^ (4 * d.sym)) else row

/-- One access as it meets a block: its row, the word's bit range, the bits it writes with their values. -/
structure BmReq where
  row : Nat
  lo : Nat
  w : Nat
  wmask : Nat
  wdata : Nat
  seq : Bool
deriving DecidableEq, Repr

def bmErrPop (b : Nat) : Nat := (R.BM_ERR_POP_BLOCK b).addr

/-- Counts and logs a corrected or uncorrectable access (R147, R148). -/
def State.bmLog (s : State) (b k p row : Nat) (d : SymDec) (seq wb drop : Bool) : State :=
  let word := k + p * 2 ^ 7 + row * 2 ^ 8 + (d.kind - 1) * 2 ^ 17 + ofFlag seq * 2 ^ 18 + ofFlag wb * 2 ^ 19
    + d.sym * 2 ^ 24 + d.syn * 2 ^ 32 + 2 ^ 48
  let s1 := s.bump (if d.kind = 1 then R.BM_CNT_CORR b else R.BM_CNT_UNC b) 1
  let s2 := if d.kind = 1 ∧ s.get (R.BM_CTRL_CORR_LOG_EN b) = 0 then s1
    else if (s1.queue (bmErrPop b)).length < 16 then
      { s1 with pops := SMap.set s1.pops [] (bmErrPop b) (s1.queue (bmErrPop b) ++ [word]) }
    else { s1 with popOvf := SMap.set s1.popOvf 0 (bmErrPop b) 1 }
  if d.kind = 2 ∧ s.has (R.BM_CTRL_UNC_EVT_EN b) then s2.raise (if drop then 0x0729 else 0x0728) b word else s2

/-- A counted row write of a block: an armed injection acts on it (R158). -/
def State.bmInject (s : State) (b k row : Nat) (ecc : Bool) : State :=
  if s.has (R.BM_INJECT_ARM b) && decide (s.get (R.BM_INJECT_BLOCK b) = k) then
    let t := s.get (R.BM_INJECT_SYMBOL b)
    let e := s.get (R.BM_INJECT_PATTERN b)
    let x := e * 2 ^ (4 * t) ^^^ (if s.has (R.BM_INJECT_DOUBLE b) then e * 2 ^ (4 * ((t + 1) % 36)) else 0)
    let s1 := s.set (R.BM_INJECT_ARM b) 0
    if ecc then s1.setBmData b k row (s1.bmData b k row ^^^ x) else s1
  else s

/-- A write of a row cancels a pending write-back of that row at either port (R146). -/
def State.bmCancel (s : State) (b k row : Nat) : State :=
  let ports := s.fab.bmPorts.map (fun e => match e.2.wb with
    | some (k', r', _) => if e.1 / 256 = b ∧ k' = k ∧ r' = row then (e.1, { e.2 with wb := none }) else e
    | none => e)
  { s with fab := { s.fab with bmPorts := ports.filter (fun e => decide (e.2 ≠ BmPort.reset)) } }

/-- What an access gives its port: the word before and after, the flags (bit 0 SBE, 1 DBE, 2 COLL). -/
structure BmAns where
  before : Nat
  after : Nat
  flags : Nat
deriving DecidableEq, Repr

/-- Bits [lo, lo + w) and [lo', lo' + w') meet. -/
def overlap (x y : BmReq) : Bool := decide (x.lo < y.lo + y.w) && decide (y.lo < x.lo + x.w)

/-- Serves the accesses of ports A and B that meet at block `k` (R137 to R148): `same` when both edges are one edge of one
clock line; edges of different clocks within W_COLL leave the outcome to a free value (R141). A block that is not used or not READY is inert
(R132, R133, R155). Two writes to different halves of an ECC row set no COLL under different clocks either, and WRITE_FIRST shows the row before an
injected error (the model's choices, assumption 176). -/
def State.bmServe (s : State) (b k : Nat) (same : Bool) (pa pb : Option BmReq) : State × Option BmAns × Option BmAns :=
  let w := s.blockWord b k
  let ecc := decide (bits w 1 2 = 1)
  if !s.bmReady b k || !s.blockUsed b k then (s, pa.map (fun _ => ⟨0, 0, 0⟩), pb.map (fun _ => ⟨0, 0, 0⟩))
  else
  let meet := match pa, pb with
    | some x, some y => decide (x.row = y.row) && (ecc || overlap x y)
    | _, _ => false
  let wr (r : Option BmReq) : Bool := match r with | some x => decide (x.wmask ≠ 0) | none => false
  let (fv, s0) := if meet && !same && (wr pa || wr pb) then (let f := s.fresh 2; (f.1 % 2, f.2)) else (0, s)
  let put (r : Option BmReq) (row v : Nat) : Nat := match r with
    | some x => if x.row = row then (v &&& ((2 ^ 144 - 1) ^^^ x.wmask)) ||| (x.wdata &&& x.wmask) else v
    | none => v
  let one (r : Option BmReq) : Nat × SymDec × Bool × Nat := match r with
    | none => (0, ⟨0, 0, 0, 0⟩, false, 0)
    | some x =>
      let old := s0.bmData b k x.row
      let d := if ecc then symDecode old else ⟨0, 0, 0, 0⟩
      let eff := symFix old d
      let drop := decide (d.kind = 2) && (wr r || (meet && (wr pa || wr pb)))
      let merged := if fv = 1 then put pb x.row (put pa x.row eff) else put pa x.row (put pb x.row eff)
      let new := if drop then old else if ecc then (if merged = eff ∧ d.kind ≠ 1 then eff else symEncode merged) else merged
      (eff, d, drop, new)
  let ra := one pa
  let rb := one pb
  let stores (r : Option BmReq) (v : Nat × SymDec × Bool × Nat) : Bool := wr r && !v.2.2.1
  let store (t : State) (r : Option BmReq) (v : Nat × SymDec × Bool × Nat) : State := match r with
    | some x => if stores r v then (t.setBmData b k x.row v.2.2.2).bmCancel b k x.row else t
    | none => t
  let inject (t : State) (r : Option BmReq) (v : Nat × SymDec × Bool × Nat) : State := match r with
    | some x => if stores r v then t.bmInject b k x.row ecc else t
    | none => t
  let s1 := inject (inject (store (store s0 pa ra) pb rb) pa ra) pb rb
  let diffHalf := match pa, pb with | some x, some y => ecc && !overlap x y | _, _ => false
  let collA := meet && !diffHalf && ((decide (wr pb) && (!wr pa || !same)))
  let collB := meet && !diffHalf && decide (wr pa)
  let collAr := meet && diffHalf && !wr pa && wr pb
  let collBr := meet && diffHalf && !wr pb && wr pa
  let report (t : State) (p : Nat) (r : Option BmReq) (v : Nat × SymDec × Bool × Nat) (other : Bool) : State := match r with
    | none => t
    | some x =>
      if v.2.1.kind = 0 then t
      else
        let hd := k - k % cascLen w
        let can := decide (v.2.1.kind = 1) && decide (bit w 23 = 1) && !wr r && decide ((t.bmPort b hd p).wb = none)
        let t1 := t.bmLog b k p x.row v.2.1 x.seq can (wr r && v.2.2.1)
        if can && !other then t1.setBmPort b hd p { t1.bmPort b hd p with wb := some (k, x.row, symEncode v.1) } else t1
  let s2 := report (report s1 0 pa ra (meet && wr pb)) 1 pb rb (meet && wr pa)
  let ans (r : Option BmReq) (v : Nat × SymDec × Bool × Nat) (coll : Bool) : Option BmAns := r.map (fun x =>
    let readNew := meet && !same && decide (fv = 1) && !wr r
    ⟨bits (if readNew then v.2.2.2 else v.1) x.lo x.w, bits v.2.2.2 x.lo x.w,
      ofFlag (v.2.1.kind = 1) + 2 * ofFlag (v.2.1.kind = 2) + 4 * ofFlag coll⟩)
  (s2, ans pa ra (collA || collAr), ans pb rb (collB || collBr))

/-- The row and bits of an access of a fabric port (R134 to R136). -/
def portReq (w p : Nat) (a : BmAcc) : BmReq :=
  if bits w 1 2 = 1 then
    let lo := 64 * (a.addr % 2)
    ⟨a.addr / 2 % 512, lo, 64, if bit a.we 0 = 1 then (2 ^ 64 - 1) * 2 ^ lo else 0, a.di % 2 ^ 64 * 2 ^ lo, false⟩
  else
    let wd := 9 * 2 ^ bits w (3 + 3 * p) 3
    let n := 144 / wd
    let lo := wd * (a.addr % n)
    let m := (List.range (wd / 9)).foldl (fun acc l => acc + bit a.we l * (511 * 2 ^ (9 * l))) 0
    ⟨a.addr / n % 512, lo, wd, m * 2 ^ lo, a.di % 2 ^ wd * 2 ^ lo, false⟩

/-- The inputs of a port at an edge, from the input selects (R131). -/
def State.portInputs (s : State) (b k p : Nat) : BmAcc :=
  let row := bmRow k
  let col := bmCol k
  let sel (n : Nat) : Nat :=
    let i := 202 * (k % 4) + 101 * p + n
    s.selVal b row col (bits (s.af b row col (i / 320)) (12 * (i % 320)) 12)
  let word (lo w : Nat) : Nat := (List.range w).foldl (fun a i => a + sel (lo + i) * 2 ^ i) 0
  ⟨word 0 13, word 13 5, word 18 72, word 90 8, decide (sel 98 = 1), decide (sel 99 = 1), decide (sel 100 = 1)⟩

/-- A pending write-back of a port, at an edge where the port makes no access (R146). -/
def State.bmWriteback (s : State) (b k p : Nat) : State :=
  match (s.bmPort b k p).wb with
  | none => s
  | some (kt, row, v) => (s.setBmPort b k p { s.bmPort b k p with wb := none }).setBmData b kt row v

/-- The ports of bough `b` at edges of the clock lines of a mask (R138 to R142, R149, R150). Inputs are taken from `pre`, the
state before the edges. A write under NO_CHANGE leaves the flags with the word they came with, and adds its own DBE and COLL (R139, R147, R141);
ORST and OCE of a cascade head wait one edge with the access (the model's choices, assumption 176). -/
def bmEdges (pre : State) (b lines : Nat) (s : State) : State :=
  let fires : List (Nat × Nat) := (List.range 128).flatMap (fun k =>
    if pre.blockUsed b k && pre.isHead b k then
      let w := pre.blockWord b k
      (if bit lines (bits w 15 4) = 1 then [(k, 0)] else [])
        ++ (if bit w 27 = 0 ∧ bit lines (bits w 19 4) = 1 then [(k, 1)] else [])
    else [])
  -- the access that each firing port performs at its member block now
  let acts : List (Nat × Nat × Nat × BmAcc) := fires.filterMap (fun (k, p) =>
    let w := pre.blockWord b k
    let a := if cascLen w > 1 then (pre.bmPort b k p).inStage else some (pre.portInputs b k p)
    a.map (fun a => (k, p, k + a.caddr % cascLen w, a)))
  let req (k p : Nat) : Option BmReq := (acts.find? (fun x => x.2.2.1 = k ∧ x.2.1 = p ∧ x.2.2.2.en = true)).map
    (fun x => portReq (pre.blockWord b x.1) p x.2.2.2)
  let blocks := ((acts.filter (fun x => x.2.2.2.en)).map (fun x => x.2.2.1)).eraseDups
  let served := blocks.foldl (fun (acc : State × List (Nat × Option BmAns × Option BmAns)) kt =>
    let w := pre.blockWord b kt
    let r := acc.1.bmServe b kt (bits w 15 4 = bits w 19 4) (req kt 0) (req kt 1)
    (r.1, (kt, r.2.1, r.2.2) :: acc.2)) (s, [])
  let near (w p : Nat) (orst oreg : Bool) (act : Option (Nat × Nat × Nat × BmAcc)) (flags : Option Nat) : Option BmNear := match act with
    | some (_, _, kt, a) =>
      if p = 0 ∧ bit w 27 = 1 ∧ a.en = true ∧ bit (flags.getD 0) 1 = 0 ∧ pre.bmReady b kt then
        let q := portReq w 0 a
        some ⟨q.row, q.lo, q.w, q.wmask, pre.bmData b kt q.row, decide (q.wmask = 0) && !(orst && !oreg)⟩
      else none
    | none => none
  fires.foldl (fun t (k, p) =>
    let w := pre.blockWord b k
    let x0 := pre.bmPort b k p
    let act := acts.find? (fun x => x.1 = k ∧ x.2.1 = p)
    let oreg := decide (bit w (13 + p) = 1)
    let y := t.bmPort b k p
    let ans : Option BmAns := match act with
      | none => none
      | some (_, _, kt, a) => if !a.en then none else
        match served.2.find? (fun e => e.1 = kt) with
        | none => none
        | some e => if p = 0 then e.2.1 else e.2.2
    let isWrite := match act with
      | some (_, _, _, a) => decide ((portReq w p a).wmask ≠ 0)
      | none => false
    let wmode := bits w (9 + 2 * p) 2
    let (l, lf) := match ans with
      | none => (x0.latch, x0.latchF)
      | some r =>
        if isWrite ∧ wmode = 2 then (x0.latch, x0.latchF ||| (r.flags &&& 6))
        else (if isWrite ∧ wmode = 1 then r.after else r.before, r.flags)
    let orst := match act with | some (_, _, _, a) => a.orst | none => false
    let oce := match act with | some (_, _, _, a) => a.oce | none => false
    let (l2, lf2) := if orst && !oreg then (0, 0) else (l, lf)
    let (o2, of2) := if !oreg then (x0.oreg, x0.oregF) else if orst then (0, 0) else if oce then (x0.latch, x0.latchF)
      else (x0.oreg, x0.oregF)
    let t1 := t.setBmPort b k p { y with
      latch := l2, latchF := lf2, oreg := o2, oregF := of2
      inStage := if cascLen w > 1 then some (pre.portInputs b k p) else none
      outStage := if cascLen w > 1 then (if oreg then x0.oreg else x0.latch) else 0
      outF := if cascLen w > 1 then (if oreg then x0.oregF else x0.latchF) else 0
      last := near w p orst oreg act (ans.map (·.flags)) }
    match act with
    | some (_, _, _, a) => if a.en then t1 else t1.bmWriteback b k p
    | none => t1) served.1

/-- An access of the sequencer port, `go` with the bits that it leaves as stored. Where its edge and port A's last edge lie within W_COLL of one another
(`near`) and port A made an access to the same row then, the outcome is free, as under different clocks (R141, R152, R196). -/
def State.bmNear (s : State) (b k row : Nat) (near writes : Bool) (go : Nat → State → State × BmAns) : State × BmAns :=
  match (s.bmPort b k 0).last with
  | none => go 0 s
  | some x =>
    if !near ∨ x.row ≠ row ∨ (x.wmask = 0 ∧ !writes) then go 0 s
    else
      let s0 := (s.fresh 33).2
      let first := decide ((s.fresh 33).1 % 2 = 0)
      let coll (t : State) : State := t.setBmPort b k 0 { t.bmPort b k 0 with latchF := (t.bmPort b k 0).latchF ||| 4 }
      if !writes then
        if first then go 0 s0
        else
          let r := go 0 (s0.setBmData b k row x.old)
          ((r.1.setBmData b k row (s0.bmData b k row)).bmCancel b k row, r.2)
      else if x.wmask = 0 then
        let r := go 0 s0
        if !x.latched then r
        else if first then (coll r.1, r.2)
        else (coll (r.1.setBmPort b k 0 { r.1.bmPort b k 0 with latch := bits (r.1.bmData b k row) x.lo x.w }), r.2)
      else
        let r := go (if first then 0 else x.wmask) s0
        (coll r.1, r.2)

/-- Clears the outputs and pending write-backs of every port of a bough (R146, R154, R160). -/
def State.bmClearPorts (s : State) (b : Nat) : State :=
  { s with fab := { s.fab with bmPorts := SMap.clear s.fab.bmPorts (bmPortKey b 0 0) (bmPortKey (b + 1) 0 0) } }

/-- Zeroes the rows of a block. -/
def State.bmZero (s : State) (b k : Nat) : State :=
  { s with fab := { s.fab with bmRows := SMap.clear s.fab.bmRows (bmRowKey b k 0) (bmRowKey b (k + 1) 0) } }

/-- BM_WRITEBACK (R146). -/
def execBmWriteback (b : BoughId) (k : Fin 128) (portB : Bool) (s : State) : Host.Outcome State Fault Refusal :=
  done (if s.running b then s.bmWriteback b k (ofFlag portB) else s)

/-- BM_CNT_CLR (R158): clears BM_CNT; the increments of the same NoC cycle survive. -/
def execBmCntClr (b : BoughId) (corr unc : BitVec 8) (s : State) : Host.Outcome State Fault Refusal :=
  done ((s.sets [(R.BM_CNT_CORR b, corr.toNat), (R.BM_CNT_UNC b, unc.toNat)]).reply 0 0)

/-- A write of BM_INJECT (R158). -/
def State.bmInjectWrite (s : State) (b data : Nat) : State :=
  if bit data 21 = 1 ∧ (35 < bits data 8 6 ∨ bits data 16 4 = 0) then s.reply 0 0
  else (s.setWord [R.BM_INJECT_BLOCK b, R.BM_INJECT_SYMBOL b, R.BM_INJECT_PATTERN b, R.BM_INJECT_DOUBLE b,
    R.BM_INJECT_ARM b] data).reply 0 0

/-- BM_INJECT (R158). -/
def execBmInject (b : BoughId) (data : BitVec 32) (s : State) : Host.Outcome State Fault Refusal :=
  done (s.bmInjectWrite b data.toNat)

/-- Pops the bough's block-memory error log; a dropped entry shows as OVF of the entry popped next (R148). -/
def State.bmErrPopRead (s : State) (b : Nat) : State :=
  match s.queue (bmErrPop b) with
  | [] => s.popRead (bmErrPop b)
  | w :: t =>
    ({ s with
      pops := SMap.set s.pops [] (bmErrPop b) ((w + SMap.get s.popOvf 0 (bmErrPop b) * 2 ^ 49) :: t)
      popOvf := SMap.set s.popOvf 0 (bmErrPop b) 0 }).popRead (bmErrPop b)

/-- BM_ERR_POP (R148, R158). -/
def execBmErrPop (b : BoughId) (s : State) : Host.Outcome State Fault Refusal := done (s.bmErrPopRead b)

end Sys2Proof.Machine
end

