-- ==== Sys2Proof/Machine/FlipFlops.lean ====
section
/-!
DEFINITION. The flip-flops of the leaves (R62 to R71): their clocks, controls and data, an edge, the asynchronous set/reset, INIT and the clear.
-/
namespace Sys2Proof.Machine
open Sys2Proof

def State.setFf (s : State) (k v : Nat) : State := { s with fab := { s.fab with ffs := SMap.set s.fab.ffs 0 k (v % 2) } }

/-- The twigs of a bough's active plane whose words are not all 0: row, column, twig. -/
def State.twigs (s : State) (b : Nat) : List (Nat × Nat × Nat) :=
  s.fab.frames.flatMap (fun e =>
    let idx := e.1 % 16
    let col := e.1 / 16 % 41
    let row := e.1 / 656 % 8
    if e.1 / 5248 = (s.bough b).plane * 64 + b ∧ idx < 12 ∧ col < 40 ∧ branchType col = 0 then
      [(row, col, 2 * idx), (row, col, 2 * idx + 1)].filter (fun x => s.twigWord b x.1 x.2.1 x.2.2 ≠ 0)
    else [])

/-- The settings of flip-flop `ab` of a leaf start at this bit of the leaf word. -/
def ffBase (ab : Nat) : Nat := 66 + 10 * ab

/-- The bough clock line of a flip-flop, if its twig clock runs (R63, R78). -/
def State.ffLine (s : State) (b row col t k ab : Nat) : Option Nat :=
  let tw := s.twigWord b row col t
  if bit (s.leafWord b row col t k) (ffBase ab + 2) = 0 then (if bit tw 1945 = 1 then some (bits tw 1941 4) else none)
  else if bit tw 1950 = 1 then some (bits tw 1946 4) else none

/-- A shared control line by its two-bit code (R63): 0 none, 2 the second line, else the first. -/
def State.ctrlLine (s : State) (b row col t code first : Nat) : Nat :=
  if code = 0 then 0 else s.node b (.tsel row col t (if code = 2 then first + 1 else first))

/-- The data input of a flip-flop (R62). -/
def State.ffData (s : State) (b row col t k ab : Nat) : Nat :=
  match bits (s.leafWord b row col t k) (ffBase ab) 2 with
  | 0 => s.node b (if ab = 0 then .la row col t k else .lb row col t k)
  | 1 => s.node b (.sum row col t k)
  | 2 => s.node b (.tsel row col t (8 * k + 6 + ab))
  | _ => s.node b (if ab = 0 then .lb row col t k else .la row col t k)

/-- Q of a flip-flop after an edge of its clock (R65 rows 2 to 6): an active set/reset line, synchronous or not, overrides the enable. -/
def State.ffNext (s : State) (b row col t k ab : Nat) (release : Bool) : Nat :=
  let lw := s.leafWord b row col t k
  let o := ffBase ab
  let ce := bits lw (o + 3) 2
  let sr := bits lw (o + 5) 2
  if release then bit lw (o + 9)
  else if s.ctrlLine b row col t sr 66 = 1 then bit lw (o + 8)
  else if ce ≠ 0 ∧ s.ctrlLine b row col t ce 64 = 0 then s.ff b row col t k ab
  else s.ffData b row col t k ab

/-- The flip-flops of a list of twigs, as (row, column, twig, leaf, flip-flop). -/
def ffsOf (l : List (Nat × Nat × Nat)) : List (Nat × Nat × Nat × Nat × Nat) :=
  l.flatMap (fun x => (List.range 16).map (fun i => (x.1, x.2.1, x.2.2, i / 2, i % 2)))

/-- The set/reset line of a flip-flop, and whether it acts without a clock (R63, R64). -/
def State.srLine (s : State) (b row col t k ab : Nat) : Nat := s.ctrlLine b row col t (bits (s.leafWord b row col t k) (ffBase ab + 5) 2) 66
def State.srAsync (s : State) (b row col t k ab : Nat) : Bool :=
  decide (bit (s.leafWord b row col t k) (ffBase ab + 7) = 0) && decide (bits (s.leafWord b row col t k) (ffBase ab + 5) 2 ≠ 0)

/-- Q without regard to the set/reset line: the data input where the enable lets it in, else the value held. -/
def State.ffSample (s : State) (b row col t k ab : Nat) : Nat :=
  let ce := bits (s.leafWord b row col t k) (ffBase ab + 3) 2
  if ce ≠ 0 ∧ s.ctrlLine b row col t ce 64 = 0 then s.ff b row col t k ab else s.ffData b row col t k ab

/-- What Q may become where a timing requirement was broken: `kind` 0 an asynchronous set/reset pulse shorter than the least width acts or does
not (R69), 1 one released in the recovery and removal window of an edge leaves SRVAL or lets the edge sample (R70), 2 data that change in the setup
and hold window of a sampling edge leave either value (R71). `q` is Q as it is without the breach, `edge` whether the clock gives an edge. -/
def State.ffLoose (s : State) (b row col t k ab kind q : Nat) (edge release : Bool) : List Nat :=
  let srval := bit (s.leafWord b row col t k) (ffBase ab + 8)
  let async := s.srAsync b row col t k ab
  match kind with
  | 0 => if async then [q, srval] else [q]
  | 1 => if async && edge && !release then [s.ffSample b row col t k ab, srval] else [q]
  | _ =>
    let ce := bits (s.leafWord b row col t k) (ffBase ab + 3) 2
    let samples := edge && !release && decide (s.srLine b row col t k ab ≠ 1) && (decide (ce = 0) || decide (s.ctrlLine b row col t ce 64 ≠ 0))
    if samples then [0, 1] else [q]

/-- The flip-flops whose timing requirements an edge breaks, with their kinds: of `resets` an asynchronous set/reset pulse is short (R69), or where the
second part says so is released in the window of an edge (R70); of `late` the data change in it (R71). -/
def looseKinds (resets : List (Nat × Bool)) (late : List Nat) : List (Nat × Fin 3) :=
  resets.map (fun (e : Nat × Bool) => (e.1, if e.2 then 1 else 0)) ++ late.map (fun (k : Nat) => (k, 2))

/-- Flip-flops at edges of the lines of a mask; `loose` lists those whose timing requirements were broken, with the kind (R69 to R71): each
settles at a free one of its two values. -/
def ffEdges (pre : State) (b lines : Nat) (loose : List (Nat × Fin 3)) (s : State) : State :=
  (ffsOf (pre.twigs b)).foldl (fun t (row, col, tw, k, ab) =>
    let key := ffKey b row col tw k ab
    let edge := match pre.ffLine b row col tw k ab with
      | none => false
      | some n => decide (bit lines n = 1)
    let release := match pre.ffLine b row col tw k ab with
      | none => false
      | some n => decide (bit (pre.bough b).relLines n = 1)
    let q := if edge then pre.ffNext b row col tw k ab release else pre.ff b row col tw k ab
    match loose.find? (fun e => decide (e.1 = key)) with
    | some e =>
      match pre.ffLoose b row col tw k ab e.2 q edge release with
      | [x, y] => (t.fresh 3).2.setFf key (if (t.fresh 3).1 % 2 = 0 then x else y)
      | _ => t.setFf key q
    | none => if edge then t.setFf key q else t) s

/-- The flip-flops of a bough whose active asynchronous set/reset forces them to another value (R65 row 3). -/
def State.ffHot (s : State) (b : Nat) : List (Nat × Nat × Nat × Nat × Nat) :=
  (ffsOf (s.twigs b)).filter (fun (row, col, t, k, ab) =>
    s.srAsync b row col t k ab && decide (s.srLine b row col t k ab = 1)
      && decide (s.ff b row col t k ab ≠ bit (s.leafWord b row col t k) (ffBase ab + 8)))

/-- Asynchronous set/reset (R64, R65 row 3): forced flip-flops take SRVAL until nothing changes. Flip-flops that force one another for more rounds
than a bough has flip-flops settle at no value that the manual gives: each takes a free one. -/
def settle (b : Nat) : Nat → State → State
  | 0, s => (s.ffHot b).foldl (fun t (row, col, tw, k, ab) => (t.fresh 32).2.setFf (ffKey b row col tw k ab) (t.fresh 32).1) s
  | r + 1, s =>
    if (s.ffHot b).isEmpty then s
    else settle b r ((s.ffHot b).foldl (fun t (row, col, tw, k, ab) =>
      t.setFf (ffKey b row col tw k ab) (bit (s.leafWord b row col tw k) (ffBase ab + 8))) s)

/-- Whether a bough's flip-flops follow its set/reset lines: a design stands in it and its logic is powered (R65 row 1, R68, R89). -/
def State.ffsHeld (s : State) (b : Nat) : Bool :=
  match (s.bough b).run with
  | .running | .frozen | .rest | .stopped => true
  | _ => false

/-- Every bough with its asynchronous set/reset in force (R64, R65 row 3). -/
def State.settled (s : State) : State := (List.range 64).foldl (fun t b => if t.ffsHeld b then settle b 98305 t else t) s

/-- A frame of the active plane of a bough changed under it (R95, R102, R103): lanes, grafts and asynchronous lines follow. -/
def State.frameChanged (s : State) (b : Nat) : State := ((s.limbSweep b).graftSweep).settled

/-- The flip-flops of a bough at a swap or a release (R66, R67): those of `init` take INIT of the active plane. -/
def State.ffInit (s : State) (b : Nat) (keep : Nat → Bool) : State :=
  (ffsOf (s.twigs b)).foldl (fun t (row, col, tw, k, ab) =>
    let key := ffKey b row col tw k ab
    if keep key then t else t.setFf key (bit (s.leafWord b row col tw k) (ffBase ab + 9))) s

/-- Clears a bough's flip-flops (R65 row 1), but those that a test keeps. -/
def State.ffClear (s : State) (b : Nat) (keep : Nat → Bool) : State :=
  { s with fab := { s.fab with ffs := SMap.without s.fab.ffs (fun k =>
      decide (ffKey b 0 0 0 0 0 ≤ k) && decide (k < ffKey (b + 1) 0 0 0 0 0) && !keep k) } }

end Sys2Proof.Machine
end

