-- ==== Sys2Proof/Machine/Slices.lean ====
section
/-!
DEFINITION. Arithmetic slices (chapter 5): the datapath that both modes share, publication, and the fabric-mode pipeline.
-/
namespace Sys2Proof.Machine
open Sys2Proof

/-- The settings with which an operation retires (R168, R169). -/
structure AccMode where
  dual : Bool
  ovsat : Bool
  cshift : Nat
  shr24 : Bool
deriving DecidableEq, Repr

/-- What a retiring operation gives: P, whether it overflowed, whether it was clamped (R168, R169). -/
structure AccRes where
  p : Nat
  ovf : Bool
  satd : Bool
deriving DecidableEq, Repr

/-- The post-adder (R168): products m (or pair of products) already formed as an integer. -/
def accumulate (md : AccMode) (acc sub casc : Bool) (m : Int) (c p pcin : Nat) : AccRes :=
  let pin := signed 56 pcin
  let t := (if acc then signed 56 p else 0)
    + (if casc then (if md.shr24 then pin / (2 ^ 24 : Nat) else pin) else 0)
    + signed 24 c * (2 ^ md.cshift : Nat) + (if sub then -m else m)
  let q := clampTo 56 t
  if q = t then ⟨encode2 56 t, false, false⟩
  else if md.ovsat then ⟨encode2 56 q, true, true⟩ else ⟨encode2 56 t, true, false⟩

/-- The post-adder in dual mode (R169), from the 12-bit fields of A, B and C. -/
def accumulateDual (md : AccMode) (acc sub casc : Bool) (a b c p pcin : Nat) : AccRes :=
  let lane (h : Nat) : Nat × Bool :=
    let m := signed 12 (bits a (12 * h) 12) * signed 12 (bits b (12 * h) 12)
    let t := (if acc then signed 28 (bits p (28 * h) 28) else 0)
      + (if casc then signed 28 (bits pcin (28 * h) 28) else 0)
      + signed 12 (bits c (12 * h) 12) + (if sub then -m else m)
    let q := clampTo 28 t
    (encode2 28 (if md.ovsat then q else t), decide (q ≠ t))
  let l := lane 0
  let h := lane 1
  ⟨l.1 + h.1 * 2 ^ 28, l.2 || h.2, (l.2 || h.2) && md.ovsat⟩

/-- The multiplier's A-side operand (R168): the clamped pre-adder result or A, and whether the clamp acted. -/
def preAdd (en psub : Bool) (a d : Nat) : Int × Bool :=
  if en then
    let x := if psub then signed 24 d - signed 24 a else signed 24 d + signed 24 a
    (clampTo 24 x, decide (clampTo 24 x ≠ x))
  else (signed 24 a, false)

/-- Sets the sticky OVF of a slice; a change from 0 to 1 raises 0x0736 when enabled (R172, R186). `was` is OVF before the edge. -/
def State.raiseOvf (s : State) (b i : Nat) (was : Bool) : State :=
  let s1 := s.setSliceOvf b i true
  if !was && s.has (R.SL_CTRL_OVF_EVT_EN b) then s1.raise 0x0736 b 0 else s1

/-- VALID and STALE of a result slot (R180). -/
def State.sliceReads (s : State) (b i : Nat) : State :=
  let x := s.slice b i
  s.sets [(R.SL_RES_S_VALID b i, ofFlag (decide (x.pend = 0) && x.pubd)), (R.SL_RES_S_STALE b i, ofFlag (decide (x.pend ≠ 0)))]

/-- Publishes a slice's result (R179): P, R, flags as they stand, SEQ one higher. -/
def State.slicePublish (s : State) (b i : Nat) (r rclp pdet : Nat) : State :=
  let x := s.slice b i
  (s.sets [(R.SL_RES_P_P b i, x.p), (R.SL_RES_P_OVF b i, ofFlag (s.sliceOvf b i)), (R.SL_RES_P_SATD b i, ofFlag x.satd),
    (R.SL_RES_P_PDET b i, pdet), (R.SL_RES_P_POVF b i, ofFlag x.povf), (R.SL_RES_S_R b i, r), (R.SL_RES_S_RCLP b i, rclp),
    (R.SL_RES_S_SEQ b i, s.get (R.SL_RES_S_SEQ b i) + 1)]).setSlice b i { x with pend := x.pend - 1, pubd := true, snap := x.snap.map (fun (q : Nat × Option Nat) => (q.1, none)) }

/-- The input word of a slice (R164): `n` is the first input, `w` the number of inputs. -/
def State.sliceIn (s : State) (b i n w : Nat) : Nat :=
  let row := slRow (i / 8)
  let col := slCol (i / 8)
  (List.range w).foldl (fun a j =>
    let k := 105 * (i % 8) + n + j
    a + s.selVal b row col (bits (s.af b row col (k / 320)) (12 * (k % 320)) 12) * 2 ^ j) 0

/-- The operation that a slice samples at an edge (R164, R168, R177): in a quad, the controls of slice 4q and the pair of
products of slices 4q + 1 and 4q + 3, formed whether or not slices 4q and 4q + 2 have USED = 1 (the model's choice, assumption 176). -/
def State.sliceOp (s : State) (b i : Nat) : SliceOp :=
  let w := s.sliceWord b i
  let quad := inQuad (s.abranchWord b (i / 8)) (i % 8)
  let g := if quad then 4 * (i / 4) else i
  let a := if bits w 3 2 = 1 then (s.slice b (i - 1)).aReg else s.sliceIn b i 0 24
  let bb := match bits w 5 2 with
    | 1 => bits w 32 24
    | 2 => (s.slice b (i - 1)).bReg
    | _ => s.sliceIn b i 24 24
  let c (n : Nat) : Bool := decide (s.sliceIn b g n 1 = 1)
  let op (a b' a2 b2 : Nat) : SliceOp :=
    ⟨a, b', s.sliceIn b i 48 24, s.sliceIn b i 72 24, a2, b2, c 99, c 100, c 101, c 102, c 103⟩
  if quad then
    let xr := s.sliceIn b g 0 24
    let xi := s.sliceIn b (g + 1) 0 24
    let yr := s.sliceIn b g 24 24
    let yi := s.sliceIn b (g + 1) 24 24
    if i % 4 = 1 then op xi yi xr yr else op xi yr xr yi
  else op a bb 0 0

/-- The product term of a retiring operation (R168, R177). -/
def productTerm (quad conj : Bool) (odd : Bool) (pre : Bool) (o : SliceOp) : Int × Bool :=
  if quad then
    let m := signed 24 o.a * signed 24 o.b
    let m2 := signed 24 o.a2 * signed 24 o.b2
    (if odd then (if conj then m2 + m else m2 - m) else (if conj then m - m2 else m2 + m), false)
  else
    let x := preAdd pre o.psub o.a o.d
    (x.1 * signed 24 o.b, x.2)

/-- PCIN of a slice in fabric mode (R175): P of the slice below, before the edge. -/
def State.slicePcin (s : State) (b i : Nat) : Nat :=
  let a := i / 8
  let pOf (j : Nat) : Nat := if s.sliceOn b j then (s.slice b j).p else 0
  if i % 8 ≠ 0 then pOf (i - 1)
  else if bit (s.abranchWord b a) 5 = 1 ∧ 4 ≤ a then pOf (8 * (a - 4) + 7) else 0

/-- One slice of bough `b` at an edge of its clock line (R170 to R174, R179 to R181). `pre` is the state before the edge. -/
def sliceEdge (pre : State) (b i : Nat) (s : State) : State :=
  let w := pre.sliceWord b i
  let abr := pre.abranchWord b (i / 8)
  let quad := inQuad abr (i % 8)
  let g := if quad then 4 * (i / 4) else i
  let ctl (n : Nat) : Bool := decide (pre.sliceIn b g n 1 = 1)
  let ce := ctl 96
  let rsti := ctl 97
  let rstp := ctl 98
  let x := pre.slice b i
  let ireg := decide (bit w 7 = 1)
  let mreg := decide (bit w 8 = 1)
  let op0 : Option SliceOp := if rsti then none else some (pre.sliceOp b i)
  let x1 : Option SliceOp := if ireg then x.inOp else op0
  let x2 : Option SliceOp := if mreg then x.mOp else x1
  let inOp : Option SliceOp := if !ireg || rsti then none else if ce then op0 else x.inOp
  let mOp : Option SliceOp := if !mreg || rsti then none else if ce then x1 else x.mOp
  let retire : Option SliceOp := if ce && !rstp then x2 else none
  let pubs (l : List (Option SliceOp)) : Nat := (l.filterMap id).countP (·.pub)
  -- flags cleared at the edge, before what the retiring operation sets
  let s1 := if ctl 104 then (s.setSliceOvf b i false).setSlice b i { s.slice b i with povf := false } else s
  let areg := if rsti then 0 else if ce then (match op0 with | some o => o.a | none => 0) else x.aReg
  let breg := if rsti then 0 else if ce then (match op0 with | some o => o.b | none => 0) else x.bReg
  let y := s1.slice b i
  let base : Slice := { y with aReg := areg, bReg := breg, inOp := inOp, mOp := mOp, pend := pubs [inOp, mOp] }
  let s2 := match retire with
    | none => s1.setSlice b i (if rstp then { base with p := 0, satd := false } else base)
    | some o =>
      let md : AccMode := ⟨bit w 1 = 1, bits w 9 2 = 1, bits w 20 6, bit w 26 = 1⟩
      let pr := productTerm quad (bit abr (3 + i % 8 / 4) = 1) (i % 4 = 1) (bit w 2 = 1) o
      let r := if md.dual then accumulateDual md o.acc o.sub o.casc o.a o.b o.c x.p (pre.slicePcin b i)
        else accumulate md o.acc o.sub o.casc pr.1 o.c x.p (pre.slicePcin b i)
      let s3 := s1.setSlice b i { base with
        p := r.p, satd := r.satd, povf := (y.povf || pr.2), pend := base.pend + ofFlag o.pub }
      let s4 := if r.ovf then s3.raiseOvf b i (pre.sliceOvf b i) else s3
      if o.pub then
        let ro := roundOut md.dual (bits w 11 2) (bits w 13 6) (bit w 19 = 1) r.p
        s4.slicePublish b i ro.1 ro.2 (patternHit r.p (bits w 56 56) (bits w 112 56))
      else s4
  s2.sliceReads b i

/-- The fabric-mode slices of bough `b` at edges of the clock lines of a mask. -/
def sliceEdges (pre : State) (b lines : Nat) (s : State) : State :=
  (List.range 256).foldl (fun t i =>
    if pre.sliceOn b i && decide (bit (pre.abranchWord b (i / 8)) 0 = 0)
        && decide (bit lines (bits (pre.sliceWord b i) 27 4) = 1) then sliceEdge pre b i t
    else t) s

/-- Clears a bough's slices: P, OVF and POVF 0, bubbles, no publication pending (R171, R181, R188). `fresh` also clears the
result registers. -/
def State.clearSlices (s : State) (b : Nat) (fresh : Bool) : State :=
  (List.range 256).foldl (fun t i =>
    let x := t.slice b i
    let t1 := t.setSlice b i { Slice.reset with pubd := (x.pubd && !fresh), snap := (if fresh then none else x.snap) }
    let t2 := t1.setSliceOvf b i false
    if fresh then t2.sets [(R.SL_RES_P_P b i, 0), (R.SL_RES_P_OVF b i, 0), (R.SL_RES_P_SATD b i, 0), (R.SL_RES_P_PDET b i, 0),
      (R.SL_RES_P_POVF b i, 0), (R.SL_RES_S_R b i, 0), (R.SL_RES_S_RCLP b i, 0), (R.SL_RES_S_SEQ b i, 0),
      (R.SL_RES_S_VALID b i, 0), (R.SL_RES_S_STALE b i, 0)]
    else t2.sliceReads b i) s

def slResPFields (b i : Nat) : List Fld :=
  [R.SL_RES_P_P b i, R.SL_RES_P_OVF b i, R.SL_RES_P_SATD b i, R.SL_RES_P_PDET b i, R.SL_RES_P_POVF b i]
def slResSFields (b i : Nat) : List Fld :=
  [R.SL_RES_S_R b i, R.SL_RES_S_RCLP b i, R.SL_RES_S_SEQ b i, R.SL_RES_S_VALID b i, R.SL_RES_S_STALE b i]

/-- Whether a slice's registers read 0 (R186): not used, or an inner slice of a quad. -/
def State.sliceDark (s : State) (b i : Nat) : Bool :=
  decide (bit (s.sliceWord b i) 0 = 0) || (inQuad (s.abranchWord b (i / 8)) (i % 8) && decide (i % 2 = 0))

/-- A read of SL_RES_P that includes its lower half takes a snapshot of the whole slot (R182). -/
def State.slResPRead (s : State) (b i : Nat) (debug : Bool) : State :=
  let p := s.word (slResPFields b i)
  let q := s.word (slResSFields b i)
  if s.sliceDark b i then s.reply 0 0
  else if debug then s.reply 0 p
  else (s.setSlice b i { s.slice b i with snap := some (p, some q) }).reply 0 p

/-- A read of the upper half of SL_RES_P or of SL_RES_S (R182): the snapshot; SL_RES_S shows a result published since it. -/
def State.slSnapRead (s : State) (b i : Nat) (second debug : Bool) : Nat :=
  let live := s.word (if second then slResSFields b i else slResPFields b i)
  if s.sliceDark b i then 0
  else if debug then live
  else match (s.slice b i).snap with
    | some (p, q) => if second then q.getD live else p
    | none => live

/-- SL_RES_P_READ (R182). -/
def execSlResPRead (b : BoughId) (i : Fin 256) (debug : Bool) (s : State) : Host.Outcome State Fault Refusal :=
  done (s.slResPRead b i debug)

end Sys2Proof.Machine
end

