-- ==== Sys2Proof/Machine/Sequencer.lean ====
section
/-!
DEFINITION. Slice sequencers (chapters 6 and 7). One fetch and one class command stand for an instruction's passage through
the pipeline: the fetch is stage F; the class command is stages D and A, and leaves the stage-W writes to be made when the
distances of R201 say so.
-/
namespace Sys2Proof.Machine
open Sys2Proof

def LaneMode.reset : LaneMode := ⟨false, false, 0, 0, false, 0, 0, 0⟩
def AddrGen.reset : AddrGen := ⟨0, 0, 0, 0, false⟩
def Seq.reset : Seq := ⟨[], [], [], 0, [], none, [], none, [], 0, none, [], 0, false, 0, 0, 0, 0⟩
def State.seq (s : State) (b a : Nat) : Seq := SMap.get s.seqs Seq.reset (b * 32 + a)
def State.setSeq (s : State) (b a : Nat) (q : Seq) : State := { s with seqs := SMap.set s.seqs Seq.reset (b * 32 + a) q }

/-- States of a sequencer (R191). -/
def sqIDLE : Nat := 0
def sqRUN : Nat := 1
def sqWAIT : Nat := 2
def sqHALT : Nat := 3
def sqFAULT : Nat := 4

def State.sqState (s : State) (b a : Nat) : Nat := s.get (R.SQ_STATUS_STATE b a)
/-- Frame 6 of the branch (R216). -/
def State.sqFrame (s : State) (b a : Nat) : Nat := s.af b (slRow a) (slCol a) 6
/-- Whether a sequencer's frame enables it: an upset word of SQ_EN or AGINIT leaves it idle (R216, R217). -/
def State.sqEnabled (s : State) (b a : Nat) : Bool :=
  decide (bit (s.sqFrame b a) 0 = 1) && decide (bit (s.abranchWord b a) 0 = 1)
    && (List.range 4).all (fun k => decide (bits (s.sqFrame b a) (192 + 64 * k + 22) 12 ≤ 2048)
      && decide (bits (s.sqFrame b a) (192 + 64 * k + 47) 17 = 0))
def State.sqEntry (s : State) (b a k : Nat) : Nat := bits (s.sqFrame b a) (13 + 11 * k) 11
def State.sqKind (s : State) (b a k : Nat) : Nat := bits (s.sqFrame b a) (112 + 4 * k) 2
/-- The fabric event select of a channel (R216), and whether its word is one that the loader accepts: an upset word never fires (R217). -/
def State.sqEvsel (s : State) (b a k : Nat) : Nat := bits (s.sqFrame b a) (64 + 12 * k) 12
def State.sqChanOk (s : State) (b a k : Nat) : Bool :=
  let w := s.sqEvsel b a k
  decide (bit (s.sqFrame b a) (115 + 4 * k) = 0) && decide (bit w 11 = 0)
    && (if bit w 10 = 1 then srcExists (slRow a) (slCol a) (bits w 0 10) else decide (bits w 0 10 = 0))
def State.sqPreempt (s : State) (b a k : Nat) : Bool := decide (bit (s.sqFrame b a) (114 + 4 * k) = 1)
/-- A sequencer that can take a cycle: enabled, its bough running, its clock running (R264, R277). -/
def State.sqLive (s : State) (b a : Nat) : Bool :=
  s.sqEnabled b a && s.running b && s.has (R.SQCK_RUN b) && (match SMap.get s.clk.lineSw none (17 * b + 16) with
    | none => s.gclLive (s.get (R.SQCK_SRC b))
    | some w => !w.low && s.gclLive w.src)

/-- The limit of the sequencer clock in kHz at a point. -/
def sqLimit (point : Nat) : Nat := match point with | 1 => 750000 | 2 => 1000000 | _ => 1200000
def State.sqFreq (s : State) (b : Nat) : Nat := s.gclFreq (s.get (R.SQCK_SRC b)) / 2 ^ s.get (R.SQCK_DACT b)
/-- g of R193. -/
def State.sqGap (s : State) (b : Nat) : Nat := if bclLimit (s.point b) < s.sqFreq b then 2 else 1

def istoreKey (plane b a w : Nat) : Nat := ((plane * 64 + b) * 32 + a) * 2048 + w
def State.iword (s : State) (b a w : Nat) : Nat := SMap.get s.istore 0 (istoreKey (s.bough b).plane b a w)

def Seq.vreg (q : Seq) (lane r : Nat) : Nat := SMap.get q.v 0 (lane * 16 + r)
def Seq.sreg (q : Seq) (r : Nat) : Nat := SMap.get q.s 0 r
def Seq.ag (q : Seq) (k : Nat) : AddrGen := SMap.get q.ags AddrGen.reset k
def Seq.lmode (q : Seq) (l : Nat) : LaneMode := SMap.get q.modes LaneMode.reset l
def Seq.setAg (q : Seq) (k : Nat) (g : AddrGen) : Seq := { q with ags := SMap.set q.ags AddrGen.reset k g }

/-- Live R, RCLP and PDET of a lane (R173, R174, R233); 0 where its slice gives no results (R165, R177). -/
def State.laneR (s : State) (b a l : Nat) : Nat × Nat :=
  let m := (s.seq b a).lmode l
  if s.sliceOn b (8 * a + l) then roundOut m.dual m.rnd m.rshift m.rsat (s.slice b (8 * a + l)).p else (0, 0)
def State.lanePdet (s : State) (b a l : Nat) : Nat :=
  let m := (s.seq b a).lmode l
  if s.sliceOn b (8 * a + l) then patternHit (s.slice b (8 * a + l)).p m.pattern m.pmask else 0
/-- P and OVF of a lane; 0 where its slice gives no results. -/
def State.laneP (s : State) (b a l : Nat) : Nat := if s.sliceOn b (8 * a + l) then (s.slice b (8 * a + l)).p else 0
def State.laneOvf (s : State) (b a l : Nat) : Bool := s.sliceOn b (8 * a + l) && s.sliceOvf b (8 * a + l)
/-- The FLAGS operand of a lane (R226): 0 where its slice gives no results (R165, R177). -/
def State.laneFlags (s : State) (b a l : Nat) : Nat :=
  let x := s.slice b (8 * a + l)
  if s.sliceOn b (8 * a + l) then
    ofFlag (s.sliceOvf b (8 * a + l)) + 2 * ofFlag x.satd + 4 * s.lanePdet b a l
      + 8 * s.get (R.SL_RES_S_VALID b (8 * a + l)) + 16 * ofFlag x.povf + 32 * (s.laneR b a l).2
  else 0

/-- The stage-W write of a MAC (R232, R233, R179, R202). It carries PMASK with the mode that R233 lists (the model's choice, assumption 177). -/
def State.macWrite (s : State) (b a : Nat) (lanes : List MacLane) (cshift : Nat) (shr24 pre clrovf : Bool) : State :=
  let abr := s.abranchWord b a
  (List.range 8).foldl (fun t l =>
    let i := 8 * a + l
    match lanes[l]? with
    | none => t
    | some ml =>
      if !s.sliceOn b i then t
      else
        let t1 := if clrovf then (t.setSliceOvf b i false).setSlice b i { t.slice b i with povf := false } else t
        let o := ml.op
        let md : AccMode := ⟨ml.mode.dual, ml.mode.ovsat, cshift, shr24⟩
        let quad := inQuad abr l
        let pcin := if l = 0 then 0 else if s.sliceOn b (i - 1) then (s.slice b (i - 1)).p else 0
        let pr := productTerm quad (bit abr (3 + l / 4) = 1) (l % 4 = 1) pre o
        let r := if ml.mode.dual && !quad then accumulateDual md o.acc o.sub o.casc o.a o.b o.c (s.slice b i).p pcin
          else accumulate md o.acc o.sub o.casc pr.1 o.c (s.slice b i).p pcin
        let x := t1.slice b i
        let t2 := t1.setSlice b i { x with p := r.p, satd := r.satd, povf := (x.povf || pr.2) }
        let t3 := if r.ovf then t2.raiseOvf b i (t.sliceOvf b i) else t2
        if o.pub then
          let ro := roundOut ml.mode.dual ml.mode.rnd ml.mode.rshift ml.mode.rsat r.p
          (t3.slicePublish b i ro.1 ro.2 (patternHit r.p ml.mode.pattern ml.mode.pmask)).sliceReads b i
        else t3) s

/-- One stage-W write. -/
def State.wAct (s : State) (b a : Nat) (w : WAct) : State :=
  let q := s.seq b a
  match w with
  | .setV l r v => s.setSeq b a { q with v := SMap.set q.v 0 (l * 16 + r) (v % 2 ^ 24) }
  | .setS r v => s.setSeq b a { q with s := SMap.set q.s 0 r (v % 2 ^ 32) }
  | .mac lanes cs sh pre clr => s.macWrite b a lanes cs sh pre clr

/-- Makes the oldest waiting writes, so that at most `n` instructions have writes waiting. -/
def State.wDrain (s : State) (b a n : Nat) : State :=
  let q := s.seq b a
  let old := (q.wq.drop n).reverse.flatten
  old.foldl (fun t w => t.wAct b a w) (s.setSeq b a { q with wq := q.wq.take n })

/-- Applies a SETAG that the next instruction's stage D did not see (R199, R201). -/
def Seq.flushAg (q : Seq) : Seq :=
  match q.setag with
  | none => q
  | some (k, g, wptr) => { q.setAg k { g with ptr := if wptr then g.ptr else (q.ag k).ptr } with setag := none }

/-- Whether the next boundary is not held off (R209): the instruction at it is no delay slot and lies in no loop body. -/
def Seq.free (q : Seq) : Bool := match q.cur with
  | some c => !c.slot && !c.inLoop
  | none => decide (q.slots = 0) && decide (q.loops = [])
/-- Whether the pipeline stalls on a block that is not READY (R196): no instruction enters stage D meanwhile. -/
def Seq.stuck (q : Seq) : Bool := match q.cur with | some c => c.stalled | none => false

/-- The block of the operand store that serves a row address (R192). -/
def opBlock (a row : Nat) : Nat := 32 * (a % 4) + 4 * (a / 4) + row % 4

/-- SQ_STATUS beside STATE and PEND (R218). -/
def State.sqShow (s : State) (b a : Nat) : State :=
  let q := s.seq b a
  s.sets [(R.SQ_STATUS_HELD b a, ofFlag (!q.free)),
    (R.SQ_STATUS_DEPTH b a, q.loops.length),
    (R.SQ_STATUS_PC b a, if s.sqState b a = sqWAIT ∨ (s.sqState b a = sqHALT ∧ q.haltFrom = sqWAIT) then q.waitAddr else match q.cur with | some c => c.addr | none => q.pc)]

/-- Blocks of the operand store write corrected rows back in a cycle that leaves them free (R146). -/
def State.opWritebacks (s : State) (b a : Nat) (free : Nat → Bool) : State :=
  (List.range 4).foldl (fun t j =>
    if free j && decide (bit (t.blockWord b (opBlock a j)) 27 = 1) && t.blockUsed b (opBlock a j) then t.bmWriteback b (opBlock a j) 1 else t) s

/-- The older instructions complete and the pipeline empties, to a state. -/
def State.sqEmpty (s : State) (b a st : Nat) : State :=
  let s1 := s.wDrain b a 0
  let q := (s1.seq b a).flushAg
  let s2 := s1.setSeq b a { q with cur := none, slots := 0, target := none, waitMask := 0, haltPend := 0, busy := [] }
  ((s2.opWritebacks b a (fun _ => true)).set (R.SQ_STATUS_STATE b a) st).sqShow b a

/-- A fault (R215, R224): SQ_FAULT takes the code and the address as a new result, and the code is raised. -/
def State.sqFaultAt (s : State) (b a code addr : Nat) : State :=
  (((s.sqEmpty b a sqFAULT).set (R.SQ_FAULT_PC b a) addr).post (R.SQ_FAULT_CODE b a) code).raise code b 0

/-- A STEP has run an instruction: its halt waits for the next boundary that is not held off (R647). -/
def Seq.stepped (q : Seq) : Seq := { q with haltPend := if q.haltPend = 4 then 2 else q.haltPend }

/-- The entry of an event: two younger instructions are cancelled, the loop stack empties, ENTRY_k is fetched next (R208). -/
def State.sqEnter (s : State) (b a k : Nat) : State :=
  let s1 := s.wDrain b a 1
  let q := (s1.seq b a).flushAg
  let s2 := s1.setSeq b a { q.stepped with
    wq := [[], []] ++ q.wq, cur := none, slots := 0, target := none, loops := [], waitMask := 0
    pc := s.sqEntry b a k, busy := [] }
  (s2.sets [(R.SQ_STATUS_STATE b a, sqRUN), (R.SQ_STATUS_PEND b a, s.get (R.SQ_STATUS_PEND b a) - 2 ^ k)]).sqShow b a

/-- The lowest pending channel that a test accepts. -/
def State.sqPending (s : State) (b a : Nat) (p : Nat → Bool) : Option Nat :=
  (List.range 4).find? (fun k => decide (bit (s.get (R.SQ_STATUS_PEND b a)) k = 1) && p k)

/-- Acts on pending events by STATE (R207): IDLE starts, WAIT completes or is preempted, by the lowest channel that may do either; a debug halt that
waits in WAIT comes first (R209). RUN takes preempting events at a boundary (SQ_EVENT_TAKEN). -/
def State.sqAct (s : State) (b a : Nat) : State :=
  let q := s.seq b a
  if s.sqState b a = sqIDLE then
    match s.sqPending b a (fun _ => true) with
    | some k => (s.wDrain b a 0).sqEnter b a k
    | none => s
  else if s.sqState b a = sqWAIT then
    if q.haltPend ≠ 0 ∧ q.haltPend ≠ 4 then s
    else match s.sqPending b a (fun k => decide (bit q.waitMask k = 1) || (s.sqPreempt b a k && !q.stopPend)) with
    | some k =>
      if bit q.waitMask k = 0 then s.sqEnter b a k
      else
        let s1 := s.wDrain b a 2
        let q1 := s1.seq b a
        ((s1.setSeq b a { q1.stepped with wq := [.setS 7 k] :: q1.wq, waitMask := 0 }).sets
          [(R.SQ_STATUS_STATE b a, sqRUN), (R.SQ_STATUS_PEND b a, s.get (R.SQ_STATUS_PEND b a) - 2 ^ k)]).sqShow b a
    | none => s
  else s

/-- An event reaches channel `k` (R207, R213, R217, R220, R327, R532): `kind` is the source kind it comes from; an empty select offers none. -/
def State.sqArrive (s : State) (b a k kind : Nat) : State :=
  if !s.sqEnabled b a || !s.sqChanOk b a k || decide (s.sqKind b a k ≠ kind) || (decide (kind = 2) && decide (s.sqEvsel b a k = 0)) then s
  else if (s.bough b).run = .frozen ∨ s.swapWaits b then s.bump (R.SQ_CNT_EVLOST b a) 1
  else if !s.running b then s
  else if s.sqState b a = sqFAULT then s.bump (R.SQ_CNT_EVLOST b a) 1
  else
    let p := s.get (R.SQ_STATUS_PEND b a)
    if bit p k = 1 then s.bump (R.SQ_CNT_EVLOST b a) 1
    else (s.set (R.SQ_STATUS_PEND b a) (p + 2 ^ k)).sqAct b a

/-- Records a hold-off (R209). -/
def State.sqHoldoff (s : State) (b a cycles : Nat) : State :=
  let lim := bits (s.sqFrame b a) 136 24
  let s1 := s.set (R.SQ_HOLDOFF_MAX b a) (max (s.get (R.SQ_HOLDOFF_MAX b a)) (min cycles (2 ^ 24 - 1)))
  if lim ≠ 0 ∧ lim < cycles then (s1.set (R.SQ_HOLDOFF_OVR b a) 1).raise 0x0809 b 0 else s1

/-- The result of a STOP that waited, where the sequencer has come to IDLE (R218). -/
def State.sqStopDone (s : State) (b a : Nat) (waits : Bool) : State :=
  if waits then (s.set (R.SQ_CMD_RESULT_CMD b a) 2).post (R.SQ_CMD_RESULT_STATUS b a) 0 else s

/-- The state that a sequencer takes at a release or a swap (R213, R184). A STOP that waited then has its result: nothing is left to stop. -/
def State.sqRestart (s : State) (b a : Nat) : State :=
  let f := s.sqFrame b a
  let g (k : Nat) : AddrGen :=
    let w := bits f (192 + 64 * k) 64
    ⟨bits w 0 11, bits w 11 11, bits w 22 12, bits w 34 12, decide (bit w 46 = 1)⟩
  let m (l : Nat) : LaneMode :=
    let w := s.sliceWord b (8 * a + l)
    ⟨decide (bit w 1 = 1), decide (bits w 9 2 = 1), bits w 11 2, bits w 13 6, decide (bit w 19 = 1), bits w 32 24, bits w 56 56, bits w 112 56⟩
  let q : Seq := { Seq.reset with
    pc := bits f 2 11
    ags := (List.range 4).foldl (fun t k => SMap.set t AddrGen.reset k (g k)) []
    modes := (List.range 8).foldl (fun t l => SMap.set t LaneMode.reset l (m l)) [] }
  ((s.setSeq b a q).sets [(R.SQ_STATUS_STATE b a, if s.sqEnabled b a ∧ bit f 1 = 1 then sqRUN else sqIDLE),
    (R.SQ_STATUS_PEND b a, 0), (R.SQ_HOLDOFF_MAX b a, 0)]).sqShow b a |>.sqStopDone b a (s.seq b a).stopPend

/-- A sequencer without a design: idle, all 0 (R220). A STOP that waited has its result. -/
def State.sqClear (s : State) (b a : Nat) : State :=
  ((s.sqStopDone b a (s.seq b a).stopPend).setSeq b a Seq.reset).sets [(R.SQ_STATUS_STATE b a, sqIDLE), (R.SQ_STATUS_HELD b a, 0), (R.SQ_STATUS_DEPTH b a, 0),
    (R.SQ_STATUS_PEND b a, 0), (R.SQ_STATUS_PC b a, 0)]

/-! Stage F. -/

/-- The next PC after a fetch at `pc`, with the loops (R205, R206): the innermost count is tested first, and a finished loop
passes on to the next one out. -/
def loopNext (pc : Nat) : List LoopEnt → Nat × List LoopEnt
  | [] => (pc + 1, [])
  | l :: t =>
    if pc ≠ l.stop then (pc + 1, l :: t)
    else if 1 < l.count then (l.start, { l with count := l.count - 1 } :: t)
    else loopNext pc t

/-- The fault of a fetched word that stage D finds whatever its class does (R212, R222, R224, R241): a fetch beyond 2,047, an uncorrectable word, an
illegal CLASS or SUB. A word that failed its check is not decoded: 0x0806 stands before what its bits would say (the model's choice, assumption 177). -/
def fetchBad (pc upset w : Nat) : Nat :=
  if 2047 < pc then 0x0808
  else if upset = 2 then 0x0806
  else if 9 ≤ bits w 60 4 ∨ (bits w 60 4 = 8 ∧ 3 ≤ bits w 56 4) then 0x0801 else 0

/-- SEQ_FETCH (R212, R203, R224, R243): `upset` is 0 none, 1 a single-bit error, 2 an uncorrectable word. With a word in stage D that faults there
whatever its class, the cycle is that of its fault. -/
def execSeqFetch (b : BoughId) (a : SeqId) (upset : Fin 3) (s : State) : Host.Outcome State Fault Refusal :=
  let q := s.seq b a
  if !s.sqLive b a || decide (s.sqState b a ≠ sqRUN) then done s
  else match q.cur with
  | some c => if c.bad = 0 then done s else done (s.sqFaultAt b a c.bad c.addr)
  | none =>
    let bad := fetchBad q.pc upset (s.iword b a q.pc)
    let s1 := if upset = 1 ∧ q.pc ≤ 2047 then s.bump (R.SQ_CNT_IFIX b a) 1 else s
    let near := q.loops.any (fun l => decide (q.pc = l.stop) || decide (q.pc + 1 = l.stop))
    let nx := loopNext q.pc q.loops
    let last := decide (q.slots = 1)
    let q1 : Seq := { q with
      cur := some ⟨s.iword b a q.pc, min q.pc 2047, decide (q.slots ≠ 0), near, decide (q.loops ≠ []), bad, false⟩
      pc := if last then q.target.getD nx.1 else nx.1
      loops := nx.2
      slots := q.slots - 1
      target := if last then none else q.target }
    done ((s1.setSeq b a q1).sqShow b a)

/-! Stages D and A. -/

/-- One operand-store slot of a word (R228). -/
structure SlotWord where
  kind : Nat
  ag : Nat
  pm : Bool
  form : Nat
  reg : Nat
  x : Bool
deriving DecidableEq, Repr

def slotOf (word i : Nat) : SlotWord :=
  let v := bits word (13 * i) 13
  ⟨bits v 11 2, bits v 9 2, decide (bit v 8 = 1), bits v 5 3, bits v 1 4, decide (bit v 0 = 1)⟩

/-- Whether a slot's encoding is legal in stage D (R228, R194): `ecc` is the mode of the operand store. -/
def slotLegal (word i : Nat) (ecc : Bool) : Bool :=
  let t := slotOf word i
  match t.kind with
  | 0 => decide (bits word (13 * i) 13 = 0)
  | 1 => !(ecc && decide (t.form = 7))
  | 2 => decide (t.form ≤ 1) && (!t.x || decide (t.reg = 0))
  | _ => false

/-- Whether the operand store of a sequencer is in ECC mode: that of its first block with OPSTORE = 1 (R217). -/
def State.opEcc (s : State) (b a : Nat) : Bool :=
  ((List.range 4).map (opBlock a)).any (fun k => decide (bit (s.blockWord b k) 27 = 1) && decide (bits (s.blockWord b k) 1 2 = 1))

/-- Stage D of a slot: its row address, and the generator after the post-modify (R197, R198). -/
def agNext (g : AddrGen) : AddrGen :=
  let st := signed 12 g.stride
  if !g.circ then { g with ptr := ((g.ptr + st) % 2048).toNat }
  else if g.len ≠ 0 then
    let off := (g.ptr + 2048 - g.base) % 2048
    { g with ptr := (g.base + ((off + st) % (g.len : Int)).toNat) % 2048 }
  else g

/-- A row's eight operands in a load form (R194). -/
def laneField (ecc : Bool) (form row l : Nat) : Nat :=
  let w := if ecc then 16 else 18
  match form with
  | 0 => encode2 24 (signed w (bits row (w * l) w))
  | 1 => bits row (w * l) w * 2 ^ (24 - w)
  | f => bits row (24 * (f - 2)) 24

/-- What stage A of an instruction has gathered: the state, the data that its loads delivered, a fault code of 0x0807. -/
structure SlotRun where
  st : State
  ld0 : List Nat
  ld1 : List Nat
  trap : Bool
deriving DecidableEq, Repr

/-- One slot's access to the operand store (R194 to R196, R225, R229). `src` gives the lanes' store data, `mask` the lanes
that are written, `masked` whether a lane mask applies, `near` whether the cycle lies within W_COLL of the last edge of port A's line. -/
def slotAccess (b a i : Nat) (near : Bool) (t : SlotWord) (row : Nat) (src : Nat → Nat) (mask : Nat) (masked : Bool) (r : SlotRun) : SlotRun :=
  if r.trap ∨ t.kind = 0 then r
  else
    let k := opBlock a row
    let ecc := decide (bits (r.st.blockWord b k) 1 2 = 1)
    let wd := if ecc then 128 else 144
    if t.kind = 1 then
      let sv := r.st.bmNear b k (row / 4) near false (fun _ t =>
        let x := t.bmServe b k false none (some ⟨row / 4, 0, wd, 0, 0, true⟩)
        (x.1, x.2.2.getD ⟨0, 0, 0⟩))
      let ans := sv.2
      let data := (List.range 8).map (fun l => laneField ecc t.form ans.before l)
      let trap := decide (bit ans.flags 1 = 1) && decide (bit (sv.1.sqFrame b a) 128 = 1)
      if i = 0 then { r with st := sv.1, ld0 := data, trap := trap } else { r with st := sv.1, ld1 := data, trap := trap }
    else
      let w := if ecc then 16 else 18
      let f (l : Nat) : Nat := if t.form = 0 then src l % 2 ^ w else src l / 2 ^ (24 - w) % 2 ^ w
      let dat := (List.range 8).foldl (fun acc l => acc + f l * 2 ^ (w * l)) 0
      let m := (List.range 8).foldl (fun acc l => acc + (if masked ∧ bit mask l = 0 then 0 else (2 ^ w - 1) * 2 ^ (w * l))) 0
      { r with st := (r.st.bmNear b k (row / 4) near true (fun keep t =>
        if masked then ((t.bmServe b k false none (some ⟨row / 4, 0, wd, m &&& (2 ^ 144 - 1 ^^^ keep), dat, true⟩)).1, ⟨0, 0, 0⟩)
        else
          let d := (dat &&& (2 ^ 144 - 1 ^^^ keep)) ||| (t.bmData b k (row / 4) &&& keep)
          let v := if ecc then symEncode d else d
          (((t.setBmData b k (row / 4) v).bmCancel b k (row / 4)).bmInject b k (row / 4) ecc, ⟨0, 0, 0⟩))).1 }

/-- The stall cycles of an instruction's accesses and the busy counts after it (R193). -/
def sqStalls (g : Nat) (busy : List Nat) (blocks : List Nat) : Nat × List Nat :=
  let bz (j : Nat) : Nat := (busy[j]?).getD 0
  match blocks with
  | [] => (0, (List.range 4).map (fun j => bz j - 1))
  | [x] => let t := bz x; (t, (List.range 4).map (fun j => if j = x then g - 1 else bz j - (t + 1)))
  | x :: y :: _ =>
    let t0 := bz x
    let t1 := if x = y then t0 + g else max t0 (bz y)
    (t1, (List.range 4).map (fun j =>
      if j = y then g - 1 else if j = x then t0 + g - (t1 + 1) else bz j - (t1 + 1)))

/-- A lane operand in stage A (R226); LD0 and LD1 are the data of the instruction's own loads. -/
def State.operand (s : State) (b a l : Nat) (ld0 ld1 : List Nat) (imm sel : Nat) : Nat :=
  let q := s.seq b a
  if sel < 16 then q.vreg l sel
  else match sel with
    | 0x11 => (ld0[l]?).getD 0
    | 0x12 => (ld1[l]?).getD 0
    | 0x13 => (q.lmode l).bconst
    | 0x14 => imm
    | 0x15 => (s.laneR b a l).1
    | 0x16 => bits (s.laneP b a l) 0 24
    | 0x17 => bits (s.laneP b a l) 24 24
    | 0x18 => encode2 24 (signed 8 (bits (s.laneP b a l) 48 8))
    | 0x19 => s.laneFlags b a l
    | 0x1A => l
    | _ => 0

/-- Whether a selector is legal in a class (R226, R227). -/
def selLegal (word sel : Nat) (lop : Bool) : Bool :=
  if sel ≤ 0x10 ∨ sel = 0x13 then true
  else if sel = 0x11 then decide ((slotOf word 0).kind = 1)
  else if sel = 0x12 then decide ((slotOf word 1).kind = 1)
  else lop && decide (sel ≤ 0x1A)

/-- The instruction of a class that is ready for stage D (R200); one that faults there whatever its class is ready for every class. -/
def State.sqReady (s : State) (b a cls : Nat) : Option SeqInstr :=
  match (s.seq b a).cur with
  | some c => if s.sqLive b a && decide (s.sqState b a = sqRUN) && (decide (bits c.word 60 4 = cls) || decide (c.bad ≠ 0)) && !c.stalled then some c else none
  | none => none

/-- The end of an instruction's stage A: its stage-W writes join the queue, the next fetch follows. -/
def State.sqRetire (s : State) (b a : Nat) (ws : List WAct) : State :=
  let q := s.seq b a
  (s.setSeq b a { q.stepped with wq := ws :: q.wq, cur := none }).sqShow b a

/-- Stage D and the slots' accesses of a MEM, MAC or LOP word: the faults of R225 in their order, the stall on READY = 0 and
the stall cycles, then `mark`; `acts` are the writes of the class, under those of the loads (R202). A stalled pipeline leaves every block free meanwhile
(R193), and blocks that the instruction does not use write back (R146). -/
def State.sqSlots (s : State) (b a : Nat) (c : SeqInstr) (encOk aOk masked : Bool) (mask : Nat)
    (near : Bool) (acts : State → List Nat → List Nat → List WAct) (mark : State → State) : State :=
  let ecc := s.opEcc b a
  let t0 := slotOf c.word 0
  let t1 := slotOf c.word 1
  if !(encOk && slotLegal c.word 0 ecc && slotLegal c.word 1 ecc) then s.sqFaultAt b a 0x0801 c.addr
  else
    let q := s.seq b a
    let row0 := (q.ag t0.ag).ptr
    let qa := if t0.kind ≠ 0 ∧ t0.pm then q.setAg t0.ag (agNext (q.ag t0.ag)) else q
    let row1 := if t0.kind ≠ 0 ∧ t1.ag = t0.ag then row0 else (q.ag t1.ag).ptr
    let qb := if t1.kind ≠ 0 ∧ t1.pm then qa.setAg t1.ag (agNext (qa.ag t1.ag)) else qa
    let s1 := s.setSeq b a qb.flushAg
    let s2 := s1.wDrain b a 2
    let used := (if t0.kind ≠ 0 then [row0] else []) ++ (if t1.kind ≠ 0 then [row1] else [])
    let usable (r : Nat) : Bool := s.blockUsed b (opBlock a r) && decide (bit (s.blockWord b (opBlock a r)) 27 = 1)
    if !aOk then s2.sqFaultAt b a 0x0801 c.addr
    else if !used.all usable then s2.sqFaultAt b a 0x0802 c.addr
    else if !used.all (fun r => s.bmReady b (opBlock a r)) then
      (s.setSeq b a { q with cur := some { c with stalled := true }, busy := [] }).opWritebacks b a (fun _ => true)
    else
      let st := sqStalls (s.sqGap b) q.busy (used.map (· % 4))
      let s3 := s2.setSeq b a { s2.seq b a with busy := st.2 }
      let s4 := s3.bump (R.SQ_CNT_STALLS b a) st.1
      let src (t : SlotWord) (l : Nat) : Nat := if t.x then (s4.laneR b a l).1 else (s4.seq b a).vreg l t.reg
      let r0 := slotAccess b a 0 near t0 row0 (src t0) mask masked ⟨s4, [], [], false⟩
      let r1 := slotAccess b a 1 near t1 row1 (src t1) mask masked r0
      if r1.trap then r1.st.sqFaultAt b a 0x0807 c.addr
      else
        let ldw (t : SlotWord) (d : List Nat) : List WAct :=
          if t.kind = 1 ∧ t.x then (List.range 8).map (fun l => .setV l t.reg ((d[l]?).getD 0)) else []
        let s5 := r1.st.opWritebacks b a (fun j => !(used.map (· % 4)).contains j && decide ((q.busy[j]?).getD 0 ≤ st.1))
        (mark s5).sqRetire b a (acts s4 r1.ld0 r1.ld1 ++ ldw t0 r1.ld0 ++ ldw t1 r1.ld1)

/-- MEM (R230). -/
def State.sqMem (s : State) (b a : Nat) (near : Bool) (c : SeqInstr) : State :=
  let m := decide (bit c.word 34 = 1)
  let enc := decide (bits c.word 35 25 = 0) && (m || decide (bits c.word 26 8 = 0))
    && (!m || decide ((slotOf c.word 0).kind = 2) || decide ((slotOf c.word 1).kind = 2))
  s.sqSlots b a c enc true m (bits c.word 26 8) near (fun _ _ _ => []) id

/-- MAC (R231 to R233). -/
def State.sqMac (s : State) (b a : Nat) (near : Bool) (c : SeqInstr) : State :=
  let w := c.word
  let f (i : Nat) : Bool := decide (bit w i = 1)
  let asel := bits w 47 5
  let bsel := bits w 42 5
  let csel := bits w 37 5
  let dsel := bits w 32 5
  let cs := bits w 26 6
  let enc := (f 56 || !f 55) && (f 54 || !f 53) && (f 54 || decide (dsel = 0x10)) && decide (cs ≤ 32)
    && selLegal w asel false && selLegal w bsel false && selLegal w csel false && selLegal w dsel false
  let abr := s.abranchWord b a
  let anyQuad := decide (bit abr 1 = 1) || decide (bit abr 2 = 1)
  let dualBad := (List.range 8).any (fun l => ((s.seq b a).lmode l).dual && (f 54 || f 55 || decide (cs ≠ 0)))
  let opOf (t : State) (d0 d1 : List Nat) (l : Nat) : MacLane :=
    let v (j sel : Nat) : Nat := t.operand b a j d0 d1 0 sel
    let g := 4 * (l / 4)
    let base : SliceOp := ⟨v l asel, v l bsel, v l dsel, v l csel, 0, 0, f 59, f 58, f 53, f 56, f 57⟩
    let op := if !inQuad abr l then base
      else if l % 4 = 1 then { base with a := v (g + 1) asel, b := v (g + 1) bsel, a2 := v g asel, b2 := v g bsel }
      else { base with a := v (g + 1) asel, b := v g bsel, a2 := v g asel, b2 := v (g + 1) bsel }
    ⟨op, (t.seq b a).lmode l⟩
  let pendUp (t : State) : State := if !f 57 then t else (List.range 8).foldl (fun u l =>
    if u.sliceOn b (8 * a + l) then
      (u.setSlice b (8 * a + l) { u.slice b (8 * a + l) with pend := (u.slice b (8 * a + l)).pend + 1 }).sliceReads b (8 * a + l)
    else u) t
  s.sqSlots b a c enc (!dualBad && !(anyQuad && f 54)) false 0 near
    (fun t d0 d1 => [.mac ((List.range 8).map (opOf t d0 d1)) cs (f 55) (f 54) (f 52)]) pendUp

/-- The value of a LOP (R234). -/
def lopValue (op x y : Nat) : Nat :=
  let sx := signed 24 x
  let sy := signed 24 y
  let n := y % 32
  match op with
  | 0 => x
  | 1 => (x + y) % 2 ^ 24
  | 2 => encode2 24 (sx - sy)
  | 3 => encode2 24 (clampTo 24 (sx + sy))
  | 4 => encode2 24 (clampTo 24 (sx - sy))
  | 5 => x &&& y
  | 6 => x ||| y
  | 7 => x ^^^ y
  | 8 => x * 2 ^ n % 2 ^ 24
  | 9 => encode2 24 (sx / (2 ^ n : Nat))
  | 10 => x / 2 ^ n
  | 11 => if sx ≤ sy then x else y
  | 12 => if sx ≤ sy then y else x
  | 13 => encode2 24 (clampTo 24 (if sx < 0 then -sx else sx))
  | 14 => encode2 24 (clampTo 24 (-sx))
  | 15 => ofFlag (decide (sx < sy))
  | _ => ofFlag (decide (x = y))

/-- LOP (R234). -/
def State.sqLop (s : State) (b a : Nat) (near : Bool) (c : SeqInstr) : State :=
  let w := c.word
  let op := bits w 55 5
  let dst := bits w 51 4
  let sa := bits w 46 5
  let sb := bits w 41 5
  let unary := decide (op = 0) || decide (op = 13) || decide (op = 14)
  let imm := bits w 26 15
  let enc := decide (op ≤ 16) && selLegal w sa true && selLegal w sb true && (!unary || decide (sb = 0x10))
    && (decide (sa = 0x14) || decide (sb = 0x14) || decide (imm = 0))
  let im := encode2 24 (signed 15 imm)
  s.sqSlots b a c enc true false 0 near
    (fun t d0 d1 => (List.range 8).map (fun l => .setV l dst (lopValue op (t.operand b a l d0 d1 im sa) (t.operand b a l d0 d1 im sb)))) id

/-- An instruction without slots: the pipeline's cycle, with stage A reading the state that `f` gets (R201, R193). -/
def State.sqPlain (s : State) (b a : Nat) (f : State → State) : State :=
  let q := s.seq b a
  f (((s.setSeq b a { q.flushAg with busy := (sqStalls 1 q.busy []).2 }).opWritebacks b a (fun j => decide ((q.busy[j]?).getD 0 = 0))).wDrain b a 2)

/-- The value of an SOP (R235). -/
def sopValue (op x y : Nat) : Nat :=
  match op with
  | 0 => y
  | 1 => (x + y) % 2 ^ 32
  | 2 => encode2 32 ((x : Int) - y)
  | 3 => x &&& y
  | 4 => x ||| y
  | 5 => x ^^^ y
  | 6 => x * 2 ^ (y % 32) % 2 ^ 32
  | 7 => x / 2 ^ (y % 32)
  | 8 => encode2 32 (signed 32 x / (2 ^ (y % 32) : Nat))
  | 9 => ofFlag (decide (signed 32 x < signed 32 y))
  | 10 => ofFlag (decide (x < y))
  | _ => ofFlag (decide (x = y))

/-- SOP (R235). -/
def State.sqSop (s : State) (b a : Nat) (c : SeqInstr) : State :=
  let w := c.word
  let op := bits w 56 4
  let sa := bits w 50 3
  let sb := bits w 47 3
  let bimm := decide (bit w 46 = 1)
  let imm := bits w 0 32
  let enc := decide (op ≤ 13) && decide (bits w 32 14 = 0) && (bimm || decide (imm = 0)) && (!bimm || decide (sb = 0))
    && (!(decide (op = 0) || decide (12 ≤ op)) || decide (sa = 0))
    && (decide (op ≠ 12) || (bimm && decide (imm ≤ 3))) && (decide (op ≠ 13) || (bimm && decide (imm < 128)))
  if !enc then s.sqFaultAt b a 0x0801 c.addr
  else
    s.sqPlain b a (fun t =>
      let q := t.seq b a
      let ptr := (q.ag (imm % 4)).ptr
      let y := if bimm then imm else q.sreg sb
      let v := if op = 12 then ptr else if op = 13 then encode2 32 (signed 24 (q.vreg (imm / 16) (imm % 16)))
        else sopValue op (q.sreg sa) y
      t.sqRetire b a [.setS (bits w 53 3) v])

/-- BR (R236, R203, R204). -/
def State.sqBr (s : State) (b a : Nat) (c : SeqInstr) : State :=
  let w := c.word
  let cond := bits w 56 4
  let reg := bits w 52 4
  let ts := decide (bit w 51 = 1)
  let enc := decide (cond ≤ 8) && decide (bits w 11 37 = 0) && (!ts || decide (bits w 0 11 = 0)) && (ts || decide (bits w 48 3 = 0))
    && (!(decide (cond = 0) || decide (7 ≤ cond)) || decide (reg = 0))
    && (!(decide (1 ≤ cond) && decide (cond ≤ 4)) || decide (reg ≤ 7))
  if !enc then s.sqFaultAt b a 0x0801 c.addr
  else if c.slot || c.nearEnd then s.sqFaultAt b a 0x0805 c.addr
  else
    s.sqPlain b a (fun t =>
      let q := t.seq b a
      let r := q.sreg reg
      let lanes := List.range 8
      let taken := match cond with
        | 0 => true
        | 1 => decide (r = 0)
        | 2 => decide (r ≠ 0)
        | 3 => decide (signed 32 r < 0)
        | 4 => decide (0 ≤ signed 32 r)
        | 5 => lanes.any (fun l => decide (q.vreg l reg ≠ 0))
        | 6 => lanes.all (fun l => decide (q.vreg l reg ≠ 0))
        | 7 => lanes.any (fun l => t.laneOvf b a l)
        | _ => lanes.any (fun l => decide (t.lanePdet b a l = 1))
      let tgt := if ts then q.sreg (bits w 48 3) % 2048 else bits w 0 11
      let inside := match q.loops with
        | [] => true
        | l :: _ => decide (l.start ≤ tgt) && decide (tgt ≤ l.stop)
      if taken && !inside then t.sqFaultAt b a 0x0805 c.addr
      else (t.setSeq b a { q with slots := 2, target := if taken then some tgt else none }).sqRetire b a [])

/-- REPEAT (R205, R206, R237). The extra cycle of a skip is a cycle for the blocks, and no instruction for the distances of R201. A REPEAT with a count
of 0 still faults where its END lies beyond the outer loop's end (the model's choice, assumption 177). -/
def State.sqRepeat (s : State) (b a : Nat) (c : SeqInstr) : State :=
  let w := c.word
  let src := decide (bit w 59 = 1)
  let stop := bits w 0 11
  let enc := decide (bits w 11 28 = 0) && (src || decide (bits w 56 3 = 0)) && (!src || decide (bits w 39 17 = 0))
  let q := s.seq b a
  let n := if src then q.sreg (bits w 56 3) else bits w 39 17
  let outer := match q.loops with | [] => true | l :: _ => decide (stop ≤ l.stop)
  if !enc then s.sqFaultAt b a 0x0801 c.addr
  else if 0 < n ∧ 4 ≤ q.loops.length then s.sqFaultAt b a 0x0803 c.addr
  else if 65536 < n then s.sqFaultAt b a 0x0804 c.addr
  else if c.slot || decide (stop < c.addr + 1) || !outer then s.sqFaultAt b a 0x0805 c.addr
  else
    s.sqPlain b a (fun t =>
      let q1 := t.seq b a
      if n = 0 then
        let t1 := (t.setSeq b a { q1 with pc := stop + 1, busy := (sqStalls 1 q1.busy []).2 }).opWritebacks b a (fun j => decide ((q1.busy[j]?).getD 0 = 0))
        t1.sqRetire b a []
      else (t.setSeq b a { q1 with loops := ⟨c.addr + 1, stop, n⟩ :: q1.loops }).sqRetire b a [])

/-- SETAG (R238, R199). -/
def State.sqSetag (s : State) (b a : Nat) (c : SeqInstr) : State :=
  let w := c.word
  let k := bits w 58 2
  let m (i : Nat) : Bool := decide (bit w (53 + i) = 1)
  let src := decide (bit w 52 = 1)
  let enc := decide (bits w 47 2 = 0) && (src || decide (bits w 49 3 = 0)) && (!src || decide (bits w 0 47 = 0))
    && (m 0 || decide (bits w 0 11 = 0)) && (m 1 || decide (bits w 11 11 = 0)) && (m 2 || decide (bits w 22 12 = 0))
    && (m 3 || decide (bits w 34 12 = 0)) && (m 4 || decide (bit w 46 = 0))
  if !enc then s.sqFaultAt b a 0x0801 c.addr
  else
    s.sqPlain b a (fun t =>
      let q := t.seq b a
      let x := q.sreg (bits w 49 3)
      let len := if src then x else bits w 22 12
      if m 2 && decide (2048 < len) then t.sqFaultAt b a 0x0804 c.addr
      else
        let g := q.ag k
        let g' : AddrGen := ⟨
          if m 0 then (if src then x % 2048 else bits w 0 11) else g.base,
          if m 1 then (if src then x % 2048 else bits w 11 11) else g.ptr,
          if m 2 then len else g.len,
          if m 3 then (if src then x % 4096 else bits w 34 12) else g.stride,
          if m 4 then decide ((if src then x else bit w 46) % 2 = 1) else g.circ⟩
        (t.setSeq b a { q with setag := some (k, g', m 1) }).sqRetire b a [])

/-- One field of a lane's mode state (R239); none where the value is out of range. -/
def modeField (m : LaneMode) (field v : Nat) : Option LaneMode :=
  let part (old i : Nat) : Nat := let w := if i = 2 then 8 else 24; old - bits old (24 * i) w * 2 ^ (24 * i) + v * 2 ^ (24 * i)
  match field with
  | 0 => if v ≤ 1 then some { m with dual := decide (v = 1) } else none
  | 1 => if v ≤ 1 then some { m with ovsat := decide (v = 1) } else none
  | 2 => if v ≤ 2 then some { m with rnd := v } else none
  | 3 => if v ≤ 32 ∧ (!m.dual ∨ v ≤ 16) then some { m with rshift := v } else none
  | 4 => if v ≤ 1 then some { m with rsat := decide (v = 1) } else none
  | 5 => some { m with bconst := v }
  | 6 => some { m with pattern := part m.pattern 0 }
  | 7 => some { m with pattern := part m.pattern 1 }
  | 8 => if v ≤ 255 then some { m with pattern := part m.pattern 2 } else none
  | 9 => some { m with pmask := part m.pmask 0 }
  | 10 => some { m with pmask := part m.pmask 1 }
  | 11 => if v ≤ 255 then some { m with pmask := part m.pmask 2 } else none
  | _ => none

/-- SETMODE (R239, R240). -/
def State.sqSetmode (s : State) (b a : Nat) (c : SeqInstr) : State :=
  let w := c.word
  let field := bits w 56 4
  let src := decide (bit w 55 = 1)
  let mask := bits w 43 8
  let enc := decide (field ≤ 11) && decide (bits w 24 19 = 0) && (src || decide (bits w 51 4 = 0)) && (!src || decide (bits w 0 24 = 0))
  if !enc then s.sqFaultAt b a 0x0801 c.addr
  else
    s.sqPlain b a (fun t =>
      let q := t.seq b a
      let abr := t.abranchWord b a
      let lanes := (List.range 8).filter (fun l => bit mask l = 1)
      let new (l : Nat) : Option LaneMode :=
        let v := if src then q.vreg l (bits w 51 4) else bits w 0 24
        match modeField (q.lmode l) field v with
        | none => none
        | some m => if (m.dual && decide (16 < m.rshift)) || (decide (field = 0) && m.dual && inQuad abr l) then none else some m
      if !lanes.all (fun l => (new l).isSome) then t.sqFaultAt b a 0x0801 c.addr
      else
        let ms := lanes.foldl (fun acc l => SMap.set acc LaneMode.reset l ((new l).getD LaneMode.reset)) q.modes
        (t.setSeq b a { q with modes := ms }).sqRetire b a [])

/-- WAIT (R241, R211, R207). While it holds stage A the older instructions complete. -/
def State.sqWaitI (s : State) (b a : Nat) (c : SeqInstr) : State :=
  if bits c.word 4 52 ≠ 0 then s.sqFaultAt b a 0x0801 c.addr
  else if c.slot then s.sqFaultAt b a 0x0805 c.addr
  else
    s.sqPlain b a (fun t =>
      let t1 := ((t.setSeq b a { t.seq b a with cur := none, waitMask := bits c.word 0 4, waitAddr := c.addr }).set (R.SQ_STATUS_STATE b a) sqWAIT).sqAct b a
      if t1.sqState b a ≠ sqWAIT then t1
      else
        let t2 := t1.wDrain b a 0
        ((t2.setSeq b a { t2.seq b a with busy := [] }).opWritebacks b a (fun _ => true)).sqShow b a)

/-- The pipeline empties into IDLE; a waiting STOP posts its result, and a pending event starts the sequencer again (R211,
R209, R218). -/
def State.sqIdle (s : State) (b a : Nat) : State :=
  let q := s.seq b a
  let s1 := (s.setSeq b a { q with stopPend := false, loops := [] }).sqEmpty b a sqIDLE
  (s1.sqStopDone b a q.stopPend).sqAct b a

/-- END (R241, R211). -/
def State.sqEnd (s : State) (b a : Nat) (c : SeqInstr) : State :=
  if bits c.word 0 56 ≠ 0 then s.sqFaultAt b a 0x0801 c.addr
  else if c.slot then s.sqFaultAt b a 0x0805 c.addr
  else s.sqPlain b a (fun t => t.sqIdle b a)

/-- SIG (R241, R211, R471). -/
def State.sqSig (s : State) (b a : Nat) (c : SeqInstr) : State :=
  if bits c.word 2 54 ≠ 0 then s.sqFaultAt b a 0x0801 c.addr
  else
    s.sqPlain b a (fun t =>
      let k := bits c.word 0 2
      let m := t.get (R.SQ_SIG_SIG b a)
      ((t.set (R.SQ_SIG_SIG b a) (m ||| 2 ^ k)).sqRetire b a []).raiseTyped 5 0 (32 * b + a) k [])

/-- One class command: the meaning of the ready instruction of its class, or the fault that stage D finds first; nothing where none is ready. -/
def State.sqClass (s : State) (b a cls : Nat) (sub : Option Nat) (f : State → SeqInstr → State) : State :=
  match s.sqReady b a cls with
  | none => s
  | some c =>
    if c.bad ≠ 0 then s.sqFaultAt b a c.bad c.addr
    else match sub with
    | none => f s c
    | some k => if bits c.word 56 4 = k then f s c else s

def execSeqMem (b : BoughId) (a : NearSeq) (s : State) : Host.Outcome State Fault Refusal :=
  done (s.sqClass b a.1 0 none (fun t c => t.sqMem b a.1 a.2 c))
def execSeqMac (b : BoughId) (a : NearSeq) (s : State) : Host.Outcome State Fault Refusal :=
  done (s.sqClass b a.1 1 none (fun t c => t.sqMac b a.1 a.2 c))
def execSeqLop (b : BoughId) (a : NearSeq) (s : State) : Host.Outcome State Fault Refusal :=
  done (s.sqClass b a.1 2 none (fun t c => t.sqLop b a.1 a.2 c))
def execSeqSop (b : BoughId) (a : SeqId) (s : State) : Host.Outcome State Fault Refusal :=
  done (s.sqClass b a 3 none (fun t c => t.sqSop b a c))
def execSeqBr (b : BoughId) (a : SeqId) (s : State) : Host.Outcome State Fault Refusal :=
  done (s.sqClass b a 4 none (fun t c => t.sqBr b a c))
def execSeqRepeat (b : BoughId) (a : SeqId) (s : State) : Host.Outcome State Fault Refusal :=
  done (s.sqClass b a 5 none (fun t c => t.sqRepeat b a c))
def execSeqSetag (b : BoughId) (a : SeqId) (s : State) : Host.Outcome State Fault Refusal :=
  done (s.sqClass b a 6 none (fun t c => t.sqSetag b a c))
def execSeqSetmode (b : BoughId) (a : SeqId) (s : State) : Host.Outcome State Fault Refusal :=
  done (s.sqClass b a 7 none (fun t c => t.sqSetmode b a c))
def execSeqWait (b : BoughId) (a : SeqId) (s : State) : Host.Outcome State Fault Refusal :=
  done (s.sqClass b a 8 (some 0) (fun t c => t.sqWaitI b a c))
def execSeqEnd (b : BoughId) (a : SeqId) (s : State) : Host.Outcome State Fault Refusal :=
  done (s.sqClass b a 8 (some 1) (fun t c => t.sqEnd b a c))
def execSeqSig (b : BoughId) (a : SeqId) (s : State) : Host.Outcome State Fault Refusal :=
  done (s.sqClass b a 8 (some 2) (fun t c => t.sqSig b a c))

/-- SEQ_STALL_RELEASE (R196): READY has risen; the stalled instruction's accesses proceed, and the cycles count. -/
def execSeqStallRelease (b : BoughId) (a : NearSeq) (cycles : Nat) (s : State) : Host.Outcome State Fault Refusal :=
  let near := a.2
  let a := a.1
  let q := s.seq b a
  match q.cur with
  | none => done s
  | some c =>
    if !c.stalled || !s.sqLive b a || decide (s.sqState b a ≠ sqRUN) then done s
    else
      let s1 := (s.setSeq b a { q with cur := some { c with stalled := false } }).bump (R.SQ_CNT_STALLS b a) cycles
      let s2 := match bits c.word 60 4 with
        | 0 => s1.sqClass b a 0 none (fun t c => t.sqMem b a near c)
        | 1 => s1.sqClass b a 1 none (fun t c => t.sqMac b a near c)
        | _ => s1.sqClass b a 2 none (fun t c => t.sqLop b a near c)
      done s2

/-- The fabric event selects of a bough's sequencers after the fabric has moved: a rising edge is an event of its channel (R207, R216). -/
def State.fabricEvents (s : State) (b : Nat) : State :=
  (List.range 32).foldl (fun t a =>
    if !s.sqEnabled b a then t
    else (List.range 4).foldl (fun u k =>
      let lv := if s.sqKind b a k = 2 ∧ s.sqChanOk b a k then s.selVal b (slRow a) (slCol a) (s.sqEvsel b a k) else 0
      let was := bit (s.seq b a).evLevel k
      let u1 := if lv = 1 ∧ was = 0 then u.sqArrive b a k 2 else u
      u1.setSeq b a { u1.seq b a with evLevel := (u1.seq b a).evLevel - was * 2 ^ k + lv * 2 ^ k }) t) s

/-- A frame of the active plane changed: an upset SQ_EN or AGINIT leaves its sequencer IDLE, until a repair lets a pending event start it (R217). -/
def State.sqFollow (s : State) (b : Nat) : State :=
  (List.range 32).foldl (fun t a =>
    if t.sqEnabled b a then (if t.running b then t.sqAct b a else t)
    else if t.sqState b a = sqIDLE then t
    else
      let q := t.seq b a
      ((t.setSeq b a { q with stopPend := false, loops := [] }).sqEmpty b a sqIDLE).sqStopDone b a q.stopPend) s

/-- SQ_EVENT_ARRIVAL (R207, R210, R327): `kind` 1 timeline, 2 fabric, 3 register. -/
def execSqEventArrival (b : BoughId) (a : SeqId) (ch : Fin 4) (kind : Fin 4) (s : State) : Host.Outcome State Fault Refusal :=
  done (s.sqArrive b a ch kind)

/-- SQ_EVENT_TAKEN (R208, R209): the lowest preempting event, at a boundary that is not held off. -/
def execSqEventTaken (b : BoughId) (a : SeqId) (held : Nat) (s : State) : Host.Outcome State Fault Refusal :=
  let q := s.seq b a
  if !s.sqLive b a || decide (s.sqState b a ≠ sqRUN) || !q.free || q.stuck || q.stopPend || decide (q.haltPend ≠ 0) then done s
  else match s.sqPending b a (fun k => s.sqPreempt b a k) with
    | none => done s
    | some k => done ((s.sqHoldoff b a held).sqEnter b a k)

/-- Posts a result of SQ_CMD (R218). -/
def State.sqPost (s : State) (b a cmd code : Nat) : State :=
  ((s.set (R.SQ_CMD_RESULT_CMD b a) cmd).post (R.SQ_CMD_RESULT_STATUS b a) code).reply 0 0

/-- A write of SQ_CMD (R211, R215, R218); the flags say which counts have an increment at the edge of CLRCNT, which survives. STOP has its result when
IDLE is reached; CLEAR reaches IDLE, where a STOP that waited posts its result first. -/
def State.sqCmd (s : State) (b a cmd ch : Nat) (stall lost fix : Bool) : State :=
  match cmd with
  | 0 => s.sqPost b a 0 0
  | 1 =>
    if !s.sqEnabled b a then s.sqPost b a 1 0x0813
    else if s.sqKind b a ch ≠ 3 then s.sqPost b a 1 0x0811
    else (s.sqPost b a 1 0).sqArrive b a ch 3
  | 2 =>
    if s.sqState b a = sqIDLE ∨ s.sqState b a = sqFAULT then s.sqPost b a 2 0x0810
    else ((s.setSeq b a { s.seq b a with stopPend := true }).expect (R.SQ_CMD_RESULT_STATUS b a)).reply 0 0
  | 3 => if s.sqState b a = sqFAULT then (s.sqIdle b a).sqPost b a 3 0 else s.sqPost b a 3 0x0810
  | 4 => (s.sets [(R.SQ_CNT_STALLS b a, ofFlag stall), (R.SQ_CNT_EVLOST b a, ofFlag lost), (R.SQ_CNT_IFIX b a, ofFlag fix)]).sqPost b a 4 0
  | c => s.sqPost b a c 0x0814

/-- SQ_CMD EVENT (R218). -/
def execSqCmdEvent (b : BoughId) (a : SeqId) (ch : Fin 4) (s : State) : Host.Outcome State Fault Refusal :=
  done (s.sqCmd b a 1 ch false false false)

/-- SQ_CMD STOP (R211, R218). -/
def execSqCmdStop (b : BoughId) (a : SeqId) (s : State) : Host.Outcome State Fault Refusal :=
  done (s.sqCmd b a 2 0 false false false)

/-- SQ_STOP_TAKEN (R209, R211). -/
def execSqStopTaken (b : BoughId) (a : SeqId) (held : Nat) (s : State) : Host.Outcome State Fault Refusal :=
  let q := s.seq b a
  if !s.sqLive b a || !q.stopPend || decide (q.haltPend ≠ 0) then done s
  else if s.sqState b a = sqWAIT ∨ (s.sqState b a = sqRUN ∧ q.free = true ∧ q.stuck = false) then done ((s.sqHoldoff b a held).sqIdle b a)
  else done s

/-- SQ_CMD CLEAR (R215, R218). -/
def execSqCmdClear (b : BoughId) (a : SeqId) (s : State) : Host.Outcome State Fault Refusal :=
  done (s.sqCmd b a 3 0 false false false)

/-- SQ_CMD CLRCNT (R218). -/
def execSqCmdClrcnt (b : BoughId) (a : SeqId) (stall lost fix : Bool) (s : State) : Host.Outcome State Fault Refusal :=
  done (s.sqCmd b a 4 0 stall lost fix)

/-- A NoC write of the active instruction store (R214). -/
def State.istoreWrite (s : State) (b a w data : Nat) : State :=
  if s.sqState b a = sqIDLE ∨ s.sqState b a = sqFAULT then
    ({ s with istore := SMap.set s.istore 0 (istoreKey (s.bough b).plane b a w) data }).reply 0 0
  else s.reply 0x0812 0

/-- SQ_ISTORE_WRITE (R214). -/
def execSqIstoreWrite (b : BoughId) (a : SeqId) (w : Fin 2048) (data : Word64) (s : State) : Host.Outcome State Fault Refusal :=
  done ((s.commit (Config.rp b 3 + 0x100000 + 0x4000 * a.val + 8 * w.val)).istoreWrite b a w data.toNat)

end Sys2Proof.Machine
end

