-- ==== Sys2Proof/Machine/Clocks.lean ====
section
/-!
DEFINITION. Clocks (chapter 8): monitors, clock muxes, crown PLLs, global and bough clock lines, CLKOUT. Frequencies and edge
counts of clocks from outside come with the commands. A mux is named as MUX of CK_EVT_POP names it: 0 to 15 CP_p, 16 to 47
GCL_(MUX - 16), 48 time PLL, 49 CMC clock, 50 and 51 CLKOUT.
-/
namespace Sys2Proof.Machine
open Sys2Proof

def ckEvtAddr : Nat := 0x41000010010

/-- An event of chapter 8 (R276, R472): its entry in CK_EVT_POP, and its code raised with the entry as DETAIL. -/
def State.ckEvt (s : State) (code mux mon : Nat) : State :=
  let w := code + mux * 2 ^ 16 + mon * 2 ^ 22 + 2 ^ 26 + s.now32 * 2 ^ 32
  (s.enqueue ckEvtAddr 32 (2 ^ 27) w).raise code mux w

/-- A mux word (R253). -/
structure MuxF where
  pri : Fld
  alt : Fld
  gpri : Fld
  gpriEn : Fld
  galt : Fld
  galtEn : Fld
  fb : Fld
  auto : Fld
  revert : Fld
  sel : Fld
  act : Fld
  deferred : Fld
deriving DecidableEq, Repr

/-- The mux words of R276 and of the time PLL. -/
def muxF (mux : Nat) : MuxF :=
  if mux < 16 then
    ⟨R.CP_MUX_PRI mux, R.CP_MUX_ALT mux, R.CP_MUX_GPRI mux, R.CP_MUX_GPRI_EN mux, R.CP_MUX_GALT mux, R.CP_MUX_GALT_EN mux,
      R.CP_MUX_FB mux, R.CP_MUX_AUTO mux, R.CP_MUX_REVERT mux, R.CP_MUX_SEL mux, R.CP_MUX_ACT mux, R.CP_MUX_DEFERRED mux⟩
  else if mux < 48 then
    let g := mux - 16
    ⟨R.GCL_MUX_PRI g, R.GCL_MUX_ALT g, R.GCL_MUX_GPRI g, R.GCL_MUX_GPRI_EN g, R.GCL_MUX_GALT g, R.GCL_MUX_GALT_EN g,
      R.GCL_MUX_FB g, R.GCL_MUX_AUTO g, R.GCL_MUX_REVERT g, R.GCL_MUX_SEL g, R.GCL_MUX_ACT g, R.GCL_MUX_DEFERRED g⟩
  else
    ⟨R.TPLL_MUX_PRI, R.TPLL_MUX_ALT, R.TPLL_MUX_GPRI, R.TPLL_MUX_GPRI_EN, R.TPLL_MUX_GALT, R.TPLL_MUX_GALT_EN,
      R.TPLL_MUX_FB, R.TPLL_MUX_AUTO, R.TPLL_MUX_REVERT, R.TPLL_MUX_SEL, R.TPLL_MUX_ACT, R.TPLL_MUX_DEFERRED⟩

/-- Whether input `i` (0 PRI, 1 ALT, 2 FOSC) of a mux exists, is qualified, is failed (R252, R257; R285 for the time PLL). -/
def State.muxHas (s : State) (mux i : Nat) : Bool :=
  match i with
  | 0 => decide (s.get (muxF mux).pri ≠ 0x7F) | 1 => decide (s.get (muxF mux).alt ≠ 0x7F) | 2 => s.has (muxF mux).fb | _ => false
def State.tpllFailed (s : State) (mux i : Nat) : Bool := decide (mux = 48) && s.tp.failed.contains i
def State.muxQual (s : State) (mux i : Nat) : Bool :=
  let x := muxF mux
  match i with
  | 0 => (!s.has x.gpriEn || s.has (R.MON_STAT_QUAL (s.get x.gpri))) && !s.tpllFailed mux 0
  | 1 => (!s.has x.galtEn || s.has (R.MON_STAT_QUAL (s.get x.galt))) && !s.tpllFailed mux 1
  | 2 => s.has R.CK_STATUS_FOSC_QUAL && !s.tpllFailed mux 2
  | _ => false
def State.muxFailed (s : State) (mux i : Nat) : Bool :=
  let x := muxF mux
  match i with
  | 0 => (s.has x.gpriEn && s.has (R.MON_STAT_TRIPPED (s.get x.gpri))) || s.tpllFailed mux 0
  | 1 => (s.has x.galtEn && s.has (R.MON_STAT_TRIPPED (s.get x.galt))) || s.tpllFailed mux 1
  | _ => s.tpllFailed mux i
def State.muxEligible (s : State) (mux i : Nat) : Bool := s.muxHas mux i && s.muxQual mux i && !s.muxFailed mux i

/-- The target that R257 chooses: SEL's input, the other of PRI and ALT, FOSC. -/
def State.muxChoice (s : State) (mux : Nat) : Option Nat :=
  [s.get (muxF mux).sel, 0, 1, 2].find? (fun i => s.muxEligible mux i)

def State.muxTarget (s : State) (mux : Nat) : Nat := SMap.get s.clk.muxSw 0 mux
def State.setMuxSw (s : State) (mux v : Nat) : State := { s with clk := { s.clk with muxSw := SMap.set s.clk.muxSw 0 mux v } }
/-- Whether a mux holds its output low in a switch (R254 step 3, R256). -/
def State.setMuxLow (s : State) (mux : Nat) (low : Bool) : State :=
  let l := s.clk.muxLow.filter (fun m => decide (m ≠ mux))
  { s with clk := { s.clk with muxLow := if low then mux :: l else l } }

/-! ## Bough clock lines -/

/-- The fields of line `n` of a bough: BCL_n, and SQCK for n = 16. -/
def lineSrc (b n : Nat) : Fld := if n < 16 then R.BCK_SRC b n else R.SQCK_SRC b
def lineOn (b n : Nat) : Fld := if n < 16 then R.BCK_ON b n else R.SQCK_ON b
def lineDreq (b n : Nat) : Fld := if n < 16 then R.BCK_DREQ b n else R.SQCK_DREQ b
def lineDact (b n : Nat) : Fld := if n < 16 then R.BCK_DACT b n else R.SQCK_DACT b
def lineRun (b n : Nat) : Fld := if n < 16 then R.BCK_RUN b n else R.SQCK_RUN b
def lineKey (plane b n point : Nat) : Nat := ((plane * 64 + b) * 17 + n) * 4 + point

/-- The limit of a line at a point in kHz, with the image's record (R265). -/
def State.lineLimit (s : State) (b n point : Nat) : Nat :=
  let r := SMap.get s.clk.lineRec 0 (lineKey (s.bough b).plane b n point)
  if n = 16 then sqLimit point else if r ≠ 0 then min (bclLimit point) r else bclLimit point

/-- log2 of the divider of R265; none where even 8 is too fast. -/
def dactOf (f lim dreq : Nat) : Option Nat := [0, 1, 2, 3].find? (fun k => decide (dreq ≤ k) && decide (f ≤ lim * 2 ^ k))

def State.lineSwitch (s : State) (b n : Nat) : Option LineSwitch := SMap.get s.clk.lineSw none (17 * b + n)
def State.setLineSwitch (s : State) (b n : Nat) (w : Option LineSwitch) : State :=
  { s with clk := { s.clk with lineSw := SMap.set s.clk.lineSw none (17 * b + n) w } }
/-- The DACT that waits for the end of a line's divided period (R265), one more than the value; 0 for none. -/
def State.setDactNext (s : State) (b n v : Nat) : State :=
  { s with clk := { s.clk with dactNext := SMap.set s.clk.dactNext 0 (17 * b + n) v } }

/-- A line stops (R264); a divider or a source that waited waits no more. -/
def State.lineOff (s : State) (b n : Nat) : State := ((s.put (lineRun b n) false).setDactNext b n 0).setLineSwitch b n none

/-- A line takes a divider (R265): at the end of its present divided period where it runs on, at once where it starts or changes its source. -/
def State.setDact (s : State) (b n k : Nat) : State :=
  if s.has (lineRun b n) && (s.lineSwitch b n).isNone then s.setDactNext b n (if s.get (lineDact b n) = k then 0 else k + 1)
  else (s.set (lineDact b n) k).setDactNext b n 0

/-- The recomputation of R265 for one line of a bough that runs; `half` halves the limit (R272 step 2). -/
def State.lineCompute (s : State) (b : Nat) (point : Nat) (half : Bool) (n : Nat) : State :=
  let lim := s.lineLimit b n point
  match dactOf (s.gclFreq (s.get (lineSrc b n))) (if half then lim / 2 else lim) (s.get (lineDreq b n)) with
  | none => (s.lineOff b n).raise 0x0613 b n
  | some k => if s.has (lineOn b n) then (s.setDact b n k).put (lineRun b n) true else (s.lineOff b n).set (lineDact b n) k

/-- The recomputation of every line of a bough. -/
def State.linesCompute (s : State) (b point : Nat) (half : Bool) : State :=
  (List.range 17).foldl (fun t n => t.lineCompute b point half n) s

/-- Whether the limits of a bough's change to a lower point are halved at present (R272 steps 2 to 8). -/
def State.lowering (s : State) (b : Nat) : Bool :=
  match SMap.get s.clk.opCh none b with
  | some c => decide (c.target ≠ 0) && decide (c.target < c.former) && decide (c.former < 4)
  | none => false

/-- The limits that bind a bough now: while it is lowered, the halved limits of the former point until the rail switch and of
the target after it; while it is raised, those of the former point. -/
def State.boundPoint (s : State) (b : Nat) : Nat :=
  match SMap.get s.clk.opCh none b with
  | some c => if c.former = 0 ∨ c.former = 4 then s.point b
              else if c.target < c.former ∧ c.granted then c.target else c.former
  | none => s.point b

/-- Grafts may capture no more, so what they show changes (R107, R267), and with it asynchronous lines. -/
def State.graftsFollow (s : State) : State := s.graftSweep.settled

/-- A change of effective frequency (R265, R267): the running lines that take a changed global line are recomputed, and grafts follow. -/
def State.freqChange (s pre : State) : State :=
  let gs := (List.range 32).filter (fun g => decide (s.gclFreq g ≠ pre.gclFreq g))
  if gs.isEmpty then s
  else ((List.range 64).foldl (fun t b =>
    if t.running b then
      (List.range 17).foldl (fun u n =>
        if gs.contains (u.get (lineSrc b n)) then u.lineCompute b (u.boundPoint b) (u.lowering b) n else u) t
    else t) s).graftsFollow

/-! ## Regulators and the time clock -/

/-- A regulator holds its trim from now on (R122), with the junction temperature of its last window as that of this moment (assumption 170). -/
def State.drHoldSet (s : State) (b : Nat) : State :=
  if s.get (R.DR_STATUS_OP b) = 0 ∨ s.has (R.DR_STATUS_HOLD b) then s
  else { s.put (R.DR_STATUS_HOLD b) true with clk := { s.clk with drHoldTemp := SMap.set s.clk.drHoldTemp 0 b (SMap.get s.clk.drTemp 0 b) } }

/-- A regulator event: its bit in DR_EVT, and its code where EVT_EN forwards it (R125). -/
def State.drEvt (s : State) (b : Nat) (f : Fld) (code detail : Nat) : State :=
  let s1 := s.put f true
  if s.has (R.DR_CTRL_EVT_EN b) then s1.raise code b detail else s1

/-- WARN follows HEADROOM and WARN_STEPS; each entry into it is an event (R125), except in SAFE (R127). -/
def State.drWarn (s : State) (b : Nat) : State :=
  let warn := decide (s.get (R.DR_STATUS_HEADROOM b) ≤ s.get (R.DR_CTRL_WARN_STEPS b))
  let s1 := s.put (R.DR_STATUS_WARN b) warn
  if warn && !s.has (R.DR_STATUS_WARN b) && decide (s.mode0 ≠ mSAFE) then s1.drEvt b (R.DR_EVT_WARN_EVT b) 0x0717 0 else s1

/-- The time clock loses or regains lock (R122). -/
def State.drHoldAll (s : State) : State := (List.range 64).foldl State.drHoldSet s
def State.drFreeAll (s : State) : State := (List.range 64).foldl (fun t b => t.put (R.DR_STATUS_HOLD b) false) s

/-! ## Monitors -/

/-- A trip of MON_F (R249). -/
def State.foscTrip (s : State) : State :=
  let s1 := s.put R.CK_STATUS_FOSC_QUAL false
  { s1 with clk := { s1.clk with monfPasses := 0, trips := satAdd (2 ^ 32 - 1) s1.clk.trips 1 } }.ckEvt 0x060E 0 0

/-- FOSC_MON_WINDOW (R249): `count` FOSC edges in 1,024 AOSC cycles. -/
def execFoscMonWindow (count : Nat) (s : State) : Host.Outcome State Fault Refusal :=
  if !s.has R.CK_STATUS_FOSC_ON then done s
  else if 14000 ≤ count ∧ count ≤ 19000 then
    let p := s.clk.monfPasses + 1
    let s1 := { s with clk := { s.clk with monfPasses := min p 4 } }
    done (if 4 ≤ p then s1.put R.CK_STATUS_FOSC_QUAL true else s1)
  else done s.foscTrip

/-- FOSC_LOSS (R249). -/
def execFoscLoss (s : State) : Host.Outcome State Fault Refusal :=
  if s.has R.CK_STATUS_FOSC_ON then done s.foscTrip else done s

/-- CMC_CLOCK_SWITCH (R246): the CMC takes FOSC / 2 while FOSC is qualified, AOSC otherwise. -/
def execCmcClockSwitch (s : State) : Host.Outcome State Fault Refusal :=
  done (s.put R.CK_STATUS_CMC_FOSC (s.has R.CK_STATUS_FOSC_QUAL))

def State.setPasses (s : State) (m v : Nat) : State :=
  { s with clk := { s.clk with monPasses := SMap.set s.clk.monPasses 0 m v } }

/-- trip() of R250. -/
def State.monTrip (s : State) (m : Nat) : State :=
  let s1 := ((s.put (R.MON_STAT_TRIPPED m) true).put (R.MON_STAT_QUAL m) false).setPasses m 0
  { s1 with clk := { s1.clk with trips := satAdd (2 ^ 32 - 1) s1.clk.trips 1 } }.ckEvt 0x0606 0 m

/-- MON_WINDOW_END (R250): `count` MEAS edges in the window that ends. -/
def execMonWindowEnd (m : Fin 16) (count : Nat) (s : State) : Host.Outcome State Fault Refusal :=
  if !s.has (R.MON_CFG_EN m) then done s
  else
    let c := min count (2 ^ 24 - 1)
    let s1 := (s.set (R.MON_STAT_LAST m) c).put (R.MON_STAT_REF_LOSS m) false
    let e := s.get (R.MON_STAT_EXP m)
    let tol := s.get (R.MON_CFG_TOL m)
    if c + tol < e ∨ e + tol < c then done (s1.monTrip m)
    else
      let p := satAdd (2 ^ 24 - 1) (SMap.get s.clk.monPasses 0 m) 1
      let s2 := (s1.put (R.MON_STAT_TRIPPED m) false).setPasses m p
      done (if s.get (R.MON_CFG_QUALN m) ≤ p then s2.put (R.MON_STAT_QUAL m) true else s2)

/-- MON_LOSS_TRIP (R250): REF has given the edges that were counted (R251). -/
def execMonLossTrip (m : Fin 16) (s : State) : Host.Outcome State Fault Refusal :=
  if s.has (R.MON_CFG_EN m) then done ((s.put (R.MON_STAT_REF_LOSS m) false).monTrip m) else done s

/-- MON_REF_LOSS (R251): REF has given no edge for 16 AOSC cycles; or, where `x.2`, its first edge after that. -/
def execMonRefLoss (x : Fin 16 × Bool) (s : State) : Host.Outcome State Fault Refusal :=
  let m := x.1
  if !s.has (R.MON_CFG_EN m) then done s
  else if x.2 then done (s.put (R.MON_STAT_REF_LOSS m) false)
  else done (((s.put (R.MON_STAT_REF_LOSS m) true).put (R.MON_STAT_QUAL m) false).ckEvt 0x060B 0 m)

/-- A CKID that names a clock (R244). The table gives 0x7F both to GCL_31 and to None: the model takes it as GCL_31 here (assumption 171). -/
def ckidOk (c : Nat) : Bool := decide (c < 0x1B) || decide (0x20 ≤ c)

/-- A write of MON_CFG_m or MON_STAT_m (R250, R276). -/
def State.monWrite (s : State) (m : Nat) (stat : Bool) (v : Nat) : State :=
  let pick (f : Fld) (here : Bool) := if here then bits v f.lo f.w else s.get f
  let meas := pick (R.MON_CFG_MEAS m) (!stat)
  let ref := pick (R.MON_CFG_REF m) (!stat)
  let qn := pick (R.MON_CFG_QUALN m) (!stat)
  let loss := pick (R.MON_CFG_LOSS m) (!stat)
  let win := pick (R.MON_CFG_WIN m) (!stat)
  let tol := pick (R.MON_CFG_TOL m) (!stat)
  let e := pick (R.MON_STAT_EXP m) stat
  if meas = ref ∨ qn = 0 ∨ loss = 0 ∨ win < 256 ∨ e < tol ∨ !ckidOk meas ∨ !ckidOk ref then s.reply 0x060C 0
  else
    ((s.sets [(R.MON_CFG_MEAS m, meas), (R.MON_CFG_REF m, ref), (R.MON_CFG_QUALN m, qn), (R.MON_CFG_LOSS m, loss),
      (R.MON_CFG_WIN m, win), (R.MON_CFG_TOL m, tol), (R.MON_STAT_EXP m, e),
      (R.MON_CFG_EN m, pick (R.MON_CFG_EN m) (!stat)), (R.MON_STAT_QUAL m, 0)]).setPasses m 0).reply 0 0

/-- MON_CFG_WRITE (R250). -/
def execMonCfgWrite (_src : SrcId) (m : Fin 16) (stat : Bool) (data : Word64) (s : State) :
    Host.Outcome State Fault Refusal :=
  done ((s.commit ((R.MON_CFG_MEAS m).addr + (if stat then 8 else 0))).monWrite m stat data.toNat)

/-! ## Muxes -/

/-- The CKIDs legal for a mux (R259; the time PLL's mux takes what a PLL's reference mux takes). -/
def muxCkidOk (mux c : Nat) : Bool :=
  if 16 ≤ mux ∧ mux < 48 then (decide (0x18 ≤ c) && decide (c ≤ 0x1A)) || (decide (0x20 ≤ c) && decide (c ≤ 0x57))
  else decide (c ≤ 0x15)

/-- LOCK of a crown PLL falls (R261). -/
def State.pllUnlock (s : State) (p : Nat) : State :=
  let m := s.get R.CK_STATUS_CP_LOCK
  if bit m p = 1 then (s.set R.CK_STATUS_CP_LOCK (m - 2 ^ p)).ckEvt 0x0615 p 0 else s

/-! ## The time PLL's part of a mux switch -/

/-- An event of the time plane (R295 ff.): its bit of TP_EVT and its code. -/
def State.tpEvt (s : State) (f : Fld) (code unit detail : Nat) : State := (s.put f true).raise code unit detail

/-- Clears the holdover model (R308). -/
def State.hoClear (s : State) : State :=
  let s1 := s.sets [(R.HO_STAT_MODEL_VALID, 0), (R.HO_STAT_TMIN, 0), (R.HO_STAT_TMAX, 0)]
  { s1 with tp := { s1.tp with ho := { s1.tp.ho with nsamp := 0, tmin := none, tmax := none } } }.tpEvt R.TP_EVT_MODEL 0x032B 0 0

/-- The time PLL holds (R287): TPLL_LOCK clears, HELD sets, DIST_OK clears (R291); REF_LOST is 1 and REMAIN 0 from now on (R310). -/
def State.tpllHold (s : State) : State :=
  if s.has R.TP_STATUS_HELD then s
  else
    let s1 := s.sets [(R.TP_STATUS_TPLL_LOCK, 0), (R.CK_STATUS_TPLL_LOCK, 0), (R.TP_STATUS_HELD, 1), (R.TP_STATUS_DIST_OK, 0),
      (R.HO_STAT_REF_LOST, 1), (R.HO_PRED_REMAIN, 0)]
    ((s1.freqChange s).tpEvt R.TP_EVT_TPLL 0x0329 0 0).drHoldAll

/-- The active reference of the time PLL becomes input `i` (R308; ACT_CKID, TPLL_FOSC). -/
def State.tpllRef (s : State) (i : Nat) : State :=
  let ck := match i with | 0 => s.get R.TPLL_MUX_PRI | 1 => s.get R.TPLL_MUX_ALT | 2 => 0x16 | _ => 0x7F
  let s1 := (s.set R.TP_STATUS_ACT_CKID ck).put R.TP_STATUS_TPLL_FOSC (decide (i = 2))
  if ck = s.get R.TP_STATUS_ACT_CKID then s1 else s1.hoClear

/-- A mux stops with no eligible input (R257): ACT = 3, DEFERRED = 1, 0x0607; the time PLL then holds (R287). -/
def State.muxDefer (s : State) (mux : Nat) : State :=
  let s1 := (((s.set (muxF mux).act 3).put (muxF mux).deferred true).setMuxSw mux 0).setMuxLow mux false
  let s2 := (s1.freqChange s).ckEvt 0x0607 mux 0
  if mux = 48 then (s2.tpllRef 3).tpllHold else s2

/-- A mux arrives at an input (R254 step 4): ACT, and what follows from the clock behind it (R261, R263). -/
def State.muxArrive (s : State) (mux i : Nat) : State :=
  let s1 := (s.setMuxSw mux 0).setMuxLow mux false
  if 50 ≤ mux then { s1 with clk := { s1.clk with outSrc := SMap.set s1.clk.outSrc 0 (mux - 50) (s1.get (R.CLKOUT_SRC (mux - 50))) } }
  else if mux = 49 then s1
  else
    let s2 := (s1.set (muxF mux).act i).put (muxF mux).deferred false
    let s3 := if mux < 16 then s2.pllUnlock mux else if mux = 48 then s2.tpllRef i else s2
    s3.freqChange s

/-- Sources of the time plane's protected registers (R284, R303). -/
def State.srcTp (s : State) (src : Nat) : Bool := src = 65 || src = 97 || (src = 161 && s.dbgLevel = 2)

/-- A write of a mux word (R253, R257 to R259, R262; R284 for the time PLL's). A write that breaks several rules answers the first of 0x060F, 0x0602, 0x0604 and 0x0601, an
order that the spec leaves open (assumption 172). A new SEL redirects a switch that runs, back to the input it leaves as well (R258, R256). -/
def State.muxWrite (s : State) (src mux v : Nat) : State :=
  let x := muxF mux
  let pri := bits v 0 7
  let alt := bits v 7 7
  let sel := bits v 27 2
  let act := s.get x.act
  let fb := if mux = 48 then 1 else bit v 24
  let t := s.sets [(x.pri, pri), (x.alt, alt), (x.gpri, bits v 14 4), (x.gpriEn, bit v 18), (x.galt, bits v 19 4),
    (x.galtEn, bit v 23), (x.fb, fb), (x.auto, bit v 25), (x.revert, bit v 26), (x.sel, sel)]
  if mux = 48 ∧ !s.srcTp src then s.reply 0x0306 0
  else if (mux = 14 ∨ mux = 15) ∧ src ≠ 65 then s.reply 0x060F 0
  else if !muxCkidOk mux pri ∨ (alt ≠ 0x7F ∧ !muxCkidOk mux alt) ∨ sel = 3 ∨ !t.muxHas mux sel then s.reply 0x0602 0
  else if (act = 0 ∧ pri ≠ s.get x.pri) ∨ (act = 1 ∧ alt ≠ s.get x.alt) then s.reply 0x0604 0
  else if sel ≠ s.get x.sel ∧ !t.muxQual mux sel then s.reply 0x0601 0
  else
    let t1 := t.freqChange s
    let start := (sel ≠ s.get x.sel ∧ (sel ≠ act ∨ s.muxTarget mux ≠ 0)) ∨ (act = 3 ∧ !s.has x.deferred ∧ s.muxTarget mux = 0)
    (if start then t1.setMuxSw mux (sel + 1) else t1).reply 0 0

/-- MUX_SEL_WRITE (R258). -/
def execMuxSelWrite (src : SrcId) (mux : Fin 49) (data : BitVec 32) (s : State) : Host.Outcome State Fault Refusal :=
  done (s.muxWrite src mux data.toNat)

/-- A switch toward an input completes; one that ends a deferral raises 0x0608 (R257, R258). -/
def State.muxFinish (s : State) (mux : Nat) : State :=
  let t := s.muxArrive mux (s.muxTarget mux - 1)
  if mux < 49 ∧ s.has (muxF mux).deferred then t.ckEvt 0x0608 mux 0 else t

/-- MUX_SWITCH_COMPLETE (R254). -/
def execMuxSwitchComplete (mux : Fin 52) (s : State) : Host.Outcome State Fault Refusal :=
  if s.muxTarget mux = 0 then done s else done (s.muxFinish mux)

/-- MUX_FORCED_SWITCH (R255). -/
def execMuxForcedSwitch (mux : Fin 52) (s : State) : Host.Outcome State Fault Refusal :=
  if mux.val = 49 then
    if s.has R.CK_STATUS_CMC_FOSC = s.has R.CK_STATUS_FOSC_QUAL then done s
    else done ((s.put R.CK_STATUS_CMC_FOSC (s.has R.CK_STATUS_FOSC_QUAL)).ckEvt 0x0609 49 0)
  else if s.muxTarget mux = 0 then done s
  else done ((s.muxFinish mux).ckEvt 0x0609 mux 0)

/-- MUX_SWITCH_STALL (R256): the new clock gives no edge, and the output stays low. -/
def execMuxSwitchStall (mux : Fin 52) (s : State) : Host.Outcome State Fault Refusal :=
  if s.muxTarget mux = 0 then done s else done ((s.setMuxLow mux true).ckEvt 0x0605 mux 0)

/-- The active input, or the input toward which the mux switches, is found failed (R257, R258). -/
def State.muxLost (s : State) (mux : Nat) : State :=
  let x := muxF mux
  let tgt := s.muxTarget mux
  let bad := if tgt = 0 then s.muxFailed mux (s.get x.act) else s.muxFailed mux (tgt - 1)
  if !(s.has x.auto && bad) then s
  else match s.muxChoice mux with
    | some i => s.setMuxSw mux (i + 1)
    | none => s.muxDefer mux

/-- MUX_INPUT_FAILED (R257, R258). -/
def execMuxInputFailed (mux : Fin 49) (s : State) : Host.Outcome State Fault Refusal := done (s.muxLost mux)

/-- MUX_DEFERRED_SWITCH (R257). -/
def execMuxDeferredSwitch (mux : Fin 49) (s : State) : Host.Outcome State Fault Refusal :=
  let x := muxF mux
  if !s.has x.deferred then done s
  else match s.muxChoice mux with
    | some i => done ((s.muxArrive mux i).ckEvt 0x0608 mux 0)
    | none => done s

/-- MUX_REVERT (R257): the switch back to SEL's input begins. -/
def execMuxRevert (mux : Fin 49) (s : State) : Host.Outcome State Fault Refusal :=
  let x := muxF mux
  let sel := s.get x.sel
  if s.has x.revert && !s.has x.deferred && decide (s.get x.act ≠ sel) && decide (s.muxTarget mux = 0) && s.muxEligible mux sel then
    done (s.setMuxSw mux (sel + 1))
  else done s

/-! ## Crown PLLs -/

/-- Whether a crown PLL's output drives the active input of some global line (R261). -/
def State.pllDrives (s : State) (p : Nat) : Bool :=
  (List.range 32).any (fun g =>
    let a := s.get (R.GCL_MUX_ACT g)
    let c := if a = 0 then s.get (R.GCL_MUX_PRI g) else s.get (R.GCL_MUX_ALT g)
    decide (a < 2) && decide (0x20 ≤ c) && decide ((c - 0x20) / 4 = p))

/-- A write of CP_CFG_p or CP_OUT_p (R260 to R262). -/
def State.cpWrite (s : State) (src p : Nat) (out : Bool) (v : Nat) : State :=
  let o := if out then v % 2 ^ 32 else s.get (R.CP_OUT_O p)
  let fs := [R.CP_CFG_M p, R.CP_CFG_M_FB p, R.CP_CFG_N p, R.CP_CFG_EN p, R.CP_CFG_GATE p, R.CP_CFG_FRAC p]
  if (p = 14 ∨ p = 15) ∧ src ≠ 65 then s.reply 0x060F 0
  else if (!out ∧ (bits v 0 6 = 0 ∨ bits v 6 6 = 0 ∨ bits v 12 10 < 16 ∨ 640 < bits v 12 10))
      ∨ [0, 1, 2, 3].any (fun i => decide (1 ≤ bits o (8 * i) 8) && decide (bits o (8 * i) 8 ≤ 3)) then s.reply 0x0603 0
  else if s.has (R.CP_CFG_EN p) ∧ s.pllDrives p then s.reply 0x0604 0
  else if out then (s.set (R.CP_OUT_O p) o).reply 0 0
  else
    let s1 := fs.foldl (fun t f => t.set f (bits v f.lo f.w)) s
    (if bit v 22 = 0 then s1.pllUnlock p else s1).reply 0 0

/-- CP_CFG_WRITE (R260). -/
def execCpCfgWrite (src : SrcId) (p : Fin 16) (out : Bool) (data : Word64) (s : State) :
    Host.Outcome State Fault Refusal :=
  done ((s.commit ((R.CP_CFG_M p).addr + (if out then 8 else 0))).cpWrite src p out data.toNat)

/-- Whether a crown PLL locks to a reference of `f0` kHz (R260). The limits of the device's own PLLs are judged at FOSC's nominal 400 MHz, since what they
clock is timed for FOSC's upper tolerance (R262; assumption 175). -/
def State.pllCanLock (s : State) (p f0 : Nat) : Bool :=
  let f := if 14 ≤ p then 400000 else f0
  let m := if s.get (R.CP_MUX_ACT p) = 2 then s.get (R.CP_CFG_M_FB p) else s.get (R.CP_CFG_M p)
  let v := f * (s.get (R.CP_CFG_N p) * 2 ^ 24 + s.get (R.CP_CFG_FRAC p))
  let o := s.get (R.CP_OUT_O p)
  decide (10000 * m ≤ f) && decide (f ≤ 100000 * m) && decide (4000000 * m * 2 ^ 24 ≤ v) && decide (v ≤ 6400000 * m * 2 ^ 24)
    && [0, 1, 2, 3].all (fun i => let d := bits o (8 * i) 8; decide (d = 0) || decide (v ≤ 1600000 * d * m * 2 ^ 24))

/-- PLL_LOCK (R260, R261): `refKhz` is the frequency of the reference. -/
def execPllLock (p : Fin 16) (refKhz : Nat) (s : State) : Host.Outcome State Fault Refusal :=
  if s.has (R.CP_CFG_EN p) && decide (s.get (R.CP_MUX_ACT p) ≠ 3) && s.pllCanLock p refKhz then
    done (s.set R.CK_STATUS_CP_LOCK (s.get R.CK_STATUS_CP_LOCK ||| 2 ^ p.val))
  else done s

/-- PLL_LOCK_TIMEOUT (R261). -/
def execPllLockTimeout (p : Fin 16) (s : State) : Host.Outcome State Fault Refusal :=
  if s.has (R.CP_CFG_EN p) && decide (bit (s.get R.CK_STATUS_CP_LOCK) p = 0) then done (s.ckEvt 0x0615 p 0) else done s

/-- PLL_LOCK_LOST (R261). -/
def execPllLockLost (p : Fin 16) (s : State) : Host.Outcome State Fault Refusal := done (s.pllUnlock p)

/-! ## Lines and outputs -/

/-- A write of GCL_CFG_g (R263, R264). -/
def State.gclCfgWrite (s : State) (g v : Nat) : State :=
  if 1600000 < bits v 0 21 then s.reply 0x0603 0
  else
    let s1 := s.sets [(R.GCL_CFG_FNOM g, bits v 0 21), (R.GCL_CFG_ON g, bit v 22), (R.GCL_CFG_OVERF g, 0)]
    ({ s1 with clk := { s1.clk with gclEff := SMap.set s1.clk.gclEff 0 g 0 } }.freqChange s).reply 0 0

/-- GCL_FNOM_WRITE (R263). -/
def execGclFnomWrite (_src : SrcId) (g : Fin 32) (data : BitVec 32) (s : State) : Host.Outcome State Fault Refusal :=
  done (s.gclCfgWrite g data.toNat)

/-- GCL_FREQ_MEASURE (R263): the line ran at `khz` over 8,000 TCLK cycles. -/
def execGclFreqMeasure (g : Fin 32) (khz : Nat) (s : State) : Host.Outcome State Fault Refusal :=
  if s.has R.CK_STATUS_TPLL_LOCK ∧ s.get (R.GCL_CFG_FNOM g) * 101 < khz * 100 then
    let s1 := s.put (R.GCL_CFG_OVERF g) true
    done (({ s1 with clk := { s1.clk with gclEff := SMap.set s1.clk.gclEff 0 g ((khz * 101 + 99) / 100) } }.freqChange s).ckEvt
      0x060D (16 + g.val) 0)
  else done s

/-- A new source for a line that runs (R277): a switch begins, or goes on toward it from the state already reached (R258). -/
def State.lineSwitchTo (s : State) (b n : Nat) : State :=
  s.setLineSwitch b n (some (match s.lineSwitch b n with
    | none => ⟨s.get (lineSrc b n), s.get (lineDact b n), 0, 0, false⟩
    | some w => { w with news := 0 }))

/-- A write of a bough clock line or of SQCK (R264, R265, R277). -/
def State.bckWrite (s : State) (b n v : Nat) : State :=
  let s0 := if s.has (lineRun b n) ∧ bits v 0 5 ≠ s.get (lineSrc b n) then s.lineSwitchTo b n else s
  let s1 := s0.sets [(lineSrc b n, bits v 0 5), (lineOn b n, bit v 5), (lineDreq b n, bits v 6 2)]
  (if s1.running b then s1.lineCompute b (s1.boundPoint b) (s1.lowering b) n else s1).reply 0 0

/-- BCK_WRITE (R277). -/
def execBckWrite (_src : SrcId) (b : BoughId) (n : Fin 17) (data : BitVec 32) (s : State) :
    Host.Outcome State Fault Refusal :=
  done (s.bckWrite b n data.toNat)

/-- A write of CLKOUT_o (R268). -/
def State.clkoutWrite (s : State) (o v : Nat) : State :=
  let div := bits v 32 17
  let src := bits v 0 7
  if div = 0 ∨ 65536 < div then s.reply 0x060A 0
  else if !ckidOk src then s.reply 0x0602 0
  else
    let s1 := s.sets [(R.CLKOUT_SRC o, src), (R.CLKOUT_EN o, bit v 7), (R.CLKOUT_IDLE o, bit v 8), (R.CLKOUT_DIV o, div)]
    (if src = s.get (R.CLKOUT_SRC o) then s1 else s1.setMuxSw (50 + o) 1).reply 0 0

/-- Whether the clock of a CKID gives edges; those of the board and of a lane's partner are the sender's. -/
def State.ckidLive (s : State) (c : Nat) : Bool :=
  if c < 0x0E then true
  else if c < 0x16 then s.rcvRun (c - 0x0E)
  else if c = 0x16 then s.has R.CK_STATUS_FOSC_ON
  else if c < 0x1B then true
  else if c < 0x20 then false
  else if c < 0x60 then s.pllLive ((c - 0x20) / 4) ((c - 0x20) % 4)
  else s.gclLive (c - 0x60)

/-- A CLKOUT pin (R268): low, high impedance, or the clock of a CKID divided, high and low for so many of its cycles. Above 800 MHz the waveform is
not specified. -/
inductive ClkPin where
  | low | highZ
  | divided (ckid high low : Nat)
deriving DecidableEq, Repr
def State.clkoutPin (s : State) (o : Nat) : ClkPin :=
  let src := SMap.get s.clk.outSrc 0 o
  let div := s.get (R.CLKOUT_DIV o)
  if !s.has (R.CLKOUT_EN o) || !s.ckidLive src then (if s.has (R.CLKOUT_IDLE o) then .low else .highZ)
  else if s.clk.muxLow.contains (50 + o) then .low
  else .divided src ((div + 1) / 2) (div / 2)

/-- CLKOUT_WRITE (R268). -/
def execClkoutWrite (_src : SrcId) (o : Fin 2) (data : Word64) (s : State) : Host.Outcome State Fault Refusal :=
  done ((s.commit (R.CLKOUT_EN o).addr).clkoutWrite o data.toNat)

end Sys2Proof.Machine
end

