-- ==== Sys2Proof/Machine/Float.lean ====
section
/-!
DEFINITION. IEEE 754 binary64 and binary32 words: exact arithmetic on mantissas, one rounding to nearest even at the end.
The holdover estimator (R307 to R310) computes in binary64 and publishes binary32; health monitors (R653) use binary32.
-/
namespace Sys2Proof.Machine
open Sys2Proof

/-- A binary format: precision, exponent of the unit of the subnormals, and the first exponent field of infinity. -/
structure FFmt where
  p : Nat
  emin : Int
  top : Nat
deriving DecidableEq, Repr

def f64 : FFmt := ⟨53, -1074, 2047⟩
def f32 : FFmt := ⟨24, -149, 255⟩

/-- A decoded word: a number m × 2^e, an infinity or a NaN. -/
inductive FVal where
  | fin (neg : Bool) (m : Nat) (e : Int)
  | inf (neg : Bool)
  | nan
deriving DecidableEq, Repr

def FFmt.expBits (f : FFmt) : Nat := 2 ^ (f.p - 1)
def FFmt.infWord (f : FFmt) : Nat := f.top * f.expBits
def FFmt.signBit (f : FFmt) : Nat := (f.top + 1) * f.expBits
def FFmt.nanWord (f : FFmt) : Nat := f.infWord + f.expBits / 2

def FFmt.read (f : FFmt) (w : Nat) : FVal :=
  let neg := decide (w / f.signBit % 2 = 1)
  let x := w % f.signBit / f.expBits
  let m := w % f.expBits
  if x = f.top then (if m = 0 then .inf neg else .nan)
  else if x = 0 then .fin neg m f.emin
  else .fin neg (m + f.expBits) (f.emin + x - 1)

/-- Rounds m × 2^e to nearest, ties to even; `sticky` says that a little more than m stands behind it. -/
def FFmt.round (f : FFmt) (neg : Bool) (m : Nat) (e : Int) (sticky : Bool) : Nat :=
  let s := if neg then f.signBit else 0
  if m = 0 then s
  else
    let m2 := 2 * m + (if sticky then 1 else 0)
    let e2 := e - 1
    let q := max (e2 + (Nat.log2 m2 + 1 : Nat) - f.p) f.emin
    let n :=
      if q ≤ e2 then m2 * 2 ^ (e2 - q).toNat
      else
        let h := 2 ^ (q - e2).toNat
        let d := m2 / h
        let r := m2 % h
        if h < 2 * r ∨ (2 * r = h ∧ d % 2 = 1) then d + 1 else d
    let w := if n < f.expBits then n else (q - f.emin).toNat * f.expBits + n
    s + min w f.infWord

def FFmt.write (f : FFmt) (v : FVal) : Nat :=
  match v with
  | .fin neg m e => f.round neg m e false
  | .inf neg => (if neg then f.signBit else 0) + f.infWord
  | .nan => f.nanWord

/-- The exact sum of two numbers, with the sign that IEEE gives a zero sum. -/
def FFmt.add (f : FFmt) (x y : Nat) : Nat :=
  match f.read x, f.read y with
  | .nan, _ => f.nanWord
  | _, .nan => f.nanWord
  | .inf a, .inf b => if a = b then x else f.nanWord
  | .inf _, _ => x
  | _, .inf _ => y
  | .fin a m e, .fin b n g =>
    let lo := min e g
    let i : Int := (if a then -1 else 1) * (m * 2 ^ (e - lo).toNat : Nat) + (if b then -1 else 1) * (n * 2 ^ (g - lo).toNat : Nat)
    f.round (if i = 0 then a && b else decide (i < 0)) i.natAbs lo false

def FFmt.neg (f : FFmt) (x : Nat) : Nat :=
  match f.read x with
  | .nan => f.nanWord
  | _ => (x + f.signBit) % (2 * f.signBit)

def FFmt.sub (f : FFmt) (x y : Nat) : Nat := f.add x (f.neg y)

def FFmt.mul (f : FFmt) (x y : Nat) : Nat :=
  match f.read x, f.read y with
  | .nan, _ => f.nanWord
  | _, .nan => f.nanWord
  | .inf a, .inf b => f.write (.inf (a != b))
  | .inf a, .fin b n _ => if n = 0 then f.nanWord else f.write (.inf (a != b))
  | .fin a m _, .inf b => if m = 0 then f.nanWord else f.write (.inf (a != b))
  | .fin a m e, .fin b n g => f.round (a != b) (m * n) (e + g) false

def FFmt.div (f : FFmt) (x y : Nat) : Nat :=
  match f.read x, f.read y with
  | .nan, _ => f.nanWord
  | _, .nan => f.nanWord
  | .inf _, .inf _ => f.nanWord
  | .inf a, .fin b _ _ => f.write (.inf (a != b))
  | .fin a _ _, .inf b => f.write (.fin (a != b) 0 0)
  | .fin a m e, .fin b n g =>
    if n = 0 then (if m = 0 then f.nanWord else f.write (.inf (a != b)))
    else f.round (a != b) (m * 2 ^ 128 / n) (e - g - 128) (decide (m * 2 ^ 128 % n ≠ 0))

/-- The integer square root, by `k` bits from the top. -/
def isqrt (n : Nat) : Nat → Nat → Nat
  | 0, r => r
  | k + 1, r => if (r + 2 ^ k) * (r + 2 ^ k) ≤ n then isqrt n k (r + 2 ^ k) else isqrt n k r

def FFmt.sqrt (f : FFmt) (x : Nat) : Nat :=
  match f.read x with
  | .nan => f.nanWord
  | .inf a => if a then f.nanWord else x
  | .fin a m e =>
    if m = 0 then x
    else if a then f.nanWord
    else
      let odd := e % 2
      let n := m * 2 ^ (odd.toNat + 128)
      let r := isqrt n 96 0
      f.round false r ((e - odd) / 2 - 64) (decide (r * r ≠ n))

/-- A quotient of integers, rounded once; the divisor is not 0. -/
def FFmt.ofRatio (f : FFmt) (i : Int) (d : Nat) : Nat :=
  f.round (decide (i < 0)) (i.natAbs * 2 ^ 128 / d) (-128) (decide (i.natAbs * 2 ^ 128 % d ≠ 0))
def FFmt.ofInt (f : FFmt) (i : Int) : Nat := f.round (decide (i < 0)) i.natAbs 0 false

/-- A word of one format as a word of another. -/
def FFmt.convert (f g : FFmt) (w : Nat) : Nat := g.write (f.read w)

/-- Whether x < y. -/
def FFmt.lt (f : FFmt) (x y : Nat) : Bool :=
  match f.read x, f.read y with
  | .nan, _ => false
  | _, .nan => false
  | .inf a, .inf b => a && !b
  | .inf a, .fin _ _ _ => a
  | .fin _ _ _, .inf b => !b
  | .fin a m e, .fin b n g =>
    let lo := min e g
    decide ((if a then (-1 : Int) else 1) * (m * 2 ^ (e - lo).toNat : Nat) < (if b then (-1 : Int) else 1) * (n * 2 ^ (g - lo).toNat : Nat))

/-- The largest integer at most the number of a word; none for what is no number. -/
def FFmt.floor (f : FFmt) (w : Nat) : Option Int :=
  match f.read w with
  | .fin a m e =>
    let i : Int := if a then -(m : Int) else m
    some (if 0 ≤ e then i * 2 ^ e.toNat else i / 2 ^ (-e).toNat)
  | _ => none

/-- The integer nearest to num / den, halves upward. -/
def roundNear (num : Int) (den : Nat) : Int := (2 * num + den) / (2 * den : Nat)

/-- The integer nearest to the number of a word times num / den. -/
def FFmt.scaled (f : FFmt) (w : Nat) (num : Int) (den : Nat) : Option Int :=
  match f.read w with
  | .fin a m e =>
    let i : Int := (if a then -(m : Int) else m) * num
    some (if 0 ≤ e then roundNear (i * 2 ^ e.toNat) den else roundNear i (den * 2 ^ (-e).toNat))
  | _ => none

end Sys2Proof.Machine
end

