-- ==== Sys2Proof/Machine/TimePlane.lean ====
section
/-!
DEFINITION. The time plane, its PLL, the servo, the detectors and the holdover estimator (chapter 9). Magnitudes are in the
manual's units: 2^-16 ns for times, 2^-48 ns per tick for DINC, 2^-16 ppb for f_err.
-/
namespace Sys2Proof.Machine
open Sys2Proof

/-- The apply tick of an adjustment accepted now (R290): W is the next tick. -/
def State.applyTick (s : State) : Nat := s.tp.tick + 65
def State.pushAdj (s : State) (a : Adj) : State := { s with tp := { s.tp with adj := s.tp.adj ++ [(s.applyTick, a)] } }

def Adj.isStep : Adj → Bool
  | .step _ _ => true
  | _ => false
def Adj.isSlew : Adj → Bool
  | .slew _ _ => true
  | _ => false

/-- A step waits for its apply tick; a slew runs or waits (R295, R296). -/
def State.stepWaits (s : State) : Bool := s.tp.adj.any (fun e => e.2.isStep)
def State.slewRuns (s : State) : Bool := s.tp.slew.isSome || s.tp.adj.any (fun e => e.2.isSlew)

/-- The sum of the steps that a tick applies (R295). -/
def State.stepSum (s : State) (tick : Nat) : Int :=
  (s.tp.adj.filter (fun e => decide (e.1 ≤ tick))).foldl (fun a e => match e.2 with | .step d _ => a + d | _ => a) 0

/-- Posts in TP_ADJ_RESULT (R297): KIND 1 base, 2 step, 3 slew, 4 abort, 5 servo step. -/
def State.postAdj (s : State) (kind code : Nat) : State := (s.set R.TP_ADJ_RESULT_KIND kind).post R.TP_ADJ_RESULT_STATUS code

/-- DINC_SLEW as it acts now. -/
def State.dincSlew (s : State) : Int := match s.tp.slew with | some w => w.dinc | none => 0

/-- TP_DINC and TP_INC show the sum that acts. -/
def State.incShow (s : State) : State :=
  let d := s.tp.dincSrv + s.dincSlew
  (s.set R.TP_DINC_DINC (encode2 40 d)).set R.TP_INC_INC (encode2 64 (s.get R.TP_INC_BASE_BASE + d / 65536))

/-! ## Adjustments -/

/-- A write of TP_INC_BASE (R283). -/
def State.incBaseWrite (s : State) (v : Nat) : State :=
  if v < 0x100000000 ∨ 0x180000000 < v then (s.postAdj 1 0x0301).reply 0 0
  else ((s.pushAdj (.base v)).expect R.TP_ADJ_RESULT_STATUS).reply 0 0

/-- TP_INC_BASE_WRITE (R283). -/
def execTpIncBaseWrite (_src : SrcId) (data : Word64) (s : State) : Host.Outcome State Fault Refusal :=
  done ((s.commit R.TP_INC_BASE_BASE.addr).incBaseWrite data.toNat)

/-- A write of TP_STEP (R295). -/
def State.stepWrite (s : State) (v : Nat) : State :=
  if v % 2 ^ 48 = 2 ^ 47 then (s.postAdj 2 0x0302).reply 0 0
  else if s.stepWaits || s.slewRuns then (s.postAdj 2 0x0304).reply 0 0
  else (((s.pushAdj (.step (signed 48 v) false)).put R.TP_STATUS_STEP_BUSY true).expect R.TP_ADJ_RESULT_STATUS).reply 0 0

/-- TP_STEP_WRITE (R295). -/
def execTpStepWrite (_src : SrcId) (data : Word64) (s : State) : Host.Outcome State Fault Refusal :=
  done ((s.commit R.TP_STEP_DELTA.addr).stepWrite data.toNat)

/-- A write of TP_SLEW (R296). -/
def State.slewWrite (s : State) (v : Nat) : State :=
  let rate := bits v 48 15
  if bit v 63 = 1 then
    if v % 2 ^ 63 ≠ 0 then (s.postAdj 4 0x030D).reply 0 0
    else if s.slewRuns then ((s.pushAdj .abort).expect R.TP_ADJ_RESULT_STATUS).reply 0 0
    else (s.postAdj 4 0).reply 0 0
  else if v % 2 ^ 48 = 2 ^ 47 then (s.postAdj 3 0x0302).reply 0 0
  else if rate = 0 then (s.postAdj 3 0x0303).reply 0 0
  else if s.stepWaits || s.slewRuns then (s.postAdj 3 0x0304).reply 0 0
  else ((s.pushAdj (.slew (signed 48 v) rate)).expect R.TP_ADJ_RESULT_STATUS).reply 0 0

/-- TP_SLEW_START (R296): a write of TP_SLEW whose ABORT bit is cleared. -/
def execTpSlewStart (_src : SrcId) (data : Word64) (s : State) : Host.Outcome State Fault Refusal :=
  done ((s.commit R.TP_SLEW_DELTA.addr).slewWrite (data.toNat % 2 ^ 63))

/-- TP_SLEW_ABORT (R296): a write of TP_SLEW whose ABORT bit is set. -/
def execTpSlewAbort (_src : SrcId) (data : Word64) (s : State) : Host.Outcome State Fault Refusal :=
  done ((s.commit R.TP_SLEW_DELTA.addr).slewWrite (data.toNat % 2 ^ 63 + 2 ^ 63))

/-- The end of a slew (R296, R297): TP_SLEW_REM keeps what is left, KIND 3 is posted, 0x0323 is raised. -/
def State.slewEnd (s : State) (rem : Int) : State :=
  let s1 := { s with tp := { s.tp with slew := none } }
  ((s1.sets [(R.TP_STATUS_SLEW_BUSY, 0), (R.TP_SLEW_REM_REM, encode2 48 (rem.tdiv (2 ^ 32 : Nat)))]).postAdj 3 0).tpEvt
    R.TP_EVT_SLEW 0x0323 0 0

/-- An adjustment at its apply tick, before the tick's addition. -/
def State.applyAdj (s : State) (a : Adj) : State :=
  match a with
  | .base v => (s.set R.TP_INC_BASE_BASE v).postAdj 1 0
  | .dinc v => { s with tp := { s.tp with dincSrv := v } }
  | .step _ _ => s
  | .slew d r =>
    let u : Int := ((r * 35184372 + 5) / 10 : Nat)
    ({ s with tp := { s.tp with slew := some ⟨d * 2 ^ 32, if d < 0 then -u else u⟩ } }).sets
      [(R.TP_STATUS_SLEW_BUSY, 1), (R.TP_SLEW_REM_REM, encode2 48 d)]
  | .abort =>
    match s.tp.slew with
    | some w => (s.slewEnd w.rest).postAdj 4 0
    | none => s.postAdj 4 0

/-- Crossings of 0 and of half the period by a move from `old` (0 ≤ old < 2^64) by `d` (R293). The direction bit of a backward wrap stands at a place
of DETAIL that the spec does not give (free place 9). -/
def State.crossings (s : State) (old : Nat) (d : Int) : State :=
  let new := (old : Int) + d
  let s1 :=
    if 2 ^ 64 ≤ new then
      ({ s with tp := { s.tp with wraps := (s.tp.wraps + 1) % 2 ^ 16, wide := s.tp.wide + 1 }, mode := { s.mode with wakeC := s.mode.wakeC + 1 } }).tpEvt R.TP_EVT_WRAP 0x0320 0 0
    else if new < 0 then
      let f := s.fresh 9
      ({ f.2 with tp := { f.2.tp with wraps := (f.2.tp.wraps + 65535) % 2 ^ 16, wide := f.2.tp.wide - 1 }, mode := { f.2.mode with wakeC := f.2.mode.wakeC - 1 } }).tpEvt
        R.TP_EVT_WRAP 0x0320 0 (2 ^ (f.1 % 64))
    else s
  if ((old : Int) < 2 ^ 63 ∧ 2 ^ 63 ≤ new) ∨ (2 ^ 63 ≤ (old : Int) ∧ new < 2 ^ 63) ∨ 2 ^ 64 + 2 ^ 63 ≤ new ∨ new < -2 ^ 63 then
    s1.tpEvt R.TP_EVT_HALF 0x0321 0 0
  else s1

/-- The accumulator moved by `d` units of 2^-32 ns. -/
def State.moveAcc (s : State) (d : Int) : State :=
  let old := s.tp.acc
  ({ s with tp := { s.tp with acc := encode2 64 ((old : Int) + d) } }).crossings old d

/-- A step at its apply tick, after the tick's addition (R295). -/
def State.applyStep (s : State) (a : Adj) : State :=
  match a with
  | .step d servo =>
    (((s.moveAcc (d * 2 ^ 16)).put R.TP_STATUS_STEP_BUSY false).postAdj (if servo then 5 else 2) 0).tpEvt R.TP_EVT_STEP 0x0322 0 0
  | _ => s

/-- Whether the current tick counts for the learning interval (R307). -/
def State.tickQualifies (s : State) : Bool :=
  decide (s.get R.SRV_STAT_STATE = 2) && !s.has R.SRV_STAT_FORCED && s.has R.HO_STAT_TEMP_OK && s.has R.TP_STATUS_TPLL_LOCK
    && !s.has R.SRV_STAT_CLAMP && !s.tp.slew.isSome

/-- The learning interval's sums at a tick, at which a step or slew acted or not (R307). -/
def State.learnTick (s : State) (acted : Bool) : State :=
  if !s.has R.HO_CTRL_LEARN_EN then s
  else
    let c := s.tp.cur
    let k := c.kept && !acted && s.tickQualifies
    ({ s with tp := { s.tp with cur := ⟨c.dinc + s.tp.dincSrv, c.temp + signed 16 (s.get R.HO_STAT_TEMP_NOW), c.ticks + 1, k⟩ } }).put
      R.HO_STAT_LEARN k

/-- One rising edge of TCLK (R281, R290, R293, R296): the tick count, the adjustments due, the addition with its dither, the
steps due. A consumer whose values fail their check adds its own increment (R292). -/
def State.timeTick (s : State) : State :=
  let n := s.tp.tick + 1
  let due := (s.tp.adj.filter (fun e => decide (e.1 ≤ n))).map (fun e => e.2)
  let base := due.filter (fun a => match a with | .base _ => true | _ => false)
  let rest := due.filter (fun a => match a with | .base _ => false | _ => true)
  let s1 := { s with tp := { s.tp with tick := n, adj := s.tp.adj.filter (fun e => decide (n < e.1)), phaseNow := none
                                       heldTime := s.tp.heldTime.map (fun e => (e.1, e.2.map (fun h => (h.1 + h.2, h.2)))) } }
  let s2 := (base ++ rest).foldl State.applyAdj s1
  let ended := match s2.tp.slew with | some w => decide (w.rest.natAbs ≤ w.dinc.natAbs) | none => false
  let sl := match s2.tp.slew with | some w => (if w.rest.natAbs ≤ w.dinc.natAbs then w.rest else w.dinc) | none => 0
  let inc : Int := (s2.get R.TP_INC_BASE_BASE : Int) * 65536 + s2.tp.dincSrv + sl
  let d := s2.tp.da + (inc % 65536).toNat
  let s3 := ({ s2 with tp := { s2.tp with da := d % 65536 } }).moveAcc (inc / 65536 + d / 65536)
  let s4 := match s3.tp.slew with
    | none => s3
    | some w =>
      if ended then s3.slewEnd 0
      else
        let r := w.rest - w.dinc
        ({ s3 with tp := { s3.tp with slew := some { w with rest := r } } }).set R.TP_SLEW_REM_REM (encode2 48 (r.tdiv (2 ^ 32 : Nat)))
  ((due.foldl State.applyStep s4).learnTick (due.any Adj.isStep || s2.tp.slew.isSome)).incShow

/-! ## The time PLL -/

/-- TPLL_MUX_WRITE (R284). -/
def State.tpllMuxWrite (s : State) (src v : Nat) : State := s.muxWrite src 48 v
def execTpllMuxWrite (src : SrcId) (data : BitVec 32) (s : State) : Host.Outcome State Fault Refusal :=
  done (s.tpllMuxWrite src data.toNat)

/-- TPLL_REF_LOSS (R285): the active input, FOSC too, has given no edge for 2 us. -/
def execTpllRefLoss (s : State) : Host.Outcome State Fault Refusal :=
  let a := s.get R.TPLL_MUX_ACT
  if 3 ≤ a then done s
  else done (({ s with tp := { s.tp with failed := if s.tp.failed.contains a then s.tp.failed else s.tp.failed ++ [a] } }).muxLost 48)

/-- TPLL_REF_REQUALIFY (R285): input `i` (0 PRI, 1 ALT, 2 FOSC, which has no guard) has given 10 ms of edges. -/
def execTpllRefRequalify (i : Fin 3) (s : State) : Host.Outcome State Fault Refusal :=
  let x := muxF 48
  let guarded := match i.val with | 0 => s.has x.gpriEn | 1 => s.has x.galtEn | _ => false
  let g := if i.val = 0 then x.gpri else x.galt
  if guarded && !s.has (R.MON_STAT_QUAL (s.get g)) then done s
  else done { s with tp := { s.tp with failed := s.tp.failed.filter (fun k => decide (k ≠ i.val)) } }

/-- A write of TPLL_CFG (R286). -/
def State.tpllCfgWrite (s : State) (v : Nat) : State :=
  if bits v 0 6 = 0 ∨ bits v 6 10 < 16 ∨ 640 < bits v 6 10 then s.reply 0x030C 0
  else
    let s1 := s.sets [(R.TPLL_CFG_M, bits v 0 6), (R.TPLL_CFG_N, bits v 6 10), (R.TPLL_CFG_FRAC, bits v 16 24)]
    (if s1.has R.TP_STATUS_TPLL_LOCK then s1.tpllHold else s1).hoClear.reply 0 0

/-- TPLL_CFG_WRITE (R286). -/
def execTpllCfgWrite (_src : SrcId) (data : Word64) (s : State) : Host.Outcome State Fault Refusal :=
  done ((s.commit R.TPLL_CFG_M.addr).tpllCfgWrite data.toNat)

/-- Whether the time PLL locks to a reference of the given nominal frequency in Hz (R286). -/
def State.tpllFits (s : State) (refHz : Nat) : Bool :=
  s.has R.TP_STATUS_TPLL_FOSC ||
    (let m := s.get R.TPLL_CFG_M
     decide (10000000 * m ≤ refHz) && decide (refHz ≤ 100000000 * m)
      && decide (refHz * (s.get R.TPLL_CFG_N * 2 ^ 24 + s.get R.TPLL_CFG_FRAC) = 4800000000 * m * 2 ^ 24))

/-- TPLL_LOCK (R286, R287, R310): HELD and REF_LOST clear. -/
def execTpllLock (refHz : Nat) (s : State) : Host.Outcome State Fault Refusal :=
  if s.get R.TPLL_MUX_ACT = 3 ∨ s.has R.TP_STATUS_TPLL_LOCK ∨ !s.tpllFits refHz then done s
  else
    let s1 := s.sets [(R.TP_STATUS_TPLL_LOCK, 1), (R.CK_STATUS_TPLL_LOCK, 1), (R.TP_STATUS_HELD, 0), (R.HO_STAT_REF_LOST, 0)]
    done (((s1.freqChange s).tpEvt R.TP_EVT_TPLL 0x032A 0 0).drFreeAll)

/-- TPLL_HOLD (R286, R287): loss of lock, or lock not reached. -/
def execTpllHold (s : State) : Host.Outcome State Fault Refusal :=
  if s.has R.TP_STATUS_TPLL_LOCK ∨ s.get R.TPLL_MUX_ACT = 3 then done s.tpllHold
  else done (s.tpEvt R.TP_EVT_TPLL 0x0329 0 0)

/-- DIST_CALIBRATED (R291). -/
def execDistCalibrated (s : State) : Host.Outcome State Fault Refusal :=
  if s.has R.TP_STATUS_TPLL_LOCK then done (s.put R.TP_STATUS_DIST_OK true) else done s

/-- DIST_CHECK_FAIL (R292): a consumer of R289 (0 to 63 bough taps, 64 to 71 ports, 72 timeline, 73 capture units, 74 and 75
Q_10 and Q_11, 76 host link, 77 CMC, 78 site core) receives a value that fails its check, or the first that passes. The failure counts from the next
tick on, which the consumer extrapolates with the increment TP_INC shows now, until the value that passes (assumption 179). -/
def execDistCheckFail (consumer : Fin 79) (passes : Bool) (s : State) : Host.Outcome State Fault Refusal :=
  let c := consumer.val
  if passes then
    let bad := s.tp.badConsumers.filter (fun k => decide (k ≠ c))
    done ((({ s with tp := { s.tp with
      badConsumers := bad, distRun := SMap.set s.tp.distRun 0 c 0, heldTime := SMap.set s.tp.heldTime none c none } }).put R.TP_STATUS_TIME_BAD
      (!bad.isEmpty)).put R.TL_STATUS_BAD (bad.contains 72))
  else
    let n := SMap.get s.tp.distRun 0 c + 1
    let h := (SMap.get s.tp.heldTime none c).getD (s.tp.wide * 2 ^ 64 + s.tp.acc, s.get R.TP_INC_INC)
    let s1 := ({ s with tp := { s.tp with
      distRun := SMap.set s.tp.distRun 0 c (min n 16), heldTime := SMap.set s.tp.heldTime none c (some h) } }).bump R.TP_STATUS_DIST_ERR 1
    if n = 16 then
      let bad := s1.tp.badConsumers ++ [c]
      done (((({ s1 with tp := { s1.tp with badConsumers := bad } }).put R.TP_STATUS_TIME_BAD true).put R.TL_STATUS_BAD
        (bad.contains 72)).tpEvt R.TP_EVT_DIST 0x0328 0 0)
    else done s1

/-! ## The servo -/

def srvFREERUN : Nat := 0
def srvACQUIRE : Nat := 1
def srvLOCKED : Nat := 2
def srvHOLDOVER : Nat := 3
def srvOUT : Nat := 4

def State.srvState (s : State) : Nat := s.get R.SRV_STAT_STATE
def State.integ (s : State) : Int := signed 40 (s.get R.SRV_INTEG_INTEG)
def State.setInteg (s : State) (v : Int) : State := s.set R.SRV_INTEG_INTEG (encode2 40 v)
/-- lim of R300. -/
def State.srvLim (s : State) : Int := (s.get R.SRV_LIM_FREQ_LIM * 35184372 / 100 : Nat)
def clampInt (lo hi v : Int) : Int := max lo (min hi v)
def State.inHoldover (s : State) : Bool := decide (s.srvState = 3) || decide (s.srvState = 4)

/-- E_acc at holdover entry (R310), binary64 ns. -/
def State.eEntry (s : State) : Nat :=
  f64.add (f64.ofRatio s.tp.thetaLast.natAbs 65536) (f64.ofInt (s.get R.HO_CTRL_E0_FIX))
def State.setEacc (s : State) (e : Nat) : State :=
  ({ s with tp := { s.tp with eacc := e } }).set R.HO_EACC_E_ACC (f64.convert f32 e)

/-- A change of servo state (R299, R310): 0x0324; entry into holdover opens its account (see `srvHold`). -/
def State.srvGo (s : State) (st : Nat) : State :=
  if s.srvState = st then s
  else
    let s1 := if st = 3 then
        (({ s with tp := { s.tp with tau := 0, wasHoldover := true } }).set R.HO_EACC_TAU 0).setEacc s.eEntry
      else if s.inHoldover && decide (st < 3) then (s.set R.HO_EACC_TAU 0).put R.SRV_STAT_FORCED false
      else s
    (s1.set R.SRV_STAT_STATE st).tpEvt R.TP_EVT_SRV 0x0324 0 0

/-- HOLDOVER whose E_acc has reached BUDGET goes to HOLDOVER_OUT (R311). -/
def State.hoSpent (s : State) : State :=
  if s.srvState = 3 ∧ !f64.lt s.tp.eacc (f64.ofInt (s.get R.HO_CTRL_BUDGET)) then (s.srvGo 4).tpEvt R.TP_EVT_HO_OUT 0x0325 0 0 else s

/-- Entry into holdover (R299, R310, R311). -/
def State.srvHold (s : State) : State := (s.srvGo 3).hoSpent

/-- CLAMP (R300): each entry into 1 raises 0x032C. -/
def State.setClamp (s : State) (c : Bool) : State :=
  if c && !s.has R.SRV_STAT_CLAMP then (s.put R.SRV_STAT_CLAMP true).tpEvt R.TP_EVT_CLAMP 0x032C 0 0
  else s.put R.SRV_STAT_CLAMP c

/-- DINC_SRV of R300, which takes effect at its apply tick. -/
def State.srvOut (s : State) : State :=
  s.pushAdj (.dinc (clampInt (-s.srvLim) s.srvLim (s.integ + s.tp.pLast)))

/-- int40 of a 64-bit product shifted right (R300). -/
def shiftProd (m : Nat) (x : Int) (e : Nat) : Int := signed 40 (encode2 40 ((m : Int) * x / (2 ^ e : Nat)))

/-- What a measurement does before its update: FREERUN and holdover lead to ACQUIRE (R299, R301, R311). -/
def State.srvAdmit (s : State) (theta : Option Int) : State :=
  let s1 := if s.srvState = 0 then (s.set R.SRV_STAT_LOCKCNT 0).srvGo 1
    else if s.inHoldover then
      let t := s.setInteg s.tp.dincSrv
      (({ t with tp := { t.tp with pLast := 0 } }).set R.SRV_STAT_LOCKCNT 0).srvGo 1
    else s
  match theta with
  | none => s1
  | some th =>
    if !s1.tp.wasHoldover then s1
    else ({ s1 with tp := { s1.tp with wasHoldover := false } }).sets
      [(R.HO_LAST_ERR, f32.ofRatio th 65536), (R.HO_LAST_DUR, s1.tp.tau)]

/-- The state transitions of an accepted measurement (R299): its magnitude, the threshold for LOCKED and the one that leaves it. -/
def State.srvJudge (s : State) (mag lockThr leaveThr : Nat) : State :=
  let c := if mag ≤ lockThr then min 15 (s.get R.SRV_STAT_LOCKCNT + 1) else 0
  let s1 := s.set R.SRV_STAT_LOCKCNT c
  if s1.srvState = 1 then (if s1.get R.SRV_LIM_LOCK_N ≤ c then s1.srvGo 2 else s1)
  else if s1.srvState = 2 then (if leaveThr < mag then s1.srvGo 1 else s1)
  else s1

/-- The PI update of R300 for a phase measurement. -/
def State.phaseUpdate (s : State) (theta : Int) : State :=
  let p := shiftProd (s.get R.SRV_GAIN_KP_M) theta (s.get R.SRV_GAIN_KP_E)
  let ni := s.integ + shiftProd (s.get R.SRV_GAIN_KI_M) theta (s.get R.SRV_GAIN_KI_E)
  let s1 := if (ni + p).natAbs ≤ s.srvLim.natAbs then (s.setInteg ni).setClamp false else s.setClamp true
  { s1 with tp := { s1.tp with pLast := p } }

/-- The update of R300 for a frequency measurement. -/
def State.freqUpdate (s : State) (ferr : Int) : State :=
  let ni := s.integ + shiftProd (s.get R.SRV_GAIN_KF_M) ferr (s.get R.SRV_GAIN_KF_E)
  if (ni + s.tp.pLast).natAbs ≤ s.srvLim.natAbs then (s.setInteg ni).setClamp false else s.setClamp true

/-- An accepted phase measurement (R298 to R302). One whose step is refused is discarded (R302). -/
def State.srvPhase (s : State) (theta : Int) : State :=
  let s0 := s.set R.SRV_THETA_THETA (encode2 48 theta)
  if !s0.has R.SRV_CTRL_EN then s0
  else
    let s1 := s0.bump R.SRV_STAT_NACC 1
    if s1.inHoldover && s1.has R.SRV_STAT_FORCED then s1
    else
      let s2 := s1.srvAdmit (some theta)
      let thr := s2.get R.SRV_LIM_LOCK_THR * 65536
      let step := decide (s2.srvState = 1) && s2.has R.SRV_CTRL_STEP_EN && decide (s2.get R.SRV_LIM_STEP_THR * 65536 < theta.natAbs)
      let s3 := { s2 with tp := { s2.tp with
        thetaLast := theta, phaseNow := some ⟨theta, s2.integ, s2.tp.pLast, s1.inHoldover, step⟩ } }
      if step then
        if s3.stepWaits || s3.slewRuns then s2.postAdj 5 0x0304
        else (((s3.pushAdj (.step theta true)).put R.TP_STATUS_STEP_BUSY true).expect R.TP_ADJ_RESULT_STATUS).srvJudge theta.natAbs thr (4 * thr)
      else (s3.phaseUpdate theta).srvOut.srvJudge theta.natAbs thr (4 * thr)

/-- An accepted frequency measurement (R299, R300). One that comes at the tick of a phase measurement acts before it: it is not applied where the servo
was in holdover, and else the phase update is made again after it. -/
def State.srvFreq (s : State) (ferr : Int) : State :=
  let held := match s.tp.phaseNow with | some p => p.held | none => false
  if !s.has R.SRV_CTRL_EN || !s.has R.SRV_CTRL_FSRC || s.inHoldover || held then s
  else
    let s1 := (s.bump R.SRV_STAT_NACC 1).srvAdmit none
    let s2 := match s1.tp.phaseNow with
      | none => s1.freqUpdate ferr
      | some p =>
        if p.stepped then s1.freqUpdate ferr
        else
          let u := (({ s1 with tp := { s1.tp with pLast := p.pLast } }).setInteg p.integ).freqUpdate ferr
          ({ u with tp := { u.tp with phaseNow := some { p with integ := u.integ } } }).phaseUpdate p.theta
    if s2.get R.SRV_CTRL_PSRC = 0 then s2.srvOut.srvJudge ferr.natAbs 65536 262144 else s2.srvOut

/-- SRV_RESULT (R303); the write itself is answered with 0x0000 (R737). -/
def State.srvPost (s : State) (src code : Nat) : State :=
  ((s.set R.SRV_RESULT_SRC src).post R.SRV_RESULT_STATUS code).reply 0 0

/-- A write of SRV_OFFS_WR (R298, R303). -/
def State.srvOffs (s : State) (src v : Nat) : State :=
  if !s.srcTp src then s.srvPost 1 0x0306
  else if s.get R.SRV_CTRL_PSRC ≠ 1 then s.srvPost 1 0x0307
  else if v % 2 ^ 48 = 2 ^ 47 then s.srvPost 1 0x0302
  else (s.srvPhase (signed 48 v)).srvPost 1 0

/-- SRV_OFFS_WR (R298). -/
def execSrvOffsWr (src : SrcId) (data : Word64) (s : State) : Host.Outcome State Fault Refusal :=
  done ((s.commit R.SRV_OFFS_WR_THETA.addr).srvOffs src data.toNat)

/-- SRV_PHASE_MEASUREMENT (R298, R300): a phase measurement of the source that PSRC codes; one of 2^31 ns is refused, to firmware in SRV_RESULT. -/
def execSrvPhaseMeasurement (psrc : Fin 4) (theta : BitVec 48) (s : State) : Host.Outcome State Fault Refusal :=
  if psrc.val = 0 ∨ s.get R.SRV_CTRL_PSRC ≠ psrc.val then done s
  else if theta.toNat = 2 ^ 47 then done (if psrc.val = 1 then s.srvPost 1 0x0302 else s.reply 0x0302 0)
  else done (s.srvPhase (signed 48 theta.toNat))

/-- SRV_FREQ_MEASUREMENT (R300). -/
def execSrvFreqMeasurement (ferr : BitVec 32) (s : State) : Host.Outcome State Fault Refusal :=
  done (s.srvFreq (signed 32 ferr.toNat))

/-- SRV_MISS_TIMEOUT (R299). -/
def execSrvMissTimeout (s : State) : Host.Outcome State Fault Refusal :=
  if s.srvState = 1 then done (s.srvGo 0) else if s.srvState = 2 then done s.srvHold else done s

/-- A command of SRV_CMD (R301, R303). -/
def State.srvCmd (s : State) (src cmd : Nat) : State :=
  if !s.srcTp src then s.srvPost 2 0x0306
  else match cmd with
    | 0 => s.srvPost 2 0
    | 1 => if s.srvState = 2 then ((s.put R.SRV_STAT_FORCED true).srvHold).srvPost 2 0 else s.srvPost 2 0x030B
    | 2 => if s.has R.SRV_STAT_FORCED then (s.put R.SRV_STAT_FORCED false).srvPost 2 0 else s.srvPost 2 0x030B
    | 3 =>
      let t := (s.setInteg 0).put R.SRV_STAT_FORCED false
      ((({ t with tp := { t.tp with pLast := 0 } }).srvGo 0).pushAdj (.dinc 0)).srvPost 2 0
    | _ => s.srvPost 2 0x0305

def execSrvCmdHold (src : SrcId) (s : State) : Host.Outcome State Fault Refusal := done (s.srvCmd src 1)
def execSrvCmdRelease (src : SrcId) (s : State) : Host.Outcome State Fault Refusal := done (s.srvCmd src 2)
def execSrvCmdReset (src : SrcId) (s : State) : Host.Outcome State Fault Refusal := done (s.srvCmd src 3)

/-- A write of SRV_CTRL (0), SRV_GAIN (1), SRV_LIM (2) or SRV_INTEG (3) (R303). A change of PSRC or FSRC discards the measurement that the frequency
detector has in progress; a pulse detector's takes no time. -/
def State.srvSettings (s : State) (src reg v : Nat) : State :=
  let store (l : List Fld) (t : State) := l.foldl (fun u f => u.set f (bits v f.lo f.w)) t
  if !s.srcTp src then s.srvPost 3 0x0306
  else match reg with
    | 0 =>
      if bits v 16 16 = 0 then s.srvPost 3 0x0305
      else
        let s0 := store [R.SRV_CTRL_EN, R.SRV_CTRL_PSRC, R.SRV_CTRL_FSRC, R.SRV_CTRL_STEP_EN, R.SRV_CTRL_MISS_TO] s
        let moved := decide (s.get R.SRV_CTRL_PSRC ≠ s0.get R.SRV_CTRL_PSRC ∨ s.get R.SRV_CTRL_FSRC ≠ s0.get R.SRV_CTRL_FSRC)
        let s1 := { s0 with tp := { s0.tp with fdDrop := s0.tp.fdDrop || (moved && s0.has R.FD_CFG_EN) } }
        (if bit v 0 = 0 then s1.srvGo 0 else s1).srvPost 3 0
    | 1 =>
      (store [R.SRV_GAIN_KP_M, R.SRV_GAIN_KP_E, R.SRV_GAIN_KI_M, R.SRV_GAIN_KI_E, R.SRV_GAIN_KF_M, R.SRV_GAIN_KF_E] s).srvPost 3 0
    | 2 =>
      if bits v 0 18 = 0 ∨ 200000 < bits v 0 18 ∨ bits v 24 24 = 0 ∨ bits v 48 12 = 0 ∨ bits v 60 4 = 0 then s.srvPost 3 0x0305
      else (store [R.SRV_LIM_FREQ_LIM, R.SRV_LIM_STEP_THR, R.SRV_LIM_LOCK_THR, R.SRV_LIM_LOCK_N] s).srvPost 3 0
    | _ =>
      if s.has R.SRV_CTRL_EN then s.srvPost 3 0x030B
      else if s.srvLim.natAbs < (signed 40 v).natAbs then s.srvPost 3 0x0305
      else
        let s1 := s.setInteg (signed 40 v)
        (s1.pushAdj (.dinc (clampInt (-s1.srvLim) s1.srvLim (s1.integ + s1.tp.pLast)))).srvPost 3 0

/-- SRV_SETTINGS_WRITE (R303). -/
def execSrvSettingsWrite (src : SrcId) (reg : Fin 4) (data : Word64) (s : State) : Host.Outcome State Fault Refusal :=
  done ((s.commit ([R.SRV_CTRL_EN.addr, R.SRV_GAIN_KP_M.addr, R.SRV_LIM_FREQ_LIM.addr, R.SRV_INTEG_INTEG.addr].getD reg.val 0)).srvSettings src reg data.toNat)

/-! ## Detectors -/

def State.ppsEvt (s : State) (i code : Nat) : State := s.tpEvt (if i = 0 then R.TP_EVT_PPS_0 else R.TP_EVT_PPS_1) code i 0
def State.ppsAdvance (s : State) (i : Nat) : State :=
  s.set (R.PPS_EXP_EXPECT i) (s.get (R.PPS_EXP_EXPECT i) + s.get (R.PPS_CFG_PERIOD i) * 65536)

/-- PPS_EDGE (R304): an edge of TIME_IN_i stamped at `time`. -/
def execPpsEdge (i : Fin 2) (time : BitVec 48) (falling : Bool) (s : State) : Host.Outcome State Fault Refusal :=
  if !s.has (R.PPS_CFG_EN i) || (s.has (R.PPS_CFG_EDGE i) != falling) then done s
  else
    let th := signed 48 (encode2 48 ((s.get (R.PPS_EXP_EXPECT i) : Int) - time.toNat + signed 40 (s.get (R.PPS_DLY_DLY i))))
    if th.natAbs ≤ s.get (R.PPS_CFG_WIN i) * 65536 then
      let s1 := (if s.get R.SRV_CTRL_PSRC = 2 + i.val then s.srvPhase th else s)
      done ((s1.put (R.PPS_STAT_SEEN i) true).ppsAdvance i)
    else done ((s.bump (R.PPS_STAT_OUTL i) 1).ppsEvt i 0x0326)

/-- PPS_MISS (R304): the time plane has passed the window of the present EXPECT. -/
def execPpsMiss (i : Fin 2) (s : State) : Host.Outcome State Fault Refusal :=
  let lim : Int := s.get (R.PPS_EXP_EXPECT i) + signed 40 (s.get (R.PPS_DLY_DLY i)) + s.get (R.PPS_CFG_WIN i) * 65536
  if s.has (R.PPS_CFG_EN i) ∧ 0 < signed 48 (encode2 48 (s.now48 - lim)) then
    done ((((s.bump (R.PPS_STAT_MISS i) 1).put (R.PPS_STAT_SEEN i) false).ppsEvt i 0x0327).ppsAdvance i)
  else done s

/-- A write of PPS_CFG_i (0), PPS_DLY_i (1) or PPS_EXP_i (2) (R304). -/
def State.ppsWrite (s : State) (i reg v : Nat) : State :=
  match reg with
  | 0 =>
    if bits v 8 24 = 0 ∨ bits v 32 31 < 1000000 ∨ 2000000000 < bits v 32 31 then s.reply 0x0308 0
    else
      let s1 := if bit v 0 = 1 ∧ !s.has (R.PPS_CFG_EN i) then s.sets [(R.PPS_STAT_MISS i, 0), (R.PPS_STAT_OUTL i, 0)] else s
      (s1.sets [(R.PPS_CFG_EN i, bit v 0), (R.PPS_CFG_EDGE i, bit v 1), (R.PPS_CFG_WIN i, bits v 8 24),
        (R.PPS_CFG_PERIOD i, bits v 32 31)]).reply 0 0
  | 1 => (s.set (R.PPS_DLY_DLY i) (bits v 0 40)).reply 0 0
  | _ => (s.set (R.PPS_EXP_EXPECT i) (bits v 0 48)).reply 0 0

/-- PPS_CFG_WRITE (R304). -/
def execPpsCfgWrite (_src : SrcId) (i : Fin 2) (reg : Fin 3) (data : Word64) (s : State) : Host.Outcome State Fault Refusal :=
  done ((s.commit ((R.PPS_CFG_EN i).addr + 8 * reg.val)).ppsWrite i reg data.toNat)

/-- A write of FD_CFG (R305). -/
def State.fdWrite (s : State) (v : Nat) : State :=
  if 0x15 < bits v 8 7 ∨ 10 < bits v 16 4 ∨ bits v 32 30 = 0 ∨ 800000000 < bits v 32 30 then s.reply 0x0309 0
  else (s.sets [(R.FD_CFG_EN, bit v 0), (R.FD_CFG_SRC, bits v 8 7), (R.FD_CFG_G, bits v 16 4), (R.FD_CFG_FREQ_HZ, bits v 32 30)]).reply 0 0

/-- FD_GATE_END (R303, R305, R313): `periods` periods of SRC from the first stamp to the last, `span` later in units of 2^-16 ns. LREF_k (CKID 0x02
to 0x0D) and RCV (0x0E to 0x15) are off in STANDBY, BOOT and LOAD. -/
def execFdGateEnd (periods span : Nat) (s : State) : Host.Outcome State Fault Refusal :=
  let off := decide (2 ≤ s.get R.FD_CFG_SRC) && !s.inMode [mRUN, mSAFE]
  if s.tp.fdDrop then done { s with tp := { s.tp with fdDrop := false } }
  else if !s.has R.FD_CFG_EN || off || decide (periods < 2) then done s
  else
    let f := roundNear (65536000000000 * (periods : Int) - (span * s.get R.FD_CFG_FREQ_HZ : Nat)) periods
    let c := clampInt (-2147483648) 2147483647 f
    let s1 := (s.set R.FD_RES_FERR (encode2 32 c)).post R.FD_RES_FERR (encode2 32 c)
    if c.natAbs ≤ s.get R.SRV_LIM_FREQ_LIM * 65536 then done (s1.srvFreq c) else done s1

/-! ## The holdover estimator -/

def dotF (x y : List Nat) : Nat := (x.zip y).foldl (fun a e => f64.add a (f64.mul e.1 e.2)) 0
def rowF (p : List Nat) (i : Nat) : List Nat := (p.drop (4 * i)).take 4
def q88 (t : Int) : Nat := f64.ofRatio t 256

/-- Extended time in ns: wraps and the nanosecond part. -/
def State.extNs (s : State) : Int := s.tp.wide * 2 ^ 32 + s.now32
/-- d in days since the model's first sample. -/
def State.hoAge (s : State) : Nat := f64.ofRatio (s.extNs - s.tp.ho.epoch) 86400000000000
def State.hoDt (s : State) (t : Nat) : Nat := f64.sub t (q88 (signed 16 (s.get R.HO_TEMP_T0)))
/-- y(T, d) of the model. -/
def State.hoY (s : State) (t d : Nat) : Nat :=
  let dt := s.hoDt t
  dotF [f64.ofInt 1, dt, f64.mul dt dt, d] s.tp.ho.a

/-- The coefficients as F32. -/
def State.hoShow (s : State) : State :=
  let c (w : Nat) : Nat := f64.convert f32 w
  let a := s.tp.ho.a
  let sf := f64.sqrt s.tp.ho.s2
  s.sets [(R.HO_COEF_0_A0, c (a.getD 0 0)), (R.HO_COEF_0_A1, c (a.getD 1 0)), (R.HO_COEF_1_A2, c (a.getD 2 0)),
    (R.HO_COEF_1_B, c (a.getD 3 0)), (R.HO_COEF_2_SIGF, c sf),
    (R.HO_COEF_2_SIGB, c (f64.mul sf (f64.sqrt (s.tp.ho.p.getD 15 0))))]

/-- One kept sample (R307): mean steering `y` and mean temperature `t` as binary64, `tq` the temperature in Q8.8. -/
def State.hoLearn (s : State) (y t : Nat) (tq : Int) : State :=
  let m := s.tp.ho
  let first := decide (m.nsamp = 0)
  let one := f64.ofInt 1
  let a := if first then [y, 0, 0, 0] else m.a
  let p := if first then [f64.ofInt 10000, 0, 0, 0, 0, f64.ofInt 100, 0, 0, 0, 0, one, 0, 0, 0, 0, f64.ofInt 100] else m.p
  let s2 := if first then 0 else m.s2
  let ep := if first then s.extNs else m.epoch
  let lam := f64.sub one (f64.ofRatio 1 (2 ^ s.get R.HO_CTRL_F))
  let dt := s.hoDt t
  let x := [one, dt, f64.mul dt dt, f64.ofRatio (s.extNs - ep) 86400000000000]
  let e := f64.sub y (dotF x a)
  let px := (List.range 4).map (fun i => dotF (rowF p i) x)
  let den := f64.add lam (dotF x px)
  let k := px.map (fun v => f64.div v den)
  let a' := (a.zip k).map (fun q => f64.add q.1 (f64.mul q.2 e))
  let xp := (List.range 4).map (fun j => dotF x ((List.range 4).map (fun i => p.getD (4 * i + j) 0)))
  let p' := (List.range 16).map (fun n => f64.div (f64.sub (p.getD n 0) (f64.mul (k.getD (n / 4) 0) (xp.getD (n % 4) 0))) lam)
  let s2' := f64.add (f64.mul lam s2) (f64.mul (f64.sub one lam) (f64.mul e e))
  let lo := match m.tmin with | some v => min v tq | none => tq
  let hi := match m.tmax with | some v => max v tq | none => tq
  let s1 := { s with tp := { s.tp with ho := ⟨a', p', s2', m.nsamp + 1, ep, some lo, some hi⟩ } }
  (s1.sets [(R.HO_STAT_TMIN, encode2 16 lo), (R.HO_STAT_TMAX, encode2 16 hi),
    (R.HO_STAT_MODEL_VALID, if 64 ≤ m.nsamp + 1 then 1 else s1.get R.HO_STAT_MODEL_VALID)]).hoShow

/-- HO_SAMPLE (R307): the learning interval ends. TMIN and TMAX take the mean temperature rounded to the Q8.8 of their fields, a rounding that the spec
leaves open (assumption 178). -/
def execHoSample (s : State) : Host.Outcome State Fault Refusal :=
  let c := s.tp.cur
  let s1 := ({ s with tp := { s.tp with cur := ⟨0, 0, 0, true⟩ } }).put R.HO_STAT_LEARN s.tickQualifies
  if s.has R.HO_CTRL_LEARN_EN && c.kept && decide (c.ticks ≠ 0) then
    done (s1.hoLearn (f64.ofRatio (c.dinc * 100) (c.ticks * 35184372)) (f64.ofRatio c.temp (c.ticks * 256)) (roundNear c.temp c.ticks))
  else done s1

/-- The temperature that steers (R309): the latest, or the last good one. -/
def State.hoTemp (s : State) : Int :=
  if s.has R.HO_STAT_TEMP_OK then signed 16 (s.get R.HO_STAT_TEMP_NOW) else s.tp.tempGood

/-- HO_STEER_UPDATE (R309). -/
def execHoSteerUpdate (s : State) : Host.Outcome State Fault Refusal :=
  if !s.inHoldover then done s
  else if !s.has R.HO_STAT_MODEL_VALID then done (s.pushAdj (.dinc (s.integ + s.tp.pLast)))
  else match f64.scaled (s.hoY (q88 s.hoTemp) s.hoAge) 35184372 100 with
    | some d => done (s.pushAdj (.dinc (signed 40 (encode2 40 d))))
    | none =>
      let f := s.fresh 10
      done (f.2.pushAdj (.dinc (signed 40 f.1)))

/-- KC as a number, SIGF and SIGB of R310. -/
def State.hoKc (s : State) : Nat := f64.ofRatio (s.get R.HO_CTRL_KC) 16
def State.hoSigf (s : State) : Nat := if s.has R.HO_STAT_MODEL_VALID then f64.sqrt s.tp.ho.s2 else f64.ofInt 1
def State.hoSigb (s : State) : Nat :=
  if s.has R.HO_STAT_MODEL_VALID then f64.mul (f64.sqrt s.tp.ho.s2) (f64.sqrt (s.tp.ho.p.getD 15 0)) else f64.ofInt 1

/-- s_T of R310. -/
def State.hoST (s : State) : Nat :=
  match s.tp.ho.tmin, s.tp.ho.tmax with
  | some lo, some hi =>
    if !s.has R.HO_STAT_MODEL_VALID then 0
    else
      let t := s.hoTemp
      let ok := s.has R.HO_STAT_TEMP_OK
      if ok ∧ lo ≤ t ∧ t ≤ hi then 0
      else
        let tb := if (t - lo).natAbs < (t - hi).natAbs then lo else hi
        let dist := if ok then q88 (t - tb).natAbs else f64.ofInt (s.get R.HO_TEMP_DT_ASSUME)
        let slope := f64.add (s.tp.ho.a.getD 1 0)
          (f64.mul (f64.mul (f64.ofInt 2) (s.tp.ho.a.getD 2 0)) (s.hoDt (q88 tb)))
        f64.mul (slope % f64.signBit) dist
  | _, _ => 0

/-- The remaining time of R310 in whole seconds. -/
def State.hoRemain (s : State) (tau e : Nat) : Nat :=
  let kc := s.hoKc
  let c2 := f64.div (f64.mul kc s.hoSigb) (f64.ofInt 86400)
  let c1 := f64.add (f64.add (f64.mul kc s.hoSigf) s.hoST) (f64.mul c2 (f64.ofInt tau))
  let left := f64.sub (f64.ofInt (s.get R.HO_CTRL_BUDGET)) e
  let x := if !f64.lt e (f64.ofInt (s.get R.HO_CTRL_BUDGET)) then 0
    else if c2 % f64.signBit = 0 then f64.div left c1
    else f64.div (f64.add (f64.neg c1) (f64.sqrt (f64.add (f64.mul c1 c1) (f64.mul (f64.mul (f64.ofInt 2) c2) left)))) c2
  match f64.floor x with
  | some i => min i.toNat (2 ^ 32 - 1)
  | none => 2 ^ 32 - 1

/-- HO_PREDICT (R310, R311): one second. -/
def execHoPredict (s : State) : Host.Outcome State Fault Refusal :=
  let held := s.has R.TP_STATUS_HELD
  let s1 :=
    if s.inHoldover then
      let kc := s.hoKc
      let mid := f64.ofRatio (2 * s.tp.tau + 1 : Nat) 2
      let r := f64.add (f64.add (f64.mul kc s.hoSigf) (f64.div (f64.mul (f64.mul kc s.hoSigb) mid) (f64.ofInt 86400))) s.hoST
      let t := ({ s with tp := { s.tp with tau := s.tp.tau + 1 } }).setEacc (f64.add s.tp.eacc r)
      let u := t.set R.HO_EACC_TAU (s.tp.tau + 1)
      u.hoSpent
    else s.setEacc s.eEntry
  let x := if held then 0 else s1.hoRemain (if s1.inHoldover then s1.tp.tau else 0) s1.tp.eacc
  done ((s1.put R.HO_STAT_REF_LOST held).post R.HO_PRED_REMAIN x)

/-- MODEL_CLR (R308). -/
def execModelClr (_src : SrcId) (s : State) : Host.Outcome State Fault Refusal := done ((s.commit R.HO_CTRL_MODEL_CLR.addr).hoClear.reply 0 0)

/-- A good temperature reading (R306). -/
def State.hoReading (s : State) (t : Int) : State :=
  ({ s with tp := { s.tp with pollFails := 0, tempGood := t } }).sets [(R.HO_STAT_TEMP_NOW, encode2 16 t), (R.HO_STAT_TEMP_OK, 1)]

/-- HO_TEMP_POLL (R306, R313, R595): the reading of the I²C device, or none where the poll failed. -/
def execHoTempPoll (reading : Option (BitVec 16)) (s : State) : Host.Outcome State Fault Refusal :=
  if s.get R.HO_TEMP_SRC ≠ 1 then done s
  else match (if s.mode0 = mRUN ∧ s.get (R.SP_CFG_MODE (s.get R.HO_TEMP_SP)) = 3 then reading else none) with
    | some v => done (s.hoReading (signed 16 v.toNat))
    | none =>
      let n := s.tp.pollFails + 1
      let s1 := { s with tp := { s.tp with pollFails := min n 3 } }
      done (if 3 ≤ n then s1.put R.HO_STAT_TEMP_OK false else s1)

/-- A write of HO_TEMP_WR (R306). -/
def State.hoTempWrite (s : State) (v : Nat) : State :=
  (if s.get R.HO_TEMP_SRC = 2 then s.hoReading (signed 16 v) else s).reply 0 0

/-- HO_TEMP_WR (R306). -/
def execHoTempWr (_src : SrcId) (data : BitVec 16) (s : State) : Host.Outcome State Fault Refusal :=
  done (s.hoTempWrite data.toNat)

/-- HO_TEMP_TIMEOUT (R306). -/
def execHoTempTimeout (s : State) : Host.Outcome State Fault Refusal :=
  if s.get R.HO_TEMP_SRC = 2 then done (s.put R.HO_STAT_TEMP_OK false) else done s

/-- A write of HO_CTRL (R307, R308, R310, R311). -/
def State.hoCtrlWrite (s : State) (v : Nat) : State :=
  if 10 < bits v 1 4 ∨ bits v 5 5 < 6 ∨ 20 < bits v 5 5 ∨ bits v 16 8 < 16 ∨ bits v 32 16 = 0 then s.reply 0x030A 0
  else
    let s1 := s.sets [(R.HO_CTRL_LEARN_EN, bit v 0), (R.HO_CTRL_L, bits v 1 4), (R.HO_CTRL_F, bits v 5 5),
      (R.HO_CTRL_KC, bits v 16 8), (R.HO_CTRL_BUDGET, bits v 32 16), (R.HO_CTRL_E0_FIX, bits v 48 16)]
    let s2 := if bit v 0 = 0 then (({ s1 with tp := { s1.tp with cur := ⟨0, 0, 0, true⟩ } }).put R.HO_STAT_LEARN false) else s1
    (if bit v 10 = 1 then s2.hoSpent.hoClear else s2.hoSpent).reply 0 0

/-- A write of HO_TEMP (R306): a change of source clears the model. -/
def State.hoTempCfgWrite (s : State) (v : Nat) : State :=
  if bits v 0 2 = 3 ∨ 71 < bits v 2 7 ∨ 9 < bits v 26 4 then s.reply 0x030A 0
  else
    let fs := [R.HO_TEMP_SRC, R.HO_TEMP_SENS, R.HO_TEMP_SP, R.HO_TEMP_ADDR, R.HO_TEMP_REG]
    let chg := fs.any (fun f => decide (s.get f ≠ bits v f.lo f.w))
    let s1 := (fs ++ [R.HO_TEMP_PER, R.HO_TEMP_T0, R.HO_TEMP_DT_ASSUME]).foldl (fun t f => t.set f (bits v f.lo f.w)) s
    (if chg then s1.hoClear else s1).reply 0 0

end Sys2Proof.Machine
end

