-- ==== Sys2Proof/Machine/Noc.lean ====
section
/-!
DEFINITION. The network on chip (chapter 11): routing tables and epochs, packets and flits, virtual channels with their buffers and credits, the bough port
with its bridge, drains and timeouts. What a port does with a request that reaches it stands in Access.lean.
-/
namespace Sys2Proof.Machine
open Sys2Proof

/-! Port 0 states (R359). -/
def p0OPEN : Nat := 0
def p0STALLED : Nat := 1
def p0DRAINING : Nat := 2
def p0ASLEEP : Nat := 3
def p0HELD : Nat := 4

def State.p0 (s : State) (b : Nat) : Nat := s.get (R.NOC_STATUS_P0 b)
def State.setP0 (s : State) (b st : Nat) : State := s.set (R.NOC_STATUS_P0 b) st

def nocErrAddr (r : Nat) : Nat := Config.rp r 3 + 0x20

/-- An entry of a router's NOC_ERR_POP, and its word. -/
def State.nocEntry (s : State) (code src tag : Nat) : Nat := code + src * 2 ^ 16 + tag * 2 ^ 24 + 2 ^ 30 + s.now32 * 2 ^ 32
def State.nocLog (s : State) (r code src tag : Nat) : State :=
  s.enqueue (nocErrAddr r) 16 (2 ^ 31) (s.nocEntry code src tag)

/-- Entry `d` of bank `e` of router `r` (R347). -/
def State.nocEnt (s : State) (r e d : Nat) : Nat := bits (s.get (R.NOC_TBL_ENT r e (d / 16))) (4 * (d % 16)) 3

/-- The router beyond a link (R339): 1 E, 2 W, 3 N, 4 S. -/
def linkTo (r dir : Nat) : Nat :=
  match dir with
  | 1 => r / 8 * 8 + (r + 1) % 8
  | 2 => r / 8 * 8 + (r + 7) % 8
  | 3 => (r + 8) % 64
  | _ => (r + 56) % 64

/-- Whether bank `e` is legal (R348); the first breach as (router, destination). -/
def State.tableBreach (s : State) (e : Nat) : Option (Nat × Nat) :=
  ((List.range 64).flatMap (fun r => (List.range 64).map (fun d => (r, d)))).find? (fun (r, d) =>
    let x := s.nocEnt r e d
    let nxt := linkTo r x
    !(if r = d then decide (x = 0)
      else if r % 8 = d % 8 then (x = 3 || x = 4) && (nxt = d || s.nocEnt nxt e d = x)
      else (x = 1 || x = 2) && (nxt % 8 = d % 8 || s.nocEnt nxt e d = x)))

/-! ## Outstanding requests and responses -/

def State.outstanding (s : State) (src tag : Nat) : Option NocReq :=
  s.noc.outst.find? (fun q => decide (q.src = src) && decide (q.tag = tag))
def State.dropOutst (s : State) (id : Nat) : State :=
  { s with noc := { s.noc with outst := s.noc.outst.filter (fun q => decide (q.id ≠ id)) } }
def State.pushRsp (s : State) (r : NocRsp) : State := { s with noc := { s.noc with rsps := s.noc.rsps ++ [r] } }

def State.bufOf (s : State) (b : Nat) : List NocReq := SMap.get s.noc.buf [] b
def State.setBuf (s : State) (b : Nat) (l : List NocReq) : State := { s with noc := { s.noc with buf := SMap.set s.noc.buf [] b l } }
def State.tableOf (s : State) (b : Nat) : List NocReq := SMap.get s.noc.table [] b
def State.setTable (s : State) (b : Nat) (l : List NocReq) : State := { s with noc := { s.noc with table := SMap.set s.noc.table [] b l } }
def State.rspInOf (s : State) (b : Nat) : List NocRsp := SMap.get s.noc.rspIn [] b
def State.setRspIn (s : State) (b : Nat) (l : List NocRsp) : State := { s with noc := { s.noc with rspIn := SMap.set s.noc.rspIn [] b l } }

/-- Words of a request's range (R341), and the 64-byte chunks that it touches. -/
def NocReq.words (q : NocReq) : Nat := q.last - q.waddr % 64 + 1
def NocReq.chunks (q : NocReq) : Nat := q.last / 16 - q.waddr % 64 / 16 + 1
/-- The flits of a request: one where it reads (R341). -/
def NocReq.flits (q : NocReq) : Nat := if q.wr then q.chunks else 1
/-- The flits of its response (R344). -/
def NocReq.rspFlits (q : NocReq) : Nat := if q.wr then 1 else q.chunks
/-- The byte address of the first word, its node and port. -/
def NocReq.addr (q : NocReq) : Nat := q.waddr * 4
def NocReq.node (q : NocReq) : Nat := q.waddr / 2 ^ 36 % 64
def NocReq.port (q : NocReq) : Nat := q.waddr / 2 ^ 34 % 4

/-- The index, among the words of a range that begins at word `first` of its region, of word `i` of flit `k`; none outside the range (R341). -/
def flitWord (first words k i : Nat) : Option Nat :=
  let w := (first / 16 + k) * 16 + i
  if first ≤ w ∧ w < first + words then some (w - first) else none

/-- Flit `k` of a request as the bridge offers it (R340, R341); a read's payload is ignored, and so are words outside the range. -/
def NocReq.flit (q : NocReq) (b k : Nat) : OutItem :=
  .flit (4 * b) (q.waddr + q.last * 2 ^ 42 + ofFlag q.wr * 2 ^ 48 + q.epoch * 2 ^ 49 + q.tag * 2 ^ 50 + q.src * 2 ^ 56)
    ((List.range 16).map (fun i => if q.wr then (flitWord (q.waddr % 64) q.words k i).map (fun j => q.data.getD j 0) else none))

/-- The response of a port to a request (R343, R344): an error carries a payload of 0. Its epoch is stamped at injection. -/
def NocReq.answer (q : NocReq) (resp status : Nat) (data : List Nat) : NocRsp :=
  ⟨q.id, q.src, resp, status, q.tag, q.wr, 0, q.waddr % 64, if q.wr then [] else if status = 0 then data else List.replicate q.words 0⟩

/-- The flits of a response (R344). -/
def NocRsp.flits (r : NocRsp) : Nat := if r.wr then 1 else (r.first + r.data.length - 1) / 16 - r.first / 16 + 1

/-- Flit `k` of a response (R343, R344). -/
def NocRsp.flit (r : NocRsp) (b k : Nat) : OutItem :=
  .flit (4 * b) (r.dest + r.resp * 2 ^ 8 + r.status * 2 ^ 16 + r.tag * 2 ^ 32 + ofFlag r.wr * 2 ^ 38 + r.epoch * 2 ^ 39 + k * 2 ^ 40
      + ofFlag (decide (k + 1 = r.flits)) * 2 ^ 42)
    ((List.range 16).map (fun i => some (((flitWord r.first r.data.length k i).map (fun j => r.data.getD j 0)).getD 0)))

/-- A port has a response to a request ready. -/
def State.respond (s : State) (q : NocReq) (resp status : Nat) (data : List Nat) : State := s.pushRsp (q.answer resp status data)

/-- The flits of a list of requests, and of a list of responses. -/
def reqFlits (l : List NocReq) : Nat := l.foldl (fun a q => a + q.flits) 0
def rspFlits (l : List NocRsp) : Nat := l.foldl (fun a r => a + r.flits) 0

/-- Flits that the bridge's REQ_IN and RSP_IN buffers hold (R356). -/
def State.reqInFlits (s : State) (b : Nat) : Nat := reqFlits (s.bufOf b) - SMap.get s.noc.reqTaken 0 b
def State.rspInFlits (s : State) (b : Nat) : Nat := rspFlits (s.rspInOf b) - SMap.get s.noc.rspTaken 0 b

/-- A response reaches the fabric's RSP_IN, unless responses are being discarded there (R358, R359). -/
def State.owe (s : State) (b : Nat) (r : NocRsp) : State :=
  if s.p0 b = p0ASLEEP ∨ s.p0 b = p0HELD then (s.bump (R.NOC_CNT_LATE b) 1).dropOutst r.id
  else if s.noc.dropping.contains b then (s.nocLog b 0x0208 (4 * b) r.tag).dropOutst r.id
  else s.setRspIn b (s.rspInOf b ++ [r])

/-- A number from 32-bit words, the first the least significant. -/
def joinWords (l : List Nat) : Nat := l.foldr (fun w a => w % 2 ^ 32 + a * 2 ^ 32) 0

/-- A retire mark reaches the router that injected a packet (R365). -/
def State.oldFall (s : State) (r epoch : Nat) : State :=
  let n := s.get (R.NOC_STATUS_OLDCNT r)
  if epoch = s.get (R.NOC_STATUS_EPOCH r) ∨ n = 0 then s
  else
    let s1 := s.set (R.NOC_STATUS_OLDCNT r) (n - 1)
    if n = 1 then s1.set R.NOC_EPOCH_OLD_OLD (s1.get R.NOC_EPOCH_OLD_OLD - 2 ^ r) else s1

/-! ## Packets -/

def NocPkt.flits (p : NocPkt) : Nat := match p.body with | .req q => q.flits | .rsp r => r.flits
/-- 0 a request, 1 a response: the upper bit of its VC (R346). -/
def NocPkt.kind (p : NocPkt) : Nat := match p.body with | .req _ => 0 | .rsp _ => 1
/-- Destination node and port (R347). -/
def NocPkt.node (p : NocPkt) : Nat := match p.body with | .req q => q.node | .rsp r => r.dest / 4 % 64
def NocPkt.port (p : NocPkt) : Nat := match p.body with | .req q => q.port | .rsp r => r.dest % 4
def NocPkt.epoch (p : NocPkt) : Nat := match p.body with | .req q => q.epoch | .rsp r => r.epoch
/-- The source identifier of the port that injects it. -/
def NocPkt.from (p : NocPkt) : Nat := match p.body with | .req q => q.src | .rsp r => r.resp
/-- The source identifier and tag that a log entry about it names: those of its request. -/
def NocPkt.src (p : NocPkt) : Nat := match p.body with | .req q => q.src | .rsp r => r.dest
def NocPkt.tag (p : NocPkt) : Nat := match p.body with | .req q => q.tag | .rsp r => r.tag
def NocPkt.vc (p : NocPkt) (cls : Nat) : Nat := 2 * p.kind + cls
/-- The packet with the epoch that its injecting router stamps. -/
def NocPkt.stamp (p : NocPkt) (e : Nat) : NocPkt :=
  { p with body := match p.body with | .req q => .req { q with epoch := e } | .rsp r => .rsp { r with epoch := e } }

/-- A packet joins those that wait at their source's port to be injected. -/
def State.queuePkt (s : State) (p : NocPkt) : State :=
  let k := 2 * p.from + p.kind
  { s with noc := { s.noc with inj := SMap.set s.noc.inj [] k (SMap.get s.noc.inj [] k ++ [p]) } }

/-- A packet dropped for its header (R354). -/
def State.hdrDrop (s : State) (r src tag : Nat) : State :=
  ((s.bump (R.NOC_CNT_HDR_UNC r) 1).nocLog r 0x0230 src tag).raise 0x0230 r (s.nocEntry 0x0230 src tag)

/-- A response that no request waits for any more (R363). -/
def State.lateRsp (s : State) (r : NocRsp) : State :=
  (s.bump (R.NOC_CNT_LATE (r.dest / 4)) 1).nocLog (r.dest / 4) 0x020A r.resp r.tag

/-! ## The bough port -/

/-- Whether a bough's image enables its NoC attachment (R356, R519). -/
def State.nocOn (s : State) (b : Nat) : Bool := decide (bit (s.af b 0 40 1) 72 = 1)
def State.nocClk (s : State) (b : Nat) : Nat := bits (s.af b 0 40 1) 73 4
/-- Whether the bridge sees edges of NOC_CLK. -/
def State.bridgeClocked (s : State) (b : Nat) : Bool :=
  s.running b && s.has (R.BCK_RUN b (s.nocClk b)) && s.gclLive (s.get (R.BCK_SRC b (s.nocClk b)))

/-! ## The network (R346 to R354) -/

def State.nocBuf (s : State) (k : Nat) : List NocPkt := SMap.get s.noc.bufs [] k
def State.nocCred (s : State) (k : Nat) : Nat := SMap.get s.noc.cred 8 k
/-- A buffer's packets and its sender's credits change together. -/
def State.setNocBuf (s : State) (k : Nat) (l : List NocPkt) (cred : Nat) : State :=
  { s with noc := { s.noc with bufs := SMap.set s.noc.bufs [] k l, cred := SMap.set s.noc.cred 8 k cred } }

/-- The router at whose input buffer `bid` stands; none for a local port's receive buffer. -/
def bufRouter (bid : Nat) : Option Nat :=
  if 512 ≤ bid then some ((bid - 512) / 4) else if bid % 8 < 4 then none else some (linkTo (bid / 8) (bid % 8 - 3))

/-- The buffer beyond the output by which a packet leaves the router that holds it, and its dateline class there (R347, R350); none where the tables lead
nowhere. -/
def State.nocNext (s : State) (bid : Nat) (p : NocPkt) : Option (Nat × Nat) :=
  match bufRouter bid with
  | none => none
  | some r =>
    match s.nocEnt r p.epoch p.node with
    | 0 => some (8 * r + p.port, p.cls)
    | dir =>
      if 5 ≤ dir then none
      else
        let turns := decide (bid < 512) && decide (bid % 8 < 6) && decide (3 ≤ dir)
        let wraps := (decide (dir = 1) && decide (r % 8 = 7)) || (decide (dir = 2) && decide (r % 8 = 0))
          || (decide (dir = 3) && decide (r / 8 = 7)) || (decide (dir = 4) && decide (r / 8 = 0))
        some (8 * r + 3 + dir, if wraps then 1 else if turns then 0 else p.cls)

/-- A packet that could leave its buffer now: the buffer's key, the packet, the output's buffer and the class there. -/
structure NocMove where
  key : Nat
  pkt : NocPkt
  out : Nat
  cls : Nat
deriving DecidableEq, Repr

/-- The packets at the heads of router inputs for whose every flit there are credits (R352). -/
def State.nocReady (s : State) : List NocMove :=
  s.noc.bufs.filterMap (fun (e : Nat × List NocPkt) =>
    match e.2 with
    | [] => none
    | p :: _ => match s.nocNext (e.1 / 4) p with
      | none => none
      | some (o, c) => if p.flits ≤ s.nocCred (4 * o + p.vc c) then some ⟨e.1, p, o, c⟩ else none)

/-- Which of the packets ready for an output is served (R352): responses before requests, but after eight responses in a row one request; among
inputs of one kind in turn. -/
def State.nocPick (s : State) (o : Nat) (ms : List NocMove) : Option NocMove :=
  let next (kind : Nat) : Option NocMove :=
    let l := ms.filter (fun m => decide (m.pkt.kind = kind))
    (l.find? (fun m => decide (SMap.get s.noc.served 0 (2 * o + kind) ≤ m.key))).orElse (fun _ => l.head?)
  if ms.all (fun m => decide (m.pkt.kind = 0)) || (decide (8 ≤ SMap.get s.noc.inRow 0 o) && ms.any (fun m => decide (m.pkt.kind = 0))) then next 0
  else next 1

/-- A router answers or drops a packet, or the packet reaches its port buffer: the retire mark (R365). -/
def State.retire (s : State) (p : NocPkt) : State := s.oldFall (p.from / 4) p.epoch

/-- The words of a packet after a change of the payload of one of its flits; words outside the range are lost on the way. -/
def NocPkt.flip (p : NocPkt) (flit quarter err : Nat) : NocPkt :=
  let change (first : Nat) (l : List Nat) : List Nat := (List.range 4).foldl (fun a i =>
    match flitWord first l.length flit (4 * quarter + i) with
    | some j => a.set j (a.getD j 0 ^^^ bits err (32 * i) 32)
    | none => a) l
  { p with body := match p.body with
      | .req q => .req { q with data := if q.wr then change (q.waddr % 64) q.data else q.data }
      | .rsp r => .rsp { r with data := change r.first r.data } }

/-- What router `r` finds in a packet at its input (R354): none where its header is uncorrectable, and it is dropped. -/
def State.nocInput (s : State) (r : Nat) (p : NocPkt) : State × Option NocPkt :=
  match p.upset with
  | none => (s, some p)
  | some (.header x double) =>
    if x.val ≠ r then (s, some p)
    else if double then ((s.hdrDrop r p.src p.tag).retire p, none)
    else (s, some { p with upset := none })
  | some (.payload x flit quarter flips) =>
    if x.val ≠ r ∨ p.flits ≤ flit then (s, some p)
    else
      let d := symDecode flips.toNat
      if d.kind = 2 then ((s.bump (R.NOC_CNT_POISON r) 1).raise 0x0231 r 0, some { p with upset := none, poison := true })
      else (s, some { p.flip flit quarter (symFix flips.toNat d % 2 ^ 128) with upset := none })

/-- A request reaches port 0 (R356, R359): answered, or kept in the port's buffer. -/
def State.p0Land (s : State) (b k : Nat) (p : NocPkt) (q : NocReq) : State :=
  let keep := s.setNocBuf k (s.nocBuf k ++ [p]) (s.nocCred k - p.flits)
  if s.p0 b = p0HELD then keep
  else if s.p0 b = p0ASLEEP ∨ s.p0 b = p0DRAINING then (s.bump (R.NOC_CNT_ASLEEP b) 1).respond q (4 * b + 3) 0x0202 []
  else if !s.nocOn b then s.respond q (4 * b + 3) 0x0201 []
  else if s.p0 b = p0STALLED then s.respond q (4 * b + 3) 0x0208 []
  else keep

/-- A packet moves into the buffer `bid` with its class there. -/
def State.nocLand (s : State) (bid : Nat) (p : NocPkt) : State :=
  let k := 4 * bid + p.vc p.cls
  match bufRouter bid with
  | some r => match s.nocInput r p with
    | (t, none) => t
    | (t, some u) => t.setNocBuf k (t.nocBuf k ++ [u]) (t.nocCred k - u.flits)
  | none => match p.body with
    | .req q => if bid % 8 = 0 then (s.retire p).p0Land (bid / 8) k p q
      else (s.retire p).setNocBuf k (s.nocBuf k ++ [p]) (s.nocCred k - p.flits)
    | .rsp _ => (s.retire p).setNocBuf k (s.nocBuf k ++ [p]) (s.nocCred k - p.flits)

/-- The head of a buffer leaves it, and its slots' credits go back to the sender (R353). -/
def State.nocPop (s : State) (k : Nat) (p : NocPkt) : State := s.setNocBuf k ((s.nocBuf k).drop 1) (s.nocCred k + p.flits)

/-- A packet is served at an output. -/
def State.nocShift (s : State) (m : NocMove) : State :=
  let k := m.pkt.kind
  let t := { s with noc := { s.noc with
      served := SMap.set s.noc.served 0 (2 * m.out + k) (m.key + 1)
      inRow := SMap.set s.noc.inRow 0 m.out (if k = 0 then 0 else SMap.get s.noc.inRow 0 m.out + 1) } }
  (t.nocPop m.key m.pkt).nocLand m.out { m.pkt with cls := m.cls }

/-- Each output of the crown serves one packet of those that are ready. -/
def State.nocHop (s : State) : State :=
  let ms := s.nocReady
  ((ms.map (fun m => m.out)).eraseDups).foldl (fun (t : State) o =>
    match t.nocPick o (ms.filter (fun m => decide (m.out = o))) with
    | some m => t.nocShift m
    | none => t) s

/-- A waiting packet is injected (R340, R341, R350): the router stamps its epoch, and answers a malformed request itself. -/
def State.nocInject (s : State) (k : Nat) (p0 : NocPkt) : State :=
  let port := k / 2
  let p := p0.stamp (s.get (R.NOC_STATUS_EPOCH (port / 4)))
  let go := { s with noc := { s.noc with inj := SMap.set s.noc.inj [] k ((SMap.get s.noc.inj [] k).drop 1) } }
  match p.body with
  | .req q => if q.last < q.waddr % 64 then go.respond q (port / 4 * 4 + 3) 0x0203 [] else go.nocLand (512 + port) p
  | .rsp _ => go.nocLand (512 + port) p

/-- Ports whose first waiting packet can be injected: its router holds a buffer for it, or answers it. -/
def State.nocInjects (s : State) : List (Nat × NocPkt) :=
  s.noc.inj.filterMap (fun (e : Nat × List NocPkt) =>
    match e.2 with
    | [] => none
    | p :: _ => if p.flits ≤ s.nocCred (4 * (512 + e.1 / 2) + p.vc 0) then some (e.1, p) else none)

/-- The old-epoch packets of router `r` on their way (R365). -/
def State.inFlight (s : State) (r epoch : Nat) : Nat :=
  s.noc.bufs.foldl (fun a (e : Nat × List NocPkt) =>
    if (bufRouter (e.1 / 4)).isNone then a
    else a + (e.2.filter (fun p => decide (p.from / 4 = r) && decide (p.epoch = epoch))).length) 0

/-! ## Epochs -/

def State.epochPost (s : State) (code r d : Nat) : State :=
  ((s.sets [(R.NOC_EPOCH_RESULT_ROUTER, r), (R.NOC_EPOCH_RESULT_DEST, d)]).post R.NOC_EPOCH_RESULT_STATUS code).reply 0 0

/-- A write of NOC_EPOCH_CMD (R364, R366, R368). -/
def State.epochCmd (s : State) (src : Nat) (go : Bool) : State :=
  if !s.srcTp src then s.epochPost 0x020D 0 0
  else if !go then s.epochPost 0 0 0
  else if s.has R.NOC_EPOCH_BUSY then s.epochPost 0x0210 0 0
  else
    let e' := 1 - s.get R.NOC_EPOCH_CUR
    match s.tableBreach e' with
    | some (r, d) => s.epochPost 0x0211 r d
    | none =>
      let s1 := (List.range 64).foldl (fun (t : State) r =>
        let n := s.inFlight r (1 - e')
        t.sets [(R.NOC_STATUS_EPOCH r, e'), (R.NOC_STATUS_CHANGING r, 1), (R.NOC_STATUS_OLDCNT r, n),
          (R.NOC_EPOCH_OLD_OLD, t.get R.NOC_EPOCH_OLD_OLD + (if n = 0 then 0 else 2 ^ r))]) (s.set R.NOC_EPOCH_OLD_OLD 0)
      ((s1.put R.NOC_EPOCH_BUSY true).expect R.NOC_EPOCH_RESULT_STATUS).reply 0 0

/-- EPOCH_GO (R364). -/
def execEpochGo (src : SrcId) (s : State) : Host.Outcome State Fault Refusal := done (s.epochCmd src true)

/-- EPOCH_CHANGE_COMPLETE (R364 step 6). -/
def execEpochChangeComplete (s : State) : Host.Outcome State Fault Refusal :=
  if !s.has R.NOC_EPOCH_BUSY || decide (s.get R.NOC_EPOCH_OLD_OLD ≠ 0) then done s
  else
    let s1 := (List.range 64).foldl (fun t r => t.put (R.NOC_STATUS_CHANGING r) false) s
    let s2 := s1.sets [(R.NOC_EPOCH_CUR, 1 - s1.get R.NOC_EPOCH_CUR), (R.NOC_EPOCH_BUSY, 0), (R.NOC_EPOCH_RESULT_ROUTER, 0),
      (R.NOC_EPOCH_RESULT_DEST, 0)]
    done ((s2.post R.NOC_EPOCH_RESULT_STATUS 0).raise 0x0220 0 0)

/-- A write of NOC_TBL_e_w (R366, R367). -/
def State.nocTblWrite (s : State) (src b e w v : Nat) : State :=
  if !s.srcTp src then s.reply 0x020D 0
  else if s.get (R.NOC_STATUS_EPOCH b) = e then s.reply 0x0212 0
  else if (List.range 16).any (fun j => decide (4 < bits v (4 * j) 4)) then s.reply 0x0211 0
  else (s.set (R.NOC_TBL_ENT b e w) v).reply 0 0

/-- NOC_TBL_WRITE (R366). -/
def execNocTblWrite (src : SrcId) (b : BoughId) (bank : Fin 2) (w : Fin 4) (data : Word64) (s : State) :
    Host.Outcome State Fault Refusal :=
  done ((s.commit (R.NOC_TBL_ENT b bank w).addr).nocTblWrite src b bank w data.toNat)

/-- A write of NOC_CTRL (R367). -/
def State.nocCtrlWrite (s : State) (src b v : Nat) : State :=
  if !s.srcTp src then s.reply 0x020D 0
  else if bits v 0 16 = 0 ∨ bits v 16 8 = 0 ∨ bits v 24 8 = 0 then s.reply 0x020C 0
  else (s.sets [(R.NOC_CTRL_RSP_TO b, bits v 0 16), (R.NOC_CTRL_ACC_TO b, bits v 16 8), (R.NOC_CTRL_DRAIN_TO b, bits v 24 8)]).reply 0 0

/-- A write of NOC_CNT_CLR (R367). -/
def State.nocCntClr (s : State) (src b : Nat) (clr : Bool) : State :=
  if !s.srcTp src then s.reply 0x020D 0
  else (if clr then s.setWord [R.NOC_CNT_ASLEEP b, R.NOC_CNT_TIMEOUT b, R.NOC_CNT_LATE b, R.NOC_CNT_HDR_UNC b, R.NOC_CNT_POISON b] 0
    else s).reply 0 0

/-- NOC_CNT_CLR (R367). -/
def execNocCntClr (src : SrcId) (b : BoughId) (s : State) : Host.Outcome State Fault Refusal := done (s.nocCntClr src b true)

/-- NOC_ERR_POP (R22, R367). -/
def execNocErrPop (b : BoughId) (s : State) : Host.Outcome State Fault Refusal := done (s.popRead (nocErrAddr b))

/-! ## Books (R353) -/

/-- The input link of router `r` on side `l` (0 E, 1 W, 2 N, 3 S) is the far end of its neighbour's output toward it. -/
def linkIn (r l : Nat) : Nat := 8 * linkTo r (l + 1) + 4 + (if l % 2 = 0 then l + 1 else l - 1)

/-- Occupied slots of VC `v` at a buffer. -/
def State.nocOcc (s : State) (bid v : Nat) : Nat := (s.nocBuf (4 * bid + v)).foldl (fun a p => a + p.flits) 0

/-- NOC_LINK_l (R367): no credit is in return between two commands, since its two NoC cycles pass within one. -/
def State.nocLinkWord (s : State) (r l : Nat) : Nat :=
  (List.range 4).foldl (fun a v => a + (s.nocCred (4 * (8 * r + 4 + l) + v) + s.nocOcc (linkIn r l) v * 2 ^ 4) * 2 ^ (16 * v)) 0

/-! ## The bough port: drains, holds, releases -/

/-- Requests and responses in the receive buffers of port 0. -/
def State.p0Reqs (s : State) (b : Nat) : List NocReq :=
  (s.nocBuf (32 * b) ++ s.nocBuf (32 * b + 1)).filterMap (fun p => match p.body with | .req q => some q | .rsp _ => none)
def State.p0Rsps (s : State) (b : Nat) : List NocRsp :=
  (s.nocBuf (32 * b + 2) ++ s.nocBuf (32 * b + 3)).filterMap (fun p => match p.body with | .rsp r => some r | .req _ => none)
/-- Empties receive buffers of port 0: of requests (`kind` 0) or of responses (1). -/
def State.p0Flush (s : State) (b kind : Nat) : State :=
  [32 * b + 2 * kind, 32 * b + 2 * kind + 1].foldl (fun t k => t.setNocBuf k [] 8) s

/-- Whether nothing remains at port 0 in either direction (R360 step 2). -/
def State.p0Empty (s : State) (b : Nat) : Bool :=
  (s.bufOf b).isEmpty && (s.tableOf b).isEmpty && (s.rspInOf b).isEmpty && (s.p0Reqs b).isEmpty && (s.p0Rsps b).isEmpty
    && (SMap.get s.noc.inj [] (8 * b)).isEmpty && (SMap.get s.noc.partReq none b).isNone
    && !s.noc.rsps.any (fun r => decide (r.resp = 4 * b)) && !s.noc.outst.any (fun q => decide (q.src = 4 * b))

/-- The requests that the fabric has not answered: in the port's buffers, in the bridge (the head of REQ_IN stands in the table once a flit of it was taken), in the table. -/
def State.p0Pending (s : State) (b : Nat) : List NocReq :=
  (s.bufOf b).drop (if SMap.get s.noc.reqTaken 0 b = 0 then 0 else 1) ++ s.tableOf b

/-- The head of REQ_IN leaves where the fabric has taken only part of it, and a response that it gave only in part is dropped. -/
def State.p0Cut (s : State) (b : Nat) : State :=
  let t := if SMap.get s.noc.reqTaken 0 b = 0 then s else s.setBuf b ((s.bufOf b).drop 1)
  { t with noc := { t.noc with reqTaken := SMap.set t.noc.reqTaken 0 b 0, partRsp := SMap.set t.noc.partRsp none b none } }

/-- Frees every tag that the fabric has outstanding, and discards a request of which it gave only part; responses that wait for it, and later ones, count in
LATE (R359, R360, R362). -/
def State.freeFabricTags (s : State) (b : Nat) : State :=
  let n := (s.rspInOf b).length + (s.p0Rsps b).length
  let t := ((s.bump (R.NOC_CNT_LATE b) n).p0Flush b 1).setRspIn b []
  { t with noc := { t.noc with
    outst := t.noc.outst.filter (fun q => decide (q.src ≠ 4 * b))
    rspTaken := SMap.set t.noc.rspTaken 0 b 0
    partReq := SMap.set t.noc.partReq none b none } }

/-- Step 1 of R360. -/
def State.drainStart (s : State) (b : Nat) : State :=
  if s.p0 b = p0OPEN ∨ s.p0 b = p0STALLED then
    { s with noc := { s.noc with timedOut := s.noc.timedOut.filter (fun k => decide (k ≠ b)) } }.setP0 b p0DRAINING
  else s

/-- Step 3 of R360. -/
def State.drainAbort (s : State) (b : Nat) : State :=
  if s.p0 b ≠ p0DRAINING ∨ s.p0Empty b then s
  else
    let s1 := (s.p0Reqs b ++ s.p0Pending b).foldl (fun (t : State) q => t.respond q (4 * b + 3) 0x0205 []) (s.p0Flush b 0)
    let s2 := ((s1.setBuf b []).p0Cut b).setTable b []
    { s2 with noc := { s2.noc with timedOut := b :: s2.noc.timedOut } }.freeFabricTags b

/-- Step 4 of R360. After an abort what the fabric had given whole to the bridge still goes out, and holds nothing up. -/
def State.drainEnd (s : State) (b : Nat) : State :=
  if s.p0 b ≠ p0DRAINING then s
  else if s.noc.timedOut.contains b then
    ({ s with noc := { s.noc with timedOut := s.noc.timedOut.filter (fun k => decide (k ≠ b)) } }.setP0 b p0ASLEEP).raise 0x0222 b 0
  else if s.p0Empty b then (s.setP0 b p0ASLEEP).raise 0x0221 b 0
  else s

/-- A drain that runs with DRAIN_TO = 0, or to its end (R360). -/
def State.drainNow (s : State) (b : Nat) : State := ((s.drainStart b).drainAbort b).drainEnd b

/-- The port at a swap's freeze (R362). -/
def State.p0Hold (s : State) (b : Nat) : State :=
  if s.p0 b = p0OPEN ∨ s.p0 b = p0STALLED then
    let s1 := (s.tableOf b).foldl (fun (t : State) q => t.respond q (4 * b + 3) 0x0206 []) s
    (((s1.p0Cut b).setTable b []).freeFabricTags b).setP0 b p0HELD
  else s

/-- The port at a release (R360, R362). A design without its NoC attachment answers what waits in the bridge as R356 says of every request. -/
def State.p0Open (s : State) (b : Nat) : State :=
  let t := s.setP0 b p0OPEN
  if s.nocOn b then t
  else ((s.bufOf b).foldl (fun (u : State) q => u.respond q (4 * b + 3) 0x0201 []) t).setBuf b []

/-- A hold ends outside RUN (R359, R370): the port is ASLEEP, and what waited there is answered as R360 step 3 answers what remains. -/
def State.p0Lapse (s : State) (b : Nat) : State :=
  if s.p0 b ≠ p0HELD then s
  else
    let s1 := (s.p0Reqs b ++ s.bufOf b).foldl (fun (t : State) q => t.respond q (4 * b + 3) 0x0205 []) (s.p0Flush b 0)
    (s1.setBuf b []).setP0 b p0ASLEEP

end Sys2Proof.Machine
end

