-- ==== Sys2Proof/Machine/Lanes.lean ====
section
/-!
DEFINITION. The serial lanes, their quad PLLs, equalisers, eye scan, PRBS, the lane link and the converter links with their
stream engines (chapter 13).
-/
namespace Sys2Proof.Machine
open Sys2Proof

/-! Lane states (R399). -/
def lnOFF : Nat := 0
def lnIDLE : Nat := 1
def lnDETECT : Nat := 2
def lnTRAIN : Nat := 3
def lnLOCK : Nat := 4
def lnCAPS : Nat := 5
def lnACTIVE : Nat := 6
def lnFAIL : Nat := 7

def PrbsChk.reset : PrbsChk := ⟨0, 0, 0, 0, 0⟩
def Lane.reset : Lane := ⟨none, 0, 0, PrbsChk.reset, false, 0, 0, 0, 0⟩
def State.lane (s : State) (n : Nat) : Lane := SMap.get s.lanes Lane.reset n
def State.setLane (s : State) (n : Nat) (l : Lane) : State := { s with lanes := SMap.set s.lanes Lane.reset n l }

def Stream.reset : Stream := ⟨[], [], false, false, [], false, [], 0, false, false, false, 0, 0, true, true, false, 0, 0, 0, [], [], 0⟩
def State.stream (s : State) (q : Nat) : Stream := SMap.get s.streams Stream.reset q
def State.setStream (s : State) (q : Nat) (x : Stream) : State := { s with streams := SMap.set s.streams Stream.reset q x }

def State.lnState (s : State) (n : Nat) : Nat := s.get (R.LN_STAT_STATE n)
def State.lnMode (s : State) (n : Nat) : Nat := s.get (R.LN_CFG_MODE n)

/-- Lanes of Q_8 and Q_9, which the host link drives (R392). -/
def hostLane (n : Nat) : Bool := n / 8 = 4

/-- Frequency in kHz of LREF_k. -/
def State.lrefKhz (s : State) (q : Nat) : Nat := SMap.get s.lref 156250 q

/-- The quad whose LREF a REFSEL names (R394); none outside the quad's group. -/
def refQuad (q refsel : Nat) : Option Nat :=
  match refsel with
  | 0 => some q
  | 1 => if q = 0 ∨ q = 8 then none else some (q - 1)
  | 2 => if q = 7 ∨ q = 11 then none else some (q + 1)
  | _ => none

/-- Frequency of a quad PLL (R394) as a ratio in kHz: numerator and denominator. -/
def State.quadFreq (s : State) (q j : Nat) : Nat × Nat :=
  (s.lrefKhz ((refQuad q (s.get (R.QD_PLL_REFSEL q j))).getD q) * (s.get (R.QD_PLL_N q j) * 2 ^ 24 + s.get (R.QD_PLL_FRAC q j)),
   s.get (R.QD_PLL_M q j) * 2 ^ 24)

/-- Whether a word of QD_PLL is in range (R394). -/
def State.quadLegal (s : State) (q v : Nat) : Bool :=
  let m := bits v 8 3
  let n := bits v 16 8
  match refQuad q (bits v 0 2) with
  | none => false
  | some rq =>
    let f := s.lrefKhz rq
    let fq := f * (n * 2 ^ 24 + bits v 24 24)
    let den := m * 2 ^ 24
    1 ≤ m && m ≤ 4 && 16 ≤ n && 50000 * m ≤ f && f ≤ 400000 * m
      && (if q < 8 then 10000000 * den ≤ fq && fq ≤ 28000000 * den else 5000000 * den ≤ fq && fq ≤ 16375000 * den)

/-- The quad PLL that a lane uses, and whether it is locked. -/
def State.lnPll (s : State) (n : Nat) : Nat := s.get (R.LN_CFG_PLL n)
def State.lnPllOk (s : State) (n : Nat) : Bool := s.has (R.QD_PLL_LOCK (n / 4) (s.lnPll n))

/-- Lanes of quad `q` that use PLL `j` and are not in OFF. -/
def State.quadUsers (s : State) (q j : Nat) : List Nat :=
  [4 * q, 4 * q + 1, 4 * q + 2, 4 * q + 3].filter (fun n => decide (s.lnState n ≠ lnOFF) && decide (s.lnPll n = j))

/-- Whether the host link runs its quads: the strap HL_EN (R461) outside OFF and STANDBY (R424). -/
def State.hostQuads (s : State) : Bool := decide (bit s.mode.straps 5 = 1) && !s.inMode [mOFF, mSTANDBY]

/-- Whether lanes of `n`'s quad run in the present mode (R424); those of the host link are electrically idle while PERST_L is low (R462). -/
def State.lnRuns (s : State) (n : Nat) : Bool := if hostLane n then s.hostQuads && s.pins.perstL else s.inMode [mRUN]

/-- Bring-up leaves IDLE (R399): DETECT when TX_EN = 1, and TRAIN at once without receiver detection. -/
def State.laneSettle (s : State) (n : Nat) : State :=
  if s.lnState n = lnIDLE ∧ s.has (R.LN_CFG_TX_EN n) ∧ s.lnPllOk n ∧ s.lnMode n ≠ 0 ∧ s.lnRuns n then
    s.set (R.LN_STAT_STATE n) (if s.has (R.LN_CFG_DET_EN n) then lnDETECT else lnTRAIN)
  else s

/-- The checker loses lock; its counters stay (R401). -/
def State.chkReseed (s : State) (n : Nat) : State :=
  (s.setLane n { s.lane n with chk := PrbsChk.reset }).put (R.LN_PRBS_BITS_LOCK n) false

/-- Whether quad 10 + q runs a converter link, and which JS_CFG governs it (R416): with L = 8 that of Q_10. -/
def State.jsGov (s : State) (q : Nat) : Option Nat :=
  if s.get (R.ST_CFG_USE (10 + q)) ≠ 1 then none
  else if s.has (R.JS_CFG_EN (10 + q)) then some (10 + q)
  else if q = 1 ∧ s.has (R.JS_CFG_EN 10) ∧ s.get (R.JS_CFG_LCODE 10) = 3 ∧ s.get (R.ST_CFG_USE 10) = 1 then some 10
  else none

/-- A lane of a 204B receive quad has no code-group sync any more: JSYNC_O is held low (R418). -/
def State.jsyncHold (s : State) (n : Nat) : State :=
  match (if 40 ≤ n then s.jsGov (n / 4 - 10) else none) with
  | some g =>
    if s.has (R.JS_CFG_VER g) || s.has (R.JS_CFG_DIR g) then s
    else s.setStream (n / 4 - 10) { s.stream (n / 4 - 10) with jsyncO := false, ilas := false }
  | none => s

/-- A lane leaves its state for IDLE or OFF: it holds no lock and its training has ended. -/
def State.laneDown (s : State) (n st : Nat) : State :=
  let s1 := s.setLane n { s.lane n with training := false }
  let s2 := (s1.sets [(R.LN_STAT_STATE n, st), (R.LN_STAT_CDR_LOCK n, 0), (R.LN_STAT_BLK_LOCK n, 0), (R.LN_STAT_ADAPTED n, 0)]).jsyncHold n
  if 40 ≤ n ∧ s.lnState n = lnACTIVE then s2.put (R.LL_STAT_UP (n / 4)) false else s2

/-- A move to FAIL (R399). -/
def State.laneFail (s : State) (n code : Nat) : State :=
  (((s.laneDown n lnFAIL).bump (R.LN_STAT_FAILS n) 1).set (R.LN_STAT_LAST_FAIL n) code).raise code n 0

/-! ## Eye scan -/

/-- Progress of a margin scan (R404): the side being measured (0 left, 1 right, 2 top, 3 bottom, 4 done) and the margins. -/
structure EyeWalk where
  side : Nat
  left : Nat
  right : Nat
  top : Nat
  bottom : Nat
deriving DecidableEq, Repr

/-- One measured point of a margin scan: pass raises the margin of its side until its limit (R404). -/
def EyeWalk.next (w : EyeWalk) (pass : Bool) : EyeWalk :=
  match w.side with
  | 0 => if pass then { w with left := w.left + 1, side := if w.left + 1 < 32 then 0 else 1 } else { w with side := 1 }
  | 1 => if pass then { w with right := w.right + 1, side := if w.right + 1 < 31 then 1 else 2 } else { w with side := 2 }
  | 2 => if pass then { w with top := w.top + 1, side := if w.top + 1 < 127 then 2 else 3 } else { w with side := 3 }
  | 3 => if pass then { w with bottom := w.bottom + 1, side := if w.bottom + 1 < 128 then 3 else 4 } else { w with side := 4 }
  | _ => w

/-- The margins that a list of measured points gives. -/
def eyeWalk (errLim : Nat) (points : List (Nat × Nat)) : EyeWalk :=
  points.foldl (fun w p => w.next (decide (p.2 < errLim))) ⟨0, 0, 0, 0, 0⟩

/-- Whether the points that a scan measured complete it: each compares at most 2^LOG2BITS decisions and stops early only at
ERRLIM errors (R403). -/
def EyeScan.complete (e : EyeScan) (points : List (Nat × Nat)) : Bool :=
  points.all (fun p => decide (p.2 ≤ e.errLim) && (decide (p.1 = 2 ^ e.log2) || (decide (p.1 < 2 ^ e.log2) && decide (p.2 = e.errLim))))
    && (if e.cmd = 4 then decide (points.length = 1)
        else decide ((eyeWalk e.errLim points).side = 4) && decide ((eyeWalk e.errLim points.dropLast).side < 4))

/-- Posts the result of lane `n`'s scan (R403 to R405). -/
def State.eyePost (s : State) (n code : Nat) (points : List (Nat × Nat)) : State :=
  match (s.lane n).scan with
  | none => s
  | some e =>
    let last := (points.getLast?).getD (0, 0)
    let w := eyeWalk e.errLim points
    let s1 := (s.setLane n { s.lane n with scan := none }).sets [(R.LN_EYE_RES0_UI n, last.1), (R.LN_EYE_RES0_ERRS n, last.2)]
    let s2 := if e.cmd = 5 then s1.sets [(R.LN_EYE_RES1_LEFT n, w.left), (R.LN_EYE_RES1_RIGHT n, w.right),
        (R.LN_EYE_RES1_TOP n, w.top), (R.LN_EYE_RES1_BOTTOM n, w.bottom), (R.LN_EYE_RES1_KIND n, 1)]
      else s1.set (R.LN_EYE_RES1_KIND n) 0
    ((s2.sets [(R.LN_EYE_RES1_SEQ n, s2.get (R.LN_EYE_RES1_SEQ n) + 1), (R.LN_EYE_RES1_VALID n, 1), (R.LN_EYE_RES1_STALE n, 0),
      (R.LN_RESULT_CMD n, e.cmd)]).post (R.LN_RESULT_STATUS n) code)

/-- Ends a running scan with 0x0A0B by a change of the lane (R401, R424); how far it had come is left open. -/
def State.eyeCut (s : State) (n : Nat) : State :=
  match (s.lane n).scan with
  | none => s
  | some e =>
    let f0 := s.fresh 12
    let f1 := f0.2.fresh 12
    let f2 := f1.2.fresh 12
    let done := f0.1 % 323
    let pts := if e.cmd = 4 then [(f1.1 % 2 ^ e.log2, f2.1 % e.errLim)]
      else (List.range done).map (fun i => (2 ^ e.log2, if bit f1.1 i = 1 then e.errLim else f2.1 % e.errLim))
    f2.2.eyePost n 0x0A0B pts

/-- A change or RESTART of a lane (R401): IDLE, or OFF with MODE 0; the scan is aborted and the checker loses lock. -/
def State.laneRestart (s : State) (n : Nat) : State :=
  let s1 := (s.eyeCut n).chkReseed n
  if s1.lnMode n = 0 then s1.laneDown n lnOFF
  else if s1.lnState n = lnOFF then s1
  else (s1.laneDown n lnIDLE).laneSettle n

/-! ## Quad PLLs -/

/-- A write of QD_PLL (R393, R394). -/
def State.quadWrite (s : State) (src q j v : Nat) : State :=
  if !s.srcOk src then s.reply 0x0A01 0
  else if !s.quadLegal q v then s.reply 0x0A02 0
  else
    let fs := [R.QD_PLL_REFSEL q j, R.QD_PLL_EN q j, R.QD_PLL_M q j, R.QD_PLL_N q j, R.QD_PLL_FRAC q j]
    let changed := fs.any (fun f => decide (s.get f ≠ bits v f.lo f.w))
    if changed ∧ s.has (R.QD_PLL_EN q j) ∧ s.quadUsers q j ≠ [] then s.reply 0x0A03 0
    else ((fs.foldl (fun t f => t.set f (bits v f.lo f.w)) s).put (R.QD_PLL_LOCK q j) (s.has (R.QD_PLL_LOCK q j) && !changed)).reply 0 0

/-- QD_PLL_WRITE (R394): `refKhz` is the frequency that the board gives the selected LREF. -/
def execQdPllWrite (src : SrcId) (q : Fin 12) (j : Fin 2) (data : Word64) (refKhz : Nat) (s : State) : Host.Outcome State Fault Refusal :=
  let s1 := match refQuad q (bits data.toNat 0 2) with
    | some rq => { s with lref := SMap.set s.lref 156250 rq refKhz }
    | none => s
  done ((s1.commit (Config.qdBase q + 0x800 + 8 * j.val)).quadWrite src q j data.toNat)

/-- The host link sets the PLLs of its quads itself (R395): 16 GHz and 10 GHz from 100 MHz. -/
def State.hostPll (s : State) (q j : Nat) : State :=
  if q / 2 = 4 ∧ s.hostQuads ∧ !s.has (R.QD_PLL_EN q j) then
    State.sets { s with lref := SMap.set s.lref 156250 q 100000 } [(R.QD_PLL_EN q j, 1), (R.QD_PLL_REFSEL q j, 0), (R.QD_PLL_M q j, 1), (R.QD_PLL_N q j, if j = 0 then 160 else 100), (R.QD_PLL_FRAC q j, 0)]
  else s

/-- PLL and DIV of a PCI Express lane at a rate of 1 to 5 (R395). -/
def hostRate (rate : Nat) : Nat × Nat :=
  match rate with
  | 1 => (1, 3) | 2 => (1, 2) | 3 => (0, 2) | 4 => (0, 1) | _ => (0, 0)

/-- The host link moves its lanes to the PLL of a rate (R395). -/
def State.hostLanes (s : State) (rate : Nat) : State :=
  (List.range 8).foldl (fun (t : State) i => t.sets [(R.LN_CFG_PLL (32 + i), (hostRate rate).1), (R.LN_CFG_DIV (32 + i), (hostRate rate).2)]) s

/-- QPLL_LOCK (R394, R396, R424). -/
def execQpllLock (q : Fin 12) (j : Fin 2) (s0 : State) : Host.Outcome State Fault Refusal :=
  let s := s0.hostPll q j
  if !s.has (R.QD_PLL_EN q j) || s.has (R.QD_PLL_LOCK q j) || !(s.inMode [mRUN, mSAFE] || (q.val / 2 = 4 && s.hostQuads)) then done s
  else
    let s1 := s.put (R.QD_PLL_LOCK q j) true
    done ((s1.quadUsers q j).foldl State.laneSettle s1)

/-- QPLL_LOCK_LOST (R396). -/
def execQpllLockLost (q : Fin 12) (j : Fin 2) (s : State) : Host.Outcome State Fault Refusal :=
  if !s.has (R.QD_PLL_LOCK q j) then done s
  else
    let s1 := s.put (R.QD_PLL_LOCK q j) false
    done ((s.quadUsers q j).foldl (fun (t : State) n => (t.laneDown n lnIDLE).raise 0x0A16 n 0) s1)

/-! ## Lane settings -/

/-- Whether the rate of a lane word is in the range of its line mode (R392, R395). -/
def State.lnRateOk (s : State) (n v : Nat) : Bool :=
  let f := s.quadFreq (n / 4) (bit v 2)
  let num := 2 * f.1
  let den := f.2 * 2 ^ bits v 3 3
  if bit v 6 = 1 then 10000000 * den ≤ num && num ≤ 56000000 * den
  else 1250000 * den ≤ num && num ≤ (if n < 32 then 56000000 else 32750000) * den

/-- The check of a write of LN_CFG (R393, R395, R401, R410, R424): the refusal code, or none. -/
def State.lnCfgRefusal (s : State) (src n v : Nat) : Option Nat :=
  let mode := bits v 0 2
  let owned := [R.LN_CFG_PLL n, R.LN_CFG_DIV n, R.LN_CFG_PAM4 n, R.LN_CFG_PRECODE n, R.LN_CFG_TRAIN_TO n, R.LN_CFG_LOCK_TO n]
  if !s.srcOk src then some 0x0A01
  else if mode = 3 ∨ bits v 32 16 = 0 ∨ bits v 48 16 = 0 ∨ (bit v 6 = 1 ∧ 32 ≤ n) ∨ (if n < 32 then 4 else 3) < bits v 3 3 then some 0x0A06
  else if mode ≠ 0 ∧ !s.lnRateOk n v then some 0x0A06
  else if s.lnMode n = 1 ∧ owned.any (fun f => decide (s.get f ≠ bits v f.lo f.w)) then some 0x0A04
  else if src = 33 ∧ hostLane n ∧ s.lnMode n = 1 ∧ mode ≠ 1 then some 0x0A05
  else if bits v 10 2 ≠ 0 ∧ mode ≠ 2 then some 0x0A09
  else if s.lnMode n = 0 ∧ mode ≠ 0 ∧ !hostLane n ∧ s.inMode [mSTANDBY, mBOOT, mLOAD, mSAFE] then some 0x0A09
  else none

/-- The fields of LN_CFG. -/
def lnCfgFields (n : Nat) : List Fld :=
  [R.LN_CFG_MODE n, R.LN_CFG_PLL n, R.LN_CFG_DIV n, R.LN_CFG_PAM4 n, R.LN_CFG_TX_INV n, R.LN_CFG_RX_INV n, R.LN_CFG_TX_EN n,
   R.LN_CFG_LOOP n, R.LN_CFG_LOOP_TX n, R.LN_CFG_EQ_AUTO n, R.LN_CFG_DET_EN n, R.LN_CFG_PRECODE n, R.LN_CFG_TRAIN_TO n, R.LN_CFG_LOCK_TO n]

/-- Writes LN_CFG with the effects of R401. -/
def State.lnCfgSet (s : State) (n v : Nat) : State :=
  let trig := [R.LN_CFG_MODE n, R.LN_CFG_PLL n, R.LN_CFG_DIV n, R.LN_CFG_PAM4 n, R.LN_CFG_PRECODE n, R.LN_CFG_LOOP n]
  let changed := trig.any (fun f => decide (s.get f ≠ bits v f.lo f.w))
  let s1 := (lnCfgFields n).foldl (fun t f => t.set f (bits v f.lo f.w)) s
  if changed then s1.laneRestart n else s1.laneSettle n

/-- A write of LN_CFG. -/
def State.lnCfgWrite (s : State) (src n v : Nat) : State :=
  match s.lnCfgRefusal src n v with
  | some c => s.reply c 0
  | none => (s.lnCfgSet n v).reply 0 0

/-- LN_CFG_WRITE (R401). -/
def execLnCfgWrite (src : SrcId) (n : LaneId) (data : Word64) (s : State) : Host.Outcome State Fault Refusal :=
  done ((s.commit (R.LN_CFG_MODE n).addr).lnCfgWrite src n data.toNat)

/-- Whether the taps of a word of LN_EQ_TX obey R397. -/
def tapsOk (n v : Nat) : Bool :=
  let pre2 := signed 5 (bits v 0 5)
  bits v 11 7 ≤ 64 && (n < 32 || decide (pre2 = 0))
    && pre2.natAbs + (signed 6 (bits v 5 6)).natAbs + bits v 11 7 + (signed 6 (bits v 18 6)).natAbs ≤ 64

/-- Writes the taps. -/
def State.setTaps (s : State) (n v : Nat) : State :=
  [R.LN_EQ_TX_PRE2 n, R.LN_EQ_TX_PRE1 n, R.LN_EQ_TX_MAIN n, R.LN_EQ_TX_POST1 n].foldl (fun t f => t.set f (bits v f.lo f.w)) s

/-- A write of LN_EQ_TX (R397). -/
def State.eqTxWrite (s : State) (src n v : Nat) : State :=
  if !s.srcOk src then s.reply 0x0A01 0
  else if (s.lane n).training then s.reply 0x0A04 0
  else if !tapsOk n v then s.reply 0x0A06 0
  else (s.setTaps n v).reply 0 0

/-- LN_EQ_TX_WRITE (R397). -/
def execLnEqTxWrite (src : SrcId) (n : LaneId) (data : BitVec 32) (s : State) : Host.Outcome State Fault Refusal :=
  done (s.eqTxWrite src n data.toNat)

/-- LINK_TRAINING_TAP_REQUEST (R397): in TRAIN of a PROTOCOL lane of Q_0 to Q_9; the reply is 1 (moved) or 2 (limit). -/
def execLinkTrainingTapRequest (n : LaneId) (taps : BitVec 24) (s : State) : Host.Outcome State Fault Refusal :=
  if s.lnMode n ≠ 1 ∨ s.lnState n ≠ lnTRAIN ∨ 40 ≤ n.val then done s
  else
    let s1 := s.setLane n { s.lane n with training := true }
    done (if tapsOk n taps.toNat then { s1.setTaps n taps.toNat with out := [.lane n 1] } else { s1 with out := [.lane n 2] })

/-- The word of LN_EQ_RX as a read returns it (R398): adapted values while EQ_AUTO = 1; with EQ_AUTO = 0 the DFE is off. -/
def State.eqRxWord (s : State) (n : Nat) : Nat :=
  let auto := s.has (R.LN_CFG_EQ_AUTO n)
  (if auto then (s.lane n).adCtle else s.get (R.LN_EQ_RX_CTLE n))
    + (if auto then (s.lane n).adVga else s.get (R.LN_EQ_RX_VGA n)) * 2 ^ 4
    + (if auto then s.get (R.LN_EQ_RX_DFE n) else 0) * 2 ^ 16

/-- Posts the outcome of LN_CMD (R403). -/
def State.lnPost (s : State) (n cmd code : Nat) : State :=
  ((s.set (R.LN_RESULT_CMD n) cmd).post (R.LN_RESULT_STATUS n) code).reply 0 0

/-! ## PRBS -/

/-- Degree and exponents other than 0 of a PRBS pattern (R406). -/
def prbsPoly (code : Nat) : Option (Nat × List Nat) :=
  match code with
  | 1 => some (7, [7, 6]) | 2 => some (9, [9, 5]) | 3 => some (11, [11, 9]) | 4 => some (13, [13, 12, 2, 1])
  | 5 => some (15, [15, 14]) | 6 => some (23, [23, 18]) | 7 => some (31, [31, 28]) | 8 => some (13, [13, 12, 2, 1])
  | 9 => some (31, [31, 28]) | _ => none

/-- The next bit of a shift register (R407). -/
def prbsBit (exps : List Nat) (r : Nat) : Nat := exps.foldl (fun a e => (a + bit r (e - 1)) % 2) 0

/-- The register of the generator at its enable (R407): all ones for a polynomial, position 0 for SQUARE and USER. -/
def genStart (code : Nat) : Nat := match prbsPoly code with | some (n, _) => 2 ^ n - 1 | none => 0

/-- One generated bit before GEN_INV and injection, and the generator after it (R406, R407): SQUARE sends 8 ones then 8 zeros,
in PAM4 8 top symbols then 8 bottom symbols (Gray level 3 is the bits 1, 0). -/
def genBit (code user : Nat) (pam4 : Bool) (g : Nat) : Nat × Nat :=
  match prbsPoly code with
  | some (n, exps) => let b := prbsBit exps g; (b, (2 * g + b) % 2 ^ n)
  | none =>
    if code = 11 then (bit user g, (g + 1) % 64)
    else if pam4 then (if g < 16 ∧ g % 2 = 0 then 1 else 0, (g + 1) % 32)
    else (if g < 8 then 1 else 0, (g + 1) % 16)

/-- A 64-bit transmitted word, bit 0 first sent, with the generator after it. INJ_RATE = k inverts one bit in every 2^k sent
bits; which one is left open. -/
def State.genWord (s : State) (n : Nat) (invert0 : Bool) : Nat × Lane :=
  let l := s.lane n
  let code := s.get (R.LN_PRBS_CFG_GEN n)
  let k := s.get (R.LN_PRBS_CFG_INJ_RATE n)
  (List.range 64).foldl (fun (acc : Nat × Lane) i =>
    let gb := genBit code (s.get (R.LN_PRBS_USER_USER n)) (s.has (R.LN_CFG_PAM4 n)) acc.2.gen
    let inj := if k ≠ 0 ∧ acc.2.sent % 2 ^ k = Config.freeNat 13 (acc.2.sent / 2 ^ k) % 2 ^ k then 1 else 0
    let b := (gb.1 + s.get (R.LN_PRBS_CFG_GEN_INV n) + inj + (if invert0 ∧ i = 0 then 1 else 0)) % 2
    (acc.1 + b * 2 ^ i, { acc.2 with gen := gb.2, sent := acc.2.sent + 1 })) (0, l)

/-- Whether a pattern code is legal for a lane (R406). -/
def State.patternOk (s : State) (n code : Nat) (chk : Bool) : Bool :=
  if code = 0 ∨ code = 11 then true
  else if code = 10 then !chk
  else if s.has (R.LN_CFG_PAM4 n) then code = 8 || code = 9
  else 1 ≤ code && code ≤ 7

/-- A write of LN_PRBS_CFG (R393, R406, R409). -/
def State.prbsWrite (s : State) (src n v : Nat) : State :=
  let gen := bits v 0 4
  let chk := bits v 5 4
  let k := bits v 10 5
  if !s.srcOk src then s.reply 0x0A01 0
  else if s.lnMode n = 1 ∧ (gen ≠ 0 ∨ chk ≠ 0) then s.reply 0x0A09 0
  else if !s.patternOk n gen false || !s.patternOk n chk true then s.reply 0x0A08 0
  else if k ≠ 0 ∧ (k < 10 ∨ 30 < k) then s.reply 0x0A06 0
  else
    let s1 := if gen ≠ s.get (R.LN_PRBS_CFG_GEN n) then s.setLane n { s.lane n with gen := genStart gen, sent := 0 } else s
    let s2 := if chk ≠ s.get (R.LN_PRBS_CFG_CHK n) ∨ bit v 9 ≠ s.get (R.LN_PRBS_CFG_CHK_INV n) then s1.chkReseed n else s1
    ([R.LN_PRBS_CFG_GEN n, R.LN_PRBS_CFG_GEN_INV n, R.LN_PRBS_CFG_CHK n, R.LN_PRBS_CFG_CHK_INV n, R.LN_PRBS_CFG_INJ_RATE n].foldl
      (fun t f => t.set f (bits v f.lo f.w)) s2).reply 0 0

/-- The lowest rotation of a 64-bit pattern that a history of 64 bits (newest in bit 0) matches: the position that comes next. -/
def userPhase (user hist : Nat) : Option Nat :=
  (List.range 64).find? (fun p => (List.range 64).all (fun i => bit hist i = bit user ((p + 63 - i) % 64)))

/-- One received bit through the checker of lane `n` (R408). -/
def State.chkBit (s : State) (n : Nat) (rx : Bool) : State :=
  let l := s.lane n
  let c := l.chk
  let code := s.get (R.LN_PRBS_CFG_CHK n)
  let b := (ofFlag rx + s.get (R.LN_PRBS_CFG_CHK_INV n)) % 2
  let hist := (2 * c.hist + b) % 2 ^ 64
  let user := s.get (R.LN_PRBS_USER_USER n)
  if s.has (R.LN_PRBS_BITS_LOCK n) then
    let pn : Nat × Nat := match prbsPoly code with
      | some (d, exps) => let p := prbsBit exps c.pred; (p, (2 * c.pred + p) % 2 ^ d)
      | none => (bit user c.pred, (c.pred + 1) % 64)
    let miss := ofFlag (decide (pn.1 ≠ b))
    let win := (2 * c.win + miss) % 2 ^ 64
    let s1 := (s.bump (R.LN_PRBS_BITS_BITS n) 1).bump (R.LN_PRBS_ERR_ERR n) miss
    if 32 ≤ popCount 64 win then (s1.chkReseed n).bump (R.LN_PRBS_ERR_LOSTCNT n) 1
    else s1.setLane n { l with chk := { c with hist := hist, pred := pn.2, win := win } }
  else
    let lock (pred : Nat) : State :=
      (s.setLane n { l with chk := ⟨hist, 64, 0, pred, 0⟩ }).put (R.LN_PRBS_BITS_LOCK n) true
    match prbsPoly code with
    | some (d, exps) =>
      if c.seen < d then s.setLane n { l with chk := { c with hist := hist, seen := c.seen + 1 } }
      else
        let run := if prbsBit exps c.hist = b then c.run + 1 else 0
        if run = 64 then lock (hist % 2 ^ d) else s.setLane n { l with chk := { c with hist := hist, run := run } }
    | none =>
      if 63 ≤ c.seen then
        match userPhase user hist with
        | some p => lock p
        | none => s.setLane n { l with chk := { c with hist := hist, seen := 64 } }
      else s.setLane n { l with chk := { c with hist := hist, seen := c.seen + 1 } }

/-- Received bits through the checker; it works while CHK is set and the CDR is locked. -/
def State.chkFeed (s : State) (n : Nat) (rx : List Bool) : State :=
  if s.get (R.LN_PRBS_CFG_CHK n) = 0 ∨ !s.has (R.LN_STAT_CDR_LOCK n) then s
  else rx.foldl (fun t b => if t.get (R.LN_PRBS_CFG_CHK n) = 0 then t else t.chkBit n b) s

/-- PRBS_CHECKER_LOCK (R408): the received bits that bring the lock. -/
def execPrbsCheckerLock (n : LaneId) (rx : List Bool) (s : State) : Host.Outcome State Fault Refusal :=
  if s.has (R.LN_PRBS_BITS_LOCK n) then done s else done (s.chkFeed n rx)

/-- PRBS_CHECKER_LOST (R408): the received bits that end the lock. -/
def execPrbsCheckerLost (n : LaneId) (rx : List Bool) (s : State) : Host.Outcome State Fault Refusal :=
  if s.has (R.LN_PRBS_BITS_LOCK n) then done (s.chkFeed n rx) else done s

/-- The LN_PRBS_BITS word, whose read snapshots LN_PRBS_ERR (R408). -/
def State.prbsBitsRead (s : State) (n : Nat) : State :=
  let err := s.word [R.LN_PRBS_ERR_ERR n, R.LN_PRBS_ERR_LOSTCNT n]
  (s.setLane n { s.lane n with errSnap := err }).reply 0 (s.word [R.LN_PRBS_BITS_BITS n, R.LN_PRBS_BITS_LOCK n])

/-- LN_PRBS_BITS_READ (R408). -/
def execLnPrbsBitsRead (n : LaneId) (s : State) : Host.Outcome State Fault Refusal := done (s.prbsBitsRead n)

/-! ## LN_CMD -/

/-- Whether the fields of LN_EYE_CFG are in range for the lane (R403). -/
def State.eyeCfgOk (s : State) (n : Nat) : Bool :=
  20 ≤ s.get (R.LN_EYE_CFG_LOG2BITS n) && s.get (R.LN_EYE_CFG_LOG2BITS n) ≤ 40 && s.get (R.LN_EYE_CFG_ERRLIM n) != 0
    && (if s.has (R.LN_CFG_PAM4 n) then s.get (R.LN_EYE_CFG_EYE n) ≤ 2 else s.get (R.LN_EYE_CFG_EYE n) = 0)

/-- A command word written to LN_CMD (R401, R403 to R405, R408, R409); `points` are the points that an aborted scan has. -/
def State.lnCmd (s : State) (src n cmd : Nat) (points : List (Nat × Nat)) : State :=
  if !s.srcOk src then s.lnPost n cmd 0x0A01
  else match cmd with
  | 0 => s.lnPost n 0 0
  | 1 => (s.laneRestart n).lnPost n 1 0
  | 2 => (s.sets [(R.LN_PRBS_BITS_BITS n, 0), (R.LN_PRBS_ERR_ERR n, 0), (R.LN_PRBS_ERR_LOSTCNT n, 0)]).lnPost n 2 0
  | 3 =>
    if s.get (R.LN_PRBS_CFG_GEN n) = 0 ∨ s.get (R.LN_CFG_LOOP n) = 3 then s.lnPost n 3 0x0A09
    else
      let w := s.genWord n true
      { (s.setLane n w.2).lnPost n 3 0 with out := [.lane n w.1] }
  | 4 | 5 =>
    if s.lnState n ≠ lnACTIVE then s.lnPost n cmd 0x0A09
    else if (s.lane n).scan.isSome then s.lnPost n cmd 0x0A0A
    else if !s.eyeCfgOk n then s.lnPost n cmd 0x0A06
    else (((s.setLane n { s.lane n with scan := some ⟨cmd, s.get (R.LN_EYE_CFG_LOG2BITS n), s.get (R.LN_EYE_CFG_ERRLIM n)⟩ }).expect
      (R.LN_RESULT_STATUS n)).sets [(R.LN_EYE_RES1_VALID n, 0), (R.LN_EYE_RES1_STALE n, 1)]).reply 0 0
  | 6 => if (s.lane n).scan.isNone then s.lnPost n 6 0 else (s.eyePost n 0x0A0B points).reply 0 0
  | _ => s.lnPost n cmd 0x0A07

/-- LN_RESTART (R401). -/
def execLnRestart (src : SrcId) (n : LaneId) (s : State) : Host.Outcome State Fault Refusal := done (s.lnCmd src n 1 [])
/-- LN_PRBS_CLR (R408). -/
def execLnPrbsClr (src : SrcId) (n : LaneId) (s : State) : Host.Outcome State Fault Refusal := done (s.lnCmd src n 2 [])
/-- LN_INJ_ONE (R409). -/
def execLnInjOne (src : SrcId) (n : LaneId) (s : State) : Host.Outcome State Fault Refusal := done (s.lnCmd src n 3 [])
/-- EYE_POINT (R403). -/
def execEyePoint (src : SrcId) (n : LaneId) (s : State) : Host.Outcome State Fault Refusal := done (s.lnCmd src n 4 [])
/-- EYE_MARGIN (R404). -/
def execEyeMargin (src : SrcId) (n : LaneId) (s : State) : Host.Outcome State Fault Refusal := done (s.lnCmd src n 5 [])
/-- EYE_ABORT (R405): `points` are those that the scan has completed. -/
def execEyeAbort (src : SrcId) (n : LaneId) (points : List (Nat × Nat)) (s : State) : Host.Outcome State Fault Refusal :=
  done (s.lnCmd src n 6 points)

/-- The LN_EYE_RES1 word, whose read snapshots LN_EYE_RES0 (R403). -/
def State.eyeRes1Read (s : State) (n : Nat) : State :=
  let res0 := s.word [R.LN_EYE_RES0_UI n, R.LN_EYE_RES0_ERRS n]
  (s.setLane n { s.lane n with eyeSnap := res0 }).reply 0
    (s.word [R.LN_EYE_RES1_LEFT n, R.LN_EYE_RES1_RIGHT n, R.LN_EYE_RES1_TOP n, R.LN_EYE_RES1_BOTTOM n, R.LN_EYE_RES1_KIND n,
      R.LN_EYE_RES1_SEQ n, R.LN_EYE_RES1_VALID n, R.LN_EYE_RES1_STALE n])

/-- LN_EYE_RES1_READ (R403). -/
def execLnEyeRes1Read (n : LaneId) (s : State) : Host.Outcome State Fault Refusal := done (s.eyeRes1Read n)

/-! ## Bring-up events -/

/-- LANE_LEAVE_OFF (R399). -/
def execLaneLeaveOff (n : LaneId) (s : State) : Host.Outcome State Fault Refusal :=
  if s.lnState n = lnOFF ∧ s.lnMode n ≠ 0 ∧ s.lnPllOk n ∧ (!hostLane n || s.hostQuads) then done ((s.set (R.LN_STAT_STATE n) lnIDLE).laneSettle n) else done s

/-- LANE_DETECT_PULSE (R399). -/
def execLaneDetectPulse (n : LaneId) (found : Bool) (s : State) : Host.Outcome State Fault Refusal :=
  if s.lnState n ≠ lnDETECT then done s
  else
    let s1 := { s.put (R.LN_STAT_RXPRES n) found with out := [.lane n 0] }
    done (if found then s1.set (R.LN_STAT_STATE n) lnTRAIN else s1)

/-- LANE_ADAPTED (R398, R399): in TRAIN the end of adaptation; after it, while EQ_AUTO = 1, the values to which VGA and DFE have adapted while
traffic runs (CTLE stays frozen). -/
def execLaneAdapted (n : LaneId) (ctle : Fin 16) (vga : Fin 64) (dfe : BitVec 48) (s : State) : Host.Outcome State Fault Refusal :=
  let auto := s.has (R.LN_CFG_EQ_AUTO n)
  let taps := if auto then (if n.val < 32 then dfe.toNat else dfe.toNat % 2 ^ 20) else 0
  if [lnLOCK, lnCAPS, lnACTIVE].contains (s.lnState n) ∧ auto then
    done ((s.setLane n { s.lane n with adVga := vga.val }).set (R.LN_EQ_RX_DFE n) taps)
  else if s.lnState n ≠ lnTRAIN then done s
  else
    let s1 := if auto then s.setLane n { s.lane n with adCtle := ctle.val, adVga := vga.val } else s
    let s2 := s1.setLane n { s1.lane n with training := false }
    done (s2.sets [(R.LN_EQ_RX_DFE n, taps), (R.LN_STAT_ADAPTED n, 1), (R.LN_STAT_SIGDET n, 1), (R.LN_STAT_STATE n, lnLOCK)])

/-- LANE_TRAIN_TIMEOUT (R399). -/
def execLaneTrainTimeout (n : LaneId) (s : State) : Host.Outcome State Fault Refusal :=
  done (if s.lnState n = lnTRAIN then s.laneFail n 0x0A11 else s)

/-- Lanes of quad 10 + q that its use takes (R412, R416). -/
def State.stLanes (s : State) (q : Nat) : List Nat :=
  let cnt := match s.jsGov q with
    | some g => min 4 (2 ^ s.get (R.JS_CFG_LCODE g))
    | none => if s.get (R.ST_CFG_USE (10 + q)) = 2 then s.get (R.LL_CFG_LANES (10 + q)) else 0
  (List.range cnt).map (fun i => 4 * (10 + q) + i)

/-- JSYNC_O of a 204B receive quad is released when every lane has code-group sync (R418). -/
def State.jsyncRelease (s : State) (q : Nat) : State :=
  match s.jsGov q with
  | none => s
  | some g =>
    if !s.has (R.JS_CFG_VER g) && !s.has (R.JS_CFG_DIR g) && (s.stLanes q).all (fun n => s.has (R.LN_STAT_BLK_LOCK n)) then
      s.setStream q { s.stream q with jsyncO := true }
    else s

/-- LANE_LOCKED (R399, R400): a stage CAPS of a lane link starts its exchange anew. -/
def execLaneLocked (n : LaneId) (s : State) : Host.Outcome State Fault Refusal :=
  if s.lnState n ≠ lnLOCK then done s
  else if s.lnMode n = 2 then done (s.sets [(R.LN_STAT_CDR_LOCK n, 1), (R.LN_STAT_SIGDET n, 1), (R.LN_STAT_STATE n, lnACTIVE)])
  else
    let s1 := s.sets [(R.LN_STAT_CDR_LOCK n, 1), (R.LN_STAT_SIGDET n, 1), (R.LN_STAT_BLK_LOCK n, 1), (R.LN_STAT_STATE n, lnCAPS)]
    if n.val < 40 then done s1
    else
      let q := n.val / 4 - 10
      let s2 := s1.setStream q { s1.stream q with capsLast := [], capsSame := 0, ackSent := false, ackSeen := false, timeoutRaised := false, ilas := false, capsIdx := 0 }
      done (s2.jsyncRelease q)

/-- LANE_LOCK_TIMEOUT (R399). -/
def execLaneLockTimeout (n : LaneId) (s : State) : Host.Outcome State Fault Refusal :=
  done (if s.lnState n = lnLOCK then s.laneFail n 0x0A12 else s)

/-- Whether the capability exchange of a lane is complete (R400, R414, R417). -/
def State.capsDone (s : State) (n : Nat) : Bool :=
  if n < 40 then true
  else
    let q := n / 4 - 10
    match s.get (R.ST_CFG_USE (10 + q)) with
    | 1 => (match s.jsGov q with
      | some g => (s.stream q).aligned && (s.has (R.JS_CFG_VER g) || s.has (R.JS_CFG_DIR g) || (s.stream q).ilas)
      | none => false)
    | 2 => (s.stream q).ackSent && (s.stream q).ackSeen
    | _ => false

/-- LANE_ACTIVE (R399): a lane link is UP with its lanes in ACTIVE. -/
def execLaneActive (n : LaneId) (s : State) : Host.Outcome State Fault Refusal :=
  if s.lnState n ≠ lnCAPS ∨ !s.capsDone n then done s
  else
    let s1 := s.set (R.LN_STAT_STATE n) lnACTIVE
    let k := n.val / 4
    done (if 40 ≤ n.val ∧ s.get (R.ST_CFG_USE k) = 2
        ∧ (List.range (s.get (R.LL_STAT_LANES k))).all (fun i => decide (s1.lnState (4 * k + i) = lnACTIVE))
      then s1.put (R.LL_STAT_UP k) true else s1)

/-- LANE_CAPS_TIMEOUT (R414). -/
def execLaneCapsTimeout (n : LaneId) (s : State) : Host.Outcome State Fault Refusal :=
  done (if s.lnState n = lnCAPS ∧ 40 ≤ n.val ∧ s.get (R.ST_CFG_USE (n.val / 4)) = 2 then s.laneFail n 0x0A13 else s)

/-- An ACTIVE lane back in LOCK. -/
def State.laneRelock (s : State) (n : Nat) : State :=
  (s.laneDown n lnLOCK).put (R.LN_STAT_ADAPTED n) true

/-- LANE_LOCK_LOST (R399, R415, R418): a lane link goes back as a whole, and so do the lanes of a 204C link. -/
def execLaneLockLost (n : LaneId) (s : State) : Host.Outcome State Fault Refusal :=
  if s.lnState n ≠ lnACTIVE then done s
  else
    let k := n.val / 4
    let whole := decide (40 ≤ n.val) && s.lnMode n = 1 && (s.get (R.ST_CFG_USE k) = 2 ||
      (match s.jsGov (k - 10) with | some g => s.has (R.JS_CFG_VER g) | none => false))
    let ls := if whole then [4 * k, 4 * k + 1, 4 * k + 2, 4 * k + 3].filter (fun m => s.lnState m = lnACTIVE) else [n.val]
    done ((ls.foldl State.laneRelock s).raise 0x0A14 n 0)

/-- LANE_SIGNAL_LOST (R399). -/
def execLaneSignalLost (n : LaneId) (s : State) : Host.Outcome State Fault Refusal :=
  if s.lnState n ≠ lnACTIVE then done s
  else done ((((s.laneDown n lnIDLE).put (R.LN_STAT_SIGDET n) false).raise 0x0A15 n 0).laneSettle n)

/-- LANE_FAIL_EXPIRY (R399). -/
def execLaneFailExpiry (n : LaneId) (s : State) : Host.Outcome State Fault Refusal :=
  done (if s.lnState n = lnFAIL then (s.set (R.LN_STAT_STATE n) lnIDLE).laneSettle n else s)

/-! ## The lane link -/

/-- Whether a direction of the link is rate-matched (R413): 2^-F + 2^-14 ≥ (TOL + TOL') × 10^-6. -/
def rateMatched (f tol tol' : Nat) : Bool := decide ((tol + tol') * 2 ^ (14 + f) ≤ (2 ^ 14 + 2 ^ f) * 1000000)

/-- Fails every lane of quad 10 + q that is in CAPS. -/
def State.capsFail (s : State) (q code : Nat) : State :=
  ((List.range 4).map (fun i => 4 * (10 + q) + i)).foldl (fun (t : State) n => if t.lnState n = lnCAPS then t.laneFail n code else t) s

/-- LL_CAPS_RX (R414): one whole CAPS set, its ACK and the skew between lanes in blocks. -/
def execLlCapsRx (q : Fin 2) (content : List (BitVec 8)) (ack : Bool) (skew : Nat) (s : State) : Host.Outcome State Fault Refusal :=
  let k := 10 + q.val
  let c : List Nat := content.map (fun (x : BitVec 8) => x.toNat)
  let x := s.stream q
  if s.get (R.ST_CFG_USE k) ≠ 2 ∨ c.length ≠ 24 ∨ !(s.stLanes q).any (fun n => decide (s.lnState n = lnCAPS)) then done s
  else if 16 < skew then done (s.capsFail q 0x0A28)
  else
    let seen := c.take 10
    let same := if x.capsLast = seen then x.capsSame + 1 else 1
    let s1 := s.setStream q { x with capsLast := seen, capsSame := same, ackSeen := x.ackSeen || ack }
    if same < 3 then done s1
    else
      let at' (i : Nat) : Nat := c.getD i 0
      if at' 0 ≠ 1 ∨ !rateMatched (s.get (R.LL_CFG_F k)) (s.get (R.LL_CFG_TOL k)) (at' 4)
          ∨ !rateMatched (at' 3) (s.get (R.LL_CFG_TOL k)) (at' 4) then done (s1.capsFail q 0x0A27)
      else done ((s1.setStream q { s1.stream q with ackSent := true }).sets
        [(R.LL_STAT_LANES k, min (s.get (R.LL_CFG_LANES k)) (at' 2)), (R.LL_STAT_PF k, at' 3), (R.LL_STAT_PTOL k, at' 4),
         (R.LL_STAT_PLINK_ID k, ofBytes ((c.drop 6).take 4)), (R.LL_STAT_PSTEP k, at' 1)])

/-- LL_MARKER_RX (R411, R413, R415): `payload` is the lane's data-block payload since its last MARKER. -/
def execLlMarkerRx (n : LaneId) (payload : List (BitVec 8)) (crc : BitVec 32) (s : State) : Host.Outcome State Fault Refusal :=
  let k := n.val / 4
  if n.val < 40 ∨ s.get (R.ST_CFG_USE k) ≠ 2 ∨ s.lnState n ≠ lnACTIVE then done s
  else
    let s1 := s.setStream (k - 10) { s.stream (k - 10) with discard := false }
    done (if crc32 (payload.map (fun (x : BitVec 8) => x.toNat)) = crc.toNat then s1
      else (s1.bump (R.ST_CNT_CRC k) 1).raise 0x0A26 n 0)

/-- LL_ELASTIC_OVERFLOW (R413). -/
def execLlElasticOverflow (q : Fin 2) (s : State) : Host.Outcome State Fault Refusal :=
  let k := 10 + q.val
  if s.get (R.ST_CFG_USE k) ≠ 2 ∨ !s.has (R.LL_STAT_UP k) then done s
  else done (((s.setStream q { s.stream q with discard := true }).bump (R.ST_CNT_OVFL k) 1).raise 0x0A25 (4 * k) 0)

/-! ## Converter links -/

/-- Octets of a multiframe or extended multiblock (R416). -/
def jsPeriod (v : Nat) : Nat := if bit v 1 = 1 then 256 * bits v 13 6 else bits v 5 8 * bits v 13 6

/-- Whether a word of JS_CFG of quad 10 + q obeys R416. -/
def State.jsLegal (s : State) (q v : Nat) : Bool :=
  let c := bit v 1 = 1
  let l8 := bits v 3 2 = 3
  let quads := if l8 then [10, 11] else [10 + q]
  let cnt := min 4 (2 ^ bits v 3 2)
  let rateOk (n : Nat) : Bool :=
    s.lnMode n = 0 ||
      (let f := s.quadFreq (n / 4) (s.lnPll n)
       let num := 2 * f.1
       let den := f.2 * 2 ^ s.get (R.LN_CFG_DIV n)
       if c then decide (6000000 * den ≤ num) && decide (num ≤ 32500000 * den) else decide (1250000 * den ≤ num) && decide (num ≤ 12500000 * den))
  1 ≤ bits v 5 8 && 1 ≤ bits v 13 6 && bits v 13 6 ≤ 32
    && (c || (17 ≤ jsPeriod v && jsPeriod v ≤ 1024 && jsPeriod v % 4 = 0))
    && bits v 19 13 < jsPeriod v
    && (bit v 0 = 0 ||
      (!(l8 && q = 1) && (!l8 || (s.get (R.ST_CFG_USE 11) = 1 && !s.has (R.JS_CFG_EN 11)))
        && !(q = 1 && s.has (R.JS_CFG_EN 10) && s.get (R.JS_CFG_LCODE 10) = 3)
        && quads.all (fun k => (List.range cnt).all (fun i => rateOk (4 * k + i)))))

/-- Both stream quads after a write of JS_CFG or ST_CFG, `old` being the state before it (R416 to R418): a quad whose
converter link starts waits for its first SYSREF, and a 204B receive quad holds JSYNC_O low; a quad whose link ends lets
JSYNC_O rise (DESIGN CHOICE, log entry 86). With L = 8 one write starts or ends both quads. -/
def State.jsTurn (s old : State) : State :=
  [0, 1].foldl (fun (t : State) q =>
    match (old.jsGov q, s.jsGov q) with
    | (none, some g) => t.setStream q { t.stream q with aligned := false, timeoutRaised := false, jsyncO := s.has (R.JS_CFG_VER g) || s.has (R.JS_CFG_DIR g), ilas := false }
    | (some _, none) => t.setStream q { t.stream q with aligned := false, jsyncO := true, ilas := false }
    | _ => t) s

/-- A write of JS_CFG (R393, R416, R417, R418). -/
def State.jsCfgWrite (s : State) (src q v : Nat) : State :=
  let k := 10 + q
  if !s.srcOk src then s.reply 0x0A01 0
  else if !s.jsLegal q v then s.reply 0x0A30 0
  else
    let s1 := [R.JS_CFG_EN k, R.JS_CFG_VER k, R.JS_CFG_DIR k, R.JS_CFG_LCODE k, R.JS_CFG_F k, R.JS_CFG_KE k, R.JS_CFG_RBD k,
      R.JS_CFG_SCR k, R.JS_CFG_SYSREF_CONT k, R.JS_CFG_SYSREF_DLY k].foldl (fun t f => t.set f (bits v f.lo f.w)) s
    let s2 := if !s.has (R.JS_CFG_EN k) && bit v 0 = 1 then s1.setStream q { s1.stream q with aligned := false, timeoutRaised := false } else s1
    (s2.jsTurn s).reply 0 0

/-- JS_CFG_WRITE (R416). -/
def execJsCfgWrite (src : SrcId) (q : Fin 2) (data : Word64) (s : State) : Host.Outcome State Fault Refusal :=
  done ((s.commit (R.JS_CFG_EN (10 + q.val)).addr).jsCfgWrite src q data.toNat)

/-- A timeline firing of KIND 0x3 toward quad 10 + q (R324, R417): its edge is on the way; the firing succeeds. -/
def State.sysrefFire (s : State) (q : Nat) : State × Nat :=
  (s.setStream q { s.stream q with sysrefDue := (s.stream q).sysrefDue ++ [s.tp.tick] }, 0)

/-- Posts a mark (R422, R20, R21). -/
def State.markPost (s : State) (q chunk octet time : Nat) : State :=
  let k := 10 + q
  s.sets [(R.ST_MARK_POS_CHUNK k, chunk), (R.ST_MARK_POS_OCTET k, octet), (R.ST_MARK_TIME_TIME k, time),
    (R.ST_MARK_POS_SEQ k, s.get (R.ST_MARK_POS_SEQ k) + 1), (R.ST_MARK_FLAGS_VALID k, 1), (R.ST_MARK_FLAGS_STALE k, 0)]

/-- JESD_SYSREF (R417, R422): the edge of the oldest firing reaches quad 10 + q, 5.0 ns (4 ticks) or more after the firing tick; `onPhase` says whether a boundary of the running counter falls at
that edge plus SYSREF_DLY; `chunk`, `octet` and `time` are those of the first octet released after the boundary. -/
def execJesdSysref (q : Fin 2) (onPhase : Bool) (chunk : BitVec 32) (octet : Fin 64) (time : BitVec 48) (s : State) :
    Host.Outcome State Fault Refusal :=
  let x := s.stream q
  if s.tp.tick < x.sysrefDue.headD (s.tp.tick + 1) + 4 then done s
  else
    let s1 := s.setStream q { x with sysrefDue := x.sysrefDue.tail }
    match s.jsGov q with
    | none => done s1
    | some g =>
      if !x.aligned || s.has (R.JS_CFG_SYSREF_CONT g) then
        let s2 := s1.setStream q { s1.stream q with aligned := true }
        done (if s.has (R.JS_CFG_DIR g) then s2 else s2.markPost q chunk.toNat octet.val time.toNat)
      else done (if onPhase then s1 else s1.raise 0x0A33 (4 * (10 + q.val)) 0)

/-- JESD_SYSREF_TIMEOUT (R417). -/
def execJesdSysrefTimeout (q : Fin 2) (s : State) : Host.Outcome State Fault Refusal :=
  if (s.jsGov q).isNone || (s.stream q).aligned || (s.stream q).timeoutRaised
      || !(s.stLanes q).any (fun n => decide (s.lnState n = lnCAPS)) then done s
  else done ((s.setStream q { s.stream q with timeoutRaised := true }).raise 0x0A32 (4 * (10 + q.val)) 0)

/-- JESD_ILAS_RX (R418): L, F and K of the received ILAS. -/
def execJesdIlasRx (q : Fin 2) (lanes f k : Nat) (s : State) : Host.Outcome State Fault Refusal :=
  match s.jsGov q with
  | none => done s
  | some g =>
    if s.has (R.JS_CFG_VER g) || s.has (R.JS_CFG_DIR g) then done s
    else if lanes = 2 ^ s.get (R.JS_CFG_LCODE g) ∧ f = s.get (R.JS_CFG_F g) ∧ k = s.get (R.JS_CFG_KE g) then
      done ((s.setStream q { s.stream q with ilas := true }).jsyncRelease q)
    else done (s.capsFail q 0x0A31)

/-- JESD_RESYNC (R418): `errors` disparity or not-in-table errors fell in one multiframe. -/
def execJesdResync (q : Fin 2) (errors : Nat) (s : State) : Host.Outcome State Fault Refusal :=
  match s.jsGov q with
  | none => done s
  | some g =>
    if s.has (R.JS_CFG_VER g) || s.has (R.JS_CFG_DIR g) || errors < 4 then done s
    else done (((s.setStream q { s.stream q with jsyncO := false, ilas := false }).bump (R.ST_CNT_CRC (10 + q.val)) 1).raise 0x0A34 (4 * (10 + q.val)) 0)

/-- JESD_CRC12_FAIL (R418). -/
def execJesdCrc12Fail (q : Fin 2) (s : State) : Host.Outcome State Fault Refusal :=
  match s.jsGov q with
  | none => done s
  | some g => done (if s.has (R.JS_CFG_VER g) ∧ !s.has (R.JS_CFG_DIR g) then s.bump (R.ST_CNT_CRC (10 + q.val)) 1 else s)

/-- JSYNC_I_CHANGE (R418). -/
def execJsyncIChange (q : Fin 2) (level : Bool) (s : State) : Host.Outcome State Fault Refusal :=
  done (s.setStream q { s.stream q with jsyncI := level })

/-! ## The stream engine -/

/-- A write of ST_CFG (R393, R416, R420). -/
def State.stCfgWrite (s : State) (src q v : Nat) : State :=
  let k := 10 + q
  if !s.srcOk src then s.reply 0x0A01 0
  else if bits v 0 2 = 3 ∨ bits v 8 5 < 4 ∨ 16 < bits v 8 5 then s.reply 0x0A20 0
  else if bits v 0 2 ≠ s.get (R.ST_CFG_USE k) ∧ (List.range 4).any (fun i => decide (lnIDLE < s.lnState (4 * k + i))) then s.reply 0x0A20 0
  else (([R.ST_CFG_USE k, R.ST_CFG_RING_LOG2 k, R.ST_CFG_RING_BASE k].foldl (fun t f => t.set f (bits v f.lo f.w)) s).jsTurn s).reply 0 0

/-- A write of LL_CFG (R393, R413, R414). -/
def State.llCfgWrite (s : State) (src q v : Nat) : State :=
  let k := 10 + q
  if !s.srcOk src then s.reply 0x0A01 0
  else if !([1, 2, 4].contains (bits v 0 3)) || bits v 3 4 < 10 || 14 < bits v 3 4 || bits v 7 8 = 0 || bits v 48 16 = 0 then s.reply 0x0A20 0
  else ([R.LL_CFG_LANES k, R.LL_CFG_F k, R.LL_CFG_TOL k, R.LL_CFG_LINK_ID k, R.LL_CFG_CAPS_TO k].foldl
    (fun t f => t.set f (bits v f.lo f.w)) s).reply 0 0

/-- Chunks of the ring that are not returned, modulo 2^32 (R420). -/
def State.ringFill (s : State) (q : Nat) : Nat := (s.get (R.ST_RX_WR_WR (10 + q)) + 2 ^ 32 - s.get (R.ST_RX_RD_RD (10 + q))) % 2 ^ 32

/-- A write of ST_RX_RD (R420). -/
def State.stRdWrite (s : State) (src q v : Nat) : State :=
  let k := 10 + q
  if !s.srcOk src then s.reply 0x0A01 0
  else if 2 ^ 31 ≤ (s.get (R.ST_RX_WR_WR k) + 2 ^ 32 - v % 2 ^ 32) % 2 ^ 32 then s.reply 0x0A22 0
  else (s.set (R.ST_RX_RD_RD k) v).reply 0 0

/-- ST_RX_RD_WRITE (R420). -/
def execStRxRdWrite (src : SrcId) (q : Fin 2) (data : BitVec 32) (s : State) : Host.Outcome State Fault Refusal :=
  done (s.stRdWrite src q data.toNat)

/-- A NoC write into the TX window (R421): the status of its answer. `waddr` and `last` are word numbers. -/
def State.stTxWrite (s : State) (q waddr last : Nat) (words : List Nat) : State × Nat :=
  let n := last + 1 - waddr % 64
  if waddr % 16 ≠ 0 ∨ n % 16 ≠ 0 ∨ n = 0 ∨ words.length ≠ n then (s, 0x0A21)
  else
    let x := s.stream q
    if 16384 < x.tx.length + 4 * n then (s, 0x0A23)
    else (s.setStream q { x with tx := x.tx ++ words.flatMap (toBytes 4) }, 0)

/-- ST_TX_WRITE (R421). -/
def execStTxWrite (q : Fin 2) (waddr : BitVec 12) (last : BitVec 6) (data : List (BitVec 32)) (s : State) : Host.Outcome State Fault Refusal :=
  let r := s.stTxWrite q waddr.toNat last.toNat (data.map (fun (x : BitVec 32) => x.toNat))
  done (r.1.reply r.2 0)

/-- One row of the lane link (R411): on each of its lanes the block that `blk` gives, through the lane's scrambler. The register before a lane's first
block is left open. -/
def State.llRow (s : State) (q cnt : Nat) (blk : Nat → LlBlock) : State :=
  let s1 := (List.range cnt).foldl (fun (t : State) i =>
    let x := t.stream q
    let b := blk i
    let c := scramble (match SMap.get x.scr none i with | some r => r | none => Config.freeNat 35 (4 * q + i) % 2 ^ 58) b.payload
    { t.setStream q { x with scr := SMap.set x.scr none i (some c.1),
                             crc := if b.sync = 1 then SMap.set x.crc 0xFFFFFFFF i (crc32Reg (SMap.get x.crc 0xFFFFFFFF i) (toBytes 8 b.payload)) else x.crc }
      with out := t.out ++ [.lane (4 * (10 + q) + i) (b.sync + 4 * c.2)] }) s
  s1.setStream q { s1.stream q with sinceMarker := (s1.stream q).sinceMarker + 1, sinceFiller := (s1.stream q).sinceFiller + 1 }

/-- A row of MARKERs when 16,383 blocks have gone since the last (R413). -/
def State.llMarkerRow (s : State) (q cnt : Nat) : State :=
  let x := s.stream q
  if x.sinceMarker < 16383 then s
  else
    let s1 := s.llRow q cnt (fun i => llMarker i x.markers (SMap.get x.crc 0xFFFFFFFF i ^^^ 0xFFFFFFFF))
    s1.setStream q { s1.stream q with sinceMarker := 0, markers := (x.markers + 1) % 2 ^ 16, crc := [] }

/-- A row of FILLERs when the next rows would make 2^F blocks without one (R413). -/
def State.llFillerRow (s : State) (q cnt : Nat) : State :=
  if (s.stream q).sinceFiller + 2 < 2 ^ s.get (R.LL_CFG_F (10 + q)) then s
  else
    let s1 := s.llRow q cnt (fun _ => llFILLER)
    s1.setStream q { s1.stream q with sinceFiller := 0 }

/-- A row of content, after the MARKERs and FILLERs that are due (R412, R413). -/
def State.llSend (s : State) (q cnt : Nat) (blk : Nat → LlBlock) : State :=
  (((s.llMarkerRow q cnt).llFillerRow q cnt).llMarkerRow q cnt).llRow q cnt blk

/-- A chunk in 8 data blocks over the agreed lanes, block m on lane m mod L (R412). -/
def State.llChunk (s : State) (q cnt : Nat) (chunk : List Nat) : State :=
  (List.range (8 / cnt)).foldl (fun (t : State) r => t.llSend q cnt (fun i => llData (chunk.drop (8 * (r * cnt + i))))) s

/-- The block of a lane that carries no data (R400, R414): in CAPS the four CAPS blocks in INDEX order with IDLE between them, else IDLE. -/
def State.llQuiet (s : State) (q i : Nat) : LlBlock :=
  let k := 10 + q
  let x := s.stream q
  if s.lnState (4 * k + i) = lnCAPS ∧ x.capsIdx % 2 = 0 then
    llCaps (x.capsIdx / 2) x.ackSent (capsContent (s.get (R.LL_CFG_LANES k)) (s.get (R.LL_CFG_F k)) (s.get (R.LL_CFG_TOL k)) (s.get (R.LL_CFG_LINK_ID k)))
  else llIDLE

/-- ST_TX_SEND (R400, R412, R414, R415, R421, R424): the lane link sends a whole chunk when it has one, else IDLE, and before it is UP the idle pattern
or its CAPS blocks; an ACTIVE converter link sends the octets of one frame, or zeros when the FIFO does not hold them. -/
def execStTxSend (q : Fin 2) (s : State) : Host.Outcome State Fault Refusal :=
  let k := 10 + q.val
  let x := s.stream q
  if !s.inMode [mRUN] then done s
  else if s.get (R.ST_CFG_USE k) = 2 ∧ s.has (R.LL_STAT_UP k) then
    let cnt := s.get (R.LL_STAT_LANES k)
    done (if x.tx.length < 64 then State.llSend { s with out := [.stream q []] } q cnt (fun _ => llIDLE)
      else State.llChunk { s.setStream q { x with tx := x.tx.drop 64 } with out := [.stream q (x.tx.take 64)] } q cnt (x.tx.take 64))
  else if s.get (R.ST_CFG_USE k) = 2 ∧ s.lnMode (4 * k) = 1 ∧ lnTRAIN ≤ s.lnState (4 * k) ∧ s.lnState (4 * k) ≤ lnACTIVE then
    let t := State.llSend { s with out := [.stream q []] } q (s.get (R.LL_CFG_LANES k)) (s.llQuiet q)
    done (t.setStream q { t.stream q with capsIdx := (x.capsIdx + 1) % 8 })
  else if s.get (R.ST_CFG_USE k) = 1 ∧ s.has (R.JS_CFG_EN k) ∧ s.has (R.JS_CFG_DIR k)
      ∧ (s.stLanes q ++ (if s.get (R.JS_CFG_LCODE k) = 3 then s.stLanes 1 else [])).all (fun n => decide (s.lnState n = lnACTIVE)) then
    let n := 2 ^ s.get (R.JS_CFG_LCODE k) * s.get (R.JS_CFG_F k)
    done (if x.tx.length < n then { s.bump (R.ST_CNT_UNDER k) 1 with out := [.stream q (List.replicate n 0)] }
      else { s.setStream q { x with tx := x.tx.drop n } with out := [.stream q (x.tx.take n)] })
  else done s

/-- The ST_MARK_POS word, whose read snapshots ST_MARK_TIME and ST_MARK_FLAGS (R422). -/
def State.markRead (s : State) (q : Nat) : State :=
  let k := 10 + q
  (s.setStream q { s.stream q with markSnap := s.get (R.ST_MARK_TIME_TIME k),
                                     markFlags := s.word [R.ST_MARK_FLAGS_VALID k, R.ST_MARK_FLAGS_STALE k] }).reply 0
    (s.word [R.ST_MARK_POS_CHUNK k, R.ST_MARK_POS_OCTET k, R.ST_MARK_POS_SEQ k])

/-- ST_MARK_POS_READ (R422). -/
def execStMarkPosRead (q : Fin 2) (s : State) : Host.Outcome State Fault Refusal := done (s.markRead q)

/-! ## Modes -/

/-- Every lane that is not off goes to IDLE with its transmitter idle (R402, R424). -/
def State.lanesIdle (s : State) (p : Nat → Bool) : State :=
  (List.range 48).foldl (fun (t : State) n =>
    if p n ∧ t.lnState n ≠ lnOFF then t.laneDown n lnIDLE else t) s

/-- Scans and PRBS are aborted (R424). -/
def State.lanesAbort (s : State) : State :=
  (List.range 48).foldl (fun (t : State) n =>
    ((t.eyeCut n).chkReseed n).sets [(R.LN_PRBS_CFG_GEN n, 0), (R.LN_PRBS_CFG_CHK n, 0)]) s

/-- Lanes at the entry to a mode (R424): BOOT and LOAD put them in IDLE and turn the PLLs of Q_0 to Q_7, Q_10 and Q_11 off; SAFE
puts them in IDLE; RUN lets bring-up go on. -/
def State.lanesMode (s : State) (mode : Nat) : State :=
  if mode = mRUN then (List.range 48).foldl State.laneSettle s
  else
    let s1 := s.lanesAbort.lanesIdle (fun n => !hostLane n)
    if mode = mSAFE then s1
    else [0, 1, 2, 3, 4, 5, 6, 7, 10, 11].foldl (fun (t : State) q =>
      t.sets [(R.QD_PLL_EN q 0, 0), (R.QD_PLL_LOCK q 0, 0), (R.QD_PLL_EN q 1, 0), (R.QD_PLL_LOCK q 1, 0)]) s1

end Sys2Proof.Machine
end

