-- ==== Sys2Proof/Machine/Ports.lean ====
section
/-!
DEFINITION. The port engines and the loft (chapter 14): port and channel settings, receive, transmit, timestamps, gate lists,
the loft's commands and its window. Times without modulus are in units of 2^-16 ns.
-/
namespace Sys2Proof.Machine
open Sys2Proof

def Chan.reset : Chan := ⟨[], [], none, none, none⟩
def State.chan (s : State) (ch : Nat) : Chan := SMap.get s.chans Chan.reset ch
def State.setChan (s : State) (ch : Nat) (x : Chan) : State := { s with chans := SMap.set s.chans Chan.reset ch x }

def Frame.none : Frame := ⟨[], false, 0, 0, 0⟩
def State.loftFrame (s : State) (h : Nat) : Frame := SMap.get s.loft.frames Frame.none h

/-- The present time without modulus, and the time without modulus that a TIME48F value nearest to it means. -/
def State.nowWide (s : State) : Int := s.tp.wide * 2 ^ 48 + s.now48
def State.widen (s : State) (t48 : Nat) : Int := s.nowWide + signed 48 (encode2 48 ((t48 : Int) - s.now48))

/-! ## Ports and channels -/

/-- What a CFG gives (R426): channels, lanes for each, PAM4, N of QPLL_0, DIV, MAC rate in Gb/s, lane symbol rate in kHz. -/
structure PortCfg where
  chans : Nat
  lanes : Nat
  pam4 : Nat
  n : Nat
  div : Nat
  rate : Nat
  symKhz : Nat
deriving DecidableEq, Repr

def portCfg (cfg : Nat) : PortCfg :=
  match cfg with
  | 1 => ⟨1, 4, 1, 170, 0, 400, 53125000⟩
  | 2 => ⟨2, 2, 1, 170, 0, 200, 53125000⟩
  | 3 => ⟨4, 1, 1, 170, 0, 100, 53125000⟩
  | 4 => ⟨4, 1, 1, 170, 1, 50, 26562500⟩
  | 5 => ⟨4, 1, 0, 165, 1, 25, 25781250⟩
  | 6 => ⟨4, 1, 0, 132, 2, 10, 10312500⟩
  | _ => ⟨0, 0, 0, 0, 0, 1, 0⟩

/-- Whether a CFG allows a FEC value (R426): 0 NONE, 1 RS528, 2 RS544. -/
def fecOk (cfg fec : Nat) : Bool :=
  match cfg with
  | 1 | 2 | 3 | 4 => fec = 2
  | 5 => fec = 0 || fec = 1
  | 6 => fec = 0
  | _ => false

def State.peCfg (s : State) (k : Nat) : Nat := s.get (R.PE_CFG_CFG k)

/-- Whether a global channel exists (R426). -/
def State.chExists (s : State) (ch : Nat) : Bool := decide (ch % 4 < (portCfg (s.peCfg (ch / 4))).chans)

/-- The lanes of a channel (R426). -/
def State.chLanes (s : State) (ch : Nat) : List Nat :=
  let n := (portCfg (s.peCfg (ch / 4))).lanes
  (List.range n).map (fun i => 4 * (ch / 4) + n * (ch % 4) + i)

/-- Whether hairpin is in effect on a port (R431). -/
def State.hpActive (s : State) (k : Nat) : Bool :=
  let p := s.get (R.PE_CFG_HAIRPIN k)
  s.has (R.PE_CFG_HP_EN k) && s.has (R.PE_CFG_HP_EN p) && decide (s.get (R.PE_CFG_HAIRPIN p) = k) && decide (p ≠ k)
    && decide (s.peCfg p = s.peCfg k)
    && (List.range (portCfg (s.peCfg k)).chans).all (fun c => decide (s.get (R.CH_CFG_FEC (4 * k + c)) = s.get (R.CH_CFG_FEC (4 * p + c))))

/-- The PE_STATUS word (R428, R430, R431). -/
def State.peStatus (s : State) (k : Nat) : Nat :=
  s.get (R.PE_STATUS_LINK k) + ofFlag (s.rcvRun k) * 2 ^ 4 + ofFlag (s.hpActive k) * 2 ^ 5

/-- Writes LINK of a channel. -/
def State.setLink (s : State) (ch : Nat) (v : Bool) : State :=
  let l := s.get (R.PE_STATUS_LINK (ch / 4))
  let c := ch % 4
  (s.put (R.CH_STAT_LINK ch) v).set (R.PE_STATUS_LINK (ch / 4)) (l - bit l c * 2 ^ c + ofFlag v * 2 ^ c)

/-- The engine sets the quad for a CFG and REF (R426, R427): every lane to OFF, then to PROTOCOL with the new settings. -/
def State.portLanes (s : State) (k cfg ref : Nat) : State :=
  let c := portCfg cfg
  let s1 := (List.range 4).foldl (fun (t : State) i =>
    let n := 4 * k + i
    let u := (t.set (R.LN_CFG_MODE n) 0).laneRestart n
    if cfg = 0 then u else u.sets [(R.LN_CFG_MODE n, 1), (R.LN_CFG_PLL n, 0), (R.LN_CFG_DIV n, c.div), (R.LN_CFG_PAM4 n, c.pam4), (R.LN_CFG_LOOP n, 0)]) s
  if cfg = 0 then s1
  else s1.sets [(R.QD_PLL_REFSEL k 0, 0), (R.QD_PLL_EN k 0, 1), (R.QD_PLL_LOCK k 0, 0), (R.QD_PLL_M k 0, 1 + ref),
    (R.QD_PLL_N k 0, c.n), (R.QD_PLL_FRAC k 0, 0)]

/-- The check of a write of PE_CFG (R427, R430, R431, R456). -/
def State.peRefusal (s : State) (src k v : Nat) : Option Nat :=
  let cfg := bits v 0 3
  let p := bits v 18 3
  let changed := cfg ≠ s.peCfg k ∨ bit v 3 ≠ s.get (R.PE_CFG_REF k)
  if !s.srcOk src then some 0x0401
  else if cfg = 7 then some 0x0402
  else if changed ∧ (List.range 4).any (fun c => s.has (R.CH_CFG_EN (4 * k + c))) then some 0x0403
  else if bits v 8 10 = 0 ∨ (bit v 6 = 1 ∧ (400000 * bits v 8 10 < (portCfg cfg).symKhz ∨ s.get (R.CH_CFG_END (4 * k + bits v 4 2)) = 2)) then some 0x0402
  else if bit v 21 = 1 ∧ (p = k ∨ s.get (R.PE_CFG_HAIRPIN p) ≠ k ∨ s.peCfg p ≠ cfg
      ∨ (List.range (portCfg cfg).chans).any (fun c => decide (s.get (R.CH_CFG_FEC (4 * k + c)) ≠ s.get (R.CH_CFG_FEC (4 * p + c))))) then some 0x0410
  else none

/-- A write of PE_CFG (R426, R427). -/
def State.peCfgWrite (s : State) (src k v : Nat) : State :=
  match s.peRefusal src k v with
  | some c => s.reply c 0
  | none =>
    let changed := bits v 0 3 ≠ s.peCfg k ∨ bit v 3 ≠ s.get (R.PE_CFG_REF k)
    let s1 := [R.PE_CFG_CFG k, R.PE_CFG_REF k, R.PE_CFG_RCV_CH k, R.PE_CFG_RCV_EN k, R.PE_CFG_RCV_DIV k, R.PE_CFG_HAIRPIN k,
      R.PE_CFG_HP_EN k].foldl (fun t f => t.set f (bits v f.lo f.w)) s
    (if changed then (List.range 4).foldl (fun t c => t.setLink (4 * k + c) false) (s1.portLanes k (bits v 0 3) (bit v 3)) else s1).reply 0 0

/-- PE_CFG_WRITE (R427). -/
def execPeCfgWrite (src : SrcId) (k : Fin 8) (data : Word64) (s : State) : Host.Outcome State Fault Refusal :=
  done ((s.commit (R.PE_CFG_CFG k).addr).peCfgWrite src k data.toNat)

/-- A write of CH_CFG (R427, R456). -/
def State.chCfgWrite (s : State) (src ch v : Nat) : State :=
  let fec := bits v 0 2
  let cfg := s.peCfg (ch / 4)
  let change := fec ≠ s.get (R.CH_CFG_FEC ch)
  if !s.srcOk src then s.reply 0x0401 0
  else if !s.chExists ch ∨ fec = 3 ∨ bits v 4 2 = 3 ∨ bits v 16 14 < 64 ∨ 9600 < bits v 16 14 then s.reply 0x0404 0
  else if (change ∨ bit v 2 = 1) ∧ !fecOk cfg fec then s.reply 0x0404 0
  else if change ∧ s.has (R.CH_CFG_EN ch) then s.reply 0x0403 0
  else ([R.CH_CFG_FEC ch, R.CH_CFG_EN ch, R.CH_CFG_CORR_EN ch, R.CH_CFG_END ch, R.CH_CFG_MTU ch].foldl
    (fun t f => t.set f (bits v f.lo f.w)) s).reply 0 0

/-- CH_CFG_WRITE (R427). -/
def execChCfgWrite (src : SrcId) (ch : Fin 32) (data : Word64) (s : State) : Host.Outcome State Fault Refusal :=
  done ((s.commit (R.CH_CFG_EN ch).addr).chCfgWrite src ch data.toNat)

/-- A write of CH_TS_DLY or CH_RXMAP (R456). -/
def State.chPlainWrite (s : State) (src ch v : Nat) (fs : List Fld) : State :=
  if !s.srcOk src then s.reply 0x0401 0
  else if !s.chExists ch then s.reply 0x0404 0
  else (fs.foldl (fun t f => t.set f (bits v f.lo f.w)) s).reply 0 0

/-- CHANNEL_LINK_UP (R428): the alignment markers of all lanes are locked. -/
def execChannelLinkUp (ch : Fin 32) (s : State) : Host.Outcome State Fault Refusal :=
  if s.inMode [mRUN] && s.devClk 14 && s.chExists ch && (s.hpActive (ch.val / 4) || (s.chLanes ch).all (fun n => decide (s.lnState n = lnACTIVE))) then
    done (s.setLink ch true)
  else done s

/-- CHANNEL_LINK_DOWN (R428). -/
def execChannelLinkDown (ch : Fin 32) (s : State) : Host.Outcome State Fault Refusal :=
  if s.hpActive (ch.val / 4) || (s.chExists ch && (s.chLanes ch).all (fun n => decide (s.lnState n = lnACTIVE))) then done s
  else done (s.setLink ch false)

/-! ## The loft -/

/-- Cells charged to a channel, and cells in use (R432, R433). -/
def State.loftUse (s : State) (ch : Nat) : Nat :=
  s.loft.frames.foldl (fun a (e : Nat × Frame) => if e.2.ch = ch then a + e.2.cells.length else a) 0
def State.loftTaken (s : State) (p : Frame → Bool) : Nat :=
  s.loft.frames.foldl (fun a (e : Nat × Frame) => if p e.2 then a + e.2.cells.length else a) 0
def State.loftFree (s : State) : Nat := 131072 - s.loftTaken (fun _ => true)

/-- Shows FREE and the USE counts. -/
def State.loftShow (s : State) : State :=
  (List.range 32).foldl (fun (t : State) ch => t.set (R.LOFT_USE_USE ch) (s.loftUse ch)) (s.set R.LOFT_FREE_FREE s.loftFree)

/-- Whether a channel may take one cell more beyond `extra` cells that it has just taken (R433). -/
def State.loftAllowed (s : State) (ch extra : Nat) : Bool :=
  let use := s.loftUse ch + extra
  let res := (List.range 32).foldl (fun a c => a + (s.get (R.LOFT_CH_MIN c) - (if c = ch then use else s.loftUse c))) 0
  decide (use < s.get (R.LOFT_CH_CAP ch)) && (decide (use < s.get (R.LOFT_CH_MIN ch)) || decide (res + 1 ≤ s.loftFree - extra))

/-- Cells that frames hold. -/
def State.usedCells (s : State) : List Nat := s.loft.frames.flatMap (fun (e : Nat × Frame) => e.2.cells)

/-- The first cell from `k` on, cyclically, that is not among the used ones. -/
def freeCell (used : List Nat) : Nat → Nat → Nat
  | 0, k => k
  | n + 1, k => if used.contains k then freeCell used n ((k + 1) % 131072) else k

/-- Takes `n` cells for a channel, which one being left open; none where R433 refuses one. -/
def State.takeCells (s : State) (ch n : Nat) : Option (List Nat) × State :=
  (List.range n).foldl (fun (acc : Option (List Nat) × State) i =>
    match acc.1 with
    | none => acc
    | some l =>
      if acc.2.loftAllowed ch i then
        let f := acc.2.fresh 14
        let used := f.2.usedCells ++ l
        (some (l ++ [freeCell used (used.length + 1) (f.1 % 131072)]), f.2)
      else (none, acc.2)) (some [], s)

/-- Puts a frame into the loft under its handle; returns its cells to FREE. -/
def State.putFrame (s : State) (h : Nat) (f : Frame) : State :=
  ({ s with loft := { s.loft with frames := SMap.set s.loft.frames Frame.none h f } }).loftShow
def State.freeFrame (s : State) (h : Nat) : State := s.putFrame h Frame.none

/-- A byte of a frame, and the bytes of its first `n`. -/
def State.frameByte (s : State) (f : Frame) (o : Nat) : Nat := SMap.get s.loft.mem 0 (f.cells.getD (o / 256) 0 * 256 + o % 256)
def State.frameBytes (s : State) (h n : Nat) : List Nat := (List.range n).map (s.frameByte (s.loftFrame h))
/-- Writes bytes of a frame from offset `o`. -/
def State.writeFrame (s : State) (f : Frame) (o : Nat) (bytes : List Nat) : State :=
  let m := (bytes.zipIdx).foldl (fun (m : SMap Nat) (e : Nat × Nat) =>
    SMap.set m 0 (f.cells.getD ((o + e.2) / 256) 0 * 256 + (o + e.2) % 256) (e.1 % 256)) s.loft.mem
  { s with loft := { s.loft with mem := m } }

/-- Whether a handle is the head of a HELD frame. -/
def State.heldHead (s : State) (h : Nat) : Bool := decide ((s.loftFrame h).cells ≠ []) && !(s.loftFrame h).queued

/-- Posts into LOFT_RESULT_s (R439): the answer of the write is 0x0000 (R737). -/
def State.loftPost (s : State) (src op handle code : Nat) : State :=
  (s.sets [(R.LOFT_RESULT_STATUS src, code), (R.LOFT_RESULT_HANDLE src, handle), (R.LOFT_RESULT_OP src, op),
    (R.LOFT_RESULT_SEQ src, s.get (R.LOFT_RESULT_SEQ src) + 1), (R.LOFT_RESULT_VALID src, 1), (R.LOFT_RESULT_STALE src, 0)]).reply 0 0

/-- The head frame of each non-empty transmit queue, as (queue, handle). -/
def Chan.heads (x : Chan) : List (Nat × Nat) :=
  (List.range 8).filterMap (fun q => (x.tx.find? (fun (e : TxEnt) => decide (e.queue = q))).map (fun (e : TxEnt) => (q, e.handle)))

/-- Frames leave the transmit queues: the gate list forgets those that stood at a head (R454). -/
def Chan.txKeep (x : Chan) (keep : TxEnt → Bool) : Chan :=
  let y := { x with tx := x.tx.filter keep }
  { y with gate := x.gate.map (fun (g : GateRun) =>
      { g with heads := g.heads.filter (fun h => y.heads.contains (h.1, h.2.1)), due := g.due.filter (fun d => y.heads.contains d) }) }

/-- Discards every frame in a channel's transmit queues (R439). -/
def State.flushTx (s : State) (ch : Nat) : State :=
  let x := s.chan ch
  x.tx.foldl (fun (t : State) (e : TxEnt) => t.freeFrame e.handle) (s.setChan ch (x.txKeep (fun _ => false)))

/-- A word written to LOFT_CMD (R439, R458). -/
def State.loftCmd (s : State) (src v : Nat) : State :=
  let op := bits v 0 4
  let ch := bits v 4 5
  let len := bits v 9 14
  let h := bits v 32 17
  match op with
  | 0 => s.loftPost src 0 0 0
  | 1 =>
    if !s.inMode [mRUN] then s.loftPost src 1 0 0x0409
    else if !s.chExists ch then s.loftPost src 1 0 0x0404
    else if len < 14 ∨ 9596 < len then s.loftPost src 1 0 0x0405
    else
      match s.takeCells ch ((len + 255) / 256) with
      | (some (c :: cs), t) => (t.putFrame c ⟨c :: cs, false, ch, 0, 0⟩).loftPost src 1 c 0
      | (_, _) => s.loftPost src 1 0 0x0406
  | 2 => if s.heldHead h then (s.freeFrame h).loftPost src 2 h 0 else s.loftPost src 2 h 0x0407
  | 3 => if s.chExists ch then (s.flushTx ch).loftPost src 3 0 0 else s.loftPost src 3 0 0x0404
  | _ => s.loftPost src op 0 0x0404

/-- LOFT_ALLOC (R439). -/
def execLoftAlloc (src : SrcId) (ch : Fin 32) (len : BitVec 14) (s : State) : Host.Outcome State Fault Refusal :=
  done ((s.commit R.LOFT_CMD_OP.addr).loftCmd src (1 + ch.val * 2 ^ 4 + len.toNat * 2 ^ 9))
/-- LOFT_RELEASE (R439). -/
def execLoftRelease (src : SrcId) (handle : BitVec 17) (s : State) : Host.Outcome State Fault Refusal :=
  done ((s.commit R.LOFT_CMD_OP.addr).loftCmd src (2 + handle.toNat * 2 ^ 32))
/-- LOFT_FLUSH (R439). -/
def execLoftFlush (src : SrcId) (ch : Fin 32) (s : State) : Host.Outcome State Fault Refusal :=
  done ((s.commit R.LOFT_CMD_OP.addr).loftCmd src (3 + ch.val * 2 ^ 4))

/-- A window access (R434, R440): `off` is the byte offset from 0x8_0000_0000, `n` the bytes. `rowErr` is what the row code finds
on a read: 0 nothing, 1 corrected, otherwise uncorrectable. The result is the status and the data read. -/
def State.loftWindow (s : State) (off n : Nat) (wr : Option (List Nat)) (rowErr : Nat) : State × Nat × List Nat :=
  let f := s.loftFrame (off / 0x4000)
  let o := off % 0x4000
  if f.cells = [] ∨ 256 * f.cells.length < o + n ∨ (wr.isSome ∧ f.queued) then (s, 0x040D, [])
  else match wr with
    | some l => (s.writeFrame f o l, 0, [])
    | none =>
      if rowErr = 0 then (s, 0, (List.range n).map (fun i => s.frameByte f (o + i)))
      else if rowErr = 1 then (s.bump R.LOFT_CNT_CORR 1, 0, (List.range n).map (fun i => s.frameByte f (o + i)))
      else (s.bump R.LOFT_CNT_UNC 1, 0x040E, [])

/-- A write of LOFT_CH (R433, R456). -/
def State.loftChWrite (s : State) (src ch v : Nat) : State :=
  let mn := bits v 0 18
  let cap := bits v 32 18
  let sum := (List.range 32).foldl (fun a c => a + (if c = ch then mn else s.get (R.LOFT_CH_MIN c))) 0
  if !s.srcOk src then s.reply 0x0401 0
  else if 131072 < sum ∨ cap < mn ∨ 131072 < cap ∨ cap = 0 then s.reply 0x040A 0
  else (s.sets [(R.LOFT_CH_MIN ch, mn), (R.LOFT_CH_CAP ch, cap)]).reply 0 0

/-- LOFT_CH_WRITE (R433). -/
def execLoftChWrite (src : SrcId) (ch : Fin 32) (data : Word64) (s : State) : Host.Outcome State Fault Refusal :=
  done ((s.commit (R.LOFT_CH_MIN ch).addr).loftChWrite src ch data.toNat)

/-- The LOFT_FREE word, whose read latches LOFT_BOOK from the same cycle (R432). -/
def State.loftFreeRead (s : State) : State :=
  (s.sets [(R.LOFT_BOOK_HELD, s.loftTaken (fun f => !f.queued)), (R.LOFT_BOOK_QUEUED, s.loftTaken (fun f => f.queued))]).reply 0 s.loftFree

/-- LOFT_FREE_READ (R432). -/
def execLoftFreeRead (s : State) : Host.Outcome State Fault Refusal := done s.loftFreeRead

/-- The base in PE_TOD and PE_TOD_S (R449). -/
def State.tod (s : State) : Tod := ⟨s.get R.PE_TOD_S_BASE_S, s.get R.PE_TOD_BASE_NS, s.get R.PE_TOD_W0⟩

/-- The base for a delimiter that leaves at `t` (R449): a write acts on those that leave at least 1 µs after it; which base an earlier one takes is
left open. -/
def State.todPick (s : State) (t : Int) : Tod × State :=
  match s.todPrev with
  | some (w, old) => if t < w + 65536000 then (let f := s.fresh 36; (if f.1 % 2 = 1 then old else s.tod, f.2)) else (s.tod, s)
  | none => (s.tod, s)

/-- A write of PE_TOD, which commits both words, or of PE_TOD_S, which waits for it (R449, R7). -/
def State.peTodWrite (s : State) (src : Nat) (seconds : Bool) (v : Nat) : State :=
  if !s.srcOk src then s.reply 0x0401 0
  else if seconds then { s.reply 0 0 with todS := some v }
  else if 999999999 < bits v 0 30 then s.reply 0x040F 0
  else
    let secs := s.todS.getD (s.get R.PE_TOD_S_BASE_S)
    { (s.sets [(R.PE_TOD_BASE_NS, bits v 0 30), (R.PE_TOD_W0, bits v 32 16), (R.PE_TOD_S_BASE_S, secs)]).reply 0 0 with
      todS := none, todPrev := some (s.nowWide, s.tod) }

/-- PE_TOD_WRITE (R449). -/
def execPeTodWrite (src : SrcId) (seconds : Bool) (data : Word64) (s : State) : Host.Outcome State Fault Refusal :=
  done ((s.commit (R.PE_TOD_W0.addr + (if seconds then 8 else 0))).peTodWrite src seconds data.toNat)

/-! ## Frames -/

/-- Big-endian field of `n` bytes at offset `o`. -/
def beField (bytes : List Nat) (o n : Nat) : Nat := (List.range n).foldl (fun a i => a * 256 + bytes.getD (o + i) 0) 0

/-- Writes a big-endian field of `n` bytes at offset `o`. -/
def bePut (bytes : List Nat) (o n v : Nat) : List Nat :=
  bytes.take o ++ (List.range n).map (fun i => v / 2 ^ (8 * (n - 1 - i)) % 256) ++ bytes.drop (o + n)

/-- What the headers of a frame say (R436, R437): PCP of a VLAN tag, EtherType, offset of its payload. -/
structure Parsed where
  pcp : Option Nat
  etype : Nat
  off : Nat
deriving DecidableEq, Repr

def parseFrame (b : List Nat) : Parsed :=
  let e := beField b 12 2
  if e = 0x8100 ∨ e = 0x88A8 then ⟨some (beField b 14 2 / 2 ^ 13), beField b 16 2, 18⟩ else ⟨none, e, 14⟩

/-- A PTP message found by rule 1 of R436: its offset, the offset of the UDP header, and 0 (Ethernet), 4 or 6 (IP). -/
structure PtpAt where
  msg : Nat
  udp : Nat
  ip : Nat
deriving DecidableEq, Repr

def ptpFind (b : List Nat) : Option PtpAt :=
  let p := parseFrame b
  let port (u : Nat) : Bool := beField b (u + 2) 2 = 319 || beField b (u + 2) 2 = 320
  let u4 := p.off + 4 * (b.getD p.off 0 % 16)
  if p.etype = 0x88F7 then some ⟨p.off, 0, 0⟩
  else if p.etype = 0x0800 ∧ b.getD (p.off + 9) 0 = 17 ∧ port u4 then some ⟨u4 + 8, u4, 4⟩
  else if p.etype = 0x86DD ∧ b.getD (p.off + 6) 0 = 17 ∧ port (p.off + 40) then some ⟨p.off + 48, p.off + 40, 6⟩
  else none

/-- Whether a frame is eCPRI (R437). -/
def isEcpri (b : List Nat) : Bool :=
  let p := parseFrame b
  p.etype = 0xAEFE && b.getD p.off 0 / 16 = 1 && decide (p.off + beField b (p.off + 2) 2 + 4 ≤ b.length)

/-- The queue of a kept frame (R436). -/
def State.rxQueue (s : State) (ch : Nat) (b : List Nat) : Nat :=
  let p := parseFrame b
  let t := b.getD (p.off + 1) 0
  if (ptpFind b).isSome then s.get (R.CH_RXMAP_PTP_Q ch)
  else if isEcpri b then (if t ≤ 7 then bits (s.get (R.CH_RXMAP_ECPRI_Q ch)) (3 * t) 3 else s.get (R.CH_RXMAP_DEFAULT_Q ch))
  else match p.pcp with
    | some pcp => bits (s.get (R.CH_RXMAP_PCP_Q ch)) (3 * pcp) 3
    | none => s.get (R.CH_RXMAP_DEFAULT_Q ch)

/-! ## Timestamps -/

/-- TX_FIX, RX_FIX in 2^-16 ns and Rc in units of 0.00001 Gb/s (R444); Rc is 0 without FEC. -/
def fixOf (cfg fec : Nat) : Nat × Nat × Nat :=
  match cfg, fec with
  | 6, _ => (2514944, 3457024, 0)
  | 5, 0 => (1417216, 1982464, 0)
  | 5, _ => (2736128, 6062080, 2578125)
  | 4, _ => (2359296, 4874240, 5312500)
  | 3, _ => (1785856, 3842048, 10625000)
  | 2, _ => (1466368, 3211264, 21250000)
  | _, _ => (1220608, 2703360, 42500000)

/-- The variable term of R443, rounded to the nearest unit. -/
def fecTerm (rc ofs : Nat) : Nat := if rc = 0 then 0 else (2 * (ofs * 10 * 100000 * 65536) + rc) / (2 * rc)

/-- The receive and transmit stamps (R443). -/
def State.rxStamp (s : State) (ch : Nat) (t : Int) (ofs : Nat) : Int :=
  let f := fixOf (s.peCfg (ch / 4)) (s.get (R.CH_CFG_FEC ch))
  if s.has (R.CH_CFG_CORR_EN ch) then t - f.2.1 - fecTerm f.2.2 ofs - signed 20 (s.get (R.CH_TS_DLY_RX_DLY ch)) else t
def State.txStamp (s : State) (ch : Nat) (t : Int) : Int :=
  let f := fixOf (s.peCfg (ch / 4)) (s.get (R.CH_CFG_FEC ch))
  if s.has (R.CH_CFG_CORR_EN ch) then t + f.1 + signed 20 (s.get (R.CH_TS_DLY_TX_DLY ch)) else t

/-- TIME48F and WRAPS mod 256 of a stamp. -/
def stamp48 (t : Int) : Nat := encode2 48 t
def stampWrap (t : Int) : Nat := encode2 56 t / 2 ^ 48

/-- The PTP80 value of a stamp (R449): 48-bit seconds and 32-bit nanoseconds. -/
def ptp80 (b : Tod) (t : Int) : Nat :=
  let w := encode2 64 t / 2 ^ 48
  let dw := (w + 65536 - b.w0) % 65536
  let ns := b.ns + dw * 2 ^ 32 + encode2 48 t / 65536
  (b.secs + ns / 1000000000) % 2 ^ 48 * 2 ^ 32 + ns % 1000000000

/-! ## Receive -/

/-- Drops a received frame: its cells return to FREE; 0x0421 at most once per ms and channel (R435). -/
def State.rxDropLoft (s : State) (ch : Nat) : State :=
  let s1 := s.bump (R.CH_CNT_RX_DROP_LOFT ch) 1
  let x := s1.chan ch
  let recent := match x.last421 with | some t => decide (s.nowWide - t < 1000000 * 65536) | none => false
  if recent then s1 else (s1.setChan ch { x with last421 := some s.nowWide }).raise 0x0421 ch 0

/-- A frame received on a channel (R429, R435 to R437, R443, R450); `t` is the MAC's time of its start-frame delimiter. -/
def State.rxFrame (s0 : State) (ch : Nat) (bytes : List Nat) (t : Int) (ofs fecCorr fecUnc : Nat) : State :=
  if !s0.inMode [mRUN] || !s0.devClk 14 || !s0.chExists ch || !s0.has (R.CH_CFG_EN ch) || !s0.has (R.CH_STAT_LINK ch) then s0
  else
    let s := (s0.bump (R.CH_CNT_FEC_CORR ch) fecCorr).bump (R.CH_CNT_FEC_UNC ch) fecUnc
    let n := bytes.length
    let body := bytes.take (n - 4)
    let p := parseFrame body
    let typ := body.getD (p.off + 1) 0
    let ec := isEcpri body
    match s.takeCells ch ((n - 4 + 255) / 256) with
    | (none, _) => s.rxDropLoft ch
    | (some cells, t1) =>
      if crc32 body ≠ ofBytes (bytes.drop (n - 4)) ∨ fecUnc ≠ 0 then s.bump (R.CH_CNT_RX_DROP_FCS ch) 1
      else if n < 64 ∨ s.get (R.CH_CFG_MTU ch) < n then s.bump (R.CH_CNT_RX_DROP_LEN ch) 1
      else if ec ∧ typ = 2 ∧ s.get (R.CH_CFG_END ch) = 2 then s.bump (R.CH_CNT_RX_DROP_DIR ch) 1
      else
        let h := cells.headD 0
        let ptp := (ptpFind body).isSome
        let desc := h + 2 ^ 17 + (if ec then 2 ^ 18 + body.getD p.off 0 % 2 * 2 ^ 19 + typ * 2 ^ 21 else 0) + ofFlag ptp * 2 ^ 20
          + (n - 4) * 2 ^ 32 + ofs * 2 ^ 46
        let st := s.rxStamp ch t ofs
        let ts := stamp48 st + stampWrap st * 2 ^ 48 + s.get (R.CH_CFG_CORR_EN ch) * 2 ^ 56 + ofFlag (s.timeBad (64 + ch / 4)) * 2 ^ 57
        let f : Frame := ⟨cells, true, ch, desc, ts⟩
        let t2 := ((t1.writeFrame f 0 body).putFrame h f).bump (R.CH_CNT_RX_FRAMES ch) 1
        let t3 := if p.etype = 0xAEFE ∧ !ec then t2.bump (R.CH_CNT_FEC_ECPRI_BAD ch) 1 else t2
        t3.setChan ch { t3.chan ch with rx := (t3.chan ch).rx ++ [(t3.rxQueue ch body, h)] }

/-- RX_FRAME (R435): the bytes with their FCS, the MAC's time, FEC_OFS, corrected and uncorrectable codewords. -/
def execRxFrame (ch : Fin 32) (bytes : List (BitVec 8)) (time : BitVec 48) (fecOfs : Fin 1088) (fecCorr fecUnc : Nat) (s : State) :
    Host.Outcome State Fault Refusal :=
  done (s.rxFrame ch (bytes.map (fun (x : BitVec 8) => x.toNat)) (s.widen time.toNat)
    (if (fixOf (s.peCfg (ch.val / 4)) (s.get (R.CH_CFG_FEC ch))).2.2 = 0 then 0 else fecOfs.val) fecCorr fecUnc)

/-- A pop of a receive queue (R438): the frame's cells move to HELD and its stamp is latched. -/
def State.rxPop (s : State) (ch q : Nat) : State :=
  let addr := (R.CH_RXQ_POP_HANDLE ch q).addr
  let x := s.chan ch
  match x.rx.find? (fun e => decide (e.1 = q)) with
  | none => { s.reply 0 0 with half := SMap.set s.half none addr (some 0) }
  | some e =>
    let f := s.loftFrame e.2
    let s1 := (s.setChan ch { x with rx := x.rx.filter (fun y => decide (y ≠ e)) }).putFrame e.2 { f with queued := false }
    let s2 := s1.sets [(R.CH_RXQ_TS_TIME ch q, bits f.ts 0 48), (R.CH_RXQ_TS_WRAP8 ch q, bits f.ts 48 8),
      (R.CH_RXQ_TS_CORR ch q, bit f.ts 56), (R.CH_RXQ_TS_BAD ch q, bit f.ts 57)]
    { s2.reply 0 f.desc with half := SMap.set s2.half none addr (some (f.desc / 2 ^ 32)) }

/-- CH_RXQ_POP (R438). -/
def execChRxqPop (ch : Fin 32) (q : Fin 8) (s : State) : Host.Outcome State Fault Refusal := done (s.rxPop ch q)

/-! ## Gate lists -/

/-- The position of a running list at a time (R451): cycle number, entry, gates, and the units of 2^-32 ns until the next entry
or cycle. -/
structure GatePos where
  cycle : Int
  entry : Nat
  gates : Nat
  left : Nat
deriving DecidableEq, Repr

/-- The entry that covers offset `x` within a cycle, walking from entry `e` that begins at `at'`. -/
def State.gateWalk (s : State) (ch bank len cycle x : Nat) : Nat → Nat → Nat → Nat × Nat
  | 0, e, _ => (e, cycle - x)
  | fuel + 1, e, at' =>
    let stop := at' + s.get (R.CH_GCL_INTERVAL ch bank e) * 2 ^ 32
    if e + 1 = len ∨ cycle ≤ stop then (e, cycle - x)
    else if x < stop then (e, stop - x)
    else s.gateWalk ch bank len cycle x fuel (e + 1) stop

def State.gatePos (s : State) (ch : Nat) (g : GateRun) (t : Int) : GatePos :=
  let cycle := s.get (R.CH_QBV_CYCLE_CYCLE ch g.bank)
  let len := if g.bank = 0 then s.get (R.CH_QBV_CTRL_LEN_0 ch) else s.get (R.CH_QBV_CTRL_LEN_1 ch)
  let d := (t - g.start) * 65536
  let x := (d % (cycle : Int)).toNat
  let w := s.gateWalk ch g.bank len cycle x 256 0 0
  ⟨d / (cycle : Int), w.1, s.get (R.CH_GCL_GATES ch g.bank w.1), w.2⟩

/-- Whether gate `q` is open from time `t` (2^-16 ns) for `d` units of 2^-32 ns (R453). -/
def State.gateOpen (s : State) (ch q : Nat) (g : GateRun) : Nat → Int → Nat → Bool
  | 0, _, _ => false
  | fuel + 1, t32, d =>
    let cycle := s.get (R.CH_QBV_CYCLE_CYCLE ch g.bank)
    let len := if g.bank = 0 then s.get (R.CH_QBV_CTRL_LEN_0 ch) else s.get (R.CH_QBV_CTRL_LEN_1 ch)
    let x := ((t32 - g.start * 65536) % (cycle : Int)).toNat
    let w := s.gateWalk ch g.bank len cycle x 256 0 0
    if bit (s.get (R.CH_GCL_GATES ch g.bank w.1)) q = 0 then false
    else if d ≤ w.2 then true
    else s.gateOpen ch q g fuel (t32 + w.2) (d - w.2)

/-- A firing of KIND 0x4 that names a channel (R452): the status that its slot records. -/
def State.qbvStart (s : State) (ch t48 : Nat) : State × Nat :=
  let bank := s.get (R.CH_QBV_CTRL_NEXT ch)
  let len := if bank = 0 then s.get (R.CH_QBV_CTRL_LEN_0 ch) else s.get (R.CH_QBV_CTRL_LEN_1 ch)
  if !s.chExists ch then (s, 0x0404)
  else if !s.has (R.CH_QBV_CTRL_EN ch) ∨ len = 0 ∨ s.get (R.CH_QBV_CYCLE_CYCLE ch bank) = 0 then (s.raise 0x0424 ch 0, 0x0424)
  else
    let g0 : GateRun := ⟨bank, s.widen t48, 0, 0, [], []⟩
    let p := s.gatePos ch g0 (s.widen t48)
    let x := s.chan ch
    ((s.setChan ch { x with gate := some { g0 with heads := x.heads.map (fun h => (h.1, h.2, decide (bit p.gates h.1 = 1))) } }).sets
      [(R.CH_QBV_CTRL_RUN_BANK ch, bank), (R.CH_QBV_CTRL_RUNNING ch, 1)], 0)

/-- GATE_CHANGE (R451, R454, R455): the list moves to the position that the present time gives it. -/
def execGateChange (ch : Fin 32) (s : State) : Host.Outcome State Fault Refusal :=
  let x := s.chan ch
  match x.gate with
  | none => done s
  | some g =>
    let p := s.gatePos ch g (s.timeWide (64 + ch.val / 4))
    let g' := if p.cycle = g.cycle then
        { g with entry := p.entry, heads := g.heads.map (fun h => (h.1, h.2.1, h.2.2 || decide (bit p.gates h.1 = 1))) }
      else
        { g with
          cycle := p.cycle
          entry := p.entry
          due := g.due ++ (g.heads.filter (fun h => h.2.2 && x.heads.contains (h.1, h.2.1))).map (fun h => (h.1, h.2.1))
          heads := x.heads.map (fun h => (h.1, h.2, decide (bit p.gates h.1 = 1))) }
    done (s.setChan ch { x with gate := some g' })

/-- GATE_DISCARD (R454). -/
def execGateDiscard (ch : Fin 32) (q : Fin 8) (s : State) : Host.Outcome State Fault Refusal :=
  let x := s.chan ch
  match x.gate, x.heads.find? (fun h => decide (h.1 = q.val)) with
  | some g, some h =>
    if g.due.contains h then
      done ((((s.setChan ch (x.txKeep (fun (e : TxEnt) => decide (e.handle ≠ h.2)))).freeFrame h.2).bump (R.CH_CNT_TX_GATE_DISCARD ch) 1).raise 0x0423 ch 0)
    else done s
  | _, _ => done s

/-- A write of CH_QBV_CTRL (R452, R455, R456). -/
def State.qbvCtrlWrite (s : State) (src ch v : Nat) : State :=
  let l0 := bits v 8 9
  let l1 := bits v 17 9
  let x := s.chan ch
  let busy := match x.gate with
    | some g => if g.bank = 0 then decide (l0 ≠ s.get (R.CH_QBV_CTRL_LEN_0 ch)) else decide (l1 ≠ s.get (R.CH_QBV_CTRL_LEN_1 ch))
    | none => false
  if !s.srcOk src then s.reply 0x0401 0
  else if !s.chExists ch then s.reply 0x0404 0
  else if 256 < l0 ∨ 256 < l1 then s.reply 0x040C 0
  else if busy then s.reply 0x040B 0
  else
    let s1 := s.sets [(R.CH_QBV_CTRL_EN ch, bit v 0), (R.CH_QBV_CTRL_NEXT ch, bit v 1), (R.CH_QBV_CTRL_LEN_0 ch, l0), (R.CH_QBV_CTRL_LEN_1 ch, l1)]
    (if bit v 0 = 0 then (s1.setChan ch { x with gate := none }).put (R.CH_QBV_CTRL_RUNNING ch) false else s1).reply 0 0

/-- CH_QBV_CTRL_WRITE (R452). -/
def execChQbvCtrlWrite (src : SrcId) (ch : Fin 32) (data : BitVec 32) (s : State) : Host.Outcome State Fault Refusal :=
  done (s.qbvCtrlWrite src ch data.toNat)

/-- A write of a gate-list entry, or of CYCLE where `entry` is none (R451, R455, R456). -/
def State.gateBankWrite (s : State) (src ch bank : Nat) (entry : Option Nat) (v : Nat) : State :=
  let running := match (s.chan ch).gate with | some g => decide (g.bank = bank) | none => false
  if !s.srcOk src then s.reply 0x0401 0
  else if !s.chExists ch then s.reply 0x0404 0
  else if running then s.reply 0x040B 0
  else match entry with
    | some e =>
      if bits v 8 24 = 0 then s.reply 0x040C 0
      else (s.sets [(R.CH_GCL_GATES ch bank e, bits v 0 8), (R.CH_GCL_INTERVAL ch bank e, bits v 8 24)]).reply 0 0
    | none =>
      if v < 100 * 2 ^ 32 ∨ 2 ^ 63 ≤ v then s.reply 0x040C 0 else (s.set (R.CH_QBV_CYCLE_CYCLE ch bank) v).reply 0 0

/-- GATE_BANK_WRITE (R455). -/
def execGateBankWrite (src : SrcId) (ch : Fin 32) (bank : Fin 2) (entry : Option (Fin 256)) (data : Word64) (s : State) :
    Host.Outcome State Fault Refusal :=
  let t := if entry.isNone then s.commit (R.CH_QBV_CYCLE_CYCLE ch bank).addr else s
  done (t.gateBankWrite src ch bank (entry.map (fun e => e.val)) data.toNat)

/-! ## Transmit -/

/-- A write of CH_TXQ_ENQ (R441, R458), posted in LOFT_RESULT_s with OP 4. -/
def State.txEnq (s : State) (src ch v : Nat) : State :=
  let h := bits v 0 17
  let len := bits v 17 14
  if !s.inMode [mRUN] then s.loftPost src 4 h 0x0409
  else if !s.chExists ch then s.loftPost src 4 h 0x0404
  else if !s.heldHead h then s.loftPost src 4 h 0x0407
  else if 256 * (s.loftFrame h).cells.length < len ∨ len < 14 ∨ 9596 < len ∨ 4 ≤ bits v 34 3 then s.loftPost src 4 h 0x0408
  else if !s.has (R.CH_CFG_EN ch) then s.loftPost src 4 h 0x0409
  else
    let e : TxEnt := ⟨h, len, bits v 31 3, bits v 34 3, decide (bit v 37 = 1), bits v 48 16⟩
    ((s.setChan ch { s.chan ch with tx := (s.chan ch).tx ++ [e] }).putFrame h { s.loftFrame h with queued := true }).loftPost src 4 h 0

/-- CH_TXQ_ENQ (R441). -/
def execChTxqEnq (src : SrcId) (ch : Fin 32) (data : Word64) (s : State) : Host.Outcome State Fault Refusal :=
  done ((s.commit (R.CH_TXQ_ENQ_LEN ch).addr).txEnq src ch data.toNat)

/-- The bytes before padding, with ECPRI_GEN's revision and payload size (R441). -/
def ecpriGen (b : List Nat) : List Nat :=
  let p := parseFrame b
  if p.etype = 0xAEFE ∧ p.off + 4 ≤ b.length then
    bePut (bePut b p.off 1 (16 + b.getD p.off 0 % 16)) (p.off + 2) 2 (b.length - p.off - 4)
  else b

/-- The one's-complement weight of the byte at position `p` of a UDP datagram. -/
def ckWeight (p v : Nat) : Nat := if p % 2 = 0 then v * 256 else v

/-- Sum of the bytes `o` to `o + n - 1`, positions counted from `u`, modulo 65,535. -/
def ckSum (b : List Nat) (u o n : Nat) : Nat :=
  (List.range n).foldl (fun a i => (a + ckWeight (o + i - u) (b.getD (o + i) 0)) % 65535) 0

/-- One-step insertion into a PTP message (R447); none where it is not possible. -/
def ptpInsert (b : List Nat) (ptp80 frac : Nat) : Option (List Nat) :=
  match ptpFind b with
  | none => none
  | some a =>
    if b.length < a.msg + 44 then none
    else
      let corr := (beField b (a.msg + 8) 8 + frac) % 2 ^ 64
      let b1 := bePut (bePut b (a.msg + 34) 10 ptp80) (a.msg + 8) 8 corr
      if a.ip = 0 then some b1
      else if a.ip = 4 then some (bePut b1 (a.udp + 6) 2 0)
      else
        let stop := a.udp + beField b (a.udp + 4) 2
        if stop < a.msg + beField b (a.msg + 2) 2 + 2 ∨ b.length < stop then none
        else
          let old := ckSum b a.udp a.udp (stop - a.udp)
          let b2 := bePut b1 (stop - 2) 2 0
          let need := (old + 65535 - ckSum b2 a.udp a.udp (stop - a.udp)) % 65535
          some (bePut b1 (stop - 2) 2 (if (stop - a.udp) % 2 = 0 then need else need % 256 * 256 + need / 256))

/-- One-step insertion into an eCPRI message of type 5 (R448). -/
def ecpriInsert (b : List Nat) (ptp80 : Nat) : Option (List Nat) :=
  let p := parseFrame b
  if isEcpri b ∧ b.getD (p.off + 1) 0 = 5 ∧ p.off + 16 ≤ b.length then some (bePut b (p.off + 6) 10 ptp80) else none

/-- Whether the gate of queue `q` admits a frame of `len` bytes at time `t` (R452, R453). -/
def State.gateAdmits (s : State) (ch q len : Nat) (t : Int) : Bool :=
  match (s.chan ch).gate with
  | none => true
  | some g =>
    let r := (portCfg (s.peCfg (ch / 4))).rate
    let d := ((max len 60 + 24) * 8 * 2 ^ 32 + r - 1) / r
    if t < g.start then true else s.gateOpen ch q g 20000 (t * 65536) d

/-- TX_FRAME_START (R442, R434, R441, R443, R447 to R450, R453): `rowCorr` and `rowUnc` count the frame's corrected and
uncorrectable rows. -/
def execTxFrameStart (ch : Fin 32) (time : BitVec 48) (rowCorr rowUnc : Nat) (s : State) : Host.Outcome State Fault Refusal :=
  let x := s.chan ch
  let t := s.widen time.toNat
  let head (q : Nat) : Option TxEnt := x.tx.find? (fun (e : TxEnt) => decide (e.queue = q))
  let pick := [7, 6, 5, 4, 3, 2, 1, 0].findSome? (fun q =>
    match head q with
    | some e => if s.gateAdmits ch q e.len t then some e else none
    | none => none)
  if !s.inMode [mRUN] || !s.devClk 14 || !s.chExists ch || !s.has (R.CH_CFG_EN ch) || !s.has (R.CH_STAT_LINK ch) || x.send.isSome then done s
  else match pick with
  | none => done s
  | some e =>
    let raw := s.frameBytes e.handle e.len
    let b0 := (if e.gen then ecpriGen raw else raw) ++ List.replicate (60 - e.len) 0
    let st := s.txStamp ch t
    let tod := s.todPick t
    let ins := if e.tsMode = 2 then ptpInsert b0 (ptp80 tod.1 st) (encode2 48 st % 65536)
      else if e.tsMode = 3 then ecpriInsert b0 (ptp80 tod.1 st) else some b0
    let b1 := ins.getD b0
    let fcs := crc32 b1
    let wire := b1 ++ toBytes 4 (if rowUnc = 0 then fcs else fcs ^^^ 0xFFFFFFFF)
    let s0 := if e.tsMode = 2 ∨ e.tsMode = 3 then tod.2 else s
    let s1 := if ins.isNone then (s0.bump (R.CH_CNT_TX_ONESTEP_MISS ch) 1).raise 0x0422 ch 0 else s0
    let s2 := s1.bump R.LOFT_CNT_CORR rowCorr
    let s3 := if rowUnc = 0 then s2
      else (((s2.bump R.LOFT_CNT_UNC rowUnc).bump (R.CH_CNT_TX_TX_UNC ch) 1).raise 0x0425 ch 0)
    let snd : TxSend := ⟨e, st, s.has (R.CH_CFG_CORR_EN ch), s.timeBad (64 + ch.val / 4), wire, t⟩
    done { s3.setChan ch { x.txKeep (fun (y : TxEnt) => decide (y.handle ≠ e.handle)) with send := some snd } with
      out := [.frame ch wire] }

/-- Shows how many transmit-timestamp entries are queued and free (R446). -/
def State.txtsShow (s : State) (ch : Nat) : State :=
  let n := (s.queue (R.CH_TXTS_POP_ID ch).addr).length
  s.sets [(R.CH_STAT_TXTS_Q ch, n), (R.CH_STAT_TXTS_F ch, 32 - n)]

/-- Places a two-step stamp in the transmit-timestamp queue (R446); the fraction stands above the entry's 64 bits. -/
def State.txtsPut (s : State) (ch : Nat) (d : TxSend) : State :=
  let addr := (R.CH_TXTS_POP_ID ch).addr
  let t48 := stamp48 d.stamp
  let w := d.ent.tsId + 2 ^ 16 + ofFlag d.bad * 2 ^ 18 + ofFlag d.corr * 2 ^ 19 + stampWrap d.stamp * 2 ^ 24 + t48 / 65536 * 2 ^ 32
    + t48 % 65536 * 2 ^ 64
  let full := 32 ≤ (s.queue addr).length
  let s1 := (s.enqueue addr 32 (2 ^ 17) w).txtsShow ch
  if full then (s1.bump (R.CH_CNT_TX_TXTS_OVF ch) 1).raise 0x0420 ch 0 else s1

/-- TX_FRAME_END (R432, R446); in hairpin the frame arrives at the partner (R431), its receive stamp 9.375 ns ± 0.5 ns later. -/
def execTxFrameEnd (ch : Fin 32) (s : State) : Host.Outcome State Fault Refusal :=
  let x := s.chan ch
  match x.send with
  | none => done s
  | some d =>
    let s1 := ((s.setChan ch { x with send := none }).freeFrame d.ent.handle).bump (R.CH_CNT_TX_FRAMES ch) 1
    let s2 := if d.ent.tsMode = 1 then s1.txtsPut ch d else s1
    if s.hpActive (ch.val / 4) then
      let p := 4 * s.get (R.PE_CFG_HAIRPIN (ch.val / 4)) + ch.val % 4
      let f := s2.fresh 15
      let g := f.2.fresh 16
      let rc := (fixOf (s.peCfg (ch.val / 4)) (s.get (R.CH_CFG_FEC ch))).2.2
      done (g.2.rxFrame p d.bytes (d.tMac + 614400 - 32768 + (f.1 % 65537 : Nat)) (if rc = 0 then 0 else g.1 % 1088) 0 0)
    else done s2

/-- A pop of the transmit-timestamp queue (R446): it latches CH_TXTS_FRAC. -/
def State.txtsPop (s : State) (ch : Nat) : State :=
  let addr := (R.CH_TXTS_POP_ID ch).addr
  match s.queue addr with
  | [] => { s.reply 0 0 with half := SMap.set s.half none addr (some 0) }
  | w :: t =>
    let s1 := { s with
      pops := SMap.set s.pops [] addr t
      half := SMap.set s.half none addr (some (bits w 32 32)) }
    ((s1.txtsShow ch).set (R.CH_TXTS_FRAC_FRAC ch) (bits w 64 16)).reply 0 (bits w 0 64)

/-- CH_TXTS_POP (R446). -/
def execChTxtsPop (ch : Fin 32) (s : State) : Host.Outcome State Fault Refusal := done (s.txtsPop ch)

/-! ## Modes -/

/-- Whether an address is a port-engine or loft register (R456). -/
def portAddr (a : Nat) : Bool :=
  let r := a / 68719476736
  let o := a % 68719476736
  decide (a < 17592186044416) && decide (r % 4 = 1) && decide (r / 4 < 8)
    && (decide (o < 0x10) || (decide (0x10000 ≤ o) && decide (o < 0x14000)) || (decide (r / 4 = 0) && decide (0x60000 ≤ o) && decide (o < 0x65000)))

/-- Every port-engine and loft register at its reset value, the loft empty (R458): at entry to RUN. -/
def State.portsReset (s : State) : State :=
  { s with
    regs := SMap.without s.regs (fun k => portAddr (k / 64))
    pops := SMap.without s.pops portAddr
    popOvf := SMap.without s.popOvf portAddr
    chans := []
    loft := { s.loft with frames := [] } }

/-- Entry to SAFE (R458): frames on the wire end, queued and held frames are discarded, no stamps are made; no lane stays ACTIVE, so LINK falls
(R428). -/
def State.portsSafe (s : State) : State :=
  ((List.range 32).foldl (fun (t : State) ch =>
    (t.setLink ch false).setChan ch { (t.chan ch).txKeep (fun _ => false) with rx := [], send := none })
    { s with loft := { s.loft with frames := [] } }).loftShow

end Sys2Proof.Machine
end

