-- ==== Sys2Proof/Machine/HostLink.lean ====
section
/-!
DEFINITION. The host link beside its NoC accesses (chapter 15): the endpoint's configuration space, event rings, MSI-X, the
settings of the DMA engines, link loss. BAR accesses stand in Bar.lean, the transfers of the DMA engines in Access.lean.
-/
namespace Sys2Proof.Machine
open Sys2Proof

/-! The straps (R286, R461, R492), in the layout of Config.strapReset. -/
def State.hlEn (s : State) : Bool := bit s.mode.straps 5 = 1
def State.hlWidth (s : State) : Nat := bits s.mode.straps 6 2

/-- Whether the endpoint may send requests of its own (R481). -/
def State.hlMaster (s : State) : Bool := s.devClk 14 && s.has R.HL_STATUS_UP && s.has R.HL_STATUS_BME

/-- Logs an access in HL_ERR_POP (R465). -/
def hlErrAddr : Nat := R.HL_ERR_POP_CODE.addr
def State.hlErr (s : State) (code addr : Nat) : State :=
  s.enqueue hlErrAddr 16 (2 ^ 17) (code + 2 ^ 16 + addr % 2 ^ 44 * 2 ^ 20)

/-- HL_ERR_POP (R465). -/
def execHlErrPop (s : State) : Host.Outcome State Fault Refusal := done (s.popRead hlErrAddr)

/-! ## MSI-X -/

/-- Whether a vector is masked: bit 0 of its control word, 1 at reset (PRESUMED from the PCI Express standard). -/
def State.msixMasked (s : State) (vec : Nat) : Bool := bit (SMap.get s.hl.msixTab 0 (4 * vec + 3)) 0 = 0

/-- A word of the MSI-X table as the host reads it. -/
def State.msixWord (s : State) (i : Nat) : Nat := if i % 4 = 3 then SMap.get s.hl.msixTab 0 i ^^^ 1 else SMap.get s.hl.msixTab 0 i

/-- Sends one message on a vector, under its mask (R478, R479). -/
def State.msixSend (s : State) (vec : Nat) : State :=
  if s.msixMasked vec then
    if bit s.hl.msixPend vec = 1 then s else { s with hl := { s.hl with msixPend := s.hl.msixPend + 2 ^ vec } }
  else { s with out := s.out ++ [.tlp (.msix vec)] }

/-- Writes a word of the MSI-X table; unmasking a vector with its pending bit set sends one message (R478). -/
def State.msixWrite (s : State) (i v : Nat) : State :=
  let vec := i / 4
  let s1 := { s with hl := { s.hl with msixTab := SMap.set s.hl.msixTab 0 i (if i % 4 = 3 then v ^^^ 1 else v) } }
  if bit s1.hl.msixPend vec = 1 ∧ !s1.msixMasked vec ∧ s1.hlMaster then
    { s1 with
      hl := { s1.hl with msixPend := s1.hl.msixPend - 2 ^ vec }
      out := [.tlp (.msix vec)] }
  else s1

/-- MSIX_UNMASK (R478): the host clears the mask bit of a vector. -/
def execMsixUnmask (vec : Fin 64) (s : State) : Host.Outcome State Fault Refusal :=
  let w := s.msixWord (4 * vec + 3)
  done (s.msixWrite (4 * vec + 3) (w - bit w 0))

/-- A word written to HL_MSIX_SEND (R479). -/
def State.hlMsixWrite (s : State) (src vec : Nat) : State :=
  if src ≠ 97 then s.reply 0x0B01 0
  else if s.hlMaster || s.msixMasked vec then ({ s with out := [] }.msixSend vec).reply 0 0
  else s.reply 0 0

/-- HL_MSIX_SEND (R479). -/
def execHlMsixSend (src : SrcId) (vec : Fin 64) (s : State) : Host.Outcome State Fault Refusal := done (s.hlMsixWrite src vec)

/-! ## Event rings -/

/-- Slots that the host owns (R475), modulo 2^32. -/
def State.ringHost (s : State) (n : Nat) : Nat := (s.get (R.EV_TAIL_TAIL n) + 2 ^ 32 - s.get (R.EV_HEAD_HEAD n)) % 2 ^ 32

/-- Shows FULL and the FIFO's count. -/
def State.ringShow (s : State) (n : Nat) : State :=
  s.sets [(R.EV_STAT_FULL n, ofFlag (decide (s.ringHost n = 2 ^ s.get (R.EV_CFG_LOG2 n)))), (R.EV_STAT_FIFO n, (s.ring n).fifo.length)]

/-- The 64 bytes of a record (R470, R473). -/
def recBytes (r : EvRec) (seq phase : Nat) : List Nat :=
  toBytes 4 (r.code + r.typ * 2 ^ 16 + phase * 2 ^ 24 + ofFlag r.bad * 2 ^ 25 + ofFlag r.loss * 2 ^ 26)
    ++ toBytes 4 seq ++ toBytes 8 (r.time + r.wraps % 65536 * 2 ^ 48) ++ toBytes 4 r.unit ++ toBytes 4 r.lost
    ++ toBytes 8 r.detail ++ ((r.data ++ [0, 0, 0, 0]).take 4).flatMap (toBytes 8)

/-- Writes the oldest record of ring `n` at TAIL (R473, R474, R475): none where the ring has no room, or nothing to write. -/
def State.ringWrite (s : State) (n : Nat) : Option State :=
  let g := s.ring n
  let size := 2 ^ s.get (R.EV_CFG_LOG2 n)
  let i := s.get (R.EV_TAIL_TAIL n)
  match g.fifo with
  | [] => none
  | r :: t =>
    if !s.hlMaster || !s.has (R.EV_CFG_EN n) || decide (size ≤ s.ringHost n) then none
    else
      let phase := 1 - i / size % 2
      let s1 := s.setRing n { g with
        fifo := t
        unsignalled := g.unsignalled + 1
        oldest := if g.unsignalled = 0 then s.nowWide else g.oldest }
      let s2 := (s1.set (R.EV_TAIL_TAIL n) (i + 1)).ringShow n
      some { s2 with out := s.out ++ [.tlp (.write (s.get (R.EV_BASE_BASE n) + 64 * (i % size)) (recBytes r i phase))] }

/-- EVENT_RECORD_WRITE (R474). -/
def execEventRecordWrite (n : Fin 4) (s : State) : Host.Outcome State Fault Refusal :=
  done ((State.ringWrite { s with out := [] } n).getD s)

/-- Whether ring `n` has a message to send (R478). -/
def State.ringDue (s : State) (n : Nat) : Bool :=
  let g := s.ring n
  decide (1 ≤ g.unsignalled) && (decide (s.get (R.EV_CFG_IM_CNT n) ≤ g.unsignalled)
    || decide ((s.get (R.EV_CFG_IM_US n) * 1000 * 65536 : Nat) ≤ s.nowWide - g.oldest))

/-- Sends the message of ring `n`. -/
def State.ringSignal (s : State) (n : Nat) : State :=
  (s.setRing n { s.ring n with unsignalled := 0 }).msixSend (s.get (R.EV_CFG_VEC n))

/-- MSIX_SEND (R478). -/
def execMsixSend (n : Fin 4) (s : State) : Host.Outcome State Fault Refusal :=
  done (if s.hlMaster ∧ s.ringDue n then State.ringSignal { s with out := [] } n else s)

/-- A write of EV_HEAD (R476, R485). -/
def State.evHeadWrite (s : State) (src n v : Nat) : State :=
  let new := (s.get (R.EV_TAIL_TAIL n) + 2 ^ 32 - v % 2 ^ 32) % 2 ^ 32
  if !s.srcOk src then s.reply 0x0B01 0
  else if new ≤ s.ringHost n then ((s.set (R.EV_HEAD_HEAD n) v).ringShow n).reply 0 0
  else ((s.bump (R.EV_STAT_BADHEAD n) 1).raise 0x0B06 0 0).reply 0x0B06 0

/-- EV_HEAD_WRITE (R476). -/
def execEvHeadWrite (src : SrcId) (n : Fin 4) (data : BitVec 32) (s : State) : Host.Outcome State Fault Refusal :=
  done (s.evHeadWrite src n data.toNat)

/-! ## Settings -/

def dmaOFF : Nat := 0
def dmaIDLE : Nat := 1
def dmaRUN : Nat := 2
def dmaHALTED : Nat := 3

def State.dmaJob (s : State) (e : Nat) : Option DmaJob := SMap.get s.hl.jobs none e
def State.setJob (s : State) (e : Nat) (j : Option DmaJob) : State := { s with hl := { s.hl with jobs := SMap.set s.hl.jobs none e j } }

/-- Posts in HL_CFG_RESULT (R485); the write's own answer is 0x0000 (R737). -/
def State.hlPost (s : State) (off code : Nat) : State :=
  ((s.set R.HL_CFG_RESULT_OFFSET off).post R.HL_CFG_RESULT_STATUS code).reply 0 0

/-- A write of EV_CFG (R475, R476). -/
def State.evCfgWrite (s : State) (off n v : Nat) : State :=
  let en := s.has (R.EV_CFG_EN n)
  if bits v 1 5 < 4 ∨ 16 < bits v 1 5 ∨ bits v 12 8 = 0 then s.hlPost off 0x0B02
  else if en ∧ (bits v 1 5 ≠ s.get (R.EV_CFG_LOG2 n) ∨ bits v 6 6 ≠ s.get (R.EV_CFG_VEC n)) then s.hlPost off 0x0B03
  else
    let s1 := [R.EV_CFG_EN n, R.EV_CFG_LOG2 n, R.EV_CFG_VEC n, R.EV_CFG_IM_CNT n, R.EV_CFG_IM_US n, R.EV_CFG_BLOCKS n].foldl
      (fun t f => t.set f (bits v f.lo f.w)) (s.set (R.EV_CFG_TYPEMASK n) (bits v 36 3))
    let s2 := if !en ∧ bit v 0 = 1 then
        (s1.setRing n { s1.ring n with unsignalled := 0 }).sets [(R.EV_HEAD_HEAD n, 0), (R.EV_TAIL_TAIL n, 0)] else s1
    (s2.ringShow n).hlPost off 0

/-- A write of DMA_CFG (R466). -/
def State.dmaCfgWrite (s : State) (off e v : Nat) : State :=
  let en := s.has (R.DMA_CFG_EN e)
  if bits v 1 4 < 4 ∨ 12 < bits v 1 4 then s.hlPost off 0x0B02
  else if en ∧ bits v 1 4 ≠ s.get (R.DMA_CFG_LOG2 e) then s.hlPost off 0x0B03
  else
    let s1 := s.sets [(R.DMA_CFG_EN e, bit v 0), (R.DMA_CFG_LOG2 e, bits v 1 4), (R.DMA_CFG_RING e, bits v 5 2)]
    let s2 := if !en ∧ bit v 0 = 1 then s1.sets [(R.DMA_PI_PI e, 0), (R.DMA_CI_CI e, 0), (R.DMA_STAT_STATE e, dmaIDLE)]
      else if bit v 0 = 0 ∧ (s.dmaJob e).isNone then s1.set (R.DMA_STAT_STATE e) dmaOFF else s1
    s2.hlPost off 0

/-- A write of one of the registers that post in HL_CFG_RESULT (R485). -/
def State.hlCfgWrite (s : State) (src off v : Nat) : State :=
  if !s.srcOk src then s.hlPost off 0x0B01
  else if 0x040 ≤ off ∧ off < 0x0C0 ∧ off % 8 = 0 then (s.set (R.HL_APT_BASE ((off - 0x40) / 8)) (bits v 0 20)).hlPost off 0
  else if 0x100 ≤ off ∧ off < 0x200 then
    let n := (off - 0x100) / 0x40
    match off % 0x40 with
    | 0 =>
      if v % 4096 ≠ 0 then s.hlPost off 0x0B02
      else if s.has (R.EV_CFG_EN n) ∧ v ≠ s.get (R.EV_BASE_BASE n) then s.hlPost off 0x0B03
      else (s.set (R.EV_BASE_BASE n) v).hlPost off 0
    | 8 => s.evCfgWrite off n v
    | _ => s
  else if 0x200 ≤ off ∧ off < 0x300 then
    let e := (off - 0x200) / 0x40
    match off % 0x40 with
    | 0 =>
      if v % 4096 ≠ 0 then s.hlPost off 0x0B02
      else if s.has (R.DMA_CFG_EN e) ∧ v ≠ s.get (R.DMA_BASE_BASE e) then s.hlPost off 0x0B03
      else (s.set (R.DMA_BASE_BASE e) v).hlPost off 0
    | 8 => s.dmaCfgWrite off e v
    | _ => s
  else s

/-- HL_CFG_WRITE (R485). -/
def execHlCfgWrite (src : SrcId) (off : BitVec 12) (data : Word64) (s : State) : Host.Outcome State Fault Refusal :=
  done ((s.commit (0x21000000000 + off.toNat)).hlCfgWrite src off.toNat data.toNat)

/-- EV_RING_ENABLE (R475): EV_CFG with EN set. -/
def execEvRingEnable (src : SrcId) (n : Fin 4) (s : State) : Host.Outcome State Fault Refusal :=
  let w := s.word [R.EV_CFG_LOG2 n, R.EV_CFG_VEC n, R.EV_CFG_IM_CNT n, R.EV_CFG_IM_US n, R.EV_CFG_TYPEMASK n, R.EV_CFG_BLOCKS n]
  done ((s.commit (R.EV_CFG_EN n).addr).hlCfgWrite src (0x108 + 0x40 * n.val) (w + 1))

/-- DMA_ENABLE and DMA_DISABLE (R466): DMA_CFG with EN set or clear. -/
def State.dmaEn (s : State) (src e en : Nat) : State :=
  s.hlCfgWrite src (0x208 + 0x40 * e) (s.word [R.DMA_CFG_LOG2 e, R.DMA_CFG_RING e] + en)
def execDmaEnable (src : SrcId) (e : Fin 4) (s : State) : Host.Outcome State Fault Refusal := done (s.dmaEn src e 1)
def execDmaDisable (src : SrcId) (e : Fin 4) (s : State) : Host.Outcome State Fault Refusal := done (s.dmaEn src e 0)

/-- Descriptors that wait in an engine's ring (R466), modulo 2^32. -/
def State.dmaWaiting (s : State) (e pi : Nat) : Nat := (pi % 2 ^ 32 + 2 ^ 32 - s.get (R.DMA_CI_CI e)) % 2 ^ 32

/-- A write of DMA_PI (R466, R485). -/
def State.dmaPiWrite (s : State) (src e v : Nat) : State :=
  if !s.srcOk src then s.reply 0x0B01 0
  else if 2 ^ s.get (R.DMA_CFG_LOG2 e) < s.dmaWaiting e v then s.reply 0x0B07 0
  else (s.set (R.DMA_PI_PI e) v).reply 0 0

/-- DMA_PI_WRITE (R466). -/
def execDmaPiWrite (src : SrcId) (e : Fin 4) (data : BitVec 32) (s : State) : Host.Outcome State Fault Refusal :=
  done (s.dmaPiWrite src e data.toNat)

/-- DMA_DESCRIPTOR_START (R467, R468): the engine fetches the 32 bytes that stand at index CI of its ring. -/
def execDmaDescriptorStart (e : Fin 4) (desc : BitVec 256) (s : State) : Host.Outcome State Fault Refusal :=
  if !s.hlMaster || !s.has (R.DMA_CFG_EN e) || (s.dmaJob e).isSome || !([dmaIDLE, dmaRUN].contains (s.get (R.DMA_STAT_STATE e)))
      || decide (s.dmaWaiting e (s.get (R.DMA_PI_PI e)) = 0) then done s
  else
    let d := desc.toNat
    let ci := s.get (R.DMA_CI_CI e)
    let j : DmaJob := ⟨bits d 0 64, bits d 64 64, bits d 128 32, bits d 160 32, bits d 192 64, ci⟩
    done { (s.setJob e (some j)).set (R.DMA_STAT_STATE e) dmaRUN with
      out := [.tlp (.read (s.get (R.DMA_BASE_BASE e) + 32 * (ci % 2 ^ s.get (R.DMA_CFG_LOG2 e))) 32)] }

/-- What is wrong with a descriptor before it moves anything (R467, R469). -/
def DmaJob.fault (j : DmaJob) : Option Nat :=
  if j.host % 4 ≠ 0 ∨ j.noc % 4 ≠ 0 ∨ j.len % 4 ≠ 0 ∨ 2 ^ 44 ≤ j.noc ∨ 2 ^ 25 ≤ j.len ∨ j.flags / 4 ≠ 0 then some 0x0B10
  else if 16777216 < j.len then some 0x0B11
  else none

/-- Ends a descriptor with a status and the bytes moved (R468, R469). -/
def State.dmaEnd (s : State) (e : Nat) (j : DmaJob) (status moved : Nat) : State :=
  let s1 := (s.setJob e none).set (R.DMA_CI_CI e) (j.index + 1)
  let s2 := if status ≠ 0 ∨ bit j.flags 1 = 1 then
      s1.ringPush (s.get (R.DMA_CFG_RING e)) (s1.mkRec 6 status e j.user [j.index + moved * 2 ^ 32]) else s1
  let s3 := s2.bump (R.DMA_STAT_DONE e) 1
  if status = 0 then s3.set (R.DMA_STAT_STATE e) (if s.has (R.DMA_CFG_EN e) then dmaIDLE else dmaOFF)
  else
    (s3.sets [(R.DMA_STAT_STATE e, if s.has (R.DMA_CFG_EN e) then dmaHALTED else dmaOFF), (R.DMA_STAT_HALT_CODE e, status)]).raise 0x0B21 0 0

/-! ## The link -/

/-- HOST_CONFIG_REQUEST (R460, R461, R481): the type 0 header of one function, with no BAR but 0 and 2. The places of the capability registers are not given; what a
read of them returns is left open, and a write of one changes nothing here. -/
def execHostConfigRequest (wr : Bool) (dw : BitVec 10) (data : BitVec 32) (s : State) : Host.Outcome State Fault Refusal :=
  let v := data.toNat
  if !s.has R.HL_STATUS_UP then done s
  else if wr then
    let s1 : State := match dw.toNat with
      | 1 => ({ s with hl := { s.hl with memEn := decide (bit v 1 = 1) } }).set R.HL_STATUS_BME (bit v 2)
      | 4 => { s with hl := { s.hl with bar0 := v / 2 ^ 20 } }
      | 6 => { s with hl := { s.hl with bar2 := v / 2 ^ 28 } }
      | _ => s
    done { s1 with out := [.tlp (.completion 0 [])] }
  else
    let r : Nat × State := match dw.toNat with
      | 0 => (0x90481F3C, s)
      | 1 => let f := s.fresh 17; (f.1 % 2 ^ 29 * 8 + s.get R.HL_STATUS_BME * 4 + ofFlag s.hl.memEn * 2 + f.1 / 2 ^ 29 % 2, f.2)
      | 2 => let f := s.fresh 17; (0x12000000 + f.1 % 256, f.2)
      | 3 => let f := s.fresh 17; (f.1 % 2 ^ 16 + f.1 / 2 ^ 16 % 2 ^ 8 * 2 ^ 24, f.2)
      | 5 | 7 | 8 | 9 => (0, s)
      | 4 => (s.hl.bar0 * 2 ^ 20, s)
      | 6 => (s.hl.bar2 * 2 ^ 28, s)
      | 15 => let f := s.fresh 17; (f.1 % 256, f.2)
      | _ => let f := s.fresh 17; (f.1 % 2 ^ 32, f.2)
    done { r.2 with out := [.tlp (.completion 0 (toBytes 4 r.1))] }

/-- Adds records to 0x7000:04, which saturates. -/
def State.lostDown (s : State) (n : Nat) : State := { s with hl := { s.hl with lostDown := satAdd (2 ^ 32 - 1) s.hl.lostDown n } }

/-- Link loss (R480): DMA engines halt, rings stop, the configuration space returns to reset values. -/
def State.hlLoss (s : State) : State :=
  let s1 := [0, 1, 2, 3].foldl (fun (t : State) e =>
    if t.get (R.DMA_STAT_STATE e) = dmaOFF then t
    else
      let u := match t.dmaJob e with
        | some j => ((t.setJob e none).set (R.DMA_CI_CI e) (j.index + 1)).bump (R.DMA_STAT_DONE e) 1
        | none => t
      u.sets [(R.DMA_STAT_STATE e, dmaHALTED), (R.DMA_STAT_HALT_CODE e, 0x0B13)]) s
  let s2 := [0, 1, 2, 3].foldl (fun (t : State) n =>
    let k := (t.ring n).fifo.length
    ((((t.setRing n { t.ring n with fifo := [] }).put (R.EV_CFG_EN n) false).ringShow n).lostDown k)) s1
  let s3 := { s2 with hl := { s2.hl with
    msixTab := []
    msixPend := 0
    bars := []
    memEn := false
    bar0 := 0
    bar2 := 0 } }
  (s3.put R.HL_STATUS_BME false).siteOffer 0x0B30 0

/-- HOST_LINK_LOSS (R462, R480): 0 DL_Down, 1 hot reset, 2 PERST_L asserted, 3 function-level reset, which leaves the link up. Without a link only
PERST_L's assertion says anything. -/
def execHostLinkLoss (kind : Fin 4) (s : State) : Host.Outcome State Fault Refusal :=
  let s0 := if kind = 2 then State.lanesIdle { s with pins := { s.pins with perstL := false } } hostLane else s
  if s.inMode [mOFF, mSTANDBY] ∨ (!s.has R.HL_STATUS_UP ∧ ¬ (kind = 2 ∧ s.pins.perstL = true)) then done s0
  else
    let s1 := s0.hlLoss
    done (if kind = 3 then s1 else s1.sets [(R.HL_STATUS_UP, 0), (R.HL_STATUS_RATE, 0), (R.HL_STATUS_WIDTH, 0)])

/-- HOST_LINK_UP (R395, R461, R480, R484, R705): L0 with PERST_L high, at a rate of 1 to 5 and a width within HL_W. -/
def execHostLinkUp (rate : Fin 6) (widthLog2 : Fin 4) (s : State) : Host.Outcome State Fault Refusal :=
  if !s.hlEn || !s.devClk 14 || s.inMode [mOFF, mSTANDBY] || s.has R.HL_STATUS_UP || s.mode.quiet || rate = 0 || decide (s.hlWidth < widthLog2.val) then done s
  else
    let s1 := State.hostLanes { s with pins := { s.pins with perstL := true } } rate.val
    done ((((List.range 8).foldl (fun (t : State) i => t.laneSettle (32 + i)) s1).sets
    [(R.HL_STATUS_UP, 1), (R.HL_STATUS_RATE, rate.val), (R.HL_STATUS_WIDTH, 2 ^ widthLog2.val)]).raise 0x0B31 0 0)

/-- The quiet exit (R482): FIFO records and their messages go out while the rings have room; the rest are counted lost. -/
def State.hlQuiet (s : State) : State :=
  let s1 := [0, 1, 2, 3].foldl (fun (t : State) n =>
    let u := (List.range 32).foldl (fun (x : State) _ => (x.ringWrite n).getD x) t
    let v := if u.hlMaster ∧ (u.ring n).unsignalled ≠ 0 then u.ringSignal n else u
    (v.setRing n { v.ring n with fifo := [] }).ringShow n |>.lostDown (v.ring n).fifo.length) { s with out := [] }
  s1

end Sys2Proof.Machine
end

