-- ==== Sys2Proof/Machine/Interrupts.lean ====
section
/-!
DEFINITION. The site core's state and the signals of its interrupt controller (R575 to R582), as far as other blocks give them pulses.
-/
namespace Sys2Proof.Machine
open Sys2Proof

def State.setSc (s : State) (c : SiteCore) : State := { s with sc := c }
/-- Sleep states (R575). -/
def scRUN : Nat := 0
def scIDLE : Nat := 1
def scSLEEP : Nat := 2
def scOFF : Nat := 3
/-- The state the core is in: an emulated sleep is IDLE (R644). -/
def State.scState (s : State) : Nat := if s.has R.DBG_SC_STAT_EMUL then scIDLE else s.get R.SC_STATUS_STATE

/-- Whether a source exists (R580). -/
def icExists (n : Nat) : Bool :=
  (decide (1 ≤ n) && decide (n ≤ 18)) || (decide (32 ≤ n) && decide (n ≤ 40)) || (decide (44 ≤ n) && decide (n ≤ 61)) || (decide (64 ≤ n) && decide (n < 384))

/-- A source that gives one-cycle pulses (R580). -/
def icPulse (n : Nat) : Bool := (decide (128 ≤ n) && decide (n < 256)) || (decide (288 ≤ n) && decide (n < 352))

/-- Whether a level is the active one of a level source. -/
def State.icActive (s : State) (n level : Nat) : Bool :=
  (decide (s.get (R.IC_SRC_SENSE n) = 0) && decide (level = 1)) || (decide (s.get (R.IC_SRC_SENSE n) = 1) && decide (level = 0))

def State.icIsLevel (s : State) (n : Nat) : Bool := decide (s.get (R.IC_SRC_SENSE n) < 2)

/-- Whether a change of a raw signal is the event of its SENSE (R581, R582). -/
def State.icEvent (s : State) (n old new : Nat) : Bool :=
  match s.get (R.IC_SRC_SENSE n) with
  | 0 => decide (new = 1)
  | 1 => decide (new = 0)
  | 2 => decide (old = 0) && decide (new = 1)
  | 3 => decide (old = 1) && decide (new = 0)
  | _ => decide (old ≠ new)

def State.watches (s : State) (n : Nat) : Bool :=
  (List.range 32).any (fun w => s.has (R.IC_WAKE_EN w) && decide (s.get (R.IC_WAKE_SRC w) = n))

/-- A source's raw signal takes a level (R577, R578, R582). -/
def State.icSignal (s : State) (n new : Nat) : State :=
  let old := SMap.get s.sc.level 0 n
  let s1 := s.setSc { s.sc with level := SMap.set s.sc.level 0 n new }
  if s1.sc.held then s1
  else
    let ev := s1.icEvent n old new
    let emul := s1.has R.DBG_SC_STAT_EMUL
    let s2 := if (emul || decide (2 ≤ s1.scState)) && s1.watches n && ev then s1.setSc { s1.sc with wake := true } else s1
    if 2 ≤ s2.scState ∧ !s2.watches n then
      (if !s2.icIsLevel n && ev then s2.bump R.IC_STAT_SLEEPLOST 1 else s2)
    else if s2.icIsLevel n then (if s2.has (R.IC_SRC_ACTIVE n) then s2 else s2.put (R.IC_SRC_IP n) (s2.icActive n new))
    else if ev then s2.put (R.IC_SRC_IP n) true else s2

/-- A one-cycle pulse of a source (R580). -/
def State.icPulseAt (s : State) (n : Nat) : State := (s.icSignal n 1).icSignal n 0

end Sys2Proof.Machine
end

