-- ==== Sys2Proof/Machine/Keys.lean ====
section
/-!
DEFINITION. What the key stores and counters of chapter 23 admit: the state of a key field, the key and the public key of a
stream, the policy (R673 to R681). Digests, signatures and ciphers are uninterpreted (assumption 3).
-/
namespace Sys2Proof.Machine
open Sys2Proof

/-- A byte string as a number, its first byte the most significant (R736). -/
def beNum (l : List Nat) : Nat := l.foldl (fun a b => a * 256 + b % 256) 0

/-- A little-endian field of a byte string. -/
def leField (l : List Nat) (o n : Nat) : Nat := ofBytes ((l.drop o).take n)

/-- The state of a key field of `n` data bytes, its first byte the most significant of the number (R674): 0 BLANK, 1 PRESENT, 2 DAMAGED. -/
def KeyField.state (k : KeyField) (n : Nat) : Nat :=
  if k.data = 0 ∧ k.crc = 0 then 0 else if crc32 (toBytes n k.data).reverse = k.crc then 1 else 2

/-- A field as a complete programming leaves it. -/
def keyField (n data : Nat) : KeyField := ⟨data, crc32 (toBytes n data).reverse⟩

def State.pkSlot (s : State) (k : Nat) : KeyField := SMap.get s.sec.pk ⟨0, 0⟩ k
def State.dbgKeyOf (s : State) (l : Nat) : KeyField := SMap.get s.sec.dbgKey ⟨0, 0⟩ l
def State.policyBit (s : State) (i : Nat) : Bool := decide (bit s.policy i = 1)

/-- The check of a KEYSEL (R678): its refusal. -/
def State.keyRefusal (s : State) (keysel : Nat) : Option Nat :=
  if keysel = 1 ∧ s.sec.efKey.state 32 ≠ 1 then some 0x0141
  else if keysel = 2 ∧ s.sec.ramKey.state 32 ≠ 1 then some 0x0141
  else if (keysel = 0 ∧ s.policyBit 0) ∨ (keysel = 2 ∧ s.policyBit 1) ∨ (keysel = 1 ∧ s.policyBit 2) then some 0x0142
  else none

/-- The key of a KEYSEL (R496, R678): all zero for 0. -/
def State.keyValue (s : State) (keysel : Nat) : Nat :=
  match keysel with | 1 => s.sec.efKey.data | 2 => s.sec.ramKey.data | _ => 0

/-- Whether no PK_k is PRESENT (R679). -/
def State.openDevice (s : State) : Bool := (List.range 4).all (fun k => decide ((s.pkSlot k).state 48 ≠ 1))

/-- Whether a public key of 96 bytes is accepted (R679). -/
def State.keyAccepted (s : State) (pub : List Nat) : Bool :=
  s.openDevice || (List.range 4).any (fun k =>
    decide ((s.pkSlot k).state 48 = 1) && decide (bit s.sec.pkRev k = 0) && decide ((s.pkSlot k).data = Config.sha384 pub))

/-- SEC_STATUS shows the stores (R688). -/
def State.secShow (s : State) : State :=
  s.sets [(R.SEC_STATUS_EF_PRESENT, ofFlag (decide (s.sec.efKey.state 32 = 1))),
    (R.SEC_STATUS_RAM_PRESENT, ofFlag (decide (s.sec.ramKey.state 32 = 1))),
    (R.SEC_STATUS_TAMPER, ofFlag (!s.pins.tamperL)), (R.SEC_STATUS_TAMPER_SEEN, ofFlag s.sec.tamperSeen),
    (R.SEC_STATUS_VBATT_LOST, ofFlag s.sec.vbattLost), (R.SEC_STATUS_OPEN, ofFlag s.openDevice),
    (R.SEC_STATUS_RB, s.sec.rb), (R.SEC_STATUS_FW_RB, s.sec.fwRb)]

end Sys2Proof.Machine
end

