-- ==== Sys2Proof/Machine/IoTable.lean ====
section
/-!
DEFINITION. The I/O table and the I/O registers that the CMC writes from it (R722 to R725).
-/
namespace Sys2Proof.Machine
open Sys2Proof

/-- The dictionary's value of IO_TABLE (R735): its bytes; an empty list stands for the all-zero default. -/
def State.ioTable (s : State) : List Nat := (SMap.get s.dict.vals none 0x240001).getD []

/-- Whether a bank's VCCO code admits a standard, for an output or an input (R722). -/
def stdAdmitted (bank vcco std : Nat) (output : Bool) : Bool :=
  if std = 0 then true
  else if bank < 6 then
    if std = 12 then decide (vcco ≠ 0) && (!output || decide (vcco = 5))
    else match vcco with
      | 1 => decide (std = 1)
      | 2 => decide (std = 2) || decide (std = 11)
      | 3 => decide (std = 8)
      | 4 => decide (std = 3) || decide (std = 9) || decide (std = 10)
      | 5 => decide (std = 4) || decide (std = 10)
      | _ => false
  else match vcco with
    | 5 => decide (std = 4)
    | 6 => decide (std = 5)
    | 7 => decide (std = 6) || decide (std = 7)
    | _ => false

/-- The IO_BANK word of a bank and the IO_PIN word of a pin in a table (R723). -/
def ioBankWord (t : List Nat) (n : Nat) : Nat := leField t (32 + 4 * n) 4
def ioPinWord (t : List Nat) (p : Nat) : Nat := leField t (64 + 4 * p) 4

/-- Whether a pin's word stands under R723. -/
def ioPinOk (t : List Nat) (p : Nat) : Bool :=
  let w := ioPinWord t p
  let x := ioPinWord t (if p % 2 = 0 then p + 1 else p - 1)
  let bank := pinBank p
  let std := bits w 0 4
  let dir := bits w 4 2
  let drive := bits w 6 3
  let pair := decide (std = 12) || decide (bits x 0 4 = 12)
  decide (w < 2 ^ 14) && stdAdmitted bank (ioBankWord t bank) std (decide (dir ≠ 0))
    && (decide (drive = 0) || (decide (1 ≤ std) && decide (std ≤ 7) && decide (drive ≤ 4)))
    && (decide (dir ≠ 3) || (decide (bank < 6) && decide (bits w 9 2 = 3)))
    && (!pair || (decide (std = bits x 0 4) && decide (dir = bits x 4 2) && decide (dir ≠ 2) && decide (bits w 11 2 = 0)))
    && (decide (bit w 13 = 0) || (decide (std = 12) && decide (dir = 0) && decide (p % 2 = 0)))

/-- Whether a table is taken (R723). -/
def ioTableOk (t : List Nat) : Bool :=
  let bankOk (n : Nat) : Bool :=
    let v := ioBankWord t n
    decide (v = 0) || (if n < 6 then decide (v ≤ 5) else decide (5 ≤ v) && decide (v ≤ 7))
  decide (t.length = 1408) && decide (t.take 4 = [0x59, 0x4C, 0x49, 0x4F]) && decide (leField t 20 8 = 0)
    && decide (leField t 28 4 = crc32 (t.take 28 ++ [0, 0, 0, 0] ++ t.drop 32))
    && (List.range 8).all bankOk && (List.range 336).all (fun p => ioPinOk t p)

/-- VCCO_OK: bank `n` is declared and its rail is good (R734). -/
def State.ioShow (s : State) : State :=
  s.set R.IO_STATUS_VCCO_OK ((List.range 8).foldl (fun a n =>
    if s.get (R.IO_BANK_VCCO n) ≠ 0 ∧ bit (s.get R.PWR_STATUS_GOOD) (10 + n) = 1 then a + 2 ^ n else a) 0)

/-- Every I/O register at its reset value (R724). -/
def State.ioReset (s : State) : State :=
  { s with regs := SMap.without s.regs (fun k => decide (0x41000026020 ≤ k / 64) && decide (k / 64 < 0x41000026640)) }

/-- A full load of an image sets the I/O registers (R724). -/
def State.ioApply (s : State) (imageId : Nat) : State :=
  let t := s.ioTable
  let a := decide (leField t 4 8 = imageId)
  let b := decide (leField t 12 8 = imageId)
  if t.take 4 = [0x59, 0x4C, 0x49, 0x4F] ∧ imageId ≠ 2 ^ 64 - 1 ∧ (a || b) = true then
    let s1 := (List.range 8).foldl (fun (u : State) n => u.set (R.IO_BANK_VCCO n) (ioBankWord t n)) s.ioReset
    let s2 := (List.range 336).foldl (fun (u : State) p =>
      u.setWord [R.IO_PIN_STD p, R.IO_PIN_DIR p, R.IO_PIN_DRIVE p, R.IO_PIN_SLEW p, R.IO_PIN_PULL p, R.IO_PIN_TERM p] (ioPinWord t p)) s1
    (s2.sets [(R.IO_STATUS_STATE, 1), (R.IO_STATUS_MATCH, if a then 0 else 1)]).ioShow
  else (s.ioReset.sets [(R.IO_STATUS_STATE, 2), (R.IO_STATUS_MATCH, 0)]).ioShow

end Sys2Proof.Machine
end

