-- ==== Sys2Proof/Machine/BoughClock.lean ====
section
/-!
DEFINITION. Edges of the global lines and of the bough clock lines and graft clocks that they drive (chapters 2 to 5, R266, R326, R330): flip-flops,
limb, graft, trigger and mark registers, block-memory ports and fabric-mode slices. Everything that one command clocks is computed from the state
before its edges.
-/
namespace Sys2Proof.Machine
open Sys2Proof

/-- The receiving position of a lane (R100, R101): row, column, source number; none where the span leaves the bough. -/
def laneTarget (row col lane span : Nat) : Option (Nat × Nat × Nat) :=
  let k := lane % 16
  match lane / 16 with
  | 0 => if col + span + 1 < 40 then some (row, col + span + 1, 768 + 16 * span + k) else none
  | 1 => if span + 1 ≤ col then some (row, col - (span + 1), 832 + 16 * span + k) else none
  | 2 => if span < 2 ∧ row + span + 1 < 8 then some (row + span + 1, col, 896 + 16 * span + k) else none
  | _ => if span < 2 ∧ span + 1 ≤ row then some (row - (span + 1), col, 928 + 16 * span + k) else none

/-- Limb registers at edges of the lines of a mask (R102). -/
def limbEdges (pre : State) (b lines : Nat) (s : State) : State :=
  pre.fab.frames.foldl (fun t e =>
    let idx := e.1 % 16
    let col := e.1 / 16 % 41
    let row := e.1 / 656 % 8
    if e.1 / 5248 = (pre.bough b).plane * 64 + b ∧ col < 40 ∧ idx = (if branchType col = 0 then 15 else 3) then
      (List.range 64).foldl (fun u lane =>
        let w := bits e.2 (20 * lane) 20
        if bit w 10 = 1 ∧ bit lines (bits w 13 4) = 1 then
          match laneTarget row col lane (bits w 11 2) with
          | none => u
          | some (r, c, n) =>
            { u with fab := { u.fab with limbs := SMap.set u.fab.limbs 0 (limbKey b r c n) (pre.selVal b row col (bits w 0 11)) } }
        else u) t
    else t) s

/-- The branch that carries graft `j` of an edge, and its graft select (R105). -/
def graftBranch (e j : Nat) : Nat × Nat × Nat :=
  let lcol := 10 * (j / 8 / 8) + (if j / 8 % 8 < 4 then j / 8 % 8 else j / 8 % 8 + 1)
  match e with
  | 0 => (7, lcol, j % 8)
  | 2 => (0, lcol, j % 8)
  | 1 => (j / 32, 38, 8 + j % 32)
  | _ => (j / 32, 0, 8 + j % 32)

/-- Graft output and capture registers of one edge of a bough, at an edge of its GRAFT_CLK (R106 to R108). -/
def graftEdge (pre : State) (b e : Nat) (s : State) : State :=
  match neighbour b e with
  | none => s
  | some nb =>
    let cnt := SMap.get pre.fab.gcnt 0 (b * 4 + e)
    let s1 := if !pre.running b then s else (List.range 256).foldl (fun t j =>
      let br := graftBranch e j
      let w := bits (pre.af b br.1 br.2.1 15) (1280 + 12 * br.2.2) 12
      { t with fab := { t.fab with gout := SMap.set t.fab.gout 0 (graftKey b e j) (pre.selVal b br.1 br.2.1 w) } }) s
    if pre.captures b e then
      let s2 := { s1 with fab := { s1.fab with gcnt := SMap.set s1.fab.gcnt 0 (b * 4 + e) (min 2 (cnt + 1)) } }
      if 1 ≤ cnt then (List.range 256).foldl (fun t j =>
        { t with fab := { t.fab with
            gcap := SMap.set t.fab.gcap 0 (graftKey b e j) (SMap.get pre.fab.gout 0 (graftKey nb (opposite e) j)) } }) s2
      else s2
    else { s1 with fab := { s1.fab with gcnt := SMap.set s1.fab.gcnt 0 (b * 4 + e) 0 } }

/-- The trigger and mark settings of collar frame 1 (R330). -/
def State.trgClk (s : State) (b : Nat) : Nat := bits (s.af b 0 40 1) 52 4
def State.trgToggle (s : State) (b : Nat) : Nat := bits (s.af b 0 40 1) 56 16
def State.markClk (s : State) (b : Nat) : Nat := bits (s.af b 0 40 1) 48 4

/-- The trigger lines that a TRG_CLK edge starts (R326): those of the firings that came 5.0 ns (4 ticks) before or earlier and that the edge does not
pass by; several on one line are one. -/
def State.trigDue (s : State) (b : Nat) : Nat :=
  (s.bough b).trigPend.foldl (fun m p => if !p.second && decide (p.tick + 4 ≤ s.tp.tick) then m ||| 2 ^ p.line else m) 0

/-- Trigger registers at an edge of TRG_CLK (R326): a waiting firing pulses or inverts its line, other pulsed lines fall. -/
def trigEdge (pre : State) (b : Nat) (s : State) : State :=
  let x := pre.bough b
  let trig := (x.trig &&& pre.trgToggle b) ^^^ pre.trigDue b
  let pend := (x.trigPend.filter (fun p => p.second || decide (pre.tp.tick < p.tick + 4))).map (fun p =>
    if p.tick + 4 ≤ pre.tp.tick then { p with second := false } else p)
  s.setBough b { s.bough b with trig := trig % 2 ^ 16, trigPend := pend }

/-- Mark registers at an edge of MARK_CLK (R330). -/
def markEdge (pre : State) (b : Nat) (s : State) : State :=
  let v := (List.range 4).foldl (fun a j => a + pre.selVal b 0 0 (bits (pre.af b 0 40 1) (12 * j) 12) * 2 ^ j) 0
  s.setBough b { s.bough b with mark := v }

/-! Edges of the global lines (R266). The count of a line is kept modulo 8, the largest divider. -/
def State.phase (s : State) (g : Nat) : Nat := SMap.get s.clk.phase 0 g
/-- A global line whose edges fall at a multiple of a divider 2^`k` of its count. -/
def State.onPhase (s : State) (g k : Nat) : Bool := decide (s.phase g % 2 ^ k = 0)
/-- The global lines of a mask that give an edge now. -/
def State.liveGlobals (s : State) (globals : Nat) : Nat :=
  (List.range 32).foldl (fun a g => a + (if bit globals g = 1 ∧ s.gclLive g then 2 ^ g else 0)) 0
/-- The counts after edges of the lines of a mask. -/
def State.countEdges (s : State) (globals : Nat) : State :=
  { s with clk := { s.clk with phase := (List.range 32).foldl (fun m g =>
      if bit globals g = 1 then SMap.set m 0 g ((SMap.get m 0 g + 1) % 8) else m) s.clk.phase } }

/-- Whether a divided clock of global line `g` has an edge at edges of the lines of a mask (R266). -/
def State.divEdge (s : State) (globals g k : Nat) : Bool := decide (bit globals g = 1) && s.onPhase g k

/-- Whether line `n` of a bough gives an edge (R264 to R266, R277): in a switch of its source the old clock until it is gated off, then the new one
from its third edge. -/
def State.lineEdge (s : State) (globals b n : Nat) : Bool :=
  s.running b && s.has (lineRun b n) && (match SMap.get s.clk.lineSw none (17 * b + n) with
    | none => s.divEdge globals (s.get (lineSrc b n)) (s.get (lineDact b n))
    | some w => if w.low then decide (2 ≤ w.news) && s.divEdge globals (s.get (lineSrc b n)) (s.get (lineDact b n)) else s.divEdge globals w.src w.dact)

/-- The lines of a bough, SQCK last, that give an edge. -/
def State.liveLines (s : State) (b globals : Nat) : Nat :=
  (List.range 17).foldl (fun a n => a + (if s.lineEdge globals b n then 2 ^ n else 0)) 0

/-- A line after its edges: a DACT that waited acts at the end of the divided period (R265), and a switch of the source moves on (R277, R254, R255):
two cycles of the old clock, two of the new one, and its next edge; where the old clock has not been gated off by the eighth edge of the new one, it
is forced off and the next edge of the new clock passes, with 0x0609. -/
def lineAfter (pre : State) (globals b n : Nat) (s : State) : State :=
  let i := 17 * b + n
  let newEdge := pre.divEdge globals (pre.get (lineSrc b n)) (pre.get (lineDact b n))
  let setSw (t : State) (w : Option LineSwitch) : State := { t with clk := { t.clk with lineSw := SMap.set t.clk.lineSw none i w } }
  match SMap.get pre.clk.lineSw none i with
  | none =>
    match SMap.get pre.clk.dactNext 0 i with
    | 0 => s
    | k + 1 => if pre.lineEdge globals b n then
        { s.set (lineDact b n) k with clk := { s.clk with dactNext := SMap.set s.clk.dactNext 0 i 0 } }
      else s
  | some w =>
    if w.low then (if newEdge then (if 2 ≤ w.news then setSw s none else setSw s (some { w with news := w.news + 1 })) else s)
    else
      let olds := w.olds + ofFlag (pre.divEdge globals w.src w.dact)
      let news := w.news + ofFlag newEdge
      if 2 ≤ olds then setSw s (some { w with olds := olds, news := 0, low := true })
      else if 8 ≤ news then (setSw s (some { w with news := 2, low := true })).raise 0x0609 b n
      else setSw s (some { w with olds := olds, news := news })

/-- All that one bough clocks at edges of its running lines. -/
def boughEdges (pre : State) (b lines : Nat) (loose : List (Nat × Fin 3)) (s : State) : State :=
  let s0 := ffEdges pre b lines loose s
  if lines = 0 then s0
  else
    let s1 := sliceEdges pre b lines (bmEdges pre b lines (limbEdges pre b lines s0))
    let s2 := if bit lines (pre.trgClk b) = 1 then trigEdge pre b s1 else s1
    let s3 := if bit lines (pre.markClk b) = 1 then markEdge pre b s2 else s2
    let rel := (pre.bough b).relLines
    s3.setBough b { s3.bough b with relLines := rel - (rel &&& lines) }

/-- The graft registers of every edge whose clock is in a mask (R106 to R108). -/
def graftEdges (pre : State) (globals : Nat) (s : State) : State :=
  (List.range 256).foldl (fun t i =>
    if bit globals (pre.graftClk (i / 4) (i % 4)) = 1 then graftEdge pre (i / 4) (i % 4) t else t) s

/-- BOUGH_CLOCK_EDGE (R65, R102, R106, R138, R170, R266, R326, R330): global lines give an edge together, and every bough line that they bring to its
own edge gives one with them. -/
def execBoughClockEdge (globals : BitVec 32) (resets : List (Nat × Bool)) (late : List Nat) (s : State) : Host.Outcome State Fault Refusal :=
  let loose := looseKinds resets late
  let g := s.liveGlobals globals.toNat
  let pre := s.settled.countEdges g
  let boughs := (List.range 64).filter (fun b => pre.running b)
  let s1 := boughs.foldl (fun t b => boughEdges pre b (pre.liveLines b g) loose t) pre
  let s2 := boughs.foldl (fun t b => (List.range 17).foldl (fun u n => lineAfter pre g b n u) t) (graftEdges pre g s1)
  done (boughs.foldl (fun t b => t.fabricEvents b) s2.settled)

end Sys2Proof.Machine
end

