-- ==== Sys2Proof/Machine/Collar.lean ====
section
/-!
DEFINITION. A bough stops, is cleared and is released (R66, R104, R121, R127, R213, R264, R273), and its collar clamps the pins
that it owns (R520, R521).
-/
namespace Sys2Proof.Machine
open Sys2Proof

/-! ## Pins (R520, R521) -/

/-- Entry `e` of a plane's collar frame 2. -/
def State.pinEntry (s : State) (plane b e : Nat) : Nat := bits (s.frame plane b 0 40 2) (16 * e) 16

/-- The collar clamps (R521): each owned pin keeps the entry that governs it now. -/
def State.clampPins (s : State) (b : Nat) : State :=
  (List.range 64).foldl (fun (t : State) e =>
    let w := s.pinEntry (s.bough b).plane b e
    { t with pt := { t.pt with pinLatch := SMap.set t.pt.pinLatch 0 (64 * b + e) (if bit w 12 = 1 then w + 1 else 0) } }) s

/-- The latch of a collar that releases empties. -/
def State.freePins (s : State) (b : Nat) : State :=
  { s with pt := { s.pt with pinLatch := SMap.clear s.pt.pinLatch (64 * b) (64 * b + 64) } }

/-- Clamps a collar that is not clamped (R521). -/
def State.clamp (s : State) (b : Nat) : State :=
  if (s.bough b).clamped then s else (s.clampPins b).setBough b { s.bough b with clamped := true }

/-! ## Lines -/

/-- Every line of a bough stops (R264). -/
def State.linesStop (s : State) (b : Nat) : State := (List.range 17).foldl (fun t n => t.lineOff b n) s

/-- Stops a bough that keeps everything it holds (R273, R50); an asynchronous set/reset stays in force (R89). -/
def State.boughHalt (s : State) (b : Nat) (r : BoughRun) : State := (((s.settled.linesStop b).clamp b).setRun b r).settled

/-- A change of operating point of a bough is forgotten where it loses its state (R127). -/
def State.opForget (s : State) (b : Nat) : State :=
  { s.sets [(R.OP_STATUS_BUSY b, 0), (R.OP_STATUS_STEP b, 0), (R.OP_STATUS_AUTO b, 0)] with clk := { s.clk with
      opCh := SMap.set s.clk.opCh none b none
      opQueue := s.clk.opQueue.filter (fun x => decide (x ≠ b))
      autoWait := SMap.set s.clk.autoWait 0 b 0 } }

/-- The first frame-4 block words of a plane, with RETAIN. -/
def State.retained (s : State) (b k : Nat) : Bool := decide (bit (s.blockWord b k) 26 = 1)

/-- What a bough loses when its design leaves the fabric (R65 row 1, R127, R188, R220): flip-flops, links, trigger and mark
registers, sequencers, slice pipelines, block outputs. `results` also clears the result registers. -/
def State.boughForget (s : State) (b : Nat) (results : Bool) : State :=
  let s1 := ((s.ffClear b (fun _ => false)).clearLinks b).clearSlices b results
  let s2 := (List.range 32).foldl (fun t a => t.sqClear b a) s1
  let s3 := s2.bmClearPorts b
  s3.setBough b { s3.bough b with trig := 0, trigPend := [], mark := 0, relLines := 0 }

/-- A bough goes OFF (R68, R156, R273): its rail disconnects and the regulator stops with its saved trims kept. Where no drain has run to its end, port 0
drains with DRAIN_TO = 0 (R359, R360). -/
def State.boughOff (s : State) (b : Nat) : State :=
  let s1 := (((s.drainNow b).opForget b).boughHalt b .off).boughForget b true
  let s2 := (List.range 128).foldl (fun t k => if s.retained b k then t else t.bmZero b k) s1
  s2.sets [(R.OP_STATUS_STATE b, 0), (R.OP_STATUS_RAIL b, 0), (R.DR_STATUS_LOCKED b, 0), (R.DR_STATUS_HOLD b, 0),
    (R.DR_STATUS_WARN b, 0), (R.DR_STATUS_EXHAUSTED b, 0), (R.DR_STATUS_FLOOR b, 0), (R.DR_STATUS_UNGUARDED b, 0),
    (R.DR_STATUS_HOLD_DRIFT b, 0), (R.DR_STATUS_OP b, 0), (R.DR_STATUS_TRIM b, 0), (R.DR_STATUS_HEADROOM b, 16)]

/-- Whether a bough's collar has been released and its design kept since (R109): it runs, or rests. -/
def State.released (s : State) (b : Nat) : Bool := s.running b || decide ((s.bough b).run = .rest)

/-- 0x0716, once for each edge whose two sides name different clocks, at the later of the two releases (R109). -/
def State.edgeWarn (s : State) (b : Nat) : State :=
  (List.range 4).foldl (fun t e =>
    match neighbour b e with
    | none => t
    | some nb =>
      if s.graftOn b e ∧ s.graftOn nb (opposite e) ∧ s.graftClk b e ≠ s.graftClk nb (opposite e) ∧ s.released nb then
        t.raise 0x0716 b 0
      else t) s

/-- The collar of a bough releases a design that starts afresh (R66, R104, R108, R181, R213, R360). -/
def State.boughRelease (s : State) (b : Nat) : State :=
  let s1 := (s.boughForget b true).setRun b .running
  let s2 := (List.range 32).foldl (fun t a => t.sqRestart b a) s1
  let s3 := (s2.setBough b { s2.bough b with clamped := false, relLines := 2 ^ 16 - 1, edgeOff := 0 }).freePins b
  (((s3.linesCompute b (s3.boundPoint b) (s3.lowering b)).p0Open b).edgeWarn b).settled

/-- A bough whose design stood still runs on (R273, R530): lines at the dividers of the limits that bind it (R272), collar released. -/
def State.boughResume (s : State) (b : Nat) : State :=
  let s1 := s.setRun b .running
  let s2 := (s1.setBough b { s1.bough b with clamped := false }).freePins b
  (s2.linesCompute b (s2.boundPoint b) (s2.lowering b)).settled

/-- A load takes a bough (R522 step 3, R504 step 1): clamped, its lines stopped, flip-flops 0, sequencers idle. -/
def State.boughTake (s : State) (b : Nat) : State := (s.boughHalt b .loading).boughForget b false

/-- A bough of a failed partition stops once its port has drained: for its seed, or in ERROR (R508, R523, R536). -/
def State.fallEnd (s : State) (b : Nat) : State :=
  let k := SMap.get s.pt.falling 0 b
  let t := { s with pt := { s.pt with falling := SMap.set s.pt.falling 0 b 0 } }
  if k = 0 ∨ s.p0 b ≠ p0ASLEEP then s else if k = 1 then t.boughTake b else t.boughOff b

/-- A bough of a failed partition is drained, and stops (R508, R523, R536). -/
def State.fall (s : State) (b k : Nat) : State :=
  ({ s with pt := { s.pt with falling := SMap.set s.pt.falling 0 b k } }.drainStart b).fallEnd b

/-- A user pin as a chip's surroundings see it (R505, R520, R521): high impedance with or without its weak pull, held, driven,
or as the design and its bank drive it, or in its role of a slow port (R592, R725). -/
inductive PinView where
  | off (pull : Bool)
  | held
  | driven (value : Nat)
  | design
  | port (k : Nat)
deriving DecidableEq, Repr

/-- The boughs of an entry that owns a pin in their active plane. -/
def State.pinOwner (s : State) (pin : Nat) : Option (Nat × Nat) :=
  ((List.range 64).flatMap (fun b => (List.range 64).map (fun e => (b, e)))).find? (fun (b, e) =>
    decide (bit (s.pinEntry (s.bough b).plane b e) 12 = 1) && decide (bits (s.pinEntry (s.bough b).plane b e) 0 9 = pin))

/-- The latched entry that governs a pin while a collar is clamped, with its bough. -/
def State.pinHeld (s : State) (pin : Nat) : Option (Nat × Nat) :=
  (s.pt.pinLatch.find? (fun (e : Nat × Nat) => decide (bits (e.2 - 1) 0 9 = pin))).map (fun e => (e.1 / 64, e.2 - 1))

/-- Whether a bough belongs to a partition whose pins act (R505, R508). -/
def State.pinsAct (s : State) (b : Nat) : Bool :=
  match s.partOf b with
  | none => false
  | some q => decide (s.get (R.PT_STAT_STATE q) = 1) || decide (s.get (R.PT_STAT_STATE q) = 2)

/-- Whether a pin's bank is declared and its VCCO is good (R725, R734). -/
def State.pinPowered (s : State) (pin : Nat) : Bool :=
  decide (s.get (R.IO_BANK_VCCO (pinBank pin)) ≠ 0) && decide (bit (s.get R.PWR_STATUS_GOOD) (10 + pinBank pin) = 1)

/-- The slow port whose four pins hold a pin (R592, R593). -/
def State.pinPort (s : State) (pin : Nat) : Option Nat :=
  (List.range 4).find? (fun k => decide (s.get (R.SP_CFG_MODE k) ≠ 0) && decide (spPin k ≤ pin) && decide (pin < spPin k + 4))

/-- How a user pin stands (R505, R508, R520, R521, R50, R592, R725). -/
def State.pinView (s : State) (pin : Nat) : PinView :=
  if s.mode0 ≠ mRUN ∨ !s.pinPowered pin then .off false
  else match s.pinPort pin with
  | some k => .port k
  | none => match s.pinHeld pin with
    | some (b, w) =>
      if !s.pinsAct b then .off true
      else match bits w 9 2 with
        | 0 => .held
        | 1 => .driven (bit w 11)
        | _ => .off true
    | none =>
      match s.pinOwner pin with
      | none => .off true
      | some (b, _) => if s.pinsAct b ∧ !(s.bough b).clamped then .design else .off true

end Sys2Proof.Machine
end

