-- ==== Sys2Proof/Machine/FrameCheck.lean ====
section
/-!
DEFINITION. Configuration frames as the loader and the gleaner see them: frame order (R499), the frame code (R546, R547), branch
signatures (R551), the field checks of one frame (R76, R84, R94, R98, R103, R111, R133, R166, R217, R330, R519, R520) and the
checks of a whole plane (R151, R152, R176, R178, R183, R217).
-/
namespace Sys2Proof.Machine
open Sys2Proof

/-! ## Frame order -/

/-- Frames of the branches of a row before a column. -/
def frameColOfs (col : Nat) : Nat :=
  154 * (col / 10) + (if col % 10 < 5 then 16 * (col % 10) else 76 + 16 * (col % 10 - 5))

/-- How many frames a branch has: 16, 12 or 14, and 8 in the collar (R31). -/
def framesOf (col : Nat) : Nat := if col = 40 then 8 else match branchType col with | 0 => 16 | 1 => 12 | _ => 14

/-- Whether an address names a frame (R31). -/
def frameExists (row col idx : Nat) : Bool := decide (row < 8) && decide (col < 41) && decide (idx < framesOf col) && (decide (col < 40) || decide (row = 0))

/-- The place of a frame in its bough (R499): 0 to 4,935, the collar last. -/
def frameOrd (row col idx : Nat) : Nat := if col = 40 then 4928 + idx else 616 * row + frameColOfs col + idx

/-- The frame at a place of frame order: row, column, index. -/
def frameAt (n : Nat) : Nat × Nat × Nat :=
  if 4928 ≤ n then (0, 40, n - 4928)
  else
    let m := n % 616 % 154
    let c := if m < 64 then (m / 16, m % 16) else if m < 76 then (4, m - 64)
             else if m < 140 then (5 + (m - 76) / 16, (m - 76) % 16) else (9, m - 140)
    (n / 616, 10 * (n % 616 / 154) + c.1, c.2)

/-! ## The frame code -/

/-- The check bits of 4,096 data bits (R546): the remainder by g(x). -/
def frameCode (data : Nat) : Nat :=
  (List.range 4096).foldl (fun r i =>
    let fb := (r / 2 ^ 31 + bit data (4095 - i)) % 2
    if fb = 1 then (2 * r % 2 ^ 32) ^^^ 0x8000001B else 2 * r % 2 ^ 32) 0

/-- The check bits stored with a frame. -/
def State.frameChecks (s : State) (plane b row col idx : Nat) : Nat := SMap.get s.fab.checks 0 (frameKey plane b row col idx)
def State.setChecks (s : State) (plane b row col idx v : Nat) : State :=
  { s with fab := { s.fab with checks := SMap.set s.fab.checks 0 (frameKey plane b row col idx) (v % 2 ^ 32) } }

/-- One step of a remainder by x^31 + x^3 + 1. -/
def modP (v : Nat) : Nat := if v / 2 ^ 31 % 2 = 1 then v ^^^ 0x80000009 else v

/-- The syndrome of a 4,128-bit word (R547). -/
def frameSyn (c : Nat) : Nat := (List.range 4128).foldl (fun r i => modP (2 * r + bit c (4127 - i))) 0

/-- The first position up to `n - 1` whose syndrome, times `factor`, is `s`. -/
def frameSeek (s : Nat) (factor : Nat → Nat) : Nat → Nat → Nat → Option Nat
  | 0, _, _ => none
  | n + 1, i, x => if factor x = s then some i else frameSeek s factor n (i + 1) (modP (2 * x))

/-- What decoding a frame gives (R547). -/
inductive FrameDec where
  | clean
  | single (i : Nat)
  | adjacent (i : Nat)
  | uncorrectable
deriving DecidableEq, Repr

def frameDecode (data checks : Nat) : FrameDec :=
  let c := data * 2 ^ 32 + checks
  let par := (List.range 4128).foldl (fun a i => a + bit c i) 0 % 2
  let s := frameSyn c
  if par = 0 ∧ s = 0 then .clean
  else if par = 1 then match frameSeek s (fun x => x) 4128 0 1 with | some i => .single i | none => .uncorrectable
  else match frameSeek s (fun x => modP (2 * x) ^^^ x) 4127 0 1 with | some i => .adjacent i | none => .uncorrectable

/-- Inverts position `i` of a stored frame: check bits are 0 to 31, data bits from 32 on. -/
def State.frameFlip (s : State) (plane b row col idx i : Nat) : State :=
  if i < 32 then s.setChecks plane b row col idx (s.frameChecks plane b row col idx ^^^ 2 ^ i)
  else s.setFrame plane b row col idx (s.frame plane b row col idx ^^^ 2 ^ (i - 32))

/-- The 516 bytes of a frame in FRAME packet layout (R498). -/
def State.frameBytes516 (s : State) (plane b row col idx : Nat) : List Nat :=
  toBytes 512 (s.frame plane b row col idx) ++ toBytes 4 (s.frameChecks plane b row col idx)

/-- The signature of a branch in a plane (R551). -/
def State.branchSig (s : State) (plane b row col : Nat) : Nat :=
  crc64 ((List.range (framesOf col)).flatMap (fun i => s.frameBytes516 plane b row col i))

def sigKey (plane b row col : Nat) : Nat := ((plane * 64 + b) * 8 + row) * 41 + col
def State.golden (s : State) (plane b row col : Nat) : Nat := SMap.get s.pt.sig 0 (sigKey plane b row col)
def State.setGolden (s : State) (plane b row col v : Nat) : State :=
  { s with pt := { s.pt with sig := SMap.set s.pt.sig 0 (sigKey plane b row col) v } }

/-! ## The checks of one frame. A breach is the bit offset of its field in the frame, and its detail code. -/

abbrev Breach := Nat × Nat

/-- A 12-bit select at an offset (R94). -/
def selBreach (row col o w : Nat) : List Breach :=
  (if bit w 10 = 1 ∧ !srcExists row col (bits w 0 10) then [(o, 0x0710)] else [])
    ++ (if bit w 10 = 0 ∧ bits w 0 10 ≠ 0 then [(o, 0x0711)] else [])
    ++ (if bit w 11 = 1 then [(o + 11, 0x0714)] else [])

/-- A reserved field. -/
def resBreach (v lo w code : Nat) : List Breach := if bits v lo w ≠ 0 then [(lo, code)] else []

/-- A lane word at an offset (R94, R100, R103, R128, R161, R189). -/
def laneBreach (row col lane o w : Nat) : List Breach :=
  (if bit w 10 = 1 ∧ !srcExists row col (bits w 0 10) then [(o, 0x0710)] else [])
    ++ (if bit w 10 = 0 ∧ bits w 0 10 ≠ 0 then [(o, 0x0711)] else [])
    ++ (if bit w 10 = 1 ∧ (laneTarget row col lane (bits w 11 2)).isNone then [(o + 11, 0x0712)] else [])
    ++ (if bits w 17 3 ≠ 0 then [(o + 17, 0x0714)] else [])

def lanesBreach (row col v : Nat) : List Breach :=
  (List.range 64).flatMap (fun l => laneBreach row col l (20 * l) (bits v (20 * l) 20))

/-- A leaf word (R84). -/
def leafBreach (o w : Nat) : List Breach :=
  (if bits w 64 2 = 3 then [(o + 64, 0x0703)] else [])
    ++ ([69, 71, 79, 81].flatMap (fun f => if bits w f 2 = 3 then [(o + f, 0x0704)] else []))
    ++ (if bits w 86 10 ≠ 0 then [(o + 86, 0x0705)] else [])

/-- A twig select (R76). -/
def twigSelBreach (o w : Nat) : List Breach :=
  let g := bits w 0 9
  let m := bits w 9 8
  if (g = 0) ≠ (m = 0) then [(o, 0x0702)]
  else if g ≠ 0 ∧ (g ≠ 2 ^ lowestBit g 9 ∨ m ≠ 2 ^ lowestBit m 8) then [(o, 0x0701)] else []

/-- A twig word (R76, R84). -/
def twigBreach (o w : Nat) : List Breach :=
  ((List.range 8).flatMap (fun k => leafBreach (o + 96 * k) (bits w (96 * k) 96)))
    ++ ((List.range 69).flatMap (fun i => twigSelBreach (o + 768 + 17 * i) (bits w (768 + 17 * i) 17)))
    ++ (if bits w 1953 95 ≠ 0 then [(o + 1953, 0x0705)] else [])

/-- Selects 0 to n - 1 of a frame. -/
def selsBreach (row col n v : Nat) : List Breach :=
  (List.range n).flatMap (fun i => selBreach row col (12 * i) (bits v (12 * i) 12))

/-- A frame of an L branch (R76, R84, R94, R98, R103, R111). -/
def lFrameBreach (row col idx v : Nat) : List Breach :=
  if idx < 12 then twigBreach 0 (bits v 0 2048) ++ twigBreach 2048 (bits v 2048 2048)
  else if idx < 15 then selsBreach row col 320 v ++ resBreach v 3840 256 0x0714
  else
    lanesBreach row col v
      ++ ((List.range 40).flatMap (fun g =>
        let w := bits v (1280 + 12 * g) 12
        selBreach row col (1280 + 12 * g) w
          ++ (if bit w 10 = 1 ∧ !(if g < 8 then row = 7 || row = 0 else col = 0 || col = 38) then [(1280 + 12 * g, 0x0715)] else [])))
      ++ (if bit v 1760 = 1 ∧ row = 0 then [(1760, 0x0713)] else []) ++ resBreach v 1761 2335 0x0714

/-- A block word (R133, R151, R152). -/
def blockBreach (o w : Nat) : List Breach :=
  let ops := bit w 27 = 1
  let width (p f : Nat) : List Breach :=
    let wd := bits w f 3
    let held := decide (p = 1) && decide ops
    (if 5 ≤ wd then [(o + f, 0x0720)] else [])
      ++ (if wd = 4 ∧ !held then [(o + f, 0x0721)] else [])
      ++ (if bits w 1 2 = 1 ∧ wd ≠ 3 ∧ !held then [(o + f, 0x0721)] else [])
      ++ (if held ∧ wd ≠ 4 then [(o + f, 0x0724)] else [])
  (if 2 ≤ bits w 1 2 then [(o + 1, 0x0720)] else []) ++ width 0 3 ++ width 1 6
    ++ (if bits w 9 2 = 3 then [(o + 9, 0x0720)] else []) ++ (if bits w 11 2 = 3 then [(o + 11, 0x0720)] else [])
    ++ (if bit w 23 = 1 ∧ bits w 1 2 = 0 then [(o + 23, 0x0721)] else [])
    ++ (if bits w 24 2 = 3 then [(o + 24, 0x0726)] else [])
    ++ (if bit w 27 = 1 ∧ bits w 28 3 ≠ 0 then [(o + 27, 0x0724)] else [])
    ++ (if 6 ≤ bits w 28 3 then [(o + 28, 0x0720)] else []) ++ (if bits w 31 33 ≠ 0 then [(o + 31, 0x0725)] else [])

/-- A frame of an M branch (R94, R103, R133, R152). -/
def mFrameBreach (row col idx v : Nat) : List Breach :=
  if idx < 2 then selsBreach row col 320 v ++ resBreach v 3840 256 0x0725
  else if idx = 2 then selsBreach row col 168 v ++ resBreach v 2016 2080 0x0725
  else if idx = 3 then lanesBreach row col v ++ resBreach v 1280 2816 0x0725
  else if idx = 4 then
    ((List.range 4).flatMap (fun j => blockBreach (64 * j) (bits v (64 * j) 64))) ++ resBreach v 256 3840 0x0725
  else resBreach v 0 4096 0x0725

/-- A slice word (R166). -/
def sliceBreach (k o w : Nat) : List Breach :=
  (if bit w 1 = 1 ∧ (bit w 2 = 1 ∨ bits w 20 6 ≠ 0 ∨ bit w 26 = 1 ∨ 16 < bits w 13 6) then [(o + 1, 0x0734)] else [])
    ++ (if 2 ≤ bits w 3 2 then [(o + 3, 0x0730)] else []) ++ (if k = 0 ∧ bits w 3 2 = 1 then [(o + 3, 0x0731)] else [])
    ++ (if bits w 5 2 = 3 then [(o + 5, 0x0730)] else []) ++ (if k = 0 ∧ bits w 5 2 = 2 then [(o + 5, 0x0731)] else [])
    ++ (if 2 ≤ bits w 9 2 then [(o + 9, 0x0730)] else []) ++ (if bits w 11 2 = 3 then [(o + 11, 0x0730)] else [])
    ++ (if 32 < bits w 13 6 then [(o + 13, 0x0730)] else []) ++ (if 32 < bits w 20 6 then [(o + 20, 0x0730)] else [])
    ++ (if bit w 31 = 1 then [(o + 31, 0x0735)] else []) ++ (if bits w 168 88 ≠ 0 then [(o + 168, 0x0735)] else [])

/-- Frame 6 of an A branch (R217). -/
def sqFrameBreach (row col v : Nat) : List Breach :=
  resBreach v 57 7 0x0825
    ++ ((List.range 4).flatMap (fun k => selBreach row col (64 + 12 * k) (bits v (64 + 12 * k) 12)))
    ++ ((List.range 4).flatMap (fun k => resBreach v (115 + 4 * k) 1 0x0825))
    ++ resBreach v 129 7 0x0825 ++ resBreach v 160 32 0x0825
    ++ ((List.range 4).flatMap (fun k =>
      (if 2048 < bits v (192 + 64 * k + 22) 12 then [(192 + 64 * k + 22, 0x0821)] else []) ++ resBreach v (192 + 64 * k + 47) 17 0x0825))
    ++ resBreach v 448 3648 0x0825

/-- A frame of an A branch (R94, R103, R166, R217). -/
def aFrameBreach (row col idx v : Nat) : List Breach :=
  if idx < 2 then selsBreach row col 320 v ++ resBreach v 3840 256 0x0735
  else if idx = 2 then selsBreach row col 200 v ++ resBreach v 2400 1696 0x0735
  else if idx = 3 then lanesBreach row col v ++ resBreach v 1280 2816 0x0735
  else if idx = 4 then
    ((List.range 8).flatMap (fun k => sliceBreach k (256 * k) (bits v (256 * k) 256))) ++ resBreach v 2048 2048 0x0735
  else if idx = 5 then
    (if bit v 5 = 1 ∧ row = 0 then [(5, 0x0731)] else []) ++ resBreach v 6 58 0x0735 ++ resBreach v 64 4032 0x0735
  else if idx = 6 then sqFrameBreach row col v
  else resBreach v 0 4096 0x0825

/-- A frame of a collar (R112, R330, R519, R520), but for pins that another bough owns. -/
def collarBreach (idx v : Nat) : List Breach :=
  match idx with
  | 0 => ((List.range 4).flatMap (fun e => resBreach v (8 * e + 7) 1 0x0714)) ++ resBreach v 32 4064 0x0714
  | 1 => ((List.range 4).flatMap (fun j => selBreach 0 0 (12 * j) (bits v (12 * j) 12))) ++ resBreach v 81 4015 0x0714
  | 2 => ((List.range 64).flatMap (fun e =>
      let w := bits v (16 * e) 16
      (if (bit w 12 = 0 ∧ w ≠ 0) ∨ bits w 9 2 = 3 ∨ 335 < bits w 0 9 then [(16 * e, 0x0122)] else [])
        ++ (if bits w 13 3 ≠ 0 then [(16 * e + 13, 0x0714)] else []))) ++ resBreach v 1024 3072 0x0714
  | _ => resBreach v 0 4096 0x0714

/-- Every breach of a frame by itself. -/
def frameBreaches (row col idx v : Nat) : List Breach :=
  if col = 40 then collarBreach idx v
  else match branchType col with
    | 0 => lFrameBreach row col idx v
    | 1 => mFrameBreach row col idx v
    | _ => aFrameBreach row col idx v

/-- Whether a breach comes before another: the lower offset, then the lower code (R499). -/
def Breach.before (x y : Breach) : Bool := decide (x.1 < y.1) || (decide (x.1 = y.1) && decide (x.2 < y.2))

/-- The breach that is recorded. -/
def firstBreach (l : List Breach) : Option Breach :=
  l.foldl (fun a x => match a with | none => some x | some y => if Breach.before x y then some x else some y) none

/-! ## The checks of a plane. A breach is the frame's place in frame order, the bit offset, the detail code. -/

abbrev PlaneBreach := Nat × Nat × Nat

def State.pBlock (s : State) (plane b k : Nat) : Nat := bits (s.frame plane b (bmRow k) (bmCol k) 4) (64 * (k % 4)) 64
def State.pSlice (s : State) (plane b i : Nat) : Nat := bits (s.frame plane b (slRow (i / 8)) (slCol (i / 8)) 4) (256 * (i % 8)) 256
def State.pAbranch (s : State) (plane b a : Nat) : Nat := bits (s.frame plane b (slRow a) (slCol a) 5) 0 64

/-- Input select `n` of a branch's frames 0 to 2. -/
def State.pSel (s : State) (plane b row col n : Nat) : Nat := bits (s.frame plane b row col (n / 320)) (12 * (n % 320)) 12

/-- The fields that the members of a cascade share (R149): offset and width. -/
def cascFields : List (Nat × Nat) := [(1, 2), (3, 3), (6, 3), (9, 2), (11, 2), (13, 1), (14, 1), (15, 4), (19, 4), (28, 3)]

/-- Cascades of block memories (R151). -/
def State.cascBreach (s : State) (plane b : Nat) : List PlaneBreach :=
  (List.range 128).flatMap (fun k =>
    let w := s.pBlock plane b k
    let n := cascLen w
    if bits w 28 3 = 0 ∨ 6 ≤ bits w 28 3 then []
    else
      let p0 := k - k % n
      let last := p0 + n - 1
      let ord := frameOrd (bmRow last) (bmCol last) 4
      let ms := (List.range n).map (fun i => s.pBlock plane b (p0 + i))
      match cascFields.find? (fun f => ms.any (fun (x : Nat) => decide (bits x f.1 f.2 ≠ bits w f.1 f.2))) with
        | some f => [(ord, 64 * (last % 4) + f.1, 0x0723)]
        | none => [])

/-- Port B selects of an operand store (R152). -/
def State.opsBreach (s : State) (plane b : Nat) : List PlaneBreach :=
  (List.range 128).flatMap (fun k =>
    let j := k % 4
    if bit (s.pBlock plane b k) 27 = 1
      ∧ (List.range 101).any (fun n => decide (s.pSel plane b (bmRow k) (bmCol k) (202 * j + 101 + n) ≠ 0)) then
      [(frameOrd (bmRow k) (bmCol k) 4, 64 * j + 27, 0x0724)]
    else [])

/-- Cascades of slices (R176). -/
def State.joinBreach (s : State) (plane b : Nat) : List PlaneBreach :=
  (List.range 256).flatMap (fun i =>
    let a := i / 8
    let k := i % 8
    let w := s.pSlice plane b i
    let below := s.pSlice plane b (i - 1)
    let casc := s.pSel plane b (slRow a) (slCol a) (105 * k + 102) ≠ 0
    let ab := bits w 3 2 = 1 ∨ bits w 5 2 = 2
    if k ≠ 0 then
      if casc ∨ ab then
        (match joinClash w below with
          | some f => [(frameOrd (slRow a) (slCol a) 4, 256 * k + f, 0x0733)]
          | none => [])
          ++ (if ab ∧ bit below 7 = 0 then [(frameOrd (slRow a) (slCol a) 4, 256 * (k - 1) + 7, 0x0733)] else [])
      else []
    else if casc ∧ bit (s.pAbranch plane b a) 5 = 1 ∧ 4 ≤ a ∧ (joinClash w (s.pSlice plane b (8 * (a - 4) + 7))).isSome then
      [(frameOrd (slRow a) (slCol a) 5, 5, 0x0733)]
    else [])

/-- The fields in which a quad's slices agree (R178), and those that are 0. -/
def quadFields : List (Nat × Nat) := [(7, 1), (8, 1), (9, 2), (11, 2), (13, 6), (19, 1), (27, 4)]

/-- Complex quads (R178). -/
def State.quadBreach (s : State) (plane b : Nat) : List PlaneBreach :=
  (List.range 64).flatMap (fun i =>
    let a := i / 2
    let q := i % 2
    let w (j : Nat) : Nat := s.pSlice plane b (8 * a + 4 * q + j)
    if bit (s.pAbranch plane b a) (1 + q) = 0 then []
    else if (List.range 4).any (fun j =>
        (List.range 105).any (fun n => !quadSel j n && decide (s.pSel plane b (slRow a) (slCol a) (105 * (4 * q + j) + n) ≠ 0))
        || quadFields.any (fun f => decide (bits (w j) f.1 f.2 ≠ bits (w 0) f.1 f.2))
        || decide (bits (w j) 1 2 ≠ 0) || (decide (j < 2) && decide (bits (w j) 3 4 ≠ 0))) then
      [(frameOrd (slRow a) (slCol a) 5, 1 + q, 0x0733)]
    else [])

/-- Sequenced mode (R183) and the sequencer's frames (R217). -/
def State.seqBreach (s : State) (plane b : Nat) : List PlaneBreach :=
  (List.range 32).flatMap (fun a =>
    let row := slRow a
    let col := slCol a
    let sq := bit (s.pAbranch plane b a) 0
    let ws := (List.range 8).map (fun k => s.pSlice plane b (8 * a + k))
    let modes := ((List.range 4).map (fun j => s.pBlock plane b (opBlock a j))).filter (fun (w : Nat) => decide (bit w 27 = 1))
    (if sq = 1 ∧ ((List.range 840).any (fun n => decide (s.pSel plane b row col n ≠ 0))
        || ws.any (fun (w : Nat) => decide (bit w 2 ≠ 0) || decide (bits w 3 4 ≠ 0) || decide (bits w 7 2 ≠ 0)
          || decide (bits w 20 6 ≠ 0) || decide (bit w 26 ≠ 0) || decide (bits w 27 4 ≠ 0))) then
      [(frameOrd row col 5, 0, 0x0732)] else [])
      ++ (if bit (s.frame plane b row col 6) 0 ≠ sq then [(frameOrd row col 6, 0, 0x0820)] else [])
      ++ (if modes.any (fun (w : Nat) => decide (bits w 1 2 ≠ bits (modes.headD 0) 1 2)) then [(frameOrd row col 6, 0, 0x0822)] else []))

/-- Every breach of a plane of a bough that more than one field makes. -/
def State.planeBreaches (s : State) (plane b : Nat) : List PlaneBreach :=
  s.cascBreach plane b ++ s.opsBreach plane b ++ s.joinBreach plane b ++ s.quadBreach plane b ++ s.seqBreach plane b

/-- The first of some breaches in frame order (R499). -/
def firstPlaneBreach (l : List PlaneBreach) : Option PlaneBreach :=
  l.foldl (fun a x => match a with
    | none => some x
    | some y => if x.1 < y.1 ∨ (x.1 = y.1 ∧ Breach.before x.2 y.2) then some x else some y) none

/-- The breach of a plane of a bough that is recorded (R499). -/
def State.planeBreach (s : State) (plane b : Nat) : Option PlaneBreach := firstPlaneBreach (s.planeBreaches plane b)

/-- A frame of a plane changed (R95, R102, R103): where the plane is active, what its design settles to follows. -/
def State.frameFollows (s : State) (plane b : Nat) : State := if (s.bough b).plane = plane then (s.frameChanged b).sqFollow b else s

end Sys2Proof.Machine
end

