-- ==== Sys2Proof/Machine/Granary.lean ====
section
/-!
DEFINITION. The granary (chapter 12): banks, accesses under the symbol code, power states, repairs and the background test. Bank
g is bank j = g mod 8 of router 56 + k, k = g / 8. A background test runs within one command.
-/
namespace Sys2Proof.Machine
open Sys2Proof

def grErrAddr (k : Nat) : Nat := Config.rp (56 + k) 2 + 0x18
def State.grPwrOf (s : State) (g : Nat) : Nat := s.get (R.GB_STATUS_PWR (g / 8) (g % 8))

/-- The row store (R373): data rows, then the rows of spare `sp`. -/
def grSpareIx (sp i : Nat) : Nat := 32768 + 64 * sp + i
def State.grRow (s : State) (g ix : Nat) : Nat := SMap.get s.gr.rows 0 (g * 33280 + ix)
def State.setGrRow (s : State) (g ix v : Nat) : State :=
  { s with gr := { s.gr with rows := SMap.set s.gr.rows 0 (g * 33280 + ix) (v % 2 ^ 144) } }

/-- The spare onto which a physical row is mapped (R384). -/
def State.grSpareOf (s : State) (g p : Nat) : Option Nat :=
  (List.range 8).find? (fun sp => s.has (R.GB_SPARE_USED (g / 8) (g % 8) sp) && decide (s.get (R.GB_SPARE_ROW (g / 8) (g % 8) sp) = p))

/-- Where data row `r` of a bank is stored. -/
def State.grIx (s : State) (g r : Nat) : Nat :=
  match s.grSpareOf g (r / 64) with
  | some sp => grSpareIx sp (r % 64)
  | none => r

/-- An entry of GR_ERR_POP (R379), with the counts and the event of its kind; `kind` 0 corrected, 1 uncorrectable, 2 dropped,
3 test fault. -/
def State.grLog (s : State) (g kind row sym src : Nat) (bt : Bool) : State :=
  let k := g / 8
  let j := g % 8
  let w := j + kind * 2 ^ 3 + row * 2 ^ 5 + sym * 2 ^ 20 + src * 2 ^ 28 + ofFlag bt * 2 ^ 36 + 2 ^ 37
  let s1 := match kind with
    | 0 => s.bump (R.GB_CNT_CORR k j) 1
    | 3 => s.bump (R.GB_CNT_BT_FAIL k j) 1
    | _ => s.bump (R.GB_CNT_UNC k j) 1
  let a := grErrAddr k
  let s2 := if kind = 0 ∧ !s.has (R.GR_CTRL_CORR_LOG_EN k) then s1
    else if (s1.queue a).length < 16 then { s1 with pops := SMap.set s1.pops [] a (s1.queue a ++ [w]) }
    else { s1 with popOvf := SMap.set s1.popOvf 0 a 1 }
  if (kind = 1 ∨ kind = 2) ∧ s.has (R.GR_CTRL_UNC_EVT_EN k) then s2.raise 0x0924 (56 + k) w
  else if kind = 3 then s2.raise 0x0920 (56 + k) w else s2

/-- GR_ERR_POP (R22, R379): after a drop the next entry popped carries OVF. -/
def State.grErrPop (s : State) (k : Nat) : State :=
  let a := grErrAddr k
  match s.queue a with
  | [] => s.popRead a
  | w :: t =>
    let s1 := { s with pops := SMap.set s.pops [] a ((w + SMap.get s.popOvf 0 a * 2 ^ 38) :: t), popOvf := SMap.set s.popOvf 0 a 0 }
    s1.popRead a

/-- GR_ERR_POP (R379). -/
def execGrErrPop (k : Fin 8) (s : State) : Host.Outcome State Fault Refusal := done (s.grErrPop k)

/-! ## Accesses -/

/-- Bank and bank byte address of an offset of port A of router 56 + k (R372). -/
def State.grBank (s : State) (k o : Nat) : Nat × Nat :=
  if s.has (R.GR_CTRL_INTLV k) then (8 * k + bits o 19 3, bits o 0 19)
  else (8 * k + bits o 8 3, bits o 11 11 * 256 + bits o 0 8)

def State.grQueue (s : State) (g : Nat) : List (NocReq × Bool) := SMap.get s.gr.queues [] g
def State.setGrQueue (s : State) (g : Nat) (q : List (NocReq × Bool)) : State :=
  { s with gr := { s.gr with queues := SMap.set s.gr.queues [] g q } }
def State.grConf (s : State) (g src : Nat) : State := s.bump (R.GB_CONF_COUNT (g / 8) (g % 8) src) 1

/-- A request arrives at port A of router 56 + k (R372, R375, R380, R386). -/
def State.grArrive (s : State) (k : Nat) (q : NocReq) : State :=
  let o := q.addr % 2 ^ 36
  let me := 4 * (56 + k) + 1
  if 2 ^ 22 ≤ o then s.respond q me 0x0901 []
  else
    let g := (s.grBank k o).1
    let st := s.grPwrOf g
    let going := SMap.get s.gr.pwr 0 g
    if st = 3 ∨ going = 4 then s.respond q me 0x0902 []
    else if st ≠ 2 ∨ going = 1 then s.respond q me 0x0903 []
    else
      let wait := !(s.grQueue g).isEmpty
      let s1 := if wait then s.grConf g q.src else s
      s1.setGrQueue g (s1.grQueue g ++ [(q, wait)])

/-- The words of a data row that a request covers: (word in row, index in the request). -/
def NocReq.rowWords (q : NocReq) (base r : Nat) : List (Nat × Nat) :=
  (List.range q.words).filterMap (fun i => if (base + 4 * i) / 16 = r then some ((base + 4 * i) / 4 % 4, i) else none)

/-- One data row of a read (R378): the state and the corrected row, or none. -/
def State.grReadRow (s : State) (g r src : Nat) : State × Option Nat :=
  let ix := s.grIx g r
  let v := s.grRow g ix
  let d := symDecode v
  match d.kind with
  | 0 => (s, some v)
  | 1 => ((s.grLog g 0 r d.sym src false).setGrRow g ix (symFix v d), some (symFix v d))
  | _ => (s.grLog g 1 r 0xFF src false, none)

/-- An armed injection acts on a data row that a request has written (R391's GR_INJECT). -/
def State.grInject (s : State) (g ix : Nat) : State :=
  let k := g / 8
  if s.has (R.GR_INJECT_ARM k) && decide (s.get (R.GR_INJECT_BANK k) = g % 8) then
    let t := s.get (R.GR_INJECT_SYMBOL k)
    let e := s.get (R.GR_INJECT_PATTERN k)
    let x := e * 2 ^ (4 * t) ^^^ (if s.has (R.GR_INJECT_DOUBLE k) then e * 2 ^ (4 * ((t + 1) % 36)) else 0)
    (s.put (R.GR_INJECT_ARM k) false).setGrRow g ix (s.grRow g ix ^^^ x)
  else s

/-- The data rows that a request touches. -/
def NocReq.rows (q : NocReq) (base : Nat) : List Nat :=
  (List.range ((base + 4 * (q.words - 1)) / 16 - base / 16 + 1)).map (fun i => base / 16 + i)

/-- One data row of a write (R376, R378). -/
def State.grWriteRow (s : State) (g base : Nat) (q : NocReq) (r : Nat) : State :=
  let ix := s.grIx g r
  let v := s.grRow g ix
  let ws := q.rowWords base r
  let d := symDecode v
  let part := decide (ws.length < 4)
  let s1 := if part ∧ d.kind = 1 then s.grLog g 0 r d.sym q.src false else s
  let old := if part then symFix v d % 2 ^ 128 else 0
  let new := ws.foldl (fun a (w, i) => a - bits a (32 * w) 32 * 2 ^ (32 * w) + q.data.getD i 0 % 2 ^ 32 * 2 ^ (32 * w)) old
  (s1.setGrRow g ix (symEncode new)).grInject g ix

/-- A request at the head of its bank's queue is served (R376 to R379). -/
def State.grServe (s : State) (g : Nat) (q : NocReq) : State :=
  let base := (s.grBank (g / 8) (q.addr % 2 ^ 36)).2
  let me := 4 * (56 + g / 8) + 1
  let rows := q.rows base
  if q.wr then
    let bad := rows.filter (fun r => decide ((q.rowWords base r).length < 4) && decide ((symDecode (s.grRow g (s.grIx g r))).kind = 2))
    if bad.isEmpty then (rows.foldl (fun t r => t.grWriteRow g base q r) s).respond q me 0 []
    else (bad.foldl (fun (t : State) r => t.grLog g 2 r 0xFF q.src false) s).respond q me 0x0912 []
  else
    let x := rows.foldl (fun (a : State × List Nat × Bool) r =>
      match a.1.grReadRow g r q.src with
      | (t, some v) => (t, a.2.1 ++ (q.rowWords base r).map (fun w => bits v (32 * w.1) 32), a.2.2)
      | (t, none) => (t, a.2.1, true)) (s, [], false)
    x.1.respond q me (if x.2.2 then 0x0911 else 0) x.2.1

/-- The request at the head of bank `g`'s queue is served (R376); `testWait` when it waited for a test access or a repair copy (R380). -/
def State.grNext (s : State) (g : Nat) (testWait : Bool) : State :=
  match s.grQueue g with
  | [] => s
  | (q, counted) :: t =>
    let s1 := if testWait && !counted then s.grConf g q.src else s
    (s1.setGrQueue g t).grServe g q

/-! ## Commands -/

/-- Posts in GR_CMD_RESULT. -/
def State.grPost (s : State) (k op bank code : Nat) : State :=
  (s.sets [(R.GR_CMD_RESULT_OP k, op), (R.GR_CMD_RESULT_BANK k, bank)]).post (R.GR_CMD_RESULT_STATUS k) code

def State.setGoing (s : State) (g v : Nat) : State := { s with gr := { s.gr with pwr := SMap.set s.gr.pwr 0 g v } }

/-- The contents of a bank are lost (R386, R387). -/
def State.grClear (s : State) (g : Nat) : State :=
  { s with gr := { s.gr with rows := SMap.clear s.gr.rows (g * 33280) ((g + 1) * 33280) } }

/-- A power command (R386): `goal` 0 OFF, 2 ON, 3 RET. -/
def State.grPower (s : State) (g op goal : Nat) : State :=
  let k := g / 8
  let j := g % 8
  let st := s.grPwrOf g
  if SMap.get s.gr.pwr 0 g ≠ 0 ∨ st = 1 then s.grPost k op j 0x0907
  else if st = goal then s.grPost k op j 0
  else if st = 0 ∧ goal = 2 then ((s.set (R.GB_STATUS_PWR k j) 1).grClear g).expect (R.GR_CMD_RESULT_STATUS k)
  else if st = 0 then s.grPost k op j 0x0907
  else (s.setGoing g (goal + 1)).expect (R.GR_CMD_RESULT_STATUS k)

/-- A spare of a bank that is neither used nor BAD. -/
def State.freeSpare (s : State) (g : Nat) : Option Nat :=
  (List.range 8).find? (fun sp => !s.has (R.GB_SPARE_USED (g / 8) (g % 8) sp) && !s.has (R.GB_SPARE_BAD (g / 8) (g % 8) sp))
def State.showSpares (s : State) (g : Nat) : State :=
  s.set (R.GB_STATUS_SPARES_FREE (g / 8) (g % 8))
    ((List.range 8).filter (fun sp => !s.has (R.GB_SPARE_USED (g / 8) (g % 8) sp) && !s.has (R.GB_SPARE_BAD (g / 8) (g % 8) sp))).length

def State.repairOf (s : State) (k : Nat) : Option GrRepair := SMap.get s.gr.repair none k
def State.setRepair (s : State) (k : Nat) (r : Option GrRepair) : State :=
  { s with gr := { s.gr with repair := SMap.set s.gr.repair none k r } }

/-- A repair begins (R384). -/
def State.repairStart (s : State) (g p sp : Nat) (byCmd : Bool) : State :=
  (s.setRepair (g / 8) (some ⟨g, p, sp, byCmd⟩)).put (R.GB_STATUS_REPAIRING (g / 8) (g % 8)) true

/-- Writes of port B are checked for their source (R388). -/
def State.grRepairCmd (s : State) (g p : Nat) : State :=
  match s.freeSpare g with
  | none => s.grPost (g / 8) 4 (g % 8) 0x0904
  | some sp =>
    if s.grPwrOf g ≠ 2 ∨ (s.repairOf (g / 8)).isSome then s.grPost (g / 8) 4 (g % 8) 0x0907
    else (s.repairStart g p sp true).expect (R.GR_CMD_RESULT_STATUS (g / 8))

/-- The place of number `m` in the order of the background test: local bank and region. First the regions of the data rows, banks
fastest; then the four regions of each spare row, over banks and then over spares, numbered from 2,048 on. -/
def btPlace (m : Nat) : Nat × Nat :=
  if m < 16384 then (m % 8, m / 8) else ((m - 16384) / 4 % 8, 2048 + 4 * ((m - 16384) / 32) + (m - 16384) % 4)

/-- The next region that a router tests (R381): its number, bank and region; none where no bank is ON. -/
def State.btRegion (s : State) (k : Nat) : Option (Nat × Nat × Nat) :=
  let n := SMap.get s.gr.btNext 0 k
  ((List.range 40).map (fun i => (n + i) % 16640)).find? (fun m => decide (s.grPwrOf (8 * k + (btPlace m).1) = 2)) |>.map
    (fun m => (m, 8 * k + (btPlace m).1, (btPlace m).2))

def State.btNow (s : State) (k bank : Nat) : State :=
  match s.btRegion k with
  | none => s.grPost k 7 bank 0x0907
  | some (_, g, _) =>
    if s.gr.btAsked.contains k then s.grPost k 7 bank 0x0907
    else ({ s with gr := { s.gr with btAsked := k :: s.gr.btAsked } }.put (R.GB_STATUS_BT_ACTIVE k (g % 8)) true).expect
      (R.GR_CMD_RESULT_STATUS k)

/-- A write of GR_CMD (R386, R384, R380, R379, R383, R388); the write is answered with 0x0000 (R737). -/
def State.grCmd (s : State) (src k v : Nat) : State :=
  let op := bits v 0 4
  let j := bits v 4 3
  let g := 8 * k + j
  (if !s.srcTp src then s.grPost k op j 0x0909
   else match op with
    | 0 => s.grPost k 0 j 0
    | 1 => s.grPower g 1 2
    | 2 => s.grPower g 2 3
    | 3 => s.grPower g 3 0
    | 4 => s.grRepairCmd g (bits v 7 9)
    | 5 => ((List.range 256).foldl (fun t i => t.set (R.GB_CONF_COUNT k j i) 0) s).grPost k 5 j 0
    | 6 => (s.sets [(R.GB_CNT_CORR k j, 0), (R.GB_CNT_UNC k j, 0)]).grPost k 6 j 0
    | 7 => s.btNow k j
    | _ => s.grPost k op j 0x0908).reply 0 0

def grWord (op g row : Nat) : Nat := op + g % 8 * 2 ^ 4 + row * 2 ^ 7
def execGrPwrOn (src : SrcId) (g : Fin 64) (s : State) : Host.Outcome State Fault Refusal := done (s.grCmd src (g / 8) (grWord 1 g 0))
def execGrPwrRet (src : SrcId) (g : Fin 64) (s : State) : Host.Outcome State Fault Refusal := done (s.grCmd src (g / 8) (grWord 2 g 0))
def execGrPwrOff (src : SrcId) (g : Fin 64) (s : State) : Host.Outcome State Fault Refusal := done (s.grCmd src (g / 8) (grWord 3 g 0))
def execGrRepair (src : SrcId) (g : Fin 64) (row : Fin 512) (s : State) : Host.Outcome State Fault Refusal :=
  done (s.grCmd src (g / 8) (grWord 4 g row))
def execGrConfClr (src : SrcId) (g : Fin 64) (s : State) : Host.Outcome State Fault Refusal := done (s.grCmd src (g / 8) (grWord 5 g 0))
def execGrCntClr (src : SrcId) (g : Fin 64) (s : State) : Host.Outcome State Fault Refusal := done (s.grCmd src (g / 8) (grWord 6 g 0))
def execGrBtNow (src : SrcId) (k : Fin 8) (s : State) : Host.Outcome State Fault Refusal := done (s.grCmd src k 7)

/-- GB_POWER_CHANGE_COMPLETE (R383, R386): the queue is empty, no repair or test of the bank runs and the supply has changed. -/
def execGbPowerChangeComplete (g : Fin 64) (s : State) : Host.Outcome State Fault Refusal :=
  let v := SMap.get s.gr.pwr 0 g.val
  if v = 0 ∨ !(s.grQueue g).isEmpty ∨ (s.repairOf (g / 8)).any (fun r => decide (r.bank = g.val)) ∨ s.has (R.GB_STATUS_BT_ACTIVE (g / 8) (g % 8)) then done s
  else
    let goal := v - 1
    let s1 := (s.setGoing g 0).set (R.GB_STATUS_PWR (g / 8) (g % 8)) goal
    let s2 := if goal = 0 then s1.grClear g else s1
    done (s2.grPost (g / 8) (match goal with | 0 => 3 | 2 => 1 | _ => 2) (g % 8) 0)

/-- BANK_CLEAR_COMPLETE (R387). -/
def execBankClearComplete (g : Fin 64) (s : State) : Host.Outcome State Fault Refusal :=
  if s.grPwrOf g ≠ 1 then done s
  else
    let s1 := (s.grClear g).set (R.GB_STATUS_PWR (g / 8) (g % 8)) 2
    done ((s1.grPost (g / 8) 1 (g % 8) 0).raise 0x0923 (56 + g / 8) 0)

/-- The copy of a repair and the switch of the map (R384). -/
def State.repairDo (s : State) (g p sp : Nat) : State :=
  let k := g / 8
  let j := g % 8
  let old := s.grSpareOf g p
  let s1 := (List.range 64).foldl (fun (t : State) i =>
    let v := t.grRow g (t.grIx g (64 * p + i))
    let d := symDecode v
    let u := match d.kind with
      | 0 => t
      | 1 => t.grLog g 0 (64 * p + i) d.sym 0 true
      | _ => t.grLog g 1 (64 * p + i) 0xFF 0 true
    u.setGrRow g (grSpareIx sp i) (symFix v d)) s
  let s2 := match old with
    | some o => s1.sets [(R.GB_SPARE_USED k j o, 0), (R.GB_SPARE_BAD k j o, 1)]
    | none => s1
  (s2.sets [(R.GB_SPARE_USED k j sp, 1), (R.GB_SPARE_ROW k j sp, p)]).showSpares g

/-- REPAIR_COMPLETE (R384, R385). -/
def execRepairComplete (k : Fin 8) (s : State) : Host.Outcome State Fault Refusal :=
  match s.repairOf k with
  | none => done s
  | some r =>
    let s1 := ((s.repairDo r.bank r.row r.spare).setRepair k none).put (R.GB_STATUS_REPAIRING k (r.bank % 8)) false
    let s2 := if s1.has (R.GR_CTRL_REPAIR_PERSIST k) then
        { s1 with gr := { s1.gr with recorded := s1.gr.recorded ++ [(r.bank, r.row)] } } else s1
    let s3 := s2.raise 0x0921 (56 + k.val) 0
    done (if r.byCmd then s3.grPost k 4 (r.bank % 8) 0 else s3)

/-- The data row that row `i` of region `r` holds; none for a spare row that no map uses. -/
def State.btRow (s : State) (g r i : Nat) : Option Nat :=
  if r < 2048 then some (16 * r + i)
  else
    let sp := (r - 2048) / 4
    if s.has (R.GB_SPARE_USED (g / 8) (g % 8) sp) then
      some (64 * s.get (R.GB_SPARE_ROW (g / 8) (g % 8) sp) + (r - 2048) % 4 * 16 + i)
    else none

/-- What a fault in row `i` of the region under test brings (R382); a spare row in which it lies is marked BAD. -/
def State.btFault (s : State) (g r i : Nat) : State :=
  let k := g / 8
  let j := g % 8
  let left (t : State) : State := (t.bump (R.GB_STATUS_FAULTS k j) 1).raise 0x0922 (56 + k) 0
  let bad (t : State) : State := if r < 2048 then t else (t.put (R.GB_SPARE_BAD k j ((r - 2048) / 4)) true).showSpares g
  match s.btRow g r i with
  | some row =>
    let s1 := bad (s.grLog g 3 row 0xFF 0 true)
    match s1.freeSpare g with
    | some sp =>
      if s1.has (R.GR_CTRL_AUTO_REPAIR k) ∧ (s1.repairOf k).isNone then s1.repairStart g (row / 64) sp false else left s1
    | none => left s1
  | none =>
    let f := s.fresh 11
    left (bad (f.2.grLog g 3 (f.1 % 32768) 0xFF 0 true))

/-- The store index of row `i` of region `r`. -/
def State.btIx (s : State) (g r i : Nat) : Nat :=
  if r < 2048 then s.grIx g (16 * r + i) else grSpareIx ((r - 2048) / 4) ((r - 2048) % 4 * 16 + i)

/-- A bank has been tested in the present pass of its router (R381). -/
def State.btTested (s : State) (g : Nat) : State :=
  if s.gr.tested.contains g then s else { s with gr := { s.gr with tested := g :: s.gr.tested } }

/-- A pass of router 56 + k ends: it counts in each bank tested (R381). -/
def State.btPass (s : State) (k : Nat) : State :=
  let t := (s.gr.tested.filter (fun g => decide (g / 8 = k))).foldl (fun (u : State) g => u.bump (R.GB_CNT_BT_PASS k (g % 8)) 1) s
  { t with gr := { t.gr with tested := t.gr.tested.filter (fun g => decide (g / 8 ≠ k)) } }

/-- BT_REGION_TEST (R381 to R383): the next region of router 56 + k is tested; `fault` names a row of the region in which the march
found a bit that does not hold its pattern. -/
def execBtRegionTest (k : Fin 8) (fault : Option (Fin 16)) (s : State) : Host.Outcome State Fault Refusal :=
  let asked := s.gr.btAsked.contains k.val
  if !asked ∧ !s.has (R.GR_CTRL_BT_EN k) then done s
  else match s.btRegion k with
    | none => done s
    | some (m0, g, r) =>
      let s1 := (List.range 16).foldl (fun (t : State) i =>
        let ix := t.btIx g r i
        let v := t.grRow g ix
        let d := symDecode v
        let u := match t.btRow g r i with
          | some row => if d.kind = 0 then t else t.grLog g (if d.kind = 1 then 0 else 1) row (if d.kind = 1 then d.sym else 0xFF) 0 true
          | none => t
        if d.kind = 1 then u.setGrRow g ix (symFix v d) else u) s
      let s2 := match fault with | some i => s1.btFault g r i | none => s1
      let m := (m0 + 1) % 16640
      let s3 := { s2 with gr := { s2.gr with btNext := SMap.set s2.gr.btNext 0 k m, btAsked := s2.gr.btAsked.filter (fun x => decide (x ≠ k.val)) } }
      let s4 := if m = 0 then (s3.btTested g).btPass k else if m < SMap.get s.gr.btNext 0 k then (s3.btPass k).btTested g else s3.btTested g
      let s5 := (List.range 8).foldl (fun (t : State) j => t.put (R.GB_STATUS_BT_ACTIVE k j) false) s4
      done (if asked then s5.grPost k 7 (g % 8) 0 else s5)

/-- A write of GR_CTRL (R374, R388, R391). -/
def State.grCtrlWrite (s : State) (src k v : Nat) : State :=
  if !s.srcTp src then s.reply 0x0909 0
  else if bits v 16 16 = 0 then s.reply 0x0905 0
  else if bit v 0 ≠ s.get (R.GR_CTRL_INTLV k) ∧ (List.range 8).any (fun j => decide (s.grPwrOf (8 * k + j) ≠ 0)) then s.reply 0x0906 0
  else ([R.GR_CTRL_INTLV k, R.GR_CTRL_BT_EN k, R.GR_CTRL_AUTO_REPAIR k, R.GR_CTRL_REPAIR_PERSIST k, R.GR_CTRL_CORR_LOG_EN k,
    R.GR_CTRL_UNC_EVT_EN k, R.GR_CTRL_BT_INTERVAL k].foldl (fun t f => t.set f (bits v f.lo f.w)) s).reply 0 0

/-- GR_INTLV_WRITE (R374). -/
def execGrIntlvWrite (src : SrcId) (k : Fin 8) (data : BitVec 32) (s : State) : Host.Outcome State Fault Refusal :=
  done (s.grCtrlWrite src k data.toNat)

/-- A write of GR_INJECT (R388, R391): with ARM and no valid error it is ignored whole. -/
def State.grInjectWrite (s : State) (src k v : Nat) : State :=
  if !s.srcTp src then s.reply 0x0909 0
  else if bit v 21 = 1 ∧ (35 < bits v 8 6 ∨ bits v 16 4 = 0) then s.reply 0 0
  else ([R.GR_INJECT_BANK k, R.GR_INJECT_SYMBOL k, R.GR_INJECT_PATTERN k, R.GR_INJECT_DOUBLE k, R.GR_INJECT_ARM k].foldl
    (fun t f => t.set f (bits v f.lo f.w)) s).reply 0 0

/-- GR_INJECT (R379). -/
def execGrInject (src : SrcId) (k : Fin 8) (data : BitVec 32) (s : State) : Host.Outcome State Fault Refusal :=
  done (s.grInjectWrite src k data.toNat)

/-- The granary at a power-up of VCC_NOC (R385, R387): every bank cleared and ON, recorded repairs repeated, each with its 0x0921 (R384). -/
def State.granaryPowerUp (s : State) : State :=
  let rec0 := s.gr.recorded
  let s1 := { s with gr := ⟨[], [], [], [], [], [], rec0, []⟩ }
  let s2 := (List.range 64).foldl (fun (t : State) g =>
    let u := ((List.range 8).foldl (fun (x : State) sp => x.sets [(R.GB_SPARE_USED (g / 8) (g % 8) sp, 0), (R.GB_SPARE_BAD (g / 8) (g % 8) sp, 0)])
      (t.set (R.GB_STATUS_PWR (g / 8) (g % 8)) 2)).showSpares g
    u.raise 0x0923 (56 + g / 8) 0) s1
  rec0.foldl (fun (t : State) e => match t.freeSpare e.1 with | some sp => (t.repairDo e.1 e.2 sp).raise 0x0921 (56 + e.1 / 8) 0 | none => t) s2

end Sys2Proof.Machine
end

