-- ==== Sys2Proof/Machine/OpPoints.lean ====
section
/-!
DEFINITION. The delay regulators (R118 to R127) and the operating points of the boughs (R269 to R275). A wait on a rail, a
settling time or a lock ends with the command that reports it.
-/
namespace Sys2Proof.Machine
open Sys2Proof

def State.opChange (s : State) (b : Nat) : Option OpChange := SMap.get s.clk.opCh none b
def State.setOpChange (s : State) (b : Nat) (c : Option OpChange) : State :=
  { s with clk := { s.clk with opCh := SMap.set s.clk.opCh none b c } }

/-- A bough number's present state: 0 OFF, 1 OP_L, 2 OP_N, 3 OP_H, 4 REST. -/
def State.opState (s : State) (b : Nat) : Nat := s.get (R.OP_STATUS_STATE b)

/-! ## The regulator -/

def trimField (b point : Nat) : Fld :=
  match point with | 1 => R.DR_TRIM_SAVED_TRIM_L b | 2 => R.DR_TRIM_SAVED_TRIM_N b | _ => R.DR_TRIM_SAVED_TRIM_H b
def savedField (b point : Nat) : Fld :=
  match point with | 1 => R.DR_TRIM_SAVED_SAVED_L b | 2 => R.DR_TRIM_SAVED_SAVED_N b | _ => R.DR_TRIM_SAVED_SAVED_H b
def State.trim (s : State) (b : Nat) : Int := signed 6 (s.get (R.DR_STATUS_TRIM b))

/-- Shows a trim with its headroom (R119). -/
def State.setTrim (s : State) (b : Nat) (v : Int) : State :=
  s.sets [(R.DR_STATUS_TRIM b, encode2 6 v), (R.DR_STATUS_HEADROOM b, (16 - v).toNat)]

/-- Entry to an operating point (R120): the saved trim, or the factory trim, is applied and LOCKED is open again; without a locked time clock the
trim is held from here (R122). -/
def State.drEnter (s : State) (b point : Nat) : State :=
  let s1 := ((s.setTrim b (signed 6 (s.get (trimField b point)))).drWarn b).sets [(R.DR_STATUS_OP b, point), (R.DR_STATUS_LOCKED b, 0)]
  let s2 := if s1.has R.CK_STATUS_TPLL_LOCK then s1 else s1.drHoldSet b
  { s2 with clk := { s2.clk with
      drOver := SMap.set s2.clk.drOver 0 b 0
      drUnder := SMap.set s2.clk.drUnder 0 b 0 } }

/-- Whether the waiting boughs hold this one. -/
def State.opEnqueue (s : State) (b : Nat) : State := { s with clk := { s.clk with opQueue := s.clk.opQueue ++ [b] } }

/-- A change of operating point is accepted (R271 to R273): toward a lower point the limits are halved at once, and grafts keep its limits. -/
def State.opStart (s : State) (b target : Nat) (auto byLoad : Bool) : State :=
  let former := s.opState b
  let s1 := (s.setOpChange b (some ⟨former, target, auto, byLoad, false, false⟩)).sets
    [(R.OP_STATUS_BUSY b, 1), (R.OP_STATUS_TARGET b, target), (R.OP_STATUS_AUTO b, ofFlag auto)]
  let down := decide (0 < target) && decide (target < former) && decide (former < 4)
  let s2 := if down ∧ s1.running b then s1.linesCompute b former true else s1
  ((s2.set (R.OP_STATUS_STEP b) (if down then 4 else 2)).opEnqueue b).graftsFollow

/-- The edges of a bough that capture no more at a point (R123 step 4). -/
def State.edgesAbove (s : State) (b point : Nat) : Nat :=
  (List.range 4).foldl (fun a e =>
    if s.graftOn b e ∧ bclLimit point < s.gclFreq (s.graftClk b e) then a + 2 ^ e else a) 0

/-- A reduction that the regulator requests starts (R123 steps 3 and 4). -/
def State.opReduce (s : State) (b target : Nat) : State :=
  (s.setBough b { s.bough b with edgeOff := s.edgesAbove b target }).opStart b target true false

/-- Whether a reduction that the regulator requests can start now: the bough stands at an operating point in RUN, and no change runs. Else it waits,
as R275 says of a change; that it waits for the return from REST and for RUN as well is the model's choice (assumption 173). -/
def State.mayReduce (s : State) (b : Nat) : Bool :=
  !s.has (R.OP_STATUS_BUSY b) && decide (s.mode0 = mRUN) && decide (1 ≤ s.opState b) && decide (s.opState b ≤ 3) && s.running b

/-- EXHAUSTED is set (R123 steps 1 to 3, R275). -/
def State.drExhaust (s : State) (b : Nat) : State :=
  let point := s.get (R.DR_STATUS_OP b)
  let s1 := (s.put (R.DR_STATUS_EXHAUSTED b) true).drEvt b (R.DR_EVT_EXH_EVT b) 0x0718 0
  if !s.has (R.DR_CTRL_AUTO_DOWN b) || decide (point ≤ 1) then
    (s1.put (R.DR_STATUS_UNGUARDED b) true).drEvt b (R.DR_EVT_UNG_EVT b) 0x071A 0
  else if !s.mayReduce b then
    { s1.put (R.OP_STATUS_AUTO b) true with clk := { s1.clk with autoWait := SMap.set s1.clk.autoWait 0 b (point - 1) } }
  else s1.opReduce b (point - 1)

/-- A window of a regulator that holds its trim (R122). -/
def State.drHold (s0 : State) (b : Nat) (temp : Int) : State :=
  let s := s0.drHoldSet b
  let t0 := SMap.get s.clk.drHoldTemp 0 b
  if 10 * 256 < (temp - t0).natAbs ∧ !s.has (R.DR_STATUS_HOLD_DRIFT b) then
    let s1 := (s.put (R.DR_STATUS_HOLD_DRIFT b) true).put (R.DR_STATUS_UNGUARDED b) true
    let s2 := s1.drEvt b (R.DR_EVT_DRIFT_EVT b) 0x071C 0
    if s.has (R.DR_STATUS_UNGUARDED b) then s2 else s2.put (R.DR_EVT_UNG_EVT b) true
  else s

/-- A window of a regulator that regulates (R119, R120, R123, R124). -/
def State.drWindow (s0 : State) (b ratio : Nat) : State :=
  let s := (s0.put (R.DR_STATUS_HOLD b) false).set (R.DR_MEAS_RATIO b) ratio
  let s := s.sets [(R.DR_MEAS_SEQ b, s.get (R.DR_MEAS_SEQ b) + 1), (R.DR_MEAS_VALID b, 1), (R.DR_MEAS_STALE b, 0)]
  let t := s.trim b
  let high := decide (0x8083 < ratio)
  let low := decide (ratio < 0x7F7D)
  let t' := if high ∧ t < 16 then t + 1 else if low ∧ -16 < t then t - 1 else t
  let point := s.get (R.DR_STATUS_OP b)
  let s2 := (s.setTrim b t').drWarn b
  let s2 :=
    if t' = t then
      let u := s2.sets [(R.DR_STATUS_LOCKED b, 1), (trimField b point, encode2 6 t'), (savedField b point, 1)]
      if s2.has (R.DR_STATUS_LOCKED b) then u else u.sets [(R.DR_STATUS_EXHAUSTED b, 0), (R.DR_STATUS_FLOOR b, 0)]
    else s2
  let s3 := if s2.has (R.DR_STATUS_LOCKED b) ∧ s2.has (R.DR_STATUS_HOLD_DRIFT b) then
      s2.sets [(R.DR_STATUS_HOLD_DRIFT b, 0), (R.DR_STATUS_UNGUARDED b, 0)] else s2
  let above := if high ∧ t = 16 then SMap.get s.clk.drOver 0 b + 1 else 0
  let under := if low ∧ t = -16 then SMap.get s.clk.drUnder 0 b + 1 else 0
  let s4 := { s3 with clk := { s3.clk with
      drOver := SMap.set s3.clk.drOver 0 b above
      drUnder := SMap.set s3.clk.drUnder 0 b under } }
  let s5 := if 2 ≤ under ∧ !s4.has (R.DR_STATUS_FLOOR b) then
      (s4.put (R.DR_STATUS_FLOOR b) true).drEvt b (R.DR_EVT_FLOOR_EVT b) 0x071B 0 else s4
  if 2 ≤ above ∧ !s5.has (R.DR_STATUS_EXHAUSTED b) then s5.drExhaust b else s5

/-- A regulator window ends (R119): RATIO, and the junction temperature in units of 1/256 °C. -/
def State.regWindow (s : State) (b ratio : Nat) (temp : Int) : State :=
  if s.get (R.DR_STATUS_OP b) = 0 then s
  else if s.mode0 = mSAFE then s
  else
    let t := if s.has R.CK_STATUS_TPLL_LOCK then s.drWindow b ratio else s.drHold b temp
    { t with clk := { t.clk with drTemp := SMap.set t.clk.drTemp 0 b temp } }

/-- AUTO_DOWN_DEFERRED_START (R275). -/
def execAutoDownDeferredStart (b : BoughId) (s : State) : Host.Outcome State Fault Refusal :=
  let target := SMap.get s.clk.autoWait 0 b
  if target = 0 ∨ !s.mayReduce b then done s
  else
    let s1 := { s.put (R.OP_STATUS_AUTO b) false with clk := { s.clk with autoWait := SMap.set s.clk.autoWait 0 b 0 } }
    if target < s.opState b then done (s1.opReduce b target) else done s1

/-! ## Requests -/

/-- Posts the outcome of a request (R269). -/
def State.opPost (s : State) (b target code : Nat) : State := (s.set (R.OP_RESULT_TARGET b) target).post (R.OP_RESULT_STATUS b) code

/-- The refusals of R269 and R274. -/
def State.opRefusal (s : State) (src b target : Nat) : Option Nat :=
  if !s.srcOk src then some 0x0616
  else if s.has (R.OP_STATUS_BUSY b) then some 0x0610
  else if s.mode0 ≠ mRUN ∨ (s.partOf b = none ∧ target ≠ 0) ∨ (s.bough b).run = .loading ∨ (s.bough b).run = .frozen then some 0x0611
  else if 5 ≤ target ∨ (s.opState b = 4 ∧ 1 ≤ target ∧ target ≤ 3 ∧ target ≠ (s.bough b).keepOp)
    ∨ (s.opState b = 0 ∧ target = 4) ∨ (1 ≤ target ∧ target ≤ 3 ∧ !s.railOk target) then some 0x0612
  else none

/-- The end of a change, whatever began it. -/
def State.opEnd (s : State) (b : Nat) : State :=
  (s.setOpChange b none).sets [(R.OP_STATUS_BUSY b, 0), (R.OP_STATUS_STEP b, 0),
    (R.OP_STATUS_AUTO b, ofFlag (decide (SMap.get s.clk.autoWait 0 b ≠ 0)))]

/-- A bough on its way to REST or OFF whose port has drained stops, at OFF loses its rail, and the result is posted (R273). A swap in progress is
waited for (R275). -/
def State.opDrained (s : State) (b : Nat) : State :=
  match s.opChange b with
  | none => s
  | some c =>
    if (c.target ≠ 0 ∧ c.target ≠ 4) ∨ s.p0 b ≠ p0ASLEEP ∨ (s.bough b).run = .frozen then s
    else
      let s1 := s.opEnd b
      let s2 := if c.target = 0 then s1.boughOff b
        else ((s1.setBough b { s1.bough b with keepOp := c.former }).boughHalt b .rest).set (R.OP_STATUS_STATE b) 4
      s2.opPost b c.target 0

/-- A change to REST or OFF begins with the drain of the bough's port (R273, R360). -/
def State.opDrain (s : State) (b target : Nat) : State :=
  ((((s.expect (R.OP_RESULT_STATUS b)).setOpChange b (some ⟨s.opState b, target, false, false, false, false⟩)).sets
    [(R.OP_RESULT_TARGET b, target), (R.OP_STATUS_BUSY b, 1), (R.OP_STATUS_TARGET b, target), (R.OP_STATUS_STEP b, 1)]).drainStart b).opDrained b

/-- What waits for a drain of a port goes on: a change to REST or OFF (R273), or the stop of a bough whose partition has failed (R523). -/
def State.drained (s : State) (b : Nat) : State := ((s.drainEnd b).opDrained b).fallEnd b

/-- A write of OP_REQ (R269 to R274). -/
def State.opReq (s : State) (src b target : Nat) : State :=
  match s.opRefusal src b target with
  | some code => s.opPost b target code
  | none =>
    let st := s.opState b
    if target = st then s.opPost b target 0
    else if target = 4 ∨ target = 0 then s.opDrain b target
    else if st = 4 then
      ((((s.set (R.OP_STATUS_STATE b) target).set (R.OP_STATUS_TARGET b) target).boughResume b).p0Open b).opPost b target 0
    else ((s.set (R.OP_RESULT_TARGET b) target).expect (R.OP_RESULT_STATUS b)).opStart b target false false

/-- OP_REQ_RAISE (R271). -/
def execOpReqRaise (src : SrcId) (b : BoughId) (target : Fin 8) (s : State) : Host.Outcome State Fault Refusal :=
  done ((s.opReq src b target).reply 0 0)
/-- OP_REQ_LOWER (R272). -/
def execOpReqLower (src : SrcId) (b : BoughId) (target : Fin 8) (s : State) : Host.Outcome State Fault Refusal :=
  done ((s.opReq src b target).reply 0 0)
/-- OP_REQ_REST (R273). -/
def execOpReqRest (src : SrcId) (b : BoughId) (s : State) : Host.Outcome State Fault Refusal := done ((s.opReq src b 4).reply 0 0)
/-- OP_REQ_RETURN_FROM_REST (R273): to the point that the bough kept. -/
def execOpReqReturnFromRest (src : SrcId) (b : BoughId) (s : State) : Host.Outcome State Fault Refusal :=
  done ((s.opReq src b (s.bough b).keepOp).reply 0 0)
/-- OP_REQ_OFF (R273). -/
def execOpReqOff (src : SrcId) (b : BoughId) (s : State) : Host.Outcome State Fault Refusal := done ((s.opReq src b 0).reply 0 0)
/-- OP_REQ_FROM_OFF (R273). -/
def execOpReqFromOff (src : SrcId) (b : BoughId) (target : Fin 8) (s : State) : Host.Outcome State Fault Refusal :=
  done ((s.opReq src b target).reply 0 0)

/-! ## Rail slots and completion -/

/-- Present time in 2^-16 ns without modulus. -/
def State.nowFull (s : State) : Int := s.tp.wide * 2 ^ 48 + s.now48

/-- OP_RAIL_SLOT_GRANT (R270): the oldest waiting bough moves its rail, unless eight others began within the last 2 µs. A bough that a swap has
frozen begins no step (R275). -/
def execOpRailSlotGrant (s : State) : Host.Outcome State Fault Refusal :=
  let recent := s.clk.slotTimes.filter (fun (t : Int) => decide (s.nowFull - 2000 * 65536 < t))
  match s.clk.opQueue.find? (fun b => decide ((s.bough b).run ≠ .frozen)) with
  | none => done s
  | some b =>
    if 8 ≤ recent.length then done s
    else
      let s1 := { s with clk := { s.clk with opQueue := s.clk.opQueue.erase b, slotTimes := recent ++ [s.nowFull] } }
      match s1.opChange b with
      | none => done s1
      | some c =>
        let point := if c.back then c.former else c.target
        let s2 := (s1.setOpChange b (some { c with granted := true })).drEnter b point
        let s3 := s2.sets [(R.OP_STATUS_RAIL b, point), (R.OP_STATUS_STEP b, if c.back then 4 else if s1.get (R.OP_STATUS_STEP b) = 4 then 7 else 5)]
        done (if c.former = 0 then s3.ffClear b (fun _ => false) else s3)

/-- OP_CHANGE_COMPLETE (R271, R272, R273, R123 step 6): the regulator reports LOCKED at the new point. -/
def execOpChangeComplete (b : BoughId) (s : State) : Host.Outcome State Fault Refusal :=
  match s.opChange b with
  | none => done s
  | some c =>
    if !c.granted || c.back || !s.has (R.DR_STATUS_LOCKED b) || decide ((s.bough b).run = .frozen) then done s
    else
      let s1 := (s.set (R.OP_STATUS_STATE b) c.target).opEnd b
      if c.byLoad then done s1
      else
        let s2 := if c.former = 0 then s1.boughRelease b else if s1.running b then s1.linesCompute b c.target false else s1
        if c.auto then
          let mask := (s.bough b).edgeOff
          let s3 := s2.setBough b { s2.bough b with edgeOff := 0 }
          done ((s3.drEvt b (R.DR_EVT_DOWN_EVT b) 0x0719 (Config.freeNat 18 (c.former + 4 * c.target + 16 * mask) % 2 ^ 32)).raise 0x0614 b 0)
        else done ((s2.opPost b c.target 0).raise 0x0614 b 0)

/-- OP_LOCK_TIMEOUT_REVERT (R271, R273): after 10 ms without LOCKED a bough from OFF loses its rail again, and another one waits for a slot to return to
the former rail; once that has settled, the command ends the change with 0x0618. A change to a lower point has no timeout. -/
def execOpLockTimeoutRevert (b : BoughId) (s : State) : Host.Outcome State Fault Refusal :=
  match s.opChange b with
  | none => done s
  | some c =>
    if !c.granted || c.byLoad || decide (c.target < c.former) || decide ((s.bough b).run = .frozen) || (!c.back && s.has (R.DR_STATUS_LOCKED b)) then done s
    else if c.back ∨ c.former = 0 then
      let s1 := s.opEnd b
      done (((if c.back then s1 else s1.boughOff b).opPost b c.target 0x0618).raise 0x0618 b 0)
    else done (((s.setOpChange b (some { c with back := true, granted := false })).set (R.OP_STATUS_STEP b) 2).opEnqueue b)

/-- A mode transition out of RUN abandons every change (R275). -/
def State.opAbandon (s : State) : State :=
  let s1 := (List.range 64).foldl (fun t b =>
    match t.opChange b with
    | none => t
    | some c =>
      let u := t.opEnd b
      if c.byLoad then u
      else ((if c.auto then u else u.opPost b c.target 0x0617).raise 0x0617 b 0)) s
  { s1 with clk := { s1.clk with opQueue := [], autoWait := [] } }

/-- A load brings a bough to its INIT_STATE by the steps of a change, without a request (R269, R504 step 6). -/
def State.opLoad (s : State) (b target : Nat) : State :=
  if target = 0 then (if s.opState b = 0 then s else s.boughOff b)
  else if target = s.opState b ∨ !s.railOk target then s
  else s.opStart b target false true

/-- Whether a bough stands at a state with its regulator locked, as a release needs it (R121). -/
def State.opReady (s : State) (b target : Nat) : Bool :=
  decide (s.opState b = target) && (decide (target = 0) || s.has (R.DR_STATUS_LOCKED b))

end Sys2Proof.Machine
end

