-- ==== Sys2Proof/Machine/Trigger.lean ====
section
/-!
DEFINITION. The causes of mode transitions (R45), their order (R53), and the trigger that starts one, with the drains that begin at its first step (R360).
-/
namespace Sys2Proof.Machine
open Sys2Proof

/-- The modes from which a cause leads on (R45). -/
def causeFrom (cause : Nat) : List Nat :=
  match cause with
  | 0x01 => [0] | 0x02 => [1] | 0x03 => [1] | 0x04 => [2] | 0x05 => [2, 4, 5] | 0x06 => [3] | 0x07 => [3]
  | 0x08 => [3] | 0x09 => [4] | 0x0A => [3, 4] | 0x0B => [2, 3, 4] | 0x0C => [3, 4] | 0x0D => [2, 4, 5]
  | 0x0E => [4, 5] | 0x0F => [3] | 0x10 => [4] | 0x11 => [2, 3, 4, 5] | 0x12 => [2] | 0x13 => [1, 2, 3, 4, 5]
  | _ => []

/-- The target mode of a cause (R45). -/
def causeTo (cause : Nat) : Nat :=
  match cause with
  | 0x01 => 1 | 0x02 => 2 | 0x03 => 2 | 0x04 => 3 | 0x05 => 3 | 0x06 => 4 | 0x07 => 3 | 0x08 => 5 | 0x09 => 5
  | 0x0A => 5 | 0x0B => 5 | 0x0C => 5 | 0x0D => 1 | 0x0E => 2 | 0x0F => 2 | 0x10 => 5 | 0x11 => 1 | 0x12 => 5 | _ => 0

/-- The precedence of a cause, the highest being 1 (R53). -/
def causeRank (cause : Nat) : Nat :=
  match cause with
  | 0x13 => 1 | 0x11 => 2 | 0x0C => 3 | 0x0A => 4 | 0x0B => 5 | 0x08 => 6 | 0x09 => 6 | 0x12 => 6 | 0x07 => 7
  | 0x06 => 8 | 0x04 => 9 | 0x05 => 9 | 0x03 => 10 | 0x02 => 10 | _ => 11

/-- Posts the result of a mode request (R41): TARGET of the request, WAKE 0. -/
def State.postMode (s : State) (code target : Nat) : State :=
  (s.sets [(R.DEV_MODE_RESULT_TARGET, target), (R.DEV_MODE_RESULT_WAKE, 0)]).post R.DEV_MODE_RESULT_STATUS code

/-- Posts an accepted request that a higher trigger displaced, if one waits (R41, R53). -/
def State.displaceRequest (s : State) : State :=
  match s.mode.request with
  | none => s
  | some t => { s.postMode 0x1205 t with mode := { s.mode with request := none } }

/-- A transition starts: the ports that it drains begin at once (R360), with DRAIN_TO = 0 toward LOAD and SAFE, with the router's own toward STANDBY, and
not at all on a loss of rails. Toward BOOT, where R360 names no drain and R370 has every port 0 ASLEEP, the model drains as toward LOAD (assumption 174). -/
def State.transStart (s : State) (t : Trans) : State :=
  let s1 := { s.put R.DEV_MODE_BUSY true with mode := { s.mode with trans := some t } }
  if t.cause = 0x11 ∨ t.cause = 0x13 ∨ !s.inMode [mLOAD, mRUN] ∨ t.target = mRUN then s1
  else (List.range 64).foldl (fun (u : State) b => if t.target = mSTANDBY then u.drainStart b else u.drainNow b) s1

/-- A trigger of R45: it starts its transition, or abandons a lower one that runs (R54), or is displaced (R53). One that the present
mode does not list does nothing while no transition runs, and else is evaluated again in the new mode; 0x02 and 0x03 together are 0x02. -/
def State.trigger (s : State) (cause status : Nat) : State :=
  let t : Trans := ⟨cause, causeTo cause, status⟩
  match s.mode.trans with
    | none => if s.inMode (causeFrom cause) then s.transStart t else s
    | some o =>
      if !s.inMode (causeFrom cause) then { s with mode := { s.mode with displaced := s.mode.displaced ++ [t] } }
      else if cause = 0x02 ∧ o.cause = 0x03 then s.transStart t
      else if causeRank cause < causeRank o.cause then
        let s1 := if causeRank o.cause = 11 then s.displaceRequest else s
        { s1 with mode := { s1.mode with
            displaced := if causeRank o.cause = 11 then s1.mode.displaced else s1.mode.displaced ++ [o] } }.transStart t
      else { s with mode := { s.mode with displaced := s.mode.displaced ++ [t] } }

end Sys2Proof.Machine
end

