-- ==== Sys2Proof/Machine/Loader.lean ====
section
/-!
DEFINITION. The loader (chapter 16): stream headers, descriptors, blocks and packets, the full load, failures and seeds; with the
dark and shadow loads of chapter 17 as far as the stream drives them.
-/
namespace Sys2Proof.Machine
open Sys2Proof

/-! LD_STATUS.STATE, and the sources of a stream. -/
def ldIDLE : Nat := 0
def ldHEADER : Nat := 1
def ldCLEAR : Nat := 2
def ldBLOCKS : Nat := 3
def ldSEED : Nat := 4
def ldRELEASE : Nat := 5
def srcFLASH : Nat := 1
def srcPUSH : Nat := 2
def srcPULL : Nat := 3
def srcSERIAL : Nat := 4
def srcJTAG : Nat := 5
def srcDICT : Nat := 6

def State.ldState (s : State) : Nat := s.get R.LD_STATUS_STATE
def State.setLd (s : State) (l : Loader) : State := { s with ld := l }
def State.ldFailed (s : State) (q : Nat) : Bool := s.ld.failed.any (fun e => decide (e.1 = q))

/-- Posts in LD_RESULT. -/
def State.ldPost (s : State) (op part code : Nat) : State :=
  (s.sets [(R.LD_RESULT_OP, op), (R.LD_RESULT_PART, part)]).post R.LD_RESULT_STATUS code

/-- The boughs of a mask. -/
def boughList (m : Nat) : List Nat := (List.range 64).filter (fun b => decide (bit m b = 1))

def State.partBoughs (s : State) (q : Nat) : List Nat := boughList (s.get (R.PT_BOUGHS_BOUGHS q))
def State.ptState (s : State) (q : Nat) : Nat := s.get (R.PT_STAT_STATE q)

/-- CFG_ERR: CFG_ERR_L is low while a partition is ERROR (R508). -/
def State.showCfgErr (s : State) : State :=
  s.put R.LD_STATUS_CFG_ERR ((List.range 32).any (fun q => decide (s.ptState q = 3)))

/-- A partition takes a state, in both places that show it (R512, R542). -/
def State.setPart (s : State) (q st : Nat) : State :=
  let v := s.get R.LD_PART_STAT_STATE
  (s.set (R.PT_STAT_STATE q) st).set R.LD_PART_STAT_STATE (v - bits v (2 * q) 2 * 2 ^ (2 * q) + st * 2 ^ (2 * q))

/-! ## Planes -/

/-- Clears one plane of a bough (R504, R522, R524, R526): frames, instruction stores, carry list, signatures, line records. -/
def State.clearPlane (s : State) (plane b : Nat) : State :=
  { s with
    fab := { s.fab with
      frames := SMap.clear s.fab.frames (frameKey plane b 0 0 0) (frameKey plane b 0 0 0 + 5248)
      checks := SMap.clear s.fab.checks (frameKey plane b 0 0 0) (frameKey plane b 0 0 0 + 5248) }
    istore := SMap.clear s.istore (istoreKey plane b 0 0) (istoreKey plane b 0 0 + 65536)
    pt := { s.pt with
      carry := SMap.set s.pt.carry [] (64 * plane + b) []
      sig := SMap.clear s.pt.sig (sigKey plane b 0 0) (sigKey plane b 0 0 + 328) }
    clk := { s.clk with lineRec := SMap.clear s.clk.lineRec (lineKey plane b 0 0) (lineKey plane b 0 0 + 68) } }

/-- Empties the pending register latches of a bough (R526): router b, port 3. -/
def State.clearHeld (s : State) (b : Nat) : State :=
  { s with pt := { s.pt with held := SMap.clear s.pt.held (Config.rp b 3) (Config.rp b 3 + 0x5000) } }

/-- Clears a bough for a full or dark load (R522 step 4, R153, R539). -/
def State.clearBough (s : State) (b : Nat) : State :=
  let s1 := (((s.clearPlane 0 b).clearPlane 1 b).clearHeld b).setBough b { s.bough b with plane := 0 }
  { s1 with
    fab := { s1.fab with
      bmRows := SMap.clear s1.fab.bmRows (bmRowKey b 0 0) (bmRowKey (b + 1) 0 0)
      bmNotReady := SMap.clear s1.fab.bmNotReady (b * 128) (b * 128 + 128) }
    pt := { s1.pt with capLatch := SMap.clear s1.pt.capLatch (ffKey b 0 0 0 0 0) (ffKey (b + 1) 0 0 0 0 0) } }

/-- What a partition's planes carry beside their boughs (R525, R554). -/
def State.clearPartPlane (s : State) (q plane : Nat) : State :=
  { s with pt := { s.pt with
      repair := SMap.set s.pt.repair none (2 * q + plane) none
      cstage := SMap.set s.pt.cstage 0 (2 * q + plane) 0
      stage := SMap.set s.pt.stage [] (2 * q + plane) [] } }

/-- Clears both planes of a partition and makes plane 0 active (R522 step 4). -/
def State.clearPart (s : State) (q : Nat) : State :=
  ((((s.partBoughs q).foldl (fun (t : State) b => t.clearBough b) s).clearPartPlane q 0).clearPartPlane q 1).sets
    [(R.PT_STAT_PLANE q, 0), (R.PT_STAT_SHADOW q, 0)]

/-- Clears the shadow plane of a partition (R524 step 2, R527). -/
def State.clearShadow (s : State) (q : Nat) : State :=
  ((s.partBoughs q).foldl (fun (t : State) b => (t.clearPlane (1 - (t.bough b).plane) b).clearHeld b) s).clearPartPlane q
    (1 - s.get (R.PT_STAT_PLANE q))

/-! ## Failures -/

def ldErrAddr : Nat := R.LD_ERR_POP_CODE.addr

/-- The LD_ERR_LOC word of a bit of a frame (R512). -/
def ldLoc (plane b row col idx o : Nat) : Nat :=
  let twig := decide (col < 40) && decide (branchType col = 0) && decide (idx < 12)
  b + row * 2 ^ 6 + col * 2 ^ 9 + idx * 2 ^ 15 + plane * 2 ^ 19 + (if twig then 2 * idx + o / 2048 else 31) * 2 ^ 20
    + o * 2 ^ 25 + (if twig then o % 2048 else 0) * 2 ^ 37

/-- A record of LD_ERR_POP with its place (R506). -/
def State.ldRecord (s : State) (part block code detail loc : Nat) : State :=
  let s1 := s.enqueue ldErrAddr 16 (2 ^ 33) (code + detail * 2 ^ 16 + 2 ^ 32 + part * 2 ^ 34 + block % 2 ^ 13 * 2 ^ 39)
  if (s.queue ldErrAddr).length < 16 then { s1 with ld := { s1.ld with locs := s1.ld.locs ++ [loc] } } else s1

/-- A read of the lower half of LD_ERR_POP (R512). -/
def State.ldErrRead (s : State) : State :=
  match s.ld.locs with
  | [] => s.popRead ldErrAddr
  | l :: t => { s with ld := { s.ld with locs := t } }.popRead ldErrAddr |>.setWord
      [R.LD_ERR_LOC_B, R.LD_ERR_LOC_ROW, R.LD_ERR_LOC_COL, R.LD_ERR_LOC_INDEX, R.LD_ERR_LOC_PLANE, R.LD_ERR_LOC_TWIG,
        R.LD_ERR_LOC_BITOFS, R.LD_ERR_LOC_TWOFS] l

/-- LD_ERR_POP (R506). -/
def execLdErrPop (s : State) : Host.Outcome State Fault Refusal := done s.ldErrRead

/-- A failure joins the list of the present load, and its partition's further packets are passed over. -/
def Loader.addFail (l : Loader) (q code : Nat) : Loader := { l with failed := l.failed ++ [(q, code)], skip := some q }

/-- A partition fails in the present load (R506): its record and 0x0161 with the partition in DETAIL. -/
def State.ldFail (s : State) (q code detail loc : Nat) : State :=
  let s1 := (s.ldRecord q s.ld.next code detail loc).raise 0x0161 0 q
  let s2 := s1.setLd (s1.ld.addFail q code)
  s2.put R.LD_STATUS_CFG_ERR (s2.has R.LD_STATUS_CFG_ERR || (decide (q = 0) && decide (s2.get R.LD_STATUS_KIND = 1)))

/-- The loader's own state at rest: what outlives a stream stays. -/
def Loader.rest (l : Loader) : Loader :=
  ⟨[], [], none, 0, 0, 0, 15, 0, 0, none, l.crownSeed, [], none, false, 0, [], [], [], [], l.discard, l.locs, l.lastImage, l.lastVersion, l.waitSeeds⟩

/-- The loader rests. -/
def State.ldIdle (s : State) : State :=
  (s.sets [(R.LD_STATUS_STATE, ldIDLE), (R.LD_STATUS_SRC, 0)]).setLd s.ld.rest

/-- A seed begins in the boot flash (R507, R508). The failure that brought a crown seed stays on record as the load's first, under the number 64,
which no partition has. -/
def State.ldSeedStart (s : State) (q addr : Nat) : State :=
  { s.sets [(R.LD_STATUS_STATE, ldSEED), (R.LD_STATUS_SRC, srcFLASH)] with
    ld := { s.ld with
      buf := []
      hdr := []
      img := none
      start := addr
      taken := 0
      next := 0
      seedFor := some q
      skip := none
      ended := false
      failed := if q = 0 then (s.ld.failed.take 1).map (fun e => (64, e.2)) else s.ld.failed } }

/-- In RUN the loader takes up the next partition whose seed waits (R508, R523). -/
def State.ldWaiting (s : State) : State :=
  match s.ld.waitSeeds with
  | [] => s
  | q :: t =>
    if s.mode0 ≠ mRUN then s
    else ((s.setLd { s.ld with waitSeeds := t }).raise 0x0163 0 q).ldSeedStart q (SMap.get s.pt.seed 0xFFFFFFFF q)

/-- The load ends; LD_RESULT shows the first failure, or success (R512). -/
def State.ldFinish (s : State) (part code : Nat) : State := ((s.ldPost s.ld.op part code).ldIdle).ldWaiting

/-- A stream begins (R488): its source, start address and the OP that named it. -/
def State.ldStart (s : State) (src start limit op owner : Nat) : State :=
  let s1 := s.ldIdle
  { s1.sets [(R.LD_STATUS_STATE, ldHEADER), (R.LD_STATUS_SRC, src), (R.LD_STATUS_OWNER, owner)] with
    ld := { s1.ld with
      start := start
      limit := limit
      op := op
      discard := none } }

/-- A refusal before acceptance (R510, R43): posted, and the rest of the stream is discarded. -/
def State.ldRefuse (s : State) (code : Nat) : State :=
  let src := s.get R.LD_STATUS_SRC
  let s1 := if s.mode.armed then { s.postMode code 3 with mode := { s.mode with armed := false, request := none } } else s
  let s2 := s1.ldFinish 0 code
  if src = srcFLASH ∨ src = srcPULL then s2 else { s2 with ld := { s2.ld with discard := some (src, code) } }

/-- A partition becomes ERROR (R508): its boughs drained, OFF and clamped. -/
def State.partError (s : State) (q : Nat) : State :=
  (((s.partBoughs q).foldl (fun (t : State) b => t.fall b 2) s).setPart q 3).set (R.PT_STAT_ACT q) 0 |>.showCfgErr

/-- Step 5 begins (R504): every partition that is loaded goes toward its initial state. -/
def State.ldGoRelease (s : State) : State :=
  let s1 := s.set R.LD_STATUS_STATE ldRELEASE
  (List.range 64).foldl (fun t b => match t.partOf b with
    | some q => if t.ptState q = 1 ∨ t.ptState q = 2 then t.opLoad b (SMap.get t.ld.init 0 b) else t
    | none => t) s1

/-- Whether a partition has a seed to fall back on (R508). -/
def State.hasSeed (s : State) (q : Nat) : Bool := s.has (R.PT_STAT_PRIV q) && decide (SMap.get s.pt.seed 0xFFFFFFFF q ≠ 0xFFFFFFFF)

/-- Failed partitions in ascending order (R508): one without a seed becomes ERROR, the first with one has its seed loaded; after the last, step 5. -/
def State.ldSeeds (s : State) : List Nat → State
  | [] => (s.setLd { s.ld with seeds := [] }).ldGoRelease
  | q :: t =>
    if s.hasSeed q then ((s.setLd { s.ld with seeds := t }).raise 0x0163 0 q).ldSeedStart q (SMap.get s.pt.seed 0xFFFFFFFF q)
    else (s.partError q).ldSeeds t

/-- The next failed partition that waits, or step 5 (R508). -/
def State.ldNextSeed (s : State) : State := s.ldSeeds s.ld.seeds

/-- Partition 0 fails (R507). -/
def State.crownFail (s : State) : State :=
  let s1 := s.put R.LD_STATUS_CFG_ERR true
  if s1.ld.crownSeed ≠ 0xFFFFFFFF ∧ !s1.has R.LD_STATUS_SEEDED then
    ((s1.raise 0x0162 0 0).ldSeedStart 0 s1.ld.crownSeed).trigger 0x07 0
  else (s1.ldFinish 0 ((s1.ld.failed.headD (0, 0x0145)).2)).trigger 0x08 0

/-- A partition fails in RUN (R523, R536, R556): its seed is loaded, or it becomes ERROR. `useSeed` false never takes the seed. -/
def State.partFail (s : State) (q : Nat) (useSeed : Bool) : State :=
  if useSeed ∧ s.hasSeed q then
    let s1 := (s.partBoughs q).foldl (fun (t : State) b => t.fall b 1) s
    ((s1.set (R.PT_STAT_ACT q) 1).raise 0x0163 0 q).ldSeedStart q (SMap.get s.pt.seed 0xFFFFFFFF q)
  else
    let code := (s.ld.failed.headD (q, 0)).2
    (s.partError q).ldFinish q code

/-- A seed is refused or fails (R507, R508, R523). -/
def State.seedFail (s : State) (q code : Nat) : State :=
  if q = 0 then ((s.ldRecord 0 s.ld.next code 0 0).ldFinish 0 ((s.ld.failed.headD (0, code)).2)).trigger 0x08 0
  else
    let s1 := (s.ldRecord q s.ld.next code 0 0).partError q
    if s.mode0 = mLOAD then s1.ldNextSeed
    else s1.ldFinish q ((s.ld.failed.headD (q, code)).2)

/-- A shadow load fails after acceptance (R527). -/
def State.shadowFail (s : State) (q code : Nat) : State :=
  (((s.clearShadow q).sets [(R.PT_STAT_SHADOW q, 3), (R.PT_STAT_ACT q, 0)]).raise 0x0136 0 q).ldFinish q code

/-! ## The header (R493) -/

/-- Whether KIND is admitted in this mode from this source (R493). -/
def State.kindOk (s : State) (src kind : Nat) : Bool :=
  match s.ld.seedFor with
  | some 0 => decide (kind = 1)
  | some _ => decide (kind = 2)
  | none =>
    if kind = 1 then decide (s.mode0 = mBOOT) || decide (s.mode0 = mSAFE)
      || (decide (s.mode0 = mRUN) && (s.mode.armed || [srcPUSH, srcSERIAL, srcJTAG].contains src))
    else decide (s.mode0 = mRUN)

/-- The first header field that fails, in table order (R493). -/
def State.hdrRefusal (s : State) (src : Nat) (h : List Nat) : Option Nat :=
  let seed := leField h 20 4
  if h.take 4 ≠ [0x59, 0x4C, 0x34, 0x38] then some 0x0101
  else if leField h 60 4 ≠ crc32 (h.take 60) then some 0x0101
  else if leField h 4 2 ≠ 1 then some 0x0101
  else if leField h 8 4 ≠ 0x9048 then some 0x0102
  else if h.getD 12 0 ≠ 1 then some 0x0103
  else if leField h 13 1 = 0 ∨ 4 ≤ leField h 13 1 then some 0x0101
  else if !s.kindOk src (leField h 13 1) then some 0x0104
  else if 3 ≤ leField h 14 1 then some 0x0101
  else match s.keyRefusal (leField h 14 1) with
    | some c => some c
    | none =>
      let k := leField h 13 1
      let p := leField h 16 4
      if (k = 1 ∧ p ≠ 0) ∨ (k ≠ 1 ∧ (p = 0 ∨ 31 < p)) then some 0x0101
      else if (k = 1 ∧ seed ≠ 0xFFFFFFFF ∧ seed % 65536 ≠ 0) ∨ (k ≠ 1 ∧ seed ≠ 0xFFFFFFFF) then some 0x0101
      else if leField h 24 4 < 400 ∨ 16384 < leField h 24 4 then some 0x0101
      else if leField h 28 4 = 0 ∨ 8192 < leField h 28 4 then some 0x0101
      else if leField h 6 2 ≠ 0 ∨ leField h 15 1 ≠ 0 ∨ leField h 32 28 ≠ 0 then some 0x0101
      else none

/-- A refusal that a stream or a seed meets before acceptance. -/
def State.ldTurnAway (s : State) (code : Nat) : State :=
  match s.ld.seedFor with
  | some q => s.seedFail q 0x0148
  | none => s.ldRefuse code

/-- Takes bytes that the running stream delivered. -/
def State.ldTake (s : State) (bytes : List Nat) : State :=
  { s with ld := { s.ld with
      buf := s.ld.buf ++ bytes
      taken := s.ld.taken + bytes.length } }

/-- The 64-byte header is checked (R493); a stream that goes on leaves its rest in the buffer. -/
def State.ldHeader (s : State) : State :=
  if s.ld.buf.length < 64 ∨ s.ld.hdr ≠ [] then s
  else
    let h := s.ld.buf.take 64
    match s.hdrRefusal (s.get R.LD_STATUS_SRC) h with
    | some code => s.ldTurnAway code
    | none =>
      if s.ld.seedFor = some 0 ∧ leField h 20 4 ≠ 0xFFFFFFFF then s.ldTurnAway 0x0148
      else if s.ld.seedFor.getD 0 ≠ 0 ∧ leField h 16 4 ≠ s.ld.seedFor.getD 0 then s.ldTurnAway 0x0148
      else { s.sets [(R.LD_STATUS_KIND, leField h 13 1), (R.LD_STATUS_PART, leField h 16 4)] with
        ld := { s.ld with
          hdr := h
          buf := s.ld.buf.drop 64 } }

/-- STREAM_HEADER (R493): a source delivers bytes of a header; a second stream beside a running one is refused (R511). -/
def execStreamHeader (src : Fin 7) (bytes : List (BitVec 8)) (s : State) : Host.Outcome State Fault Refusal :=
  if s.ldState = ldIDLE then done s
  else if s.get R.LD_STATUS_SRC ≠ src.val then done (s.ldPost 15 0 0x0140)
  else if (s.ldState = ldHEADER ∨ s.ldState = ldSEED) ∧ s.ld.hdr = [] ∧ s.ld.img = none then
    done (s.ldTake (bytes.map (fun (b : BitVec 8) => b.toNat))).ldHeader
  else done s

/-! ## The descriptor (R494, R495) -/

/-- Partition record `i` of a descriptor. -/
def ldRec (d : List Nat) (i : Nat) : LdRec :=
  let r := (d.drop (208 + 32 * i)).take 32
  ⟨leField r 0 1, leField r 1 1, leField r 4 4, leField r 8 8, leField r 16 4, leField r 20 4⟩

/-- The image that a header and a descriptor describe. -/
def State.ldImage (s : State) (h d : List Nat) : LdImage :=
  let npart := leField d 192 4
  let bs := boughList (leField d 168 8)
  let brec (i : Nat) : List Nat := (d.drop (208 + 32 * npart + 200 * i)).take 200
  { kind := leField h 13 1
    part := leField h 16 4
    keysel := leField h 14 1
    keyVal := s.keyValue (leField h 14 1)
    imageId := leField d 0 8
    version := leField d 8 8
    salt := beNum ((d.drop 16).take 8)
    ess := leField d 176 8
    cstage := leField d 184 8
    boughs := leField d 168 8
    nblocks := leField h 28 4
    seedAddr := leField h 20 4
    recs := (List.range npart).map (ldRec d)
    init := (List.range bs.length).foldl (fun m i => SMap.set m 0 (bs.getD i 0) (leField (brec i) 1 1)) []
    freq := (List.range bs.length).foldl (fun m i => (List.range 48).foldl (fun m' j =>
      SMap.set m' 0 ((16 * bs.getD i 0 + j / 3) * 4 + j % 3 + 1) (leField (brec i) (8 + 4 * j) 4)) m) [] }

/-- Whether a descriptor is well formed (R495, first row). -/
def descOk (h d : List Nat) : Bool :=
  let kind := leField h 13 1
  let npart := leField d 192 4
  let nb := popCount 64 (leField d 168 8)
  let bs := boughList (leField d 168 8)
  decide (leField d 196 12 = 0) && decide (1 ≤ npart) && decide (npart ≤ (if kind = 1 then 32 else 1))
    && decide (leField h 24 4 = 304 + 32 * npart + 200 * nb) && decide (kind = 3 ∨ leField d 184 8 = 0)
    && (List.range npart).all (fun i => let r := (d.drop (208 + 32 * i)).take 32
      decide (leField r 2 2 = 0) && decide (leField r 24 8 = 0))
    && (List.range nb).all (fun i => let r := (d.drop (208 + 32 * npart + 200 * i)).take 200
      decide (leField r 0 1 = bs.getD i 64) && decide (leField r 1 1 ≤ 3) && decide (leField r 2 6 = 0))

/-- The boughs of a set that are reached from a set within it (R32). -/
def reachBoughs (set : Nat) : Nat → Nat → Nat
  | 0, seen => seen
  | n + 1, seen =>
    reachBoughs set n ((boughList set).foldl (fun a b =>
      if bit a b = 0 ∧ (List.range 4).any (fun e => match neighbour b e with | some nb => decide (bit seen nb = 1) | none => false)
      then a + 2 ^ b else a) seen)

/-- Whether a set of boughs is connected and not empty (R516). -/
def connected (set : Nat) : Bool := match boughList set with | [] => false | b :: _ => decide (reachBoughs set 64 (2 ^ b) = set)

/-- The partition table of a FULL image (R516, R495). -/
def LdImage.tableOk (i : LdImage) : Bool :=
  let rs := i.recs
  rs.all (fun r => decide (r.part < 32) && decide (r.flags < 2) && connected r.boughs && decide (r.boughs ||| i.boughs = i.boughs)
      && decide (1 ≤ r.nblk) && decide (r.first + r.nblk ≤ i.nblocks)
      && decide (r.seed = 0xFFFFFFFF ∨ (r.part ≠ 0 ∧ r.flags = 1 ∧ r.seed % 65536 = 0)))
    && (rs.map LdRec.part).Nodup
    && rs.any (fun r => decide (r.part = 0 ∧ r.flags = 1))
    && decide ((rs.filter (fun r => decide (r.flags = 1))).length ≤ 8)
    && decide (rs.foldl (fun a r => a + popCount 64 r.boughs) 0 = popCount 64 i.boughs)
    && decide (rs.foldl (fun a r => a ||| r.boughs) 0 = i.boughs)
    && rs.all (fun r => rs.all (fun t => decide (t.part ≤ r.part) || decide (r.first + r.nblk ≤ t.first)))

/-- The record of a DARK or SHADOW image against the present partitions (R495). -/
def State.recOk (s : State) (i : LdImage) : Bool :=
  i.recs.all (fun r => decide (r.part = i.part) && s.has (R.PT_STAT_DEFINED i.part)
    && decide (r.boughs = s.get (R.PT_BOUGHS_BOUGHS i.part)) && decide (i.boughs = r.boughs)
    && decide (1 ≤ r.nblk) && decide (r.first + r.nblk ≤ i.nblocks))

/-- Whether CSTAGE is admitted (R524). -/
def stageOk (a : Nat) : Bool :=
  decide (a = 0) || (decide (a < 2 ^ 44) && decide (a % 256 = 0) && decide (a / 2 ^ 36 % 4 = 1) && decide (56 ≤ a / 2 ^ 38))

/-- The first check of R495 that fails, with the conditions of R522 and R524 after them. -/
def State.descRefusal (s : State) (h d : List Nat) : Option Nat :=
  let i := s.ldImage h d
  let pub := (d.drop 72).take 96
  let n := leField h 24 4
  let q := s.ptState i.part
  if !descOk h d then some 0x0101
  else if !s.keyAccepted pub then some 0x0105
  else if !Config.ecdsaOk (beNum pub) (Config.sha384 (h ++ d.take (n - 96))) (beNum (d.drop (n - 96))) then some 0x0105
  else if i.version < s.sec.rb then some 0x0106
  else if (i.kind = 1 ∧ !i.tableOk) ∨ (i.kind ≠ 1 ∧ !s.recOk i) then some 0x0143
  else if s.mode0 = mSAFE ∧ s.ld.seedFor = none ∧ !s.has R.LD_CTRL_SAFE_OPEN then some 0x010E
  else if s.ld.seedFor ≠ none then none
  else if i.kind = 2 ∧ q = 0 then some 0x0143
  else if i.kind = 3 ∧ q ≠ 1 ∧ q ≠ 2 then some 0x0118
  else if i.kind = 3 ∧ !stageOk i.cstage then some 0x0119
  else none

/-! ## Acceptance -/

/-- Entries of the gleaner's lists that a load discards (R557). -/
def State.glForget (s : State) (p : GlFrame → Bool) : State :=
  { s with gl := { s.gl with
      list := s.gl.list.filter (fun e => !p e)
      fixed := s.gl.fixed.filter (fun e => !p e)
      lost := s.gl.lost.filter (fun e => !p e.1)
      defer := (List.range 4).foldl (fun m w => SMap.set m [] w ((SMap.get s.gl.defer [] w).filter (fun e => !p e))) [] } }

/-- The gleaner's lists and repair sources at the start of a full load (R557). -/
def State.glEmpty (s : State) : State :=
  let t := s.glForget (fun _ => true)
  { t with
    gl := { t.gl with pos := [], began := [] }
    pt := { t.pt with repair := [] } }

def State.swapOf (s : State) (q : Nat) : Option Swap := SMap.get s.pt.swaps none q

/-- The plane that an image writes in a bough (R503, R524). -/
def State.ldPlane (s : State) (i : LdImage) (b : Nat) : Nat := if i.kind = 3 then 1 - (s.bough b).plane else 0

/-- The image's line records for the plane it writes (R118, R524). -/
def State.ldFreq (s : State) (i : LdImage) : State :=
  (boughList i.boughs).foldl (fun (t : State) b => (List.range 48).foldl (fun (u : State) j =>
    let n := j / 3
    let p := j % 3 + 1
    { u with clk := { u.clk with
        lineRec := SMap.set u.clk.lineRec 0 (lineKey (u.ldPlane i b) b n p) (SMap.get i.freq 0 ((16 * b + n) * 4 + p)) } }) t) s

/-- A shadow load goes to work once no swap of its partition runs (R524 steps 1 and 2). -/
def State.shadowBegin (s : State) (i : LdImage) : State :=
  if s.swapOf i.part ≠ none then s
  else (((s.glForget (fun e => decide (e.part = i.part) && decide (e.plane ≠ s.get (R.PT_STAT_PLANE i.part)))).clearShadow i.part).sets [(R.PT_STAT_SHADOW i.part, 1), (R.LD_STATUS_STATE, ldBLOCKS)]).ldFreq i

/-- The partition table of an accepted FULL image (R516). -/
def State.defineParts (s : State) (i : LdImage) : State :=
  (List.range 32).foldl (fun t q =>
    match i.recs.find? (fun r => decide (r.part = q)) with
    | some r =>
      { t.sets [(R.PT_STAT_DEFINED q, 1), (R.PT_STAT_PRIV q, r.flags), (R.PT_BOUGHS_BOUGHS q, r.boughs)] with
        pt := { t.pt with
          seed := SMap.set t.pt.seed 0xFFFFFFFF q r.seed
          keysel := SMap.set t.pt.keysel 0 q i.keysel } }
    | none =>
      { t.sets [(R.PT_STAT_DEFINED q, 0), (R.PT_STAT_PRIV q, 0), (R.PT_BOUGHS_BOUGHS q, 0)] with
        pt := { t.pt with
          seed := SMap.set t.pt.seed 0xFFFFFFFF q 0xFFFFFFFF
          keysel := SMap.set t.pt.keysel 0 q 0 } }) s

/-- An accepted stream (R495): what each KIND does at T_A. A seed comes from the boot flash and its signature is checked, so the ports of its partition have
had their DRAIN_TO by then (R360). -/
def State.ldAccepted (s : State) (i : LdImage) : State :=
  let s1 := { s.sets [(R.LD_PROG_BLOCKS, 0), (R.LD_PROG_NBLOCKS, i.nblocks), (R.LD_STATUS_STATE, ldCLEAR), (R.LD_CTRL_SAFE_OPEN, 0)] with
    ld := { s.ld with
      img := some i
      next := 0
      ended := false
      skip := none
      slots := []
      stageImg := []
      regs := 0
      init := if i.kind = 1 then i.init else i.init.foldl (fun m (e : Nat × Nat) => SMap.set m 0 e.1 e.2) s.ld.init } }
  match s.ld.seedFor with
  | some 0 =>
    State.defineParts (State.put { s1 with ld := { s1.ld with lastImage := i.imageId, lastVersion := i.version } } R.LD_STATUS_SEEDED true) i
  | some q =>
    let s2 := (((((s1.partBoughs q).foldl (fun (t : State) b => (t.drainNow b).fallEnd b) s1).glForget (fun e => decide (e.part = q))).clearPart q).ldFreq i).set R.LD_STATUS_STATE ldSEED
    { s2 with pt := { s2.pt with keysel := SMap.set s2.pt.keysel 0 q i.keysel } }
  | none =>
    if i.kind = 1 then
      let cause := if s.mode0 = mBOOT ∧ !s.mode.armed ∧ (bits s.mode.straps 0 2 = 3
        ∨ (bits s.mode.straps 0 2 = 0 ∧ s.get R.LD_STATUS_SRC = srcFLASH) ∨ (bits s.mode.straps 0 2 = 1 ∧ s.get R.LD_STATUS_SRC = srcPUSH)
        ∨ (bits s.mode.straps 0 2 = 2 ∧ s.get R.LD_STATUS_SRC = srcSERIAL)) then 0x04 else 0x05
      let s2 := { s1 with
        ld := { s1.ld with
          crownSeed := i.seedAddr
          lastImage := i.imageId
          lastVersion := i.version }
        dict := { s1.dict with user := [] }
        mode := { s1.mode with armed := false } }
      let s3 := s2.trigger cause 0
      if s.mode.armed then { s3 with mode := { s3.mode with request := some 3 } } else s3
    else if i.kind = 2 then
      let s2 := (s1.glForget (fun e => decide (e.part = i.part))).set (R.PT_STAT_ACT i.part) 1
      if s.swapOf i.part = none then (s2.partBoughs i.part).foldl (fun (t : State) b => t.drainStart b) s2 else s2
    else (s1.set (R.PT_STAT_ACT i.part) 2).shadowBegin i

/-- The descriptor is checked, and the stream accepted (R495). -/
def State.ldDescriptor (s : State) : State :=
  let n := leField s.ld.hdr 24 4
  if s.ld.hdr = [] ∨ s.ld.img ≠ none ∨ s.ld.buf.length < n then s
  else
    let d := s.ld.buf.take n
    match s.descRefusal s.ld.hdr d with
    | some code => s.ldTurnAway code
    | none =>
      let i := s.ldImage s.ld.hdr d
      { s with ld := { s.ld with
          buf := s.ld.buf.drop n
          expect := beNum ((d.drop 24).take 48) } }.ldAccepted i

/-- STREAM_ACCEPT (R495): a source delivers bytes of a descriptor; the loader accepts or refuses the stream. -/
def execStreamAccept (src : Fin 7) (bytes : List (BitVec 8)) (s : State) : Host.Outcome State Fault Refusal :=
  if s.ldState ≠ ldIDLE ∧ s.get R.LD_STATUS_SRC = src.val ∧ s.ld.img = none then
    done (s.ldTake (bytes.map (fun (b : BitVec 8) => b.toNat))).ldDescriptor
  else done s

end Sys2Proof.Machine
end

