-- ==== Sys2Proof/Machine/LoadBlocks.lean ====
section
/-!
DEFINITION. Blocks and packets of a stream (R496 to R503, R525, R526, R537), what follows the last block (R504 to R509, R522 to
R524), and the commands of the loader's registers (R512).
-/
namespace Sys2Proof.Machine
open Sys2Proof

/-! ## Registers that an image writes (R502) -/

/-- A 32-bit word of a register that may have an upper half: what R7 commits, and the staging latch. -/
def State.halfWrite (s : State) (addr v current : Nat) (full : Bool) : State × Option Nat :=
  if full then (s, some v)
  else if addr % 8 = 0 then ({ s with stage := SMap.set s.stage none addr (some (v % 2 ^ 32)) }, none)
  else
    let lo := (SMap.get s.stage none (addr - 4)).getD (current % 2 ^ 32)
    ({ s with stage := SMap.set s.stage none (addr - 4) none }, some (lo + v % 2 ^ 32 * 2 ^ 32))

/-- A write of one 32-bit register of a bough that an image may hold (R502); 0x0203 where there is none. -/
def State.boughRegWrite (s : State) (b off v : Nat) : State :=
  if 0xC00 ≤ off ∧ off < 0xC44 ∧ off % 4 = 0 then s.bckWrite b ((off - 0xC00) / 4) v
  else if off = 0x1000 then
    (s.sets [(R.DR_CTRL_AUTO_DOWN b, bit v 0), (R.DR_CTRL_EVT_EN b, bit v 1), (R.DR_CTRL_WARN_STEPS b, bits v 8 4)]).drWarn b |>.reply 0 0
  else if off = 0x2000 then
    let s1 := s.sets [(R.BM_CTRL_UNC_EVT_EN b, bit v 0), (R.BM_CTRL_CORR_LOG_EN b, bit v 1)]
    (if bit v 2 = 1 then s1.sets [(R.BM_CNT_CORR b, 0), (R.BM_CNT_UNC b, 0)] else s1).reply 0 0
  else if off = 0x4000 then (s.set (R.SL_CTRL_OVF_EVT_EN b) (bit v 0)).reply 0 0
  else s.reply 0x0203 0

/-- A write of a crown clock register that a FULL image may hold: `off` from the CMC block base. -/
def State.crownRegWrite (s : State) (off v : Nat) (wide : Bool) : State :=
  let addr := 0x41000000000 + off
  if 0x10100 ≤ off ∧ off < 0x10200 then
    let m := (off - 0x10100) / 16
    let stat := decide (8 ≤ off % 16)
    let cur := s.word (if stat then [R.MON_STAT_EXP m] else
      [R.MON_CFG_MEAS m, R.MON_CFG_REF m, R.MON_CFG_EN m, R.MON_CFG_QUALN m, R.MON_CFG_LOSS m])
    match s.halfWrite addr v cur wide with
    | (t, some x) => t.monWrite m stat x
    | (t, none) => t.reply 0 0
  else if 0x10200 ≤ off ∧ off < 0x102E0 then
    let p := (off - 0x10200) / 16
    if off % 16 < 8 then
      match s.halfWrite addr v (s.word [R.CP_CFG_M p, R.CP_CFG_M_FB p, R.CP_CFG_N p, R.CP_CFG_EN p, R.CP_CFG_GATE p, R.CP_CFG_FRAC p]) wide with
      | (t, some x) => t.cpWrite 66 p false x
      | (t, none) => t.reply 0 0
    else if off % 16 = 8 then
      let t := s.cpWrite 66 p true (v % 2 ^ 32)
      if wide ∧ t.answer.status = 0 then t.muxWrite 66 p (v / 2 ^ 32 % 2 ^ 32) else t
    else s.muxWrite 66 p (v % 2 ^ 32)
  else if 0x10300 ≤ off ∧ off < 0x10400 then
    let g := (off - 0x10300) / 8
    if off % 8 = 0 then
      let t := s.muxWrite 66 (16 + g) (v % 2 ^ 32)
      if wide ∧ t.answer.status = 0 then t.gclCfgWrite g (v / 2 ^ 32 % 2 ^ 32) else t
    else s.gclCfgWrite g (v % 2 ^ 32)
  else if 0x10400 ≤ off ∧ off < 0x10410 then
    let o := (off - 0x10400) / 8
    match s.halfWrite addr v (s.word [R.CLKOUT_SRC o, R.CLKOUT_EN o, R.CLKOUT_IDLE o]) wide with
    | (t, some x) => t.clkoutWrite o x
    | (t, none) => t.reply 0 0
  else s.reply 0x0203 0

/-- What a packet's failure carries: its code, detail and place. -/
abbrev LdErr := Nat × Nat × Nat

/-- The bough and offset of a bough register address of R502. -/
def boughReg (boughs addr : Nat) : Option (Nat × Nat) :=
  let b := addr / 2 ^ 38
  let off := addr % 2 ^ 36
  if addr / 2 ^ 36 % 4 = 3 ∧ bit boughs b = 1
    ∧ ((0xC00 ≤ off ∧ off < 0xC48) ∨ off = 0x1000 ∨ off = 0x2000 ∨ off = 0x4000) then some (b, off) else none

/-- One REG entry (R502, R526): the address word with WIDE in bit 63, and the value. -/
def State.ldReg (s : State) (i : LdImage) (a v : Nat) : State × Option LdErr :=
  let addr := bits a 0 44
  let wide := bit a 63 = 1
  if bits a 44 19 ≠ 0 ∨ addr % (if wide then 8 else 4) ≠ 0 then (s, some (0x010B, 0, 0))
  else if i.kind = 3 ∧ 2048 ≤ s.ld.regs then (s, some (0x010B, 0, 0))
  else match boughReg i.boughs addr with
    | some (b, off) =>
      if i.kind = 3 then
        let put (t : State) (k w : Nat) : State :=
          { t with pt := { t.pt with held := SMap.set t.pt.held 0 (Config.rp b 3 + k) (w % 2 ^ 32 + 1) } }
        let s1 := put s off v
        let s2 := if wide then put s1 (off + 4) (v / 2 ^ 32) else s1
        (s2.setLd { s2.ld with regs := s2.ld.regs + 1 }, none)
      else
        let t := s.boughRegWrite b off (v % 2 ^ 32)
        let t := if wide ∧ t.answer.status = 0 ∧ 0xC00 ≤ off ∧ off < 0xC40 then t.boughRegWrite b (off + 4) (v / 2 ^ 32) else t
        if t.answer.status = 0 then (t, none) else (s, some (0x010D, t.answer.status, 0))
    | none =>
      if i.kind = 1 ∧ 0x41000010100 ≤ addr ∧ addr < 0x41000010410 ∧ !(0x410000102E0 ≤ addr ∧ addr < 0x41000010300) then
        let t := s.crownRegWrite (addr - 0x41000000000) v wide
        if t.answer.status = 0 then (t, none) else (s, some (0x010D, t.answer.status, 0))
      else (s, some (0x010D, 0, 0))

/-! ## The contents stage (R525) -/

/-- An access of granary memory that is served at once: its status and the words read. -/
def State.grDirect (s : State) (src addr n : Nat) (data : Option (List Nat)) : State × Nat × List Nat :=
  let k := (addr / 2 ^ 38) % 8
  let o := addr % 2 ^ 36
  let w := addr / 4
  let q : NocReq := ⟨0, src, 0, w, w % 64 + n - 1, data.isSome, 0, data.getD []⟩
  let g := (s.grBank k o).1
  if 2 ^ 22 < o + 4 * n then (s, 0x0901, [])
  else if s.grPwrOf g = 3 then (s, 0x0902, [])
  else if s.grPwrOf g ≠ 2 ∨ SMap.get s.gr.pwr 0 g ≠ 0 then (s, 0x0903, [])
  else
    let t := s.grServe g q
    match t.noc.rsps.getLast? with
    | some r => ({ t with noc := { t.noc with rsps := s.noc.rsps } }, r.status, r.data)
    | none => (t, 0, [])

/-- Reads `n` 64-byte lines of granary memory from an address. -/
def State.stageRead (s : State) (addr : Nat) : Nat → State × Nat × List Nat
  | 0 => (s, 0, [])
  | n + 1 =>
    let (t, st, acc) := s.stageRead addr n
    let (u, st', d) := t.grDirect 66 (addr + 64 * n) 16 none
    (u, if st = 0 then st' else st, acc ++ d.flatMap (fun w => toBytes 4 w))

/-- Writes bytes at any address of granary memory, keeping the other bytes of the words it touches. -/
def State.stageWrite (s : State) (addr : Nat) (bytes : List Nat) : State × Nat :=
  let a0 := addr / 4 * 4
  let n := (addr + bytes.length + 3) / 4 - addr / 4
  let (t, st, old) := s.grDirect 66 a0 n none
  if st ≠ 0 ∧ st ≠ 0x0911 then (t, st)
  else
    let ob := old.flatMap (fun w => toBytes 4 w)
    let nb := ob.take (addr - a0) ++ bytes ++ ob.drop (addr - a0 + bytes.length)
    let ws := (List.range n).map (fun i => leField nb (4 * i) 4)
    let (u, st2, _) := t.grDirect 66 a0 n (some ws)
    (u, st2)

/-- Fills a slot with zeros when the image first names its block. -/
def State.stageZero (s : State) (addr : Nat) : Nat → State × Nat
  | 0 => (s, 0)
  | n + 1 =>
    let (t, st) := s.stageZero addr n
    let (u, st2, _) := t.grDirect 66 (addr + 64 * n) 16 (some (List.replicate 16 0))
    (u, if st = 0 then st2 else st)

/-- The stage slot of a block, assigned at its first naming (R525). -/
def State.stageSlot (s : State) (i : LdImage) (b k : Nat) (raw : Bool) : State × Except LdErr Nat :=
  match s.ld.slots.findIdx? (fun e => decide (e.1 = b) && decide (e.2.1 = k)) with
  | some n => (s, .ok n)
  | none =>
    let n := s.ld.slots.length
    if i.cstage = 0 ∨ 2 ^ 22 < i.cstage % 2 ^ 36 + 9216 * (n + 1) then (s, .error (0x0119, 0, 0))
    else
      let (t, st) := s.stageZero (i.cstage + 9216 * n) 144
      if st ≠ 0 then (t, .error (st, 0, 0))
      else (t.setLd { t.ld with slots := t.ld.slots ++ [(b, k, raw)] }, .ok n)

/-! ## Packets (R498 to R503) -/

/-- Whether another bough owns a pin (R520, R593). -/
def State.pinTaken (s : State) (i : LdImage) (b pin : Nat) : Bool :=
  (List.range 64).any (fun c =>
    let q := s.partOf c
    let err := match q with | some p => decide (s.ptState p = 3) | none => true
    let p := (s.bough c).plane
    let sh := match q with | some x => s.get (R.PT_STAT_SHADOW x) | none => 0
    let planes := (if err then [] else p :: (if sh = 2 ∨ sh = 4 then [1 - p] else []))
      ++ (if bit i.boughs c = 1 then [s.ldPlane i c] else [])
    decide (c ≠ b) && planes.any (fun pl => (List.range 64).any (fun e =>
      decide (bit (s.pinEntry pl c e) 12 = 1) && decide (bits (s.pinEntry pl c e) 0 9 = pin))))
  || (List.range 4).any (fun k => decide (s.get (R.SP_CFG_MODE k) ≠ 0) && decide (spPin k ≤ pin)
    && decide (pin < 292 + 24 * (k / 2) + 4 * (k % 2)))

/-- Breaches of collar frame 2 by pins that are owned elsewhere (R520). -/
def State.pinBreach (s : State) (i : LdImage) (b v : Nat) : List Breach :=
  (List.range 64).flatMap (fun e =>
    let w := bits v (16 * e) 16
    if bit w 12 = 1 ∧ s.pinTaken i b (bits w 0 9) then [(16 * e, 0x0121)] else [])

/-- One frame of a FRAME packet (R499, R500). -/
def State.ldFrame (s : State) (i : LdImage) (b row col idx : Nat) (bytes : List Nat) : State × Option LdErr :=
  let data := ofBytes (bytes.take 512)
  let chk := ofBytes ((bytes.drop 512).take 4)
  let p := s.ldPlane i b
  if frameCode data ≠ chk then (s, some (0x010A, 0, ldLoc p b row col idx 0))
  else match firstBreach (frameBreaches row col idx data ++ (if col = 40 ∧ idx = 2 then s.pinBreach i b data else [])) with
    | some (o, c) => (s, some (0x0109, c, ldLoc p b row col idx o))
    | none =>
      let t := (s.setFrame p b row col idx data).setChecks p b row col idx chk
      (t.setGolden p b row col (t.branchSig p b row col), none)

/-- The frames of a FRAME packet, from a place of frame order. -/
def State.ldFrames (s : State) (i : LdImage) (b : Nat) : Nat → Nat → List Nat → State × Option LdErr
  | 0, _, _ => (s, none)
  | n + 1, ord, bytes =>
    let f := frameAt ord
    match s.ldFrame i b f.1 f.2.1 f.2.2 (bytes.take 516) with
    | (t, some e) => (t, some e)
    | (t, none) => State.ldFrames t i b n (ord + 1) (bytes.drop 516)

/-- The rows of a CONTENTS packet (R501, R525); each counts for an armed injection (R158). -/
def State.ldRows (s : State) (i : LdImage) (b k : Nat) (raw : Bool) : Nat → Nat → List Nat → State × Option LdErr
  | 0, _, _ => (s, none)
  | n + 1, row, bytes =>
    let len := if raw then 18 else 16
    let v := ofBytes (bytes.take len)
    if i.kind = 3 then
      match s.stageSlot i b k raw with
      | (t, .error e) => (t, some e)
      | (t, .ok slot) =>
        match t.stageWrite (i.cstage + 9216 * slot + len * row) (bytes.take len) with
        | (u, 0) =>
          let img := (List.range len).foldl (fun (m : SMap Nat) j => SMap.set m 0 (9216 * slot + len * row + j) ((bytes[j]?).getD 0)) u.ld.stageImg
          State.ldRows (u.setLd { u.ld with stageImg := img }) i b k raw n (row + 1) (bytes.drop len)
        | (u, st) => (u, some (st, 0, 0))
    else State.ldRows ((s.setBmData b k row (if raw then v else symEncode v)).bmInject b k row (!raw)) i b k raw n (row + 1) (bytes.drop len)

/-- Instruction words at consecutive addresses of a plane's store (R501). -/
def State.ldWords (s : State) (key : Nat) (bytes : List Nat) : Nat → State
  | 0 => s
  | n + 1 =>
    let t := s.ldWords key bytes n
    { t with istore := SMap.set t.istore 0 (key + n) (leField bytes (8 * n) 8) }

/-- One packet (R498): its header words and its payload. -/
def State.ldPacket (s : State) (i : LdImage) (mask : Nat) (last : Bool) (typ count arg : Nat) (pay : List Nat) : State × Option LdErr :=
  let b := bits arg 0 6
  let p := s.ldPlane i b
  let bad : State × Option LdErr := (s, some (0x010B, 0, 0))
  let denied : State × Option LdErr := (s, some (0x010D, 0, 0))
  match typ with
  | 0x01 =>
    let row := bits arg 6 3
    let col := bits arg 9 6
    let idx := bits arg 15 4
    if 126 < count ∨ bits arg 19 13 ≠ 0 then bad
    else if count = 0 then (s, none)
    else if !frameExists row col idx then (s, some (0x010C, 0, 0))
    else if bit mask b = 0 then denied
    else
      let ord := frameOrd row col idx
      if (if col = 40 then 4936 else 4928) < ord + count then bad
      else s.ldFrames i b count ord pay
  | 0x02 =>
    let k := bits arg 6 7
    let row := bits arg 13 9
    let raw := bit arg 22 = 1
    let w := s.pBlock p b k
    if bits arg 23 9 ≠ 0 ∨ 512 < row + count then bad
    else if count = 0 then (s, none)
    else if bit mask b = 0 then denied
    else if bit w 0 = 0 ∨ k % cascLen w ≠ 0 ∨ bits w 1 2 = bit arg 22 then (s, some (0x0144, 0, 0))
    else s.ldRows i b k raw count row pay
  | 0x03 =>
    let a := bits arg 6 5
    let w := bits arg 11 11
    if bits arg 22 10 ≠ 0 ∨ 2048 < w + count then bad
    else if count = 0 then (s, none)
    else if bit mask b = 0 then denied
    else if bit (s.frame p b (slRow a) (slCol a) 6) 0 = 0 then (s, some (0x0144, 0, 0))
    else (s.ldWords (istoreKey p b a w) pay count, none)
  | 0x04 =>
    if arg ≠ 0 ∨ 4091 < count then bad
    else (List.range count).foldl (fun (a : State × Option LdErr) j =>
      match a.2 with
      | some _ => a
      | none => a.1.ldReg { i with boughs := mask } (leField pay (16 * j) 8) (leField pay (16 * j + 8) 8)) (s, none)
  | 0x05 =>
    let es := (List.range count).map (fun j => leField pay (4 * j) 4)
    let old := SMap.get s.pt.carry [] (64 * p + b)
    if bits arg 6 26 ≠ 0 ∨ 8192 < old.length + count then bad
    else if count = 0 then (s, none)
    else if bit mask b = 0 then denied
    else if es.any (fun e => decide (23 < bits e 8 5) || decide (bits e 17 15 ≠ 0)) then (s, some (0x010B, 0x0120, 0))
    else ({ s with pt := { s.pt with carry := SMap.set s.pt.carry [] (64 * p + b) (old ++ es) } }, none)
  | 0x0F => if count ≠ 0 ∨ arg ≠ 0 ∨ !last then bad else (s.setLd { s.ld with ended := true }, none)
  | _ => bad

/-- The bytes of a packet's payload; none for a type that has none. -/
def payLen (typ count arg : Nat) : Nat :=
  match typ with
  | 0x01 => 516 * count
  | 0x02 => (if bit arg 22 = 1 then 18 else 16) * count
  | 0x03 => 8 * count
  | 0x04 => 16 * count
  | 0x05 => 4 * count
  | _ => 0

/-- The packets of a block's packet area, in order, until one fails (R498). A rest too short for a packet header is taken as a PAD when it is zero. -/
def State.ldPackets (s : State) (i : LdImage) (mask : Nat) (last : Bool) : Nat → List Nat → State × Option LdErr
  | 0, _ => (s, none)
  | f + 1, rest =>
    if rest = [] then (s, none)
    else if rest.length < 8 then (if rest.all (fun x => decide (x = 0)) then (s, none) else (s, some (0x010B, 0, 0)))
    else
      let typ := leField rest 0 1
      let count := leField rest 1 2
      let arg := leField rest 4 4
      let n := payLen typ count arg
      if leField rest 3 1 ≠ 0 then (s, some (0x010B, 0, 0))
      else if typ = 0 then (if count ≠ 0 ∨ arg ≠ 0 then (s, some (0x010B, 0, 0)) else (s, none))
      else if s.ld.ended ∨ rest.length < 8 + n then (s, some (0x010B, 0, 0))
      else match s.ldPacket i mask last typ count arg ((rest.drop 8).take n) with
        | (t, some e) => (t, some e)
        | (t, none) => State.ldPackets t i mask last f (rest.drop (8 + n))

/-! ## After the last block -/

/-- A DARK image, or a partition seed in RUN, goes toward its release (R522 step 6). -/
def State.darkRelease (s : State) (q : Nat) : State :=
  let s1 := s.set R.LD_STATUS_STATE ldRELEASE
  (s1.partBoughs q).foldl (fun (t : State) b => t.opLoad b (SMap.get t.ld.init 0 b)) s1

/-- Every block of the stream is taken, or the stream has ended (R504 step 4, R508, R509, R523, R527). -/
def State.ldAfter (s : State) : State :=
  match s.ld.img with
  | none => s
  | some i =>
    let code (q : Nat) : Nat := ((s.ld.failed.find? (fun e => decide (e.1 = q))).getD (q, 0)).2
    match s.ld.seedFor with
    | none =>
      if i.kind = 1 then
        if s.ldFailed 0 then s.crownFail
        else
          let bad := (List.range 32).filter (fun q => s.ldFailed q)
          s.ldSeeds bad
      else if i.kind = 2 then (if s.ldFailed i.part then s.partFail i.part true else s.darkRelease i.part)
      else if s.ldFailed i.part then s.shadowFail i.part (code i.part)
      else s.set R.LD_STATUS_STATE ldRELEASE
    | some 0 =>
      if s.ldFailed 0 then s.crownFail
      else
        let bad := (List.range 32).filter (fun q => s.ldFailed q)
        s.ldSeeds bad
    | some q =>
      if s.ld.skip = some q ∨ !s.ld.ended then s.seedFail q 0x0148
      else if s.mode0 = mLOAD then (s.setPart q 2).ldNextSeed
      else s.darkRelease q

/-- The record that holds a block. -/
def LdImage.recAt (i : LdImage) (n : Nat) : Option LdRec := i.recs.find? (fun r => decide (r.first ≤ n) && decide (n < r.first + r.nblk))

/-- A stream that cannot go on (R506): the partition in progress fails with the code, every later one with 0x0147. -/
def State.ldStop (s : State) (code : Nat) : State :=
  match s.ld.img with
  | none => s.ldTurnAway code
  | some i =>
    let n := s.ld.next
    match s.ld.seedFor with
    | some (q + 1) => s.seedFail (q + 1) 0x0148
    | _ =>
      let here := match i.recAt n with | some r => some r.part | none => none
      let s1 := match here with
        | some q => if s.ldFailed q then s else s.ldFail q code 0 0
        | none => s
      let later := i.recs.filter (fun r => decide (n < r.first))
      (later.foldl (fun (t : State) r => t.ldFail r.part 0x0147 0 0) s1).ldAfter

/-- The checks that wait for a partition's last block (R499), and its LOADED state (R504 step 3). -/
def State.ldPartDone (s : State) (i : LdImage) (r : LdRec) : State :=
  match (boughList r.boughs).findSome? (fun b => (s.planeBreach (s.ldPlane i b) b).map (fun x => (b, x))) with
  | some (b, ord, o, c) =>
    let f := frameAt ord
    s.ldFail r.part 0x0109 c (ldLoc (s.ldPlane i b) b f.1 f.2.1 f.2.2 o)
  | none => if i.kind = 1 then s.setPart r.part 1 else s

/-- The repair source of a partition's plane (R554), at the first of its blocks. -/
def State.repairNote (s : State) (i : LdImage) (r : LdRec) : State :=
  let src := s.get R.LD_STATUS_SRC
  let plane := match boughList r.boughs with | b :: _ => s.ldPlane i b | [] => 0
  let x := some ⟨src, s.ld.start, i.salt, i.imageId, i.version, i.keysel, i.ess, i.boughs, r.first, r.nblk, s.ld.expect⟩
  { s with pt := { s.pt with repair := SMap.set s.pt.repair none (2 * r.part + plane) x } }

/-- One whole block (R497). Push bytes after the last one are refused until the owner has been quiet (R511). -/
def State.ldBlock (s : State) (i : LdImage) (blk : List Nat) : State :=
  let n := s.ld.next
  let ix := toBytes 4 n
  let last := decide (n + 1 = i.nblocks)
  if Config.sha384 blk ≠ s.ld.expect then s.ldStop 0x0107
  else match Config.gcmOpen i.keyVal (i.salt * 2 ^ 32 + beNum ix) (ix ++ toBytes 8 i.imageId) blk with
    | none => s.ldStop 0x0107
    | some plain =>
      let s0 := s.set R.LD_PROG_BLOCKS (n + 1)
      let s1 := match i.recAt n with
        | none => if last then (s0.ldPackets i 0 last 8200 (plain.take 65472)).1 else s0
        | some r =>
          let t := (if n = r.first then s0.repairNote i r else s0).set R.LD_STATUS_PART r.part
          if t.ld.skip = some r.part then t
          else
            let mask := if i.kind = 1 then r.boughs else i.boughs
            let u := match t.ldPackets i mask last 8200 (plain.take 65472) with
              | (u, some (c, d, l)) => u.ldFail r.part c d l
              | (u, none) => if last ∧ !u.ld.ended then u.ldFail r.part 0x010B 0 0 else u
            if n + 1 = r.first + r.nblk ∧ u.ld.skip ≠ some r.part ∧ i.kind ≠ 3 then u.ldPartDone i r else u
      let s2 := s1.setLd { s1.ld with
        next := n + 1
        expect := beNum ((plain.drop 65472).take 48) }
      let s3 := if last ∧ s.get R.LD_STATUS_SRC = srcPUSH then s2.setLd { s2.ld with discard := some (srcPUSH, 0x0140) } else s2
      if last then s3.ldAfter else s2

/-- Whether a swap's refill runs, while which the loader takes nothing in (R536). -/
def State.refilling (s : State) : Bool :=
  s.pt.swaps.any (fun e => match e.2 with | some x => decide (x.refill ≠ []) && decide (x.freeze = []) && decide (x.frozen = []) | none => false)

/-- BLOCK_ACCEPT (R497): a source delivers bytes of blocks; one whole block is checked and written. -/
def execBlockAccept (src : Fin 7) (bytes : List (BitVec 8)) (s : State) : Host.Outcome State Fault Refusal :=
  match s.ld.img with
  | none => done s
  | some i =>
    if s.get R.LD_STATUS_SRC ≠ src.val then done (s.ldPost 15 0 0x0140)
    else
      let s1 := s.ldTake (bytes.map (fun (b : BitVec 8) => b.toNat))
      let s2 := if i.kind = 3 ∧ s1.ldState = ldCLEAR then s1.shadowBegin i else s1
      if (s2.ldState ≠ ldBLOCKS ∧ s2.ldState ≠ ldSEED) ∨ s2.refilling then done s2
      else if s2.get R.LD_STATUS_SRC = srcPULL ∧ 65536 * s2.ld.limit < s2.ld.taken then done (s2.ldStop 0x0108)
      else if s2.ld.buf.length < 65536 then done s2
      else done ((s2.setLd { s2.ld with buf := s2.ld.buf.drop 65536 }).ldBlock i (s2.ld.buf.take 65536))

/-! ## Sources and commands -/

/-- PUSH_WRITE (R488, R489, R510): words of a write into the intake window, as bytes. -/
def State.pushWrite (s : State) (src : Nat) (bytes : List Nat) : State :=
  let owner := s.get R.LD_STATUS_OWNER
  if !s.srcOk src then s.reply 0x010E 0
  else match s.ld.discard with
    | some (2, code) => if src = owner then s.reply code 0 else s.reply 0x0140 0
    | _ =>
      if s.mode0 = mSTANDBY ∨ s.mode0 = mOFF then s.reply 0x0104 0
      else if s.ldState = ldIDLE then ((s.ldStart srcPUSH 0 0 15 src).ldTake bytes).reply 0 0
      else if s.get R.LD_STATUS_SRC = srcPUSH ∧ src = owner then
        if s.ldState = ldRELEASE then s.reply 0x0140 0
        else if s.ld.buf.length + bytes.length ≤ 262144 then (s.ldTake bytes).reply 0 0 else s
      else s.reply 0x0140 0

/-- PUSH_WRITE (R489). -/
def execPushWrite (src : SrcId) (bytes : List (BitVec 8)) (s : State) : Host.Outcome State Fault Refusal :=
  done (s.pushWrite src (bytes.map (fun (b : BitVec 8) => b.toNat)))

/-- PUSH_REFUSAL_TIMEOUT (R510). -/
def execPushRefusalTimeout (s : State) : Host.Outcome State Fault Refusal :=
  match s.ld.discard with
  | some (2, _) => done (s.setLd { s.ld with discard := none })
  | _ => done s

/-- ABORT (R506): a running load ends, and a full load takes the device to BOOT. -/
def State.ldAbort (s : State) : State :=
  if s.ldState = ldIDLE then s.ldPost 3 0 0
  else match s.ld.img with
    | none =>
      match s.ld.seedFor with
      | some 0 => ((s.ldFinish 0 0x010F).trigger 0x0F 0).ldPost 3 0 0
      | some q => (s.seedFail q 0x010F).ldPost 3 0 0
      | none => (s.ldRefuse 0x010F).ldPost 3 0 0
    | some i =>
      if s.mode0 = mLOAD then
        let s1 := ((s.ldRecord 0 s.ld.next 0x010F 0 0).raise 0x0161 0 0).ldFinish 0 0x010F
        (s1.trigger 0x0F 0).ldPost 3 0 0
      else if i.kind = 3 then ((s.ldFail i.part 0x010F 0 0).shadowFail i.part 0x010F).ldPost 3 0 0
      else if i.kind = 2 then ((s.ldFail i.part 0x010F 0 0).partFail i.part s.ld.seedFor.isNone).ldPost 3 0 0
      else (s.ldRefuse 0x010F).ldPost 3 0 0

/-- Whether CFG_ERR_L stays low for partition 0's own failure (R505): until the crown seed's step 9, and in the SAFE that follows the failure. -/
def State.crownDown (s : State) : Bool :=
  (decide (s.mode0 = mLOAD) && (decide (s.ld.seedFor = some 0) || s.has R.LD_STATUS_SEEDED))
    || (decide (s.mode0 = mSAFE) && decide (s.get R.DEV_MODE_CAUSE = 0x08))

/-- A write of LD_CMD (R488, R512). -/
def State.ldCmd (s : State) (src v : Nat) : State :=
  let op := bits v 0 4
  let part := bits v 4 5
  let addr := s.get R.LD_ARG_ADDR
  if !s.srcOk src then s.ldPost op part 0x010E
  else match op with
    | 0 => s.ldPost 0 part 0
    | 1 =>
      if s.ldState ≠ ldIDLE then s.ldPost 1 part 0x0140
      else if addr % 65536 ≠ 0 ∨ 2 ^ 32 ≤ addr then s.ldPost 1 part 0x0146
      else (s.expect R.LD_RESULT_STATUS).ldStart srcFLASH addr 0 1 0
    | 2 =>
      if s.ldState ≠ ldIDLE then s.ldPost 2 part 0x0140
      else if addr % 4 ≠ 0 ∨ bits v 32 16 = 0 then s.ldPost 2 part 0x0146
      else (s.expect R.LD_RESULT_STATUS).ldStart srcPULL addr (bits v 32 16) 2 0
    | 3 => s.ldAbort
    | 4 => if part = 0 ∨ s.ptState part ≠ 3 then s.ldPost 4 part 0x0146
           else (if s.crownDown then s.setPart part 0 else (s.setPart part 0).showCfgErr).ldPost 4 part 0
    | _ => s.ldPost op part 0x0146

/-- LD_ARG and LD_CMD are 64-bit writes that commit at once (R7). -/
def State.ldCommit (s : State) : State := (s.commit R.LD_ARG_ADDR.addr).commit R.LD_CMD_OP.addr

/-- LD_FLASH (R488): LD_ARG and LD_CMD written one after the other. -/
def execLdFlash (src : SrcId) (addr : BitVec 44) (s : State) : Host.Outcome State Fault Refusal :=
  done ((((if s.srcOk src then s.set R.LD_ARG_ADDR addr.toNat else s).ldCommit).ldCmd src 1).reply 0 0)
/-- LD_PULL (R488): LD_ARG and LD_CMD written one after the other. -/
def execLdPull (src : SrcId) (addr : BitVec 44) (limit : BitVec 16) (s : State) : Host.Outcome State Fault Refusal :=
  done ((((if s.srcOk src then s.set R.LD_ARG_ADDR addr.toNat else s).ldCommit).ldCmd src (2 + limit.toNat * 2 ^ 32)).reply 0 0)
/-- LD_ABORT (R506). -/
def execLdAbort (src : SrcId) (s : State) : Host.Outcome State Fault Refusal := done (((s.commit R.LD_CMD_OP.addr).ldCmd src 3).reply 0 0)
/-- LD_CLRERR (R508). -/
def execLdClrerr (src : SrcId) (part : Fin 32) (s : State) : Host.Outcome State Fault Refusal :=
  done (((s.commit R.LD_CMD_OP.addr).ldCmd src (4 + part.val * 16)).reply 0 0)

/-- The data timeout (R506, R43): an armed request or an unfinished stream ends. -/
def State.ldTimeout (s : State) : State :=
  if s.ldState = ldIDLE then
    (if s.mode.armed then { s.postMode 0x0108 3 with mode := { s.mode with armed := false, request := none } } else s)
  else if s.ldState = ldRELEASE then s
  else if s.ldState = ldCLEAR then s
  else s.ldStop 0x0108

/-- LOAD_DATA_TIMEOUT (R506). -/
def execLoadDataTimeout (s : State) : Host.Outcome State Fault Refusal := done s.ldTimeout

/-- LD_CTRL and LD_ARG (R512). -/
def State.ldCfgWrite (s : State) (src off v : Nat) : State :=
  if !s.srcOk src then s.reply 0x010E 0
  else if off = 8 then (if bits v 0 16 = 0 then s.reply 0x0146 0 else (s.set R.LD_CTRL_TIMEOUT (bits v 0 16)).reply 0 0)
  else (s.set R.LD_ARG_ADDR (bits v 0 44)).reply 0 0

/-! ## The full load (R504) -/

/-- Step 1, at the entry to LOAD: boughs stop, CFG_DONE falls. -/
def State.ldEnter (s0 : State) : State :=
  let s := s0.glEmpty
  let s1 := (List.range 64).foldl (fun t b => (((t.drainNow b).p0Lapse b).fallEnd b).boughTake b) s
  let s2 := s1.sets [(R.LD_STATUS_CFG_DONE, 0), (R.LD_STATUS_SEEDED, if s1.ld.seedFor = some 0 then s1.get R.LD_STATUS_SEEDED else 0),
    (R.LD_STATUS_CFG_ERR, if s1.ld.seedFor = some 0 then 1 else 0)]
  match s2.ld.img with
  | some i => s2.defineParts i
  | none => s2

/-- The crown clocks return to their reset values (R504 step 2): MON_0 to MON_15, CP_0 to CP_13, every global line. -/
def State.crownClocksReset (s : State) : State :=
  let lock := s.get R.CK_STATUS_CP_LOCK
  { (s.set R.CK_STATUS_CP_LOCK (lock / 2 ^ 14 * 2 ^ 14)) with
    regs := SMap.without (s.set R.CK_STATUS_CP_LOCK (lock / 2 ^ 14 * 2 ^ 14)).regs (fun k =>
      let a := k / 64
      (decide (0x41000010100 ≤ a) && decide (a < 0x410000102E0)) || (decide (0x41000010300 ≤ a) && decide (a < 0x41000010400)))
    clk := { s.clk with
      monPasses := []
      gclEff := []
      muxSw := SMap.without s.clk.muxSw (fun m => decide (m < 14) || (decide (16 ≤ m) && decide (m < 48)))
      muxLow := s.clk.muxLow.filter (fun m => !(decide (m < 14) || (decide (16 ≤ m) && decide (m < 48)))) } }

/-- LOAD_CLEAR_COMPLETE (R504 step 2). -/
def execLoadClearComplete (s : State) : Host.Outcome State Fault Refusal :=
  match s.ld.img with
  | none => done s
  | some i =>
    if s.mode0 ≠ mLOAD ∨ s.mode.trans ≠ none ∨ s.ldState ≠ ldCLEAR then done s
    else
      let s1 := (List.range 64).foldl (fun t b => t.clearBough b) s
      let s2 := (List.range 32).foldl (fun t q => (((t.setPart q 0).clearPartPlane q 0).clearPartPlane q 1).sets
        [(R.PT_STAT_PLANE q, 0), (R.PT_STAT_SHADOW q, 0), (R.PT_STAT_ACT q, 0)]) s1
      done ((s2.crownClocksReset.set R.LD_STATUS_STATE ldBLOCKS).ldFreq i)

/-- Whether steps 5 and 6 are done: every enabled crown PLL locked, every loaded bough at its state (R504). -/
def State.releaseReady (s : State) : Bool :=
  (List.range 14).all (fun p => !s.has (R.CP_CFG_EN p) || decide (bit (s.get R.CK_STATUS_CP_LOCK) p = 1))
    && (List.range 64).all (fun b => match s.partOf b with
      | some q => !(decide (s.ptState q = 1) || decide (s.ptState q = 2)) || s.opReady b (SMap.get s.ld.init 0 b)
      | none => true)

/-- Whether a DARK image's boughs stand ready (R522 step 6). -/
def State.darkReady (s : State) (q : Nat) : Bool := (s.partBoughs q).all (fun b => s.opReady b (SMap.get s.ld.init 0 b))

/-- The partition that a partial load or a seed in RUN is about to release. -/
def State.darkPart (s : State) : Option Nat :=
  if s.mode0 = mRUN ∧ s.ldState = ldRELEASE then
    match s.ld.img with
    | some i => if i.kind = 2 then some i.part else none
    | none => none
  else none

/-- LOAD_PLL_TIMEOUT (R504, R522 step 6). -/
def execLoadPllTimeout (s : State) : Host.Outcome State Fault Refusal :=
  match s.darkPart with
  | some q =>
    if s.darkReady q then done s
    else if s.ld.seedFor = none then done ((s.ldFail q 0x0145 0 0).partFail q true)
    else done (s.seedFail q 0x0148)
  | none =>
    if s.mode0 = mLOAD ∧ s.ldState = ldRELEASE ∧ !s.releaseReady then done ((s.ldFail 0 0x0145 0 0).crownFail) else done s

/-- LOAD_RELEASE (R504 steps 7 to 9, R724). -/
def execLoadRelease (s : State) : Host.Outcome State Fault Refusal :=
  if s.mode0 ≠ mLOAD ∨ s.ldState ≠ ldRELEASE ∨ s.mode.trans ≠ none ∨ !s.releaseReady then done s
  else
    let s0 := s.ioApply ((s.ld.img.map (fun i => i.imageId)).getD (2 ^ 64 - 1))
    let s1 := (List.range 64).foldl (fun t b => match t.partOf b with
      | some q => if (t.ptState q = 1 ∨ t.ptState q = 2) ∧ t.opState b ≠ 0 then t.boughRelease b else t
      | none => t) s0
    let s2 := (s1.put R.LD_STATUS_CFG_DONE true).showCfgErr.raise 0x0160 0 0
    let code := match s.ld.failed with
      | [] => 0
      | e :: _ => e.2
    done ((s2.ldFinish 0 code).trigger 0x06 0)

end Sys2Proof.Machine
end

