-- ==== Sys2Proof/Machine/Partitions.lean ====
section
/-!
DEFINITION. Partitions in RUN (chapter 17): the ends of dark and shadow loads, the swap with its freeze, release and refill, and
the flip-flop capture with its readback.
-/
namespace Sys2Proof.Machine
open Sys2Proof

/-! ## The dark load (R522) -/

/-- DARK_LOAD_DRAINED (R522 steps 2 to 4): every port 0 of the partition has drained; its boughs stop and are cleared. -/
def execDarkLoadDrained (s : State) : Host.Outcome State Fault Refusal :=
  match s.ld.img with
  | none => done s
  | some i =>
    let q := i.part
    if s.mode0 ≠ mRUN ∨ s.ldState ≠ ldCLEAR ∨ i.kind ≠ 2 ∨ s.ld.seedFor ≠ none ∨ s.swapOf q ≠ none then done s
    else if (s.partBoughs q).any (fun b => decide (s.p0 b ≠ p0ASLEEP)) then done s
    else
      let s2 := (((s.partBoughs q).foldl (fun (t : State) b => t.boughTake b) s).clearPart q).ldFreq i
      done ({ s2 with pt := { s2.pt with keysel := SMap.set s2.pt.keysel 0 q i.keysel } }.set R.LD_STATUS_STATE ldBLOCKS)

/-- DARK_LOAD_RELEASE (R522 steps 7 to 9, R523): also the release of a partition that was loaded from its seed in RUN. -/
def execDarkLoadRelease (s : State) : Host.Outcome State Fault Refusal :=
  match s.darkPart with
  | none => done s
  | some q =>
    if !s.darkReady q then done s
    else
      let s1 := (s.partBoughs q).foldl (fun (t : State) b => if t.opState b = 0 then t else t.boughRelease b) s
      let s2 := ((s1.setPart q (if s.ld.seedFor = none then 1 else 2)).set (R.PT_STAT_ACT q) 0).showCfgErr
      done ((s2.raise 0x0134 0 0).ldFinish q ((s.ld.failed.headD (q, 0)).2))

/-! ## The shadow load (R524) -/

/-- The map of the stage slots, each with the digest of its bytes as written (R525). -/
def State.stageDigests (s : State) : List StageSlot :=
  (List.range s.ld.slots.length).filterMap (fun n => s.ld.slots[n]?.map (fun (b, k, raw) =>
    ⟨b, k, raw, Config.sha384 ((List.range 9216).map (fun i => SMap.get s.ld.stageImg 0 (9216 * n + i)))⟩))

/-- Breaches of R155 by the blocks of a shadow plane: 0x0726 for contents that the image does not carry, 0x0727 for a kept block
whose MODE changes. -/
def State.keepBreach (s : State) (b : Nat) : Option (Nat × Nat × Nat) :=
  let p := (s.bough b).plane
  (List.range 128).findSome? (fun k =>
    let w := s.pBlock (1 - p) b k
    let ord := frameOrd (bmRow k) (bmCol k) 4
    if bits w 24 2 = 2 ∧ !s.ld.slots.any (fun e => decide (e.1 = b) && decide (e.2.1 = k)) then some (ord, 64 * (k % 4) + 24, 0x0726)
    else if bits w 24 2 = 0 ∧ bits w 1 2 ≠ bits (s.pBlock p b k) 1 2 then some (ord, 64 * (k % 4) + 1, 0x0727)
    else none)

/-- SHADOW_LOAD_COMPLETE (R524 steps 4 and 5, R499, R525, R527); a CSTAGE of an image without contents, which its header could not show, fails here. -/
def execShadowLoadComplete (s : State) : Host.Outcome State Fault Refusal :=
  match s.ld.img with
  | none => done s
  | some i =>
    let q := i.part
    let plane := 1 - s.get (R.PT_STAT_PLANE q)
    if s.ldState ≠ ldRELEASE ∨ i.kind ≠ 3 then done s
    else
      let bs := s.partBoughs q
      let breach := (bs.findSome? (fun b => (s.planeBreach plane b).map (fun x => (b, x)))).orElse
        (fun _ => bs.findSome? (fun b => (s.keepBreach b).map (fun x => (b, x))))
      match breach with
      | some (b, ord, o, c) =>
        let f := frameAt ord
        done ((s.ldFail q 0x0109 c (ldLoc plane b f.1 f.2.1 f.2.2 o)).shadowFail q 0x0109)
      | none =>
        if i.cstage ≠ 0 ∧ s.ld.slots = [] then done ((s.ldFail q 0x0119 0 0).shadowFail q 0x0119)
        else
          let t1 := { s with pt := { s.pt with
              cstage := SMap.set s.pt.cstage 0 (2 * q + plane) i.cstage
              stage := SMap.set s.pt.stage [] (2 * q + plane) s.stageDigests
              keysel := if i.keysel = 0 then s.pt.keysel else SMap.set s.pt.keysel 0 q i.keysel } }
          done (((t1.sets [(R.PT_STAT_SHADOW q, 2), (R.PT_STAT_ACT q, 0)]).raise 0x0135 0 0).ldFinish q 0)

/-! ## The swap (R528 to R536) -/

def ptSwapAddr : Nat := R.PT_SWAP_POP_PART.addr

/-- Whether a dark load of a partition is accepted and unfinished, its seed among them. -/
def State.darkOf (s : State) (q : Nat) : Bool :=
  s.ld.waitSeeds.contains q || decide (s.ld.seedFor = some q)
    || (match s.ld.img with | some i => decide (i.kind = 2) && decide (i.part = q) | none => false)

/-- The first check of R528 that fails; 0 for none. -/
def State.swapRefusal (s : State) (q : Nat) : Nat :=
  if s.mode0 ≠ mRUN then 0x0116
  else if q = 0 then 0x0113
  else if !s.has (R.PT_STAT_DEFINED q) ∨ s.ptState q = 0 then 0x0110
  else if s.ptState q = 3 then 0x0111
  else if s.darkOf q then 0x0112
  else if s.swapOf q ≠ none then 0x0115
  else if s.get (R.PT_STAT_SHADOW q) ≠ 2 then 0x0117
  else if (s.partBoughs q).any (fun b => decide (s.opState b = 0) || decide (3 < s.opState b)) then 0x0114
  else 0

def State.setSwap (s : State) (q : Nat) (x : Option Swap) : State :=
  { s with pt := { s.pt with swaps := SMap.set s.pt.swaps none q x } }

/-- A firing of KIND 0x5 for one partition (R324, R528, R542): the code that its slot records. -/
def State.swapFire (s : State) (q : Nat) : State × Nat :=
  let code := s.swapRefusal q
  let w := q + 2 ^ 5 + code * 2 ^ 16 + s.now32 * 2 ^ 32
  let s1 := (s.set (R.PT_STAT_LAST_STATUS q) code).enqueue ptSwapAddr 32 (2 ^ 6) w
  if code ≠ 0 then (s1.raise 0x0131 0 w, code)
  else ((s1.setSwap q (some ⟨s1.partBoughs q, [], [], s1.tp.tick⟩)).set (R.PT_STAT_ACT q) 3, 0)

/-- A swap has ended; a load that waited for it goes on (R522 step 1, R524 step 1). -/
def State.swapEnd (s : State) (q : Nat) : State :=
  let s1 := (s.setSwap q none).set (R.PT_STAT_ACT q) 0
  match s1.ld.img with
  | none => s1
  | some i =>
    if s1.ldState ≠ ldCLEAR ∨ i.part ≠ q ∨ s1.ld.seedFor ≠ none then s1
    else if i.kind = 2 then (s1.partBoughs q).foldl (fun (t : State) b => t.drainStart b) (s1.set (R.PT_STAT_ACT q) 1)
    else if i.kind = 3 then (s1.set (R.PT_STAT_ACT q) 2).shadowBegin i
    else s1

/-- Writes of cascades whose edge fell before the freeze are completed at their members (R150, R154). -/
def State.cascadeFinish (s : State) (b : Nat) : State :=
  (List.range 128).foldl (fun (t : State) k =>
    let w := t.blockWord b k
    let req (p : Nat) : Option (Nat × BmReq) := match (t.bmPort b k p).inStage with
      | some a => if a.en ∧ (portReq w p a).wmask ≠ 0 then some (k + a.caddr % cascLen w, portReq w p a) else none
      | none => none
    let same := decide (bits w 15 4 = bits w 19 4)
    match req 0, req 1 with
    | none, none => t
    | some (x, r), none => (t.bmServe b x same (some r) none).1
    | none, some (x, r) => (t.bmServe b x same none (some r)).1
    | some (x, r), some (y, u) =>
      if x = y then (t.bmServe b x same (some r) (some u)).1
      else ((t.bmServe b x same (some r) none).1.bmServe b y same none (some u)).1) s

/-- The pending register latches of a bough commit (R526, R531). -/
def State.heldCommit (s : State) (b : Nat) : State :=
  let lo := Config.rp b 3
  let es := s.pt.held.filter (fun (e : Nat × Nat) => decide (lo ≤ e.1) && decide (e.1 < lo + 0x5000))
  (es.foldl (fun (t : State) (e : Nat × Nat) =>
    let u := t.boughRegWrite b (e.1 - lo) (e.2 - 1)
    if u.answer.status = 0 then { u with answer := s.answer } else t.raise 0x0132 0 u.answer.status) s).clearHeld b

/-- The flip-flop that a carry-list entry names (R537, R105). -/
def carryKey (b e : Nat) : Nat :=
  let j := bits e 3 5
  ffKey b (bits e 0 3) (10 * (j / 8) + (if j % 8 < 4 then j % 8 else j % 8 + 1)) (bits e 8 5) (bits e 13 3) (bit e 16)

/-- S0 to S3 of one bough (R530, R362, R154, R213): its new plane is active, its design as the plane gives it, its lines stopped. -/
def State.swapFreeze (s : State) (b : Nat) : State :=
  let s1 := (((s.settled.linesStop b).clamp b).p0Hold b).cascadeFinish b
  let plane := 1 - (s1.bough b).plane
  let s2 := (s1.setBough b { s1.bough b with plane := plane }).heldCommit b
  let carry := (SMap.get s2.pt.carry [] (64 * plane + b)).map (carryKey b)
  let s3 := (((s2.ffClear b carry.contains).ffInit b carry.contains).clearLinks b).clearSlices b false
  let s4 := s3.bmClearPorts b
  let s5 := s4.setBough b { s4.bough b with trig := 0, trigPend := [], mark := 0, relLines := 0 }
  let s6 := (List.range 128).foldl (fun (t : State) k =>
    match bits (t.blockWord b k) 24 2 with
    | 1 => { t.bmZero b k with fab := { (t.bmZero b k).fab with bmNotReady := SMap.set t.fab.bmNotReady 0 (b * 128 + k) 0 } }
    | 2 => { t with fab := { t.fab with bmNotReady := SMap.set t.fab.bmNotReady 0 (b * 128 + k) 1 } }
    | _ => t) s5
  (((List.range 32).foldl (fun t a => t.sqRestart b a) s6).setRun b .frozen).settled

/-- SWAP_FREEZE (R529, R530): S0 of a bough whose partition's swap was accepted, 5.0 ns or more after the firing tick. -/
def execSwapFreeze (b : BoughId) (s : State) : Host.Outcome State Fault Refusal :=
  match s.partOf b with
  | none => done s
  | some q =>
    match s.swapOf q with
    | none => done s
    | some x =>
      if !x.freeze.contains b.val ∨ s.tp.tick < x.tick + 4 then done s
      else
        let s1 := s.swapFreeze b
        done ((s1.setSwap q (some { x with freeze := x.freeze.filter (fun k => decide (k ≠ b.val)), frozen := x.frozen ++ [b.val] })).set
          (R.PT_STAT_PLANE q) (s1.bough b).plane)

/-- Whether the plane just left active could be made active again without a load (R535). -/
def State.swapBackOk (s : State) (q : Nat) : Bool :=
  (s.partBoughs q).all (fun b =>
    let p := (s.bough b).plane
    (List.range 128).all (fun k =>
      let w := s.pBlock (1 - p) b k
      decide (bits w 24 2 ≠ 2) && !(decide (bits w 24 2 = 0) && decide (bits w 1 2 ≠ bits (s.pBlock p b k) 1 2))))

/-- S24 of a bough (R530): in RUN it runs, clear of release settings since S2 set its flip-flops, a port that the freeze holds opens (R362), and a change to
REST or OFF whose drain has ended goes on (R275). Where a transition leaves RUN, or has left it, the bough stays clamped in the state of the new mode, its port
ASLEEP (R534, R359). -/
def State.swapOpen (s : State) (b : Nat) : State :=
  if s.mode0 = mRUN ∧ s.mode.trans = none then
    let t := (s.boughResume b).edgeWarn b
    (if t.p0 b = p0HELD then t.p0Open b else t).opDrained b
  else (s.setRun b .stopped).p0Lapse b

/-- S24 of a bough, with the end of its partition's swap (R530, R534, R535, R536). -/
def State.swapRelease (s : State) (b : Nat) : State :=
  match s.partOf b with
  | none => s
  | some q =>
    match s.swapOf q with
    | none => s
    | some x =>
      if !x.frozen.contains b then s
      else
        let s1 := s.swapOpen b
        let fill := ((List.range 128).filter (fun k => decide (bits (s1.blockWord b k) 24 2 = 2))).map (fun k => (b, k))
        let y : Swap := ⟨x.freeze, x.frozen.filter (fun k => decide (k ≠ b)),
          x.refill.filter (fun e => decide (e.1 < b)) ++ fill ++ x.refill.filter (fun e => decide (b < e.1)), x.tick⟩
        let s2 := s1.setSwap q (some y)
        if y.freeze ≠ [] ∨ y.frozen ≠ [] then s2
        else
          let s3 := ((s2.bump (R.PT_STAT_SWAPS q) 1).set (R.PT_STAT_SHADOW q) (if s2.swapBackOk q then 2 else 4)).raise 0x0130 0 0
          if y.refill = [] then s3.swapEnd q else s3

/-- A partition fails in RUN outside a load of its own (R523, R536, R556): its boughs are drained and clamped and its seed is loaded
as soon as the loader is free, or it becomes ERROR. `useSeed` false never takes the seed. -/
def State.partDown (s : State) (q : Nat) (useSeed : Bool) : State :=
  let s0 := s.setSwap q none
  if useSeed ∧ s.hasSeed q then
    let s1 := ((s0.partBoughs q).foldl (fun (t : State) b => t.fall b 1) s0).set (R.PT_STAT_ACT q) 1
    let s2 := s1.setLd { s1.ld with waitSeeds := s1.ld.waitSeeds ++ [q] }
    if s2.ldState = ldIDLE then s2.ldWaiting else s2
  else s0.partError q

/-- The rows of a slot, written to a block (R525, R536); each counts for an armed injection (R158). -/
def State.refillRows (s : State) (b k : Nat) (raw : Bool) (d : List Nat) : Nat → State
  | 0 => s
  | n + 1 =>
    let v := leField d ((if raw then 18 else 16) * n) (if raw then 18 else 16)
    ((s.refillRows b k raw d n).setBmData b k n (if raw then v else symEncode v)).bmInject b k n (!raw)

/-- READY of a block rises. -/
def State.blockReady (s : State) (b k : Nat) : State :=
  { s with fab := { s.fab with bmNotReady := SMap.set s.fab.bmNotReady 0 (b * 128 + k) 0 } }

/-- SWAP_REFILL_BLOCK (R536): the next block of a partition's refill. -/
def execSwapRefillBlock (q : Fin 32) (s : State) : Host.Outcome State Fault Refusal :=
  match s.swapOf q with
  | none => done s
  | some x =>
    match x.refill with
    | [] => done s
    | (b, k) :: rest =>
      if x.freeze ≠ [] ∨ x.frozen ≠ [] then done s
      else
        let key := 2 * q.val + s.get (R.PT_STAT_PLANE q)
        let slots := SMap.get s.pt.stage [] key
        let n := (slots.findIdx? (fun e => decide (e.b = b) && decide (e.k = k))).getD 0
        match slots[n]? with
        | none =>
          let t := (s.blockReady b k).setSwap q (some { x with refill := rest })
          done (if rest = [] then t.swapEnd q else t)
        | some e =>
          let (t, st, d) := s.stageRead (SMap.get s.pt.cstage 0 key + 9216 * n) 144
          if st = 0 ∧ Config.sha384 d = e.digest then
            let t1 := ((t.refillRows b k e.raw d 512).blockReady b k).setSwap q (some { x with refill := rest })
            done (if rest = [] then t1.swapEnd q else t1)
          else
            let f := t.fresh 19
            let t1 := x.refill.foldl (fun (u : State) (y : Nat × Nat) => (u.bmZero y.1 y.2).blockReady y.1 y.2) f.2
            done (((t1.raise 0x0133 0 f.1).swapEnd q).partDown q true)

/-- PT_SWAP_POP (R542). -/
def execPtSwapPop (s : State) : Host.Outcome State Fault Refusal := done (s.popRead ptSwapAddr)

/-! ## Capture and readback (R538 to R542) -/

/-- Whether a bough's latches read 0 (R539). -/
def State.latchDark (s : State) (b : Nat) : Bool :=
  decide ((s.bough b).run = .loading) || decide ((s.bough b).run = .off) || decide ((s.bough b).run = .empty)

/-- A capture of the boughs of a mask starts (R538): its T_c is 5.0 ns after the present tick. -/
def State.ffCapture (s : State) (mask : Nat) : State :=
  (boughList mask).foldl (fun (t : State) b =>
    ({ t with pt := { t.pt with capPend := SMap.set t.pt.capPend none b (some ⟨t.nowFull + 5 * 65536, t.tp.tick, false⟩) } }).sets
      [(R.RB_CAP_VALID b, 0), (R.RB_CAP_STALE b, 1)]) s

/-- RB_CAP_POST (R539), once the latches have taken: `held` says that some running line gave no edge within 1 µs of T_c. -/
def execRbCapPost (b : BoughId) (held : Bool) (s : State) : Host.Outcome State Fault Refusal :=
  match SMap.get s.pt.capPend none b.val with
  | none => done s
  | some c =>
    if !c.taken then done s
    else
      let h := held || !s.running b
      done ({ s with pt := { s.pt with capPend := SMap.set s.pt.capPend none b.val none } }.sets
        [(R.RB_CAP_TIME b, (c.time / 65536 % 2 ^ 32).toNat), (R.RB_CAP_SEQ b, s.get (R.RB_CAP_SEQ b) + 1), (R.RB_CAP_VALID b, 1),
          (R.RB_CAP_STALE b, 0), (R.RB_CAP_HELD b, ofFlag h)])

/-- A write of RB_CMD (R538, R542). -/
def State.rbCmd (s : State) (src v : Nat) : State :=
  if !s.srcOk src then s.post R.RB_RESULT_STATUS 0x010E
  else match bits v 0 4 with
    | 0 => s.post R.RB_RESULT_STATUS 0
    | 1 => (s.ffCapture (s.get R.RB_MASK_BOUGHS)).post R.RB_RESULT_STATUS 0
    | _ => s.post R.RB_RESULT_STATUS 0x0125

/-- RB_CAPTURE (R538): RB_CMD CAPTURE. -/
def execRbCapture (src : SrcId) (s : State) : Host.Outcome State Fault Refusal := done ((s.rbCmd src 1).reply 0 0)

/-- A write of PT_CTRL_q (R542). -/
def State.ptCtrlWrite (s : State) (src q v : Nat) : State :=
  if !s.srcOk src then s.reply 0x010E 0
  else if q = 0 then s.reply 0 0
  else if bits v 0 2 = 3 then s.reply 0x0125 0
  else (s.set (R.PT_CTRL_POLICY q) (bits v 0 2)).reply 0 0

def rbSelFields : List Fld := [R.RB_SEL_B, R.RB_SEL_ROW, R.RB_SEL_COL, R.RB_SEL_INDEX, R.RB_SEL_PLANE]

/-- A write of RB_MASK or RB_SEL (R542). -/
def State.rbWrite (s : State) (src v : Nat) (sel : Bool) : State :=
  if !s.srcOk src then s.reply 0x010E 0
  else (if sel then s.setWord rbSelFields v else s.set R.RB_MASK_BOUGHS v).reply 0 0

/-- Whether the running load is writing a plane of a bough (R540). -/
def State.planeWritten (s : State) (plane b : Nat) : Bool :=
  match s.ld.img with
  | none => false
  | some i => decide (bit i.boughs b = 1) && decide (s.ldPlane i b = plane) && decide (s.ldState ≠ ldRELEASE)

/-- The refusal of a readback read (R541); 0 for none. -/
def State.readbackRefusal (s : State) (src b : Nat) : Nat :=
  let key := match s.partOf b with | some q => SMap.get s.pt.keysel 0 q | none => 0
  if key ≠ 0 then (if src = 65 then 0 else 0x0124)
  else if src = 33 ∨ src = 65 ∨ src = 97 ∨ (src = 161 ∧ s.dbgLevel ≠ 0) then 0 else 0x0124

/-- Bits 32w + 31 : 32w of the latch window of a bough (R540). -/
def State.latchWord (s : State) (b w : Nat) : Nat :=
  if s.latchDark b then 0
  else (List.range 32).foldl (fun a i =>
    let n := 32 * w + i
    let j := n / 384 % 32
    let o := n % 384
    a + SMap.get s.pt.capLatch 0 (ffKey b (n / 12288) (10 * (j / 8) + (if j % 8 < 4 then j % 8 else j % 8 + 1)) (o / 16) (o % 16 / 2) (o % 2)) * 2 ^ i) 0

/-- A read of a 32-bit word of the latch window or of the frame window (R540, R541). -/
def State.readbackRead (s : State) (src : Nat) (frame : Bool) (w : Nat) : State :=
  let b := s.get R.RB_SEL_B
  let row := s.get R.RB_SEL_ROW
  let col := s.get R.RB_SEL_COL
  let idx := s.get R.RB_SEL_INDEX
  let plane := s.get R.RB_SEL_PLANE
  let code := s.readbackRefusal src b
  if code ≠ 0 then s.reply code 0
  else if !frame then (if w < 3072 then s.reply 0 (s.latchWord b w) else s.reply 0x0203 0)
  else if 129 ≤ w then s.reply 0x0203 0
  else if !frameExists row col idx then s.reply 0x0125 0
  else if s.planeWritten plane b then s.reply 0x0126 0
  else s.reply 0 (if w < 128 then bits (s.frame plane b row col idx) (32 * w) 32 else s.frameChecks plane b row col idx)

/-- READBACK_READ (R540, R541). -/
def execReadbackRead (src : SrcId) (frame : Bool) (word : Fin 3072) (s : State) : Host.Outcome State Fault Refusal :=
  done (s.readbackRead src frame word)

end Sys2Proof.Machine
end

