-- ==== Sys2Proof/Machine/Timeline.lean ====
section
/-!
DEFINITION. The timeline scheduler and the capture units (chapter 10). A firing acts at its firing tick; a pin moves through its delay line, which is
released at the tick before where its target lies between the two (R328).
-/
namespace Sys2Proof.Machine
open Sys2Proof

/-- SRC values that R331's table gives a capture unit. -/
def cuSrcOk (src : Nat) : Bool := decide (src ≤ 0x121) || (decide (0x200 ≤ src) && decide (src < 0x300))

/-- R11 and R12: whether TIME48F value `v` is not earlier than `t`. -/
def notEarlier (v t : Nat) : Bool :=
  let d := signed 32 (v / 65536 % 2 ^ 32 + 2 ^ 32 - t / 65536 % 2 ^ 32)
  decide (d ≠ -2147483648) && (decide (0 < d) || (decide (d = 0) && decide (t % 65536 ≤ v % 65536)))

def tlLogAddr : Nat := 0x7E000000018

/-- Posts in TL_CMD_RESULT (R334). -/
def State.tlPost (s : State) (slot op code : Nat) : State :=
  ((s.sets [(R.TL_CMD_RESULT_SLOT, slot), (R.TL_CMD_RESULT_OP, op)]).post R.TL_CMD_RESULT_STATUS code).reply 0 0

def State.armed (s : State) (slot : Nat) : Bool := s.has (R.TL_SLOT_CTRL_ARMED slot)
def State.armedSlots (s : State) : List Nat := (List.range 256).filter s.armed

/-- Arms or disarms a slot: ARMED, TL_ARMED, NARMED. -/
def State.setArmed (s : State) (slot : Nat) (on : Bool) : State :=
  if s.armed slot = on then s
  else
    let f := R.TL_ARMED_ARMED (slot / 64)
    let m := s.get f
    let n := s.get R.TL_STATUS_NARMED
    let t := { s with tl := { s.tl with cut := SMap.set s.tl.cut 0 slot 0, released := s.tl.released.filter (fun k => decide (k ≠ slot)) } }
    t.sets [(R.TL_SLOT_CTRL_ARMED slot, ofFlag on), (f, if on then m + 2 ^ (slot % 64) else m - 2 ^ (slot % 64)),
      (R.TL_STATUS_NARMED, if on then n + 1 else n - 1)]

def State.pendingT (s : State) (slot : Nat) : Nat := SMap.get s.tl.target 0 slot
/-- The pending target of R317. TL_SLOT_TARGET keeps what was written, or what REL put there (R316); while armed it reads T[63:16]. -/
def State.setT (s : State) (slot t : Nat) : State :=
  { s with tl := { s.tl with target := SMap.set s.tl.target 0 slot (t % 2 ^ 64) } }

/-! ## Arming -/

/-- The destination check of R324 and R325. -/
def State.destOk (s : State) (kind args : Nat) : Bool :=
  let set := decide (s.get (R.TL_BSET_BOUGHS (args % 16)) ≠ 0)
  match kind with
  | 0 => decide (args = 0)
  | 1 => decide (args < 256) && set
  | 2 => decide (args < 2 ^ 40) && decide (bits args 6 2 = 0) && decide (bits args 8 32 ≠ 0) && set
  | 3 => decide (1 ≤ args) && decide (args ≤ 3)
  | 4 => decide (args < 256) && decide (bit args 3 = 0) && decide (bits args 4 4 ≠ 0)
  | 5 => decide (1 ≤ args) && decide (args < 2 ^ 32)
  | 6 => decide (args < 16) && set
  | 7 =>
    decide (args < 2 ^ 28) && decide (bits args 0 9 ≤ 287) && decide (bits args 9 3 ≤ 4)
      && decide ((bits args 9 3 = 2 ∨ bits args 9 3 = 3) ↔ bits args 12 16 ≠ 0)
  | _ => false

/-- The status of an ARM (R316 to R318, R324, R334) and the target it takes. -/
def State.armCheck (s : State) (src slot : Nat) (rel : Bool) : Nat × Nat :=
  let kind := s.get (R.TL_SLOT_DEST_KIND slot)
  let periodic := s.has (R.TL_SLOT_CTRL_PERIODIC slot)
  let forever := s.has (R.TL_SLOT_CTRL_FOREVER slot)
  let p := s.get (R.TL_SLOT_PERIOD_PERIOD slot)
  let vw := s.timeTick.time48 72
  let tg := s.get (R.TL_SLOT_TARGET_TARGET slot)
  let t := if rel then (vw + tg) % 2 ^ 48 else tg
  let code :=
    if s.mode0 ≠ mRUN then 0x0387
    else if s.armed slot then 0x0384
    else if (kind = 5 ∨ kind = 6) ∧ !s.srcOk src then 0x0388
    else if !s.destOk kind (s.get (R.TL_SLOT_DEST_ARGS slot)) then 0x0385
    else if (periodic ∧ (p < 10 * 2 ^ 32 ∨ 2 ^ 63 ≤ p)) ∨ ((!periodic ∨ forever) ∧ s.get (R.TL_SLOT_CTRL_COUNT slot) ≠ 0) then 0x0383
    else if rel then (if 2 ^ 47 ≤ tg then 0x0381 else if tg < 200 * 65536 then 0x0382 else 0)
    else if (tg / 65536 + 2 ^ 32 - vw / 65536) % 2 ^ 32 = 2 ^ 31 then 0x0381
    else if signed 48 (tg + 2 ^ 48 - vw) < 200 * 65536 then 0x0382
    else 0
  (code, t)

/-- TL_CMD ARM. -/
def State.tlArm (s : State) (src slot : Nat) (rel : Bool) : State :=
  let c := s.armCheck src slot rel
  if c.1 ≠ 0 then s.tlPost slot 1 c.1
  else if s.has (R.TL_SLOT_CTRL_PERIODIC slot) && !s.has (R.TL_SLOT_CTRL_FOREVER slot)
      && decide (s.get (R.TL_SLOT_CTRL_COUNT slot) = 0) then s.tlPost slot 1 0
  else (((s.sets [(R.TL_SLOT_STAT_DONE slot, 0), (R.TL_SLOT_TARGET_TARGET slot, c.2)]).setArmed slot true).setT slot (c.2 * 65536)).tlPost slot 1 0

/-- TL_ARM (R316). -/
def execTlArm (src : SrcId) (slot : Fin 256) (rel : Bool) (s : State) : Host.Outcome State Fault Refusal :=
  done ((s.commit R.TL_CMD_SLOT.addr).tlArm src slot rel)

/-- TL_CMD DISARM (R319): firings up to W + 64 still take place. -/
def State.tlDisarm (s : State) (slot : Nat) : State :=
  (if s.armed slot then
    { s with tl := { s.tl with cut := SMap.set s.tl.cut 0 slot (if SMap.get s.tl.cut 0 slot = 0 then s.tp.tick + 65
        else min (SMap.get s.tl.cut 0 slot) (s.tp.tick + 65)) } }
   else s).tlPost slot 2 0

/-- TL_DISARM (R319). -/
def execTlDisarm (_src : SrcId) (slot : Fin 256) (s : State) : Host.Outcome State Fault Refusal := done ((s.commit R.TL_CMD_SLOT.addr).tlDisarm slot)

def State.tlClrstat (s : State) (slot : Nat) : State :=
  (s.sets [(R.TL_SLOT_STAT_DONE slot, 0), (R.TL_SLOT_STAT_LOST slot, 0), (R.TL_SLOT_STAT_SKIPPED slot, 0),
    (R.TL_SLOT_STAT_LAST_STATUS slot, 0), (R.TL_SLOT_LAST_TIME slot, 0), (R.TL_SLOT_LAST_BAD slot, 0)]).tlPost slot 3 0

/-- TL_CLRSTAT (R334). -/
def execTlClrstat (_src : SrcId) (slot : Fin 256) (s : State) : Host.Outcome State Fault Refusal := done ((s.commit R.TL_CMD_SLOT.addr).tlClrstat slot)

/-- A write of TL_CMD (R334). -/
def State.tlCmd (s : State) (src v : Nat) : State :=
  let slot := bits v 0 8
  let op := bits v 8 4
  let rel := decide (bit v 12 = 1)
  if 4 ≤ op ∨ (rel ∧ op ≠ 1) then s.tlPost slot op 0x038A
  else match op with
    | 0 => s.tlPost slot 0 0
    | 1 => s.tlArm src slot rel
    | 2 => s.tlDisarm slot
    | _ => s.tlClrstat slot

/-- A write of a slot's CTRL (0), TARGET (1), PERIOD (2) or DEST (3) (R334). -/
def State.tlSlotWrite (s : State) (slot reg v : Nat) : State :=
  if s.armed slot then s.tlPost slot 15 0x0384
  else
    let l := match reg with
      | 0 => [R.TL_SLOT_CTRL_PERIODIC slot, R.TL_SLOT_CTRL_FOREVER slot, R.TL_SLOT_CTRL_STEPPOL slot, R.TL_SLOT_CTRL_EVT_EN slot,
          R.TL_SLOT_CTRL_LOG slot, R.TL_SLOT_CTRL_COUNT slot]
      | 1 => [R.TL_SLOT_TARGET_TARGET slot]
      | 2 => [R.TL_SLOT_PERIOD_PERIOD slot]
      | _ => [R.TL_SLOT_DEST_ARGS slot, R.TL_SLOT_DEST_KIND slot]
    (l.foldl (fun t f => t.set f (bits v f.lo f.w)) s).reply 0 0

/-! ## Firing -/

def maskList (m n : Nat) : List Nat := (List.range n).filter (fun i => decide (bit m i = 1))

/-- What one firing did: the state, the cause of R329 (0 for none), whether a part was merged, the trigger lines fired. -/
structure Fired where
  s : State
  cause : Nat
  merged : Bool
  lines : List (Nat × Nat)

/-- Whether a bough's trigger registers are clocked (R329). -/
def State.trgRuns (s : State) (b : Nat) : Bool :=
  s.running b && s.has (R.BCK_RUN b (s.trgClk b)) && s.gclLive (s.get (R.BCK_SRC b (s.trgClk b)))

/-- Firings of the trigger lines of a mask that come to a bough now (R326). Where TRG_CLK's global line takes TCLK, TPO_1 or TPO_2 they act at the first
TRG_CLK edge 5.0 ns later or after, and elsewhere at the first or second such edge (free place 34). -/
def State.trigArrive (s : State) (b mask : Nat) : State :=
  let f := if s.gclOfTime (s.get (R.BCK_SRC b (s.trgClk b))) then (0, s) else s.fresh 34
  let x := f.2.bough b
  f.2.setBough b { x with trigPend := x.trigPend ++ (maskList mask 16).map (fun k => ⟨k, s.tp.tick, decide (f.1 % 2 = 1)⟩) }

/-- A trigger firing (R326, R329, R320, R532). -/
def fireTrigger (s : State) (lines : List (Nat × Nat)) (boughs : List Nat) (line : Nat) : Fired :=
  boughs.foldl (fun r b =>
    if r.s.swapWaits b || !r.s.trgRuns b then { r with cause := 0x0390 }
    else if r.lines.contains (b, line) then { r with merged := true }
    else { r with s := r.s.trigArrive b (2 ^ line), lines := r.lines ++ [(b, line)] }) ⟨s, 0, false, lines⟩

/-- The level after a pin action (R328). -/
def pinAfter (action old : Nat) : Nat := match action with | 0 => 1 | 1 => 0 | 2 => 1 | 3 => 0 | _ => 1 - old

/-- The output stage of a timed pin moves now through a delay line (R328); a pulse's closing edge follows WIDTH ticks later. -/
def State.pinMove (s : State) (args steps : Nat) : State :=
  let pin := bits args 0 9
  let action := bits args 9 3
  let lv := pinAfter action (SMap.get s.tl.pinLevel 0 pin)
  { s with tl := { s.tl with
      pinLevel := SMap.set s.tl.pinLevel 0 pin lv
      pinSteps := SMap.set s.tl.pinSteps 0 pin steps
      closing := s.tl.closing ++ (if action = 2 ∨ action = 3 then [⟨s.tp.tick + bits args 12 16, pin, 1 - lv, steps⟩] else []) } }

/-- The delay-line steps from the value `v` of a release tick to a target (R328): round((target - V_f) * 200), 0 to 511. -/
def pinStepsOf (t48 v : Nat) : Nat := min 511 ((((t48 + 2 ^ 48 - v) % 2 ^ 48) * 200 + 32768) / 65536)

/-- A pin firing at its firing tick (R328, R329): the pin has been released before, or its target is this tick's value, or a step forces it now. -/
def firePin (s : State) (slot args : Nat) : State × Nat :=
  if s.tl.released.contains slot then ({ s with tl := { s.tl with released := s.tl.released.filter (fun k => decide (k ≠ slot)) } }, 0)
  else if s.get (R.IO_PIN_DIR (bits args 0 9)) ≠ 3 then (s, 0x0391)
  else (s.pinMove args 0, 0)

/-- A firing's action at its destination (R324 to R329). -/
def fireDest (s : State) (slot : Nat) (lines : List (Nat × Nat)) : Fired :=
  let args := s.get (R.TL_SLOT_DEST_ARGS slot)
  let t48 := s.pendingT slot / 65536
  let set := maskList (s.get (R.TL_BSET_BOUGHS (args % 16))) 64
  let lowest (l : List Nat) (f : State → Nat → State × Nat) : Fired :=
    l.foldl (fun r k => let x := f r.s k; { r with s := x.1, cause := if r.cause = 0 then x.2 else r.cause }) ⟨s, 0, false, lines⟩
  match s.get (R.TL_SLOT_DEST_KIND slot) with
  | 1 => if set.isEmpty then ⟨s, 0x0390, false, lines⟩ else fireTrigger s lines set (bits args 4 4)
  | 2 =>
    if set.isEmpty then ⟨s, 0x0390, false, lines⟩
    else ⟨set.foldl (fun t b => (maskList (bits args 8 32) 32).foldl (fun u a => u.sqArrive b a (bits args 4 2) 1) t) s, 0, false, lines⟩
  | 3 => lowest (maskList args 2) State.sysrefFire
  | 4 => lowest ((maskList (bits args 4 4) 4).map (fun c => 4 * bits args 0 3 + c)) (fun t ch => t.qbvStart ch t48)
  | 5 => lowest (maskList args 32) State.swapFire
  | 6 => if set.isEmpty then ⟨s, 0x0390, false, lines⟩ else ⟨s.ffCapture (s.get (R.TL_BSET_BOUGHS (args % 16))), 0, false, lines⟩
  | 7 => let x := firePin s slot args; ⟨x.1, x.2, false, lines⟩
  | _ => ⟨s, 0, false, lines⟩

/-- The TL_SLOT_STAT and TL_SLOT_LAST words. -/
def State.slotStat (s : State) (slot : Nat) : Nat :=
  s.word [R.TL_SLOT_STAT_DONE slot, R.TL_SLOT_STAT_LOST slot, R.TL_SLOT_STAT_SKIPPED slot, R.TL_SLOT_STAT_LAST_STATUS slot]
def State.slotLast (s : State) (slot : Nat) : Nat := s.word [R.TL_SLOT_LAST_TIME slot, R.TL_SLOT_LAST_BAD slot]

/-- The book of one firing (R318, R323, R329, R334): LOST, STAT, LAST, log, record, and events. -/
def fireBook (s : State) (slot status : Nat) (lost passed : Bool) : State :=
  let bad := s.timeBad 72
  let s1 := s.bump (R.TL_SLOT_STAT_DONE slot) 1
  let s2 := if lost then { s1.bump (R.TL_SLOT_STAT_LOST slot) 1 with tl := { s1.tl with lost := satAdd (2 ^ 32 - 1) s1.tl.lost 1 } } else s1
  let s3 := s2.sets [(R.TL_SLOT_STAT_LAST_STATUS slot, status), (R.TL_SLOT_LAST_TIME slot, s2.time48 72), (R.TL_SLOT_LAST_BAD slot, ofFlag bad)]
  let w := slot + 2 ^ 8 + ofFlag bad * 2 ^ 10 + status * 2 ^ 16 + s3.time48 72 / 2 ^ 16 * 2 ^ 32
  let log := s3.has (R.TL_SLOT_CTRL_LOG slot)
  let s4 := if log then s3.enqueue tlLogAddr 64 (2 ^ 9) w else s3
  let det := if log then w else 0
  let s5 := if passed then s4.raise 0x0392 slot det else s4
  let s6 := if status = 0x0390 ∨ status = 0x0391 then s5.raise status slot det else s5
  let s7 := if bad && !s6.tl.badSeen.contains slot then
      ({ s6 with tl := { s6.tl with badSeen := s6.tl.badSeen ++ [slot] } }).raise 0x0394 slot det else s6
  if s7.has (R.TL_SLOT_CTRL_EVT_EN slot) then s7.raiseTyped 3 status slot (s7.slotStat slot) [s7.slotLast slot] else s7

/-- After a firing or a skip that passed `n` periods (R315, R317, R318, R321): the target and COUNT advance. -/
def advance (s : State) (slot n : Nat) : State :=
  if !s.has (R.TL_SLOT_CTRL_PERIODIC slot) then s.setArmed slot false
  else
    let s1 := s.setT slot (s.pendingT slot + n * s.get (R.TL_SLOT_PERIOD_PERIOD slot))
    if s1.has (R.TL_SLOT_CTRL_FOREVER slot) then s1
    else
      let c := s1.get (R.TL_SLOT_CTRL_COUNT slot)
      let s2 := s1.set (R.TL_SLOT_CTRL_COUNT slot) (c - n)
      if c ≤ n then s2.setArmed slot false else s2

/-- Adds to a slot's SKIPPED (R321). -/
def skip (s : State) (slot n : Nat) : State :=
  if n = 0 then s
  else { s.bump (R.TL_SLOT_STAT_SKIPPED slot) n with tl := { s.tl with skipped := satAdd (2 ^ 32 - 1) s.tl.skipped n } }

/-- The periods that a target passes up to the value `v`, the first included. -/
def State.passedPeriods (s : State) (slot v : Nat) : Nat :=
  let p := s.get (R.TL_SLOT_PERIOD_PERIOD slot)
  if !s.has (R.TL_SLOT_CTRL_PERIODIC slot) ∨ p = 0 then 1
  else ((v * 65536 + 65535 + 2 ^ 64 - s.pendingT slot) % 2 ^ 64) / p + 1

/-- One slot that is due at this tick; `early` holds the causes of the captures that acted first (R320). A firing pulses source 288 + slot of the site
core's controller (R580). -/
def fireSlot (cur : Nat) (stepped : Bool) (early : List (Nat × Nat)) (r : State × List (Nat × Nat)) (slot : Nat) :
    State × List (Nat × Nat) :=
  let s := r.1
  let n := if stepped then s.passedPeriods slot cur else 1
  let counted := if s.has (R.TL_SLOT_CTRL_PERIODIC slot) && !s.has (R.TL_SLOT_CTRL_FOREVER slot) then
    min n (s.get (R.TL_SLOT_CTRL_COUNT slot)) else n
  if stepped && s.has (R.TL_SLOT_CTRL_STEPPOL slot) then
    (advance ((skip s slot counted).raise 0x0392 slot 0) slot n, r.2)
  else
    let f := match early.find? (fun e => decide (e.1 = slot)) with
      | some e => (⟨s, e.2, false, r.2⟩ : Fired)
      | none => fireDest s slot r.2
    let status := if f.cause ≠ 0 then f.cause else if stepped then 0x0392 else 0
    (advance (skip (fireBook (f.s.icPulseAt (288 + slot)) slot status (f.merged || decide (f.cause ≠ 0)) stepped) slot (counted - 1)) slot n, f.lines)

/-- The firings of one tick (R315, R319, R320): slots cut off by a DISARM fall out, flip-flop captures act first, then every
due slot in ascending order. -/
def State.fireTick (s : State) (stepped : Bool) : State :=
  let cur := s.time48 72
  let s1 := s.armedSlots.foldl (fun t k =>
    if SMap.get t.tl.cut 0 k ≠ 0 ∧ SMap.get t.tl.cut 0 k < t.tp.tick then t.setArmed k false else t) s
  let due := s1.armedSlots.filter (fun k => notEarlier cur (s1.pendingT k / 65536))
  let cap := due.filter (fun k => decide (s1.get (R.TL_SLOT_DEST_KIND k) = 6) && !(stepped && s1.has (R.TL_SLOT_CTRL_STEPPOL k)))
  let e := cap.foldl (fun (r : State × List (Nat × Nat)) k =>
    let f := fireDest r.1 k []; (f.s, r.2 ++ [(k, f.cause)])) (s1, [])
  (due.foldl (fireSlot cur stepped e.2) (e.1, [])).1

/-- What a backward step leaves of a pending target T (32.32) that the tick moved from the value `prev` to the value `new` (R322): the target, moved
back by the largest whole number of periods that leaves it later than `new`, and whether it then lies 2^31 ns or more after `new`. Distances are taken
along the move, so that a target that R11 would call earlier than `new` is known to lie ahead of it. -/
def backStep (period : Option Nat) (t prev new : Nat) : Nat × Bool :=
  let d : Int := ((t + 2 ^ 64 - prev * 65536) % 2 ^ 64 : Nat) - (signed 48 (new + 2 ^ 48 - prev) + 1) * 65536
  if d < 0 then (t, false)
  else
    let k := match period with | some p => if p = 0 then 0 else d.toNat / p * p | none => 0
    ((t + 2 ^ 64 - k) % 2 ^ 64, decide (2 ^ 63 ≤ d - k + 65536))

/-- The slots at a backward step (R322). -/
def State.backTick (s : State) (prev : Nat) : State :=
  s.armedSlots.foldl (fun t k =>
    let r := backStep (if t.has (R.TL_SLOT_CTRL_PERIODIC k) then some (t.get (R.TL_SLOT_PERIOD_PERIOD k)) else none) (t.pendingT k) prev (t.time48 72)
    if r.2 then ((t.setT k r.1).setArmed k false).raise 0x0386 k 0 else t.setT k r.1) s

/-- The pins that this tick releases for a firing at the next one (R328): the tick's value is the last that is not later than the target. A slot that a
DISARM cuts off before that, or that a step may pass over there, releases nothing. -/
def State.releasePins (s : State) : State :=
  let next := s.timeTick.time48 72
  let v := s.time48 72
  if s.tp.adj.any (fun e => decide (e.1 ≤ s.tp.tick + 1) && e.2.isStep) then s
  else (s.armedSlots.filter (fun k => decide (s.get (R.TL_SLOT_DEST_KIND k) = 7))).foldl (fun t k =>
    let t48 := t.pendingT k / 65536
    let args := t.get (R.TL_SLOT_DEST_ARGS k)
    let cut := SMap.get t.tl.cut 0 k
    if notEarlier v t48 || !notEarlier next t48 || decide (next = t48) || decide (cut ≠ 0 ∧ cut < t.tp.tick + 1)
      || decide (t.get (R.IO_PIN_DIR (bits args 0 9)) ≠ 3) || t.tl.released.contains k then t
    else { t.pinMove args (pinStepsOf t48 v) with tl := { (t.pinMove args (pinStepsOf t48 v)).tl with released := t.tl.released ++ [k] } }) s

/-- Pulses whose closing edge falls on this tick (R328). -/
def State.closePins (s : State) : State :=
  let now := s.tl.closing.filter (fun c => decide (c.tick ≤ s.tp.tick))
  now.foldl (fun t c => { t with tl := { t.tl with
      pinLevel := SMap.set t.tl.pinLevel 0 c.pin c.level
      pinSteps := SMap.set t.tl.pinSteps 0 c.pin c.steps } })
    { s with tl := { s.tl with closing := s.tl.closing.filter (fun c => decide (s.tp.tick < c.tick)) } }

/-- The timeline at one tick: `pre` is the state before it. A consumer that extrapolates follows no step (R292, R323). -/
def State.timelineTick (s pre : State) : State :=
  let stepDelta := if (SMap.get s.tp.heldTime none 72).isSome then 0 else pre.stepSum s.tp.tick
  let s1 := s.closePins.put R.TL_STATUS_BAD (s.timeBad 72)
  let s2 := if s1.timeBad 72 then s1 else { s1 with tl := { s1.tl with badSeen := [] } }
  (if stepDelta < 0 then (s2.backTick (pre.time48 72)).fireTick false else s2.fireTick (decide (0 < stepDelta))).releasePins

/-- TRG_SW (R326, R335): a firing at the write's arrival, lost as a firing is where the trigger registers are not clocked (R329). -/
def State.trgSw (s : State) (b mask : Nat) : State :=
  (if s.trgRuns b then s.trigArrive b (mask % 2 ^ 16) else s).reply 0 0
def execTrgSw (_src : SrcId) (b : BoughId) (mask : BitVec 16) (s : State) : Host.Outcome State Fault Refusal :=
  done (s.trgSw b mask.toNat)

/-- TL_LOG_POP (R22, R334). -/
def execTlLogPop (s : State) : Host.Outcome State Fault Refusal := done (s.popRead tlLogAddr)

/-! ## Capture units -/

def cuPopAddr (u : Nat) : Nat := 0x7E000006008 + 0x20 * u

/-- The present level of a capture input (R331): a mark register, or a pin as it was last seen. -/
def State.capLevel (s : State) (src : Nat) : Nat :=
  if 0x200 ≤ src then bit (s.bough ((src - 0x200) / 4)).mark (src % 4) else SMap.get s.tl.inLevel 0 src

/-- A write of CU_CFG_u (R331, R332, R334): a unit whose EN is set starts from the level that its input holds. -/
def State.cuWrite (s : State) (u v : Nat) : State :=
  let src := bits v 0 10
  if !cuSrcOk src ∨ bits v 11 2 = 3 then s.reply 0x0389 0
  else if bit v 10 = 1 ∧ s.mode0 ≠ mRUN then s.reply 0x0387 0
  else
    let fs := [R.CU_CFG_SRC u, R.CU_CFG_EN u, R.CU_CFG_EDGE u, R.CU_CFG_SINGLE u, R.CU_CFG_EVT_EN u, R.CU_CFG_DLY u]
    let s1 := fs.foldl (fun t f => t.set f (bits v f.lo f.w)) s
    let start := { s1 with tl := { s1.tl with unitLevel := SMap.set s1.tl.unitLevel 0 u (s1.capLevel src) } }
    (if bit v 10 = 1 ∧ !s.has (R.CU_CFG_EN u) then
      { start with tl := { start.tl with lastEdge := SMap.set start.tl.lastEdge none u none } }
     else if bit v 10 = 1 ∧ src ≠ s.get (R.CU_CFG_SRC u) then start else s1).reply 0 0

/-- CU_ENABLE (R332): EN is set in a write of CU_CFG_u; `level` is the level of its input, where that is a pin. -/
def execCuEnable (_src : SrcId) (u : Fin 32) (data : Word64) (level : Bool) (s : State) : Host.Outcome State Fault Refusal :=
  let v := data.toNat % 1024 + 1024 + data.toNat / 2048 * 2048
  done ({ s with tl := { s.tl with inLevel := SMap.set s.tl.inLevel 0 (v % 1024) (ofFlag level) } }.cuWrite u v |>.commit (R.CU_CFG_EN u).addr)

/-- An edge accepted by a unit less than 2.5 ns before a stamp (R332). -/
def State.cuNear (s : State) (u stamp : Nat) : Bool :=
  match SMap.get s.tl.lastEdge none u with
  | some t => decide ((stamp + 2 ^ 56 - t.1) % 2 ^ 56 < 163840) && decide (s.tp.tick < t.2 + 2 ^ 32)
  | none => false

/-- Unit `u` meets an edge of its input at the time `stamp` with its wraps (R332, R333). -/
def State.cuStamp (s : State) (stamp : Nat) (rising : Bool) (u : Nat) : State :=
  let e := s.get (R.CU_CFG_EDGE u)
  let s0 := { s with tl := { s.tl with unitLevel := SMap.set s.tl.unitLevel 0 u (ofFlag rising) } }
  if decide (SMap.get s.tl.unitLevel 0 u = ofFlag rising) || (decide (e = 0) && !rising) || (decide (e = 1) && rising) then s0
  else if s.cuNear u stamp then s0.bump (R.CU_STAT_MERGED u) 1
  else
    let st := encode2 56 ((stamp : Int) - signed 40 (s.get (R.CU_CFG_DLY u)))
    let w := st + 2 ^ 56 + ofFlag (!rising) * 2 ^ 57 + ofFlag (s.timeBad 72 || s.timeBad 73) * 2 ^ 59
    let full := decide (16 ≤ (s.queue (cuPopAddr u)).length)
    let s1 := ({ s0 with tl := { s0.tl with lastEdge := SMap.set s0.tl.lastEdge none u (some (stamp, s.tp.tick)) } }).bump (R.CU_STAT_COUNT u) 1
    let s2 := s1.enqueue (cuPopAddr u) 16 (2 ^ 58) w
    let s3 := if full then (s2.bump (R.CU_STAT_LOST u) 1).raise 0x0393 u 0 else s2
    let s4 := if s3.has (R.CU_CFG_EVT_EN u) then s3.raiseTyped 4 0 u w [] else s3
    if s4.has (R.CU_CFG_SINGLE u) then s4.put (R.CU_CFG_EN u) false else s4

/-- CU_EDGE (R331 to R333): the input of unit `u` changes its level at `time`, when the wrap count is `wraps`; every unit on that input meets the edge.
The edge of a mark register is one that the register shows. -/
def execCuEdge (u : Fin 32) (time : BitVec 48) (wraps : BitVec 8) (rising : Bool) (s : State) :
    Host.Outcome State Fault Refusal :=
  let src := s.get (R.CU_CFG_SRC u)
  if 0x200 ≤ src ∧ s.capLevel src ≠ ofFlag rising then done s
  else
    let s0 := { s with tl := { s.tl with inLevel := SMap.set s.tl.inLevel 0 src (ofFlag rising) } }
    done (((List.range 32).filter (fun v => s.has (R.CU_CFG_EN v) && decide (s.get (R.CU_CFG_SRC v) = src))).foldl
      (fun t v => t.cuStamp (wraps.toNat * 2 ^ 48 + time.toNat) rising v) s0)

/-- CU_POP (R22, R333). -/
def execCuPop (u : Fin 32) (s : State) : Host.Outcome State Fault Refusal := done (s.popRead (cuPopAddr u))

end Sys2Proof.Machine
end

