-- ==== Sys2Proof/Machine/Gleaner.lean ====
section
/-!
DEFINITION. The gleaner (chapter 18): the walk, what a differing branch leads to, repairs from the image, the watch walker and the
commands of its registers. Upsets, what a map or a block reads as, and missing heartbeats come with the commands.
-/
namespace Sys2Proof.Machine
open Sys2Proof

/-! ## Settings (R558) -/

def glResetWord : Nat := 3 + 15 * 2 ^ 4 + 100 * 2 ^ 16 + 3 * 2 ^ 32
def State.glCopy (s : State) (c : Nat) : Nat := SMap.get s.gl.copies glResetWord c

/-- The bitwise majority of the three copies. -/
def State.glSet (s : State) : Nat :=
  (List.range 36).foldl (fun a i => a + (if 2 ≤ bit (s.glCopy 0) i + bit (s.glCopy 1) i + bit (s.glCopy 2) i then 2 ^ i else 0)) 0

/-- Writes all three copies, and shows their fields. -/
def State.glPut (s : State) (v : Nat) : State :=
  { s with gl := { s.gl with copies := SMap.setRun s.gl.copies glResetWord 0 [v, v, v] } }.sets
    [(R.GL_CTRL_EN, bit v 0), (R.GL_CTRL_REPAIR_EN, bit v 1), (R.GL_CTRL_QMASK, bits v 4 4), (R.GL_WATCH_HB_TO, bits v 16 16),
      (R.GL_WATCH_RESET_LIM, bits v 32 4)]

/-! ## The walk (R548, R549) -/

/-- Bough number `i` (0 to 15) of quadrant `q` in ascending order (R31). -/
def quadBough (q i : Nat) : Nat := 32 * (q / 2) + 4 * (q % 2) + 8 * (i / 4) + i % 4

/-- Branch `n` of a plane in frame order: the collar is the last. -/
def branchAt (n : Nat) : Nat × Nat := if n < 320 then (n / 40, n % 40) else (0, 40)

/-- Whether the walkers walk a plane of a bough (R549). -/
def State.walked (s : State) (b plane : Nat) : Bool :=
  match s.partOf b with
  | none => false
  | some q =>
    let sh := s.get (R.PT_STAT_SHADOW q)
    (decide (s.ptState q = 1) || decide (s.ptState q = 2)) && !s.darkOf q
      && (decide (plane = (s.bough b).plane) || decide (sh = 2) || decide (sh = 4))

/-- Whether walker `q` walks (R548, R550, R562, R564). -/
def State.walkOn (s : State) (q : Nat) : Bool :=
  decide (bit s.glSet 0 = 1) && decide (bit s.glSet (4 + q) = 1) && s.inMode [mRUN, mSAFE] && s.has R.CK_STATUS_FOSC_QUAL

/-- The next walked branch of a walker from its position on, as (position, bough, plane, row, column). -/
def State.walkNext (s : State) (q : Nat) : Option (Nat × Nat × Nat × Nat × Nat) :=
  let p := SMap.get s.gl.pos 0 q
  (List.range 32).findSome? (fun j =>
    let pl := p / 321 + j
    if 32 ≤ pl then none
    else
      let b := quadBough q (pl / 2)
      if s.walked b (pl % 2) then
        let n := if j = 0 then p % 321 else 0
        some (pl * 321 + n, b, pl % 2, (branchAt n).1, (branchAt n).2)
      else none)

/-- Whether the gleaner may write no frame of a partition now (R533). -/
def State.glExcluded (s : State) (q : Nat) : Bool :=
  (match s.swapOf q with
    | some x => decide (x.freeze ≠ []) || decide (x.frozen ≠ [])
    | none => false)
  || s.armedSlots.any (fun k => decide (s.get (R.TL_SLOT_DEST_KIND k) = 5) && decide (bit (s.get (R.TL_SLOT_DEST_ARGS k)) q = 1)
      && decide (signed 48 (s.pendingT k / 65536 + 2 ^ 48 - s.time48 72) ≤ 200 * 65536))

/-- GL_STATUS and the walkers' places in GL_PASS (R562). -/
def State.glShow (s : State) : State :=
  let walk := (List.range 4).foldl (fun a q => a + ofFlag (s.walkOn q) * 2 ^ q) 0
  let s1 := s.sets [(R.GL_STATUS_WALK, walk), (R.GL_STATUS_PAUSE, ofFlag (!s.has R.CK_STATUS_FOSC_QUAL)),
    (R.GL_STATUS_REPAIR, ofFlag (decide (s.gl.fixed ≠ []) || decide (s.gl.lost ≠ []))), (R.GL_STATUS_REPQ, s.gl.list.length),
    (R.GL_STATUS_DEFQ, ((List.range 4).map (fun w => (SMap.get s.gl.defer [] w).length)).sum)]
  (List.range 4).foldl (fun t q =>
    let p := SMap.get t.gl.pos 0 q / 321
    t.sets [(R.GL_PASS_B q, quadBough q (p / 2)), (R.GL_PASS_PLANE q, p % 2)]) s1

/-! ## The log -/

def glLogAddr : Nat := R.GL_LOG_POP_KIND.addr

/-- A GL_LOG_POP entry. -/
def glWord (kind : Nat) (f : GlFrame) (loc detail : Nat) : Nat :=
  kind + 2 ^ 3 + f.plane * 2 ^ 5 + f.b * 2 ^ 6 + f.row * 2 ^ 12 + f.col * 2 ^ 15 + f.idx * 2 ^ 21 + loc * 2 ^ 25 + detail % 2 ^ 16 * 2 ^ 39

/-- Logs an entry and raises its code (0 for none). -/
def State.glLog (s : State) (kind : Nat) (f : GlFrame) (loc detail code : Nat) : State :=
  let w := glWord kind f loc detail
  let s1 := s.enqueue glLogAddr 32 (2 ^ 4) w
  let s2 := if (s.queue glLogAddr).length < 32 then { s1 with gl := { s1.gl with times := s1.gl.times ++ [s1.now32] } } else s1
  if code = 0 then s2 else s2.raise code f.b w

/-- A read of the lower half of GL_LOG_POP (R562). -/
def State.glLogRead (s : State) : State :=
  match s.gl.times with
  | [] => s.popRead glLogAddr
  | x :: t => ({ s with gl := { s.gl with times := t } }.set R.GL_LOG_TIME_TIME x).popRead glLogAddr

/-- GL_LOG_POP (R562). -/
def execGlLogPop (s : State) : Host.Outcome State Fault Refusal := done s.glLogRead

/-- Counts since power-up beside GL_CNT (R564): 0 corrected, 1 uncorrectable, 2 repaired frames, 3 finds. -/
def State.glTotal (s : State) (k n : Nat) : State :=
  { s with gl := { s.gl with totals := SMap.set s.gl.totals 0 k (satAdd (2 ^ 32 - 1) (SMap.get s.gl.totals 0 k) n) } }

/-- The hour of the running time (R563). -/
def State.hour (s : State) : Int := s.nowFull / (3600 * 10 ^ 9 * 65536)

/-- Counts a corrected or uncorrectable frame in its one-hour bin of 24 (R563). -/
def State.upsetHour (s : State) : State :=
  let h := s.hour.toNat
  let old := s.gl.hours.filter (fun (e : Nat × Nat) => decide (h < e.1 + 24))
  { s with gl := { s.gl with hours := SMap.set old 0 h (SMap.get s.gl.hours 0 h + 1) } }

/-! ## A branch (R551, R552) -/

def glPart (s : State) (b : Nat) : Nat := (s.partOf b).getD 0

/-- DETAIL of a corrected frame (R552 step 2, R161, R221): the first breach by the frame's own fields as read; else the first that its fields make with
others, which are the breaches that its correction ends. `t` is the state with the frame corrected. -/
def State.glDetail (s t : State) (f : GlFrame) : Nat :=
  match firstBreach (frameBreaches f.row f.col f.idx (s.frame f.plane f.b f.row f.col f.idx)) with
  | some (_, c) => c
  | none =>
    let after := t.planeBreaches f.plane f.b
    match firstPlaneBreach ((s.planeBreaches f.plane f.b).filter (fun x => !after.contains x)) with
    | some (_, _, c) => c
    | none => 0

/-- Steps 1 and 2 of R552 on one frame: the state, and whether it is uncorrectable. -/
def State.glFrame (s : State) (f : GlFrame) : State × Bool :=
  let v := s.frame f.plane f.b f.row f.col f.idx
  let loc (i : Nat) (dbl : Bool) : Nat :=
    (if i < 32 then 0 else i - 32 + 2 ^ 13) + ofFlag dbl * 2 ^ 12
  let fix (t : State) (i : Nat) (dbl : Bool) : State :=
    ((((t.frameFollows f.plane f.b).glLog 0 f (loc i dbl) (s.glDetail t f) 0x0C20).bump R.GL_CNT_CORR 1).glTotal 0 1).upsetHour
  match frameDecode v (s.frameChecks f.plane f.b f.row f.col f.idx) with
  | .clean => (s, false)
  | .single i => (fix (s.frameFlip f.plane f.b f.row f.col f.idx i) i false, false)
  | .adjacent i => (fix ((s.frameFlip f.plane f.b f.row f.col f.idx i).frameFlip f.plane f.b f.row f.col f.idx (i + 1)) i true, false)
  | .uncorrectable => (s, true)

/-- The essential bits of a bough's record, if the map is usable (R553): bytes of its header and of the record. -/
def mapBits (r : RepairSrc) (map : List Nat) : Option (List Nat) :=
  let h := map.take 64
  let e := (map.drop 64).take 640
  if r.ess ≠ 2 ^ 64 - 1 ∧ map.length = 704 ∧ h.take 4 = [0x59, 0x4C, 0x45, 0x53] ∧ ofBytes ((h.drop 4).take 8) = r.imageId
    ∧ ofBytes ((h.drop 12).take 8) = r.boughs ∧ ofBytes (h.drop 60) = crc32 (h.take 60) ∧ ofBytes (e.drop 636) = crc32 (e.take 636)
  then some e else none

/-- Lists frames for repair (R555); `quiet` lists without the code of a frame that is not essential. -/
def State.glList (s : State) (l : List GlFrame) : State :=
  l.foldl (fun (t : State) f =>
    if t.gl.list.contains f then t
    else if t.gl.list.length < 64 then { t with gl := { t.gl with list := t.gl.list ++ [f] } }
    else t.glLog 5 f 0 0 0x0C2C) s

/-- An integrity failure (R560): SAFE by cause 0x09 from RUN. -/
def State.glBroken (s : State) (code unit detail : Nat) : State := (s.raise code unit detail).trigger 0x09 code

/-- An essential find (R556, R564). -/
def State.glEssential (s : State) (f : GlFrame) (suspects : List GlFrame) : State :=
  let w := glWord 2 f 0 0
  let s1 := ((s.glLog 2 f 0 0 0).bump R.GL_CNT_ESS 1).glTotal 3 1
  let active := decide (f.plane = (s.bough f.b).plane)
  if !active then (if s.mode0 = mRUN then s1.glList suspects else s1)
  else if f.part = 0 then (if s.mode0 = mRUN then s1.glBroken 0x0C26 f.b w else s1.raise 0x0C26 f.b w)
  else
    let s2 := s1.raise 0x0C25 f.b w
    if s.mode0 ≠ mRUN then s1
    else match s.get (R.PT_CTRL_POLICY f.part) with
      | 0 => s2.partDown f.part true
      | 1 => s2.glList suspects
      | _ => s2.partDown f.part false

/-- Steps 4 and 5 of R552. -/
def State.glSuspects (s : State) (base : GlFrame) (bad : List GlFrame) (map : List Nat) : State :=
  let all := (List.range (framesOf base.col)).map (fun i => { base with idx := i })
  let s1 := if bad = [] then s.glLog 3 base 0 0 0x0C21 else s
  let n := if bad = [] then 1 else bad.length
  let s2 := (List.range n).foldl (fun (t : State) _ => t.upsetHour) ((s1.bump R.GL_CNT_UNC n).glTotal 1 n)
  let sus := if bad = [] then all else bad
  let m := match SMap.get s.pt.repair none (2 * base.part + base.plane) with
    | some r => mapBits r map
    | none => none
  let s3 := if m.isNone then s2.raise 0x0C28 base.b 0 else s2
  let ess (f : GlFrame) : Bool := match m with
    | none => true
    | some e => let n := frameOrd f.row f.col f.idx; decide (bit (e.getD (n / 8) 0) (n % 8) = 1)
  match sus.find? ess with
  | some f => s3.glEssential f sus
  | none =>
    let s4 := sus.foldl (fun (t : State) f => t.glLog 1 f 0 0 0x0C22) s3
    if s.mode0 = mRUN then s4.glList sus else s4

/-- A branch whose signature differs, or whose golden signature cannot be read (R551, R552). -/
def State.glDiffers (s : State) (base : GlFrame) (sigLost : Bool) (map : List Nat) : State :=
  let all := (List.range (framesOf base.col)).map (fun i => { base with idx := i })
  let clean := all.all (fun f => decide (frameDecode (s.frame f.plane f.b f.row f.col f.idx) (s.frameChecks f.plane f.b f.row f.col f.idx) = .clean))
  if sigLost ∧ clean then
    (s.setGolden base.plane base.b base.row base.col (s.branchSig base.plane base.b base.row base.col)).glLog 6 base 0 0 0x0C27
  else
    let r := if sigLost then (s, all.filter (fun f =>
        decide (frameDecode (s.frame f.plane f.b f.row f.col f.idx) (s.frameChecks f.plane f.b f.row f.col f.idx) = .uncorrectable)))
      else all.foldl (fun (a : State × List GlFrame) f => let x := a.1.glFrame f; (x.1, if x.2 then a.2 ++ [f] else a.2)) (s, [])
    if !sigLost ∧ r.1.branchSig base.plane base.b base.row base.col = s.golden base.plane base.b base.row base.col then r.1
    else r.1.glSuspects base r.2 map

/-- The deferred branch that walker `q` handles before any other: the first whose exclusion has ended (R557). -/
def State.glDue (s : State) (q : Nat) : Option GlFrame :=
  if s.walkOn q then (SMap.get s.gl.defer [] q).find? (fun f => !s.glExcluded f.part) else none

/-- Walker `q` handles a deferred branch (R557). -/
def State.glDeferred (s : State) (q : Nat) (f : GlFrame) (map : List Nat) : State :=
  let s1 := { s with gl := { s.gl with defer := SMap.set s.gl.defer [] q ((SMap.get s.gl.defer [] q).erase f) } }
  if !s1.walked f.b f.plane ∨ s1.branchSig f.plane f.b f.row f.col = s1.golden f.plane f.b f.row f.col then s1.glShow
  else (s1.glDiffers f false map).glShow

/-- GLEANER_BRANCH_CHECK (R548, R551, R552, R557): walker `q` handles a deferred branch that is due, else reads its next branch, in which the upsets (frame index, position)
stand; `sigUpset` says how its golden signature reads (0 clean, 1 correctable, 2 uncorrectable); `map` is what the essential-bit
map reads as. -/
def execGleanerBranchCheck (q : Fin 4) (upsets : List (Fin 16 × Fin 4128)) (sigUpset : Fin 3) (map : List (BitVec 8)) (s : State) :
    Host.Outcome State Fault Refusal :=
  match s.glDue q, s.walkNext q with
  | some f, _ => done (s.glDeferred q f (map.map (fun (x : BitVec 8) => x.toNat)))
  | none, none => done s
  | none, some (p, b, plane, row, col) =>
    if !s.walkOn q then done s
    else
      let s1 := upsets.foldl (fun (t : State) u => if u.1.val < framesOf col then t.frameFlip plane b row col u.1 u.2 else t) s
      let s1 := if upsets = [] then s1 else s1.frameFollows plane b
      let s2 := { s1 with gl := { s1.gl with pos := SMap.set s1.gl.pos 0 q (p + 1) } }
      let base : GlFrame := ⟨glPart s b, plane, b, row, col, 0⟩
      let lost := decide (sigUpset.val = 2)
      if !lost ∧ s2.branchSig plane b row col = s2.golden plane b row col then done s2.glShow
      else if s2.glExcluded base.part then
        let d := SMap.get s2.gl.defer [] q.val
        if d.length < 16 then done ({ s2 with gl := { s2.gl with defer := SMap.set s2.gl.defer [] q (d ++ [base]) } }.glShow)
        else done (s2.raise 0x0C2C b 0).glShow
      else done ((s2.glDiffers base lost (map.map (fun (x : BitVec 8) => x.toNat))).glShow)

/-- GLEANER_DEFERRED_HANDLE (R557): the first deferred branch of walker `q` whose exclusion has ended. -/
def execGleanerDeferredHandle (q : Fin 4) (map : List (BitVec 8)) (s : State) : Host.Outcome State Fault Refusal :=
  match s.glDue q with
  | none => done s
  | some f => done (s.glDeferred q f (map.map (fun (x : BitVec 8) => x.toNat)))

/-- GLEANER_PASS_COMPLETE (R548, R562): walker `q` has passed its last walked plane. -/
def execGleanerPassComplete (q : Fin 4) (s : State) : Host.Outcome State Fault Refusal :=
  if !s.walkOn q ∨ s.walkNext q ≠ none ∨ SMap.get s.gl.pos 0 q.val = 0 then done s
  else
    let us := ((s.nowFull - SMap.get s.gl.began 0 q.val) / (65536 * 1000)).toNat
    let s1 := { s with gl := { s.gl with
        pos := SMap.set s.gl.pos 0 q.val 0
        began := SMap.set s.gl.began 0 q.val s.nowFull } }
    done ((s1.bump (R.GL_PASS_PASSES q) 1).set (R.GL_PASS_LAST_US q) (min us 65535)).glShow

/-! ## Repair (R554, R555) -/

/-- The FRAME packets of a packet area, as (bough, ordinal, the 516 bytes). -/
def framePackets : Nat → List Nat → List (Nat × Nat × List Nat)
  | 0, _ => []
  | f + 1, rest =>
    let typ := leField rest 0 1
    let count := leField rest 1 2
    let arg := leField rest 4 4
    let n := payLen typ count arg
    if rest.length < 8 + n ∨ typ = 0 ∨ typ = 0x0F then []
    else
      let pay := (rest.drop 8).take n
      let here := if typ = 1 ∧ frameExists (bits arg 6 3) (bits arg 9 6) (bits arg 15 4) then
          (List.range count).map (fun j => (bits arg 0 6, frameOrd (bits arg 6 3) (bits arg 9 6) (bits arg 15 4) + j, (pay.drop (516 * j)).take 516))
        else []
      here ++ framePackets f (rest.drop (8 + n))

/-- One listed frame is rewritten from its packet where it passes R499 (R555 step 3). -/
def State.glRewrite (s : State) (part plane : Nat) (x : Nat × Nat × List Nat) : State :=
  let (row, col, idx) := frameAt x.2.1
  let f : GlFrame := ⟨part, plane, x.1, row, col, idx⟩
  let data := ofBytes (x.2.2.take 512)
  let chk := ofBytes (x.2.2.drop 512)
  if s.gl.list.contains f ∧ frameCode data = chk ∧ frameBreaches row col idx data = [] then
    let t := ((s.setFrame plane x.1 row col idx data).frameFollows plane x.1).setChecks plane x.1 row col idx chk
    { t with gl := { t.gl with
        list := t.gl.list.filter (fun e => decide (e ≠ f))
        fixed := t.gl.fixed ++ [f] } }
  else s

/-- The blocks of a repair, from FIRST_BLK upward: the state and the status that ended it (0 for none). -/
def State.glBlocks (s : State) (part plane : Nat) (r : RepairSrc) (status : Nat) : Nat → Nat → List (List Nat) → State × Nat
  | _, _, [] => (s, status)
  | n, expect, blk :: rest =>
    let more := s.gl.list.any (fun e => decide (e.part = part) && decide (e.plane = plane))
    if !more ∨ r.first + r.nblk ≤ n then (s, 0)
    else if Config.sha384 blk ≠ expect then (s, 0x0107)
    else match Config.gcmOpen (s.keyValue r.keysel) (r.salt * 2 ^ 32 + beNum (toBytes 4 n)) (toBytes 4 n ++ toBytes 8 r.imageId) blk with
      | none => (s, 0x0107)
      | some plain =>
        let t := (framePackets 8200 (plain.take 65472)).foldl (fun (u : State) x => u.glRewrite part plane x) s
        State.glBlocks t part plane r status (n + 1) (beNum ((plain.drop 65472).take 48)) rest

/-- GLEANER_REPAIR_START (R555 steps 1 to 4): `blocks` are the blocks that the recorded source gives from FIRST_BLK on, `status` is
that of the read after them. -/
def execGleanerRepairStart (blocks : List (List (BitVec 8))) (status : BitVec 16) (s : State) : Host.Outcome State Fault Refusal :=
  match s.gl.list with
  | [] => done s
  | f :: _ =>
    if s.mode0 ≠ mRUN ∨ s.ldState ≠ ldIDLE ∨ bit s.glSet 1 = 0 ∨ s.glExcluded f.part ∨ s.gl.fixed ≠ [] ∨ s.gl.lost ≠ [] then done s
    else
      let bl := blocks.map (fun l => l.map (fun (x : BitVec 8) => x.toNat))
      let r := match SMap.get s.pt.repair none (2 * f.part + f.plane) with
        | some src =>
          if src.version < s.sec.rb then (s, 0x0106)
          else if src.src = srcFLASH ∨ src.src = srcPULL then s.glBlocks f.part f.plane src status.toNat src.first src.digest bl else (s, 0)
        | none => (s, 0)
      let mine (e : GlFrame) : Bool := decide (e.part = f.part) && decide (e.plane = f.plane)
      done ({ r.1 with gl := { r.1.gl with
          list := r.1.gl.list.filter (fun e => !mine e)
          lost := (r.1.gl.list.filter mine).map (fun e => (e, r.2)) } }.glShow)

/-- A frame leaves the repair as failed (R555, R556). -/
def State.glRepairFail (s : State) (f : GlFrame) (status : Nat) : State :=
  let s1 := (s.glLog 5 f 0 status 0x0C24).bump R.GL_CNT_FAILED 1
  if f.plane ≠ (s.bough f.b).plane ∧ s.get (R.PT_STAT_SHADOW f.part) = 2 then (s1.clearShadow f.part).set (R.PT_STAT_SHADOW f.part) 3
  else s1

/-- GLEANER_REPAIR_COMPLETE (R555 step 5): a failed frame is logged, or the next branch with rewritten frames is walked. -/
def execGleanerRepairComplete (s : State) : Host.Outcome State Fault Refusal :=
  match s.gl.lost with
  | e :: rest => done (({ s with gl := { s.gl with lost := rest } }.glRepairFail e.1 e.2).glShow)
  | [] =>
    match s.gl.fixed with
    | [] => done s
    | f :: _ =>
      let same (e : GlFrame) : Bool := decide (e.b = f.b) && decide (e.plane = f.plane) && decide (e.row = f.row) && decide (e.col = f.col)
      let mine := s.gl.fixed.filter same
      let s1 := { s with gl := { s.gl with fixed := s.gl.fixed.filter (fun e => !same e) } }
      if s.branchSig f.plane f.b f.row f.col = s.golden f.plane f.b f.row f.col then
        done ((mine.foldl (fun (t : State) e => ((t.glLog 4 e 0 0 0x0C23).bump R.GL_CNT_REPAIRED 1).glTotal 2 1) s1).glShow)
      else done ((mine.foldl (fun (t : State) e => t.glRepairFail e 0) s1).glShow)

/-! ## The watch walker (R559, R560) -/

/-- The settings copies are compared, and minority copies rewritten. -/
def State.glVote (s : State) (stuck : Bool) : State :=
  let m := s.glSet
  let bad := (List.range 3).filter (fun c => decide (s.glCopy c ≠ m))
  let s1 := bad.foldl (fun (t : State) c => ((t.bump R.GL_SET_DISAGREE 1).set R.GL_SET_COPY c).raise 0x0C29 0 0) s
  if bad = [] then s
  else
    let s2 := s1.glPut m
    if stuck then s2.glBroken 0x0C2B 0 0 else s2

/-- One walker is reset. -/
def State.walkerReset (s : State) (q : Nat) : State :=
  let b := quadBough q (SMap.get s.gl.pos 0 q / 642)
  let recent := (s.gl.resets ++ [s.nowFull]).filter (fun t => decide (s.nowFull - t < 10 ^ 9 * 65536))
  let s1 := { s with gl := { s.gl with
      pos := SMap.set s.gl.pos 0 q 0
      began := SMap.set s.gl.began 0 q s.nowFull
      resets := recent } }
  let s2 := (s1.bump R.GL_WATCH_RESETS 1).raise 0x0C2A b 0
  if bits s2.glSet 32 4 < recent.length then s2.glBroken 0x0C2B b 0 else s2

/-- WATCH_WALKER_TICK (R559, R560): `flips` are the upset bits of one settings copy, `stuck` that a copy reads back wrong after its
rewrite, `stalled` the walkers whose heartbeat has not advanced for HB_TO. -/
def execWatchWalkerTick (flips : Option (Fin 3 × BitVec 36)) (stuck : Bool) (stalled : BitVec 4) (s : State) :
    Host.Outcome State Fault Refusal :=
  if !s.inMode [mBOOT, mLOAD, mRUN, mSAFE] then done s
  else
    let s1 := match flips with
      | some (c, x) => { s with gl := { s.gl with copies := SMap.set s.gl.copies glResetWord c.val (s.glCopy c ^^^ x.toNat) } }
      | none => s
    let s2 := s1.glVote stuck
    done (((List.range 4).foldl (fun (t : State) q =>
      if bit stalled.toNat q = 1 ∧ t.walkOn q then t.walkerReset q else t) s2).glShow)

/-! ## Registers (R562) -/

/-- Posts in GL_CMD_RESULT. -/
def State.glPost (s : State) (op code : Nat) : State := ((s.set R.GL_CMD_RESULT_OP op).post R.GL_CMD_RESULT_STATUS code).glShow

/-- A write of GL_CTRL. -/
def State.glCtrl (s : State) (src v : Nat) : State :=
  if !s.srcOk src then s.glPost 15 0x0C01
  else if bits v 16 16 ≠ 0xA5C3 then s.glPost 15 0x0C02
  else (s.glPut (s.glSet / 2 ^ 16 * 2 ^ 16 + bits v 0 2 + bits v 4 4 * 2 ^ 4)).glPost 15 0

/-- GL_CTRL_WRITE. -/
def execGlCtrlWrite (src : SrcId) (data : BitVec 32) (s : State) : Host.Outcome State Fault Refusal :=
  done ((s.glCtrl src data.toNat).reply 0 0)

/-- A write of GL_CMD. -/
def State.glCmd (s : State) (src v : Nat) : State :=
  let op := bits v 0 4
  if !s.srcOk src then s.glPost op 0x0C01
  else match op with
    | 0 => s.glPost 0 0
    | 1 => (s.sets [(R.GL_CNT_CORR, 0), (R.GL_CNT_UNC, 0), (R.GL_CNT_REPAIRED, 0), (R.GL_CNT_ESS, 0), (R.GL_CNT_FAILED, 0)]).glPost 1 0
    | 2 =>
      if !s.inMode [mRUN, mSAFE] ∨ bit s.glSet 0 = 0 then s.glPost 2 0x0C04
      else
        let s1 := (List.range 4).foldl (fun (t : State) q =>
          if bit t.glSet (4 + q) = 0 then t
          else { t with gl := { t.gl with
              pos := SMap.set t.gl.pos 0 q 0
              began := SMap.set t.gl.began 0 q t.nowFull } }) s
        s1.glPost 2 0
    | _ => s.glPost op 0x0C05

/-- GL_CLR_CNT. -/
def execGlClrCnt (src : SrcId) (s : State) : Host.Outcome State Fault Refusal := done ((s.glCmd src 1).reply 0 0)
/-- GL_SCAN_NOW. -/
def execGlScanNow (src : SrcId) (s : State) : Host.Outcome State Fault Refusal := done ((s.glCmd src 2).reply 0 0)

/-- A write of GL_WATCH. -/
def State.glWatchWrite (s : State) (src v : Nat) : State :=
  if !s.srcOk src then s.reply 0x0C01 0
  else if bits v 0 16 < 10 ∨ bits v 16 4 = 0 then s.reply 0x0C03 0
  else (s.glPut (s.glSet % 2 ^ 16 + bits v 0 16 * 2 ^ 16 + bits v 16 4 * 2 ^ 32)).reply 0 0

/-- At the entry to SAFE (R564). -/
def State.glSafe (s : State) : State := { s with gl := { s.gl with list := [], fixed := [], lost := [] } }

end Sys2Proof.Machine
end

