-- ==== Sys2Proof/Machine/SiteCore.lean ====
section
/-!
DEFINITION. The site core as far as the manual's own rules shape it, its SRAM, the interrupt controller, timers, watchdog and serial
ports (chapter 19). What the manual takes from the RISC-V specifications (traps, MRET, mstatus) follows the layout of assumption 40.
-/
namespace Sys2Proof.Machine
open Sys2Proof

/-! ## State of the core -/

def State.attached (s : State) : Bool := s.has R.DBG_SC_CTRL_ATTACH && decide (s.dbgLevel = 2)
/-- Whether the core executes: out of reset, in RUN, not halted, past its boot ROM's waits, no window load and no FENCE waiting (R570). -/
def State.scRuns (s : State) : Bool :=
  s.devClk 15 && !s.sc.held && decide (s.scState = scRUN) && !s.has R.DBG_SC_STAT_HALTED && decide (s.sc.boot = 0) && s.sc.load.isNone && !s.sc.fence

def csrMSTATUS : Nat := 0x300
def csrMIE : Nat := 0x304
def csrMTVEC : Nat := 0x305
def csrMEPC : Nat := 0x341
def csrMCAUSE : Nat := 0x342
def csrMTVAL : Nat := 0x343
def State.csr (s : State) (n : Nat) : Nat := SMap.get s.sc.csr 0 n
def State.setCsr (s : State) (n v : Nat) : State := s.setSc { s.sc with csr := SMap.set s.sc.csr 0 n (v % 2 ^ 32) }
/-- Register `n`: x0 to x31, then f0 to f31; x0 reads 0 and discards writes. -/
def State.xreg (s : State) (n : Nat) : Nat := if n = 0 then 0 else SMap.get s.sc.x 0 n
def State.setX (s : State) (n v : Nat) : State := if n = 0 then s else s.setSc { s.sc with x := SMap.set s.sc.x 0 n (v % 2 ^ 32) }

/-! ## SRAM (R572) -/

/-- Row `r` decoded: corrected and written back, or none where it is uncorrectable. -/
def State.sramRow (s : State) (r : Nat) : State × Option Nat :=
  let v := SMap.get s.sc.sram 0 r
  let d := symDecode v
  if d.kind = 0 then (s, some (v % 2 ^ 128))
  else if d.kind = 1 then
    let w := symFix v d
    ((s.setSc { s.sc with sram := SMap.set s.sc.sram 0 r w, corrected := satAdd (2 ^ 32 - 1) s.sc.corrected 1 }).raise 0x0D22 0 0, some (w % 2 ^ 128))
  else (s, none)

/-- A write of the bits of a mask into row `r`; false where a part of an uncorrectable row was named. -/
def State.sramPut (s : State) (r mask data : Nat) : State × Bool :=
  if mask = 2 ^ 128 - 1 then (s.setSc { s.sc with sram := SMap.set s.sc.sram 0 r (symEncode data) }, true)
  else match s.sramRow r with
    | (t, none) => (t, false)
    | (t, some old) =>
      let new := (old &&& ((2 ^ 128 - 1) ^^^ mask)) ||| (data &&& mask)
      (t.setSc { t.sc with sram := SMap.set t.sc.sram 0 r (symEncode new) }, true)

/-- A 32-bit word of SRAM at a byte offset. -/
def State.sramWord (s : State) (o : Nat) : State × Option Nat :=
  let r := s.sramRow (o / 16)
  (r.1, r.2.map (fun v => bits v (8 * (o % 16)) 32))

/-- Words of SRAM to the NoC (R571, R572): 0x0D11 and zeros where a row is uncorrectable. -/
def State.sramRead (s : State) (o : Nat) : Nat → State × Nat × List Nat
  | 0 => (s, 0, [])
  | n + 1 =>
    let (t, st, acc) := s.sramRead o n
    match t.sramWord (o + 4 * n) with
    | (u, some v) => (u, st, acc ++ [v])
    | (u, none) => (u, 0x0D11, acc ++ [0])

/-- Words from the NoC into SRAM, row by row (R572). They end a reservation that the core holds. A part of an uncorrectable row among them
drops the whole write (R24). -/
def State.sramWrite (s : State) (o : Nat) (ws : List Nat) : State × Nat :=
  let rows := ((List.range ws.length).map (fun i => (o + 4 * i) / 16)).eraseDups
  let z := rows.foldl (fun (a : State × Nat) r =>
    let x := (List.range ws.length).foldl (fun (m : Nat × Nat) i =>
      if (o + 4 * i) / 16 = r then
        (m.1 + (2 ^ 32 - 1) * 2 ^ (8 * ((o + 4 * i) % 16)), m.2 + ws.getD i 0 % 2 ^ 32 * 2 ^ (8 * ((o + 4 * i) % 16)))
      else m) (0, 0)
    let y := a.1.sramPut r x.1 x.2
    (y.1, if y.2 then a.2 else 0x0D11)) (s.setSc { s.sc with resv := false }, 0)
  if z.2 = 0 then z else (s, z.2)

/-- Every row the all-zero codeword (R573, R579). -/
def State.sramClear (s : State) : State := (s.setSc { s.sc with sram := [] }).raise 0x0D32 0 0

/-- A word as the controller or a vector fetch reads it from the core's map; free where the manual gives no contents. -/
def State.scWord (s : State) (a : Nat) : State × Nat :=
  if 0x10000000 ≤ a ∧ a + 4 ≤ 0x10100000 then
    match s.sramWord (a - 0x10000000) with
    | (t, some v) => (t, v)
    | (t, none) => let f := t.fresh 20; (f.2, f.1 % 2 ^ 32)
  else let f := s.fresh 20; (f.2, f.1 % 2 ^ 32)

/-! ## Traps (R586) -/

/-- A synchronous trap at `pc`: the privileged specification's entry, with TRAPNEST. -/
def State.scTrap (s : State) (pc cause tval : Nat) : State :=
  let m := s.csr csrMSTATUS
  let m' := m - bits m 3 1 * 2 ^ 3 - bits m 7 1 * 2 ^ 7 - bits m 11 2 * 2 ^ 11 + bit m 3 * 2 ^ 7 + s.sc.priv * 2 ^ 11
  let s1 := (((s.setCsr csrMSTATUS m').setCsr csrMEPC (pc / 2 * 2)).setCsr csrMCAUSE cause).setCsr csrMTVAL tval
  s1.setSc { s1.sc with
    pc := s1.csr csrMTVEC / 4 * 4
    priv := 3
    trapnest := min 15 (s1.sc.trapnest + 1)
    resv := false }

/-- SC_SYNC_TRAP (R586): the instruction at `pc` traps. -/
def execScSyncTrap (pc : BitVec 32) (cause : Fin 16) (tval : BitVec 32) (s : State) : Host.Outcome State Fault Refusal :=
  if s.scRuns then done (s.scTrap pc.toNat cause tval.toNat) else done s

/-- MRET as the privileged specification has it. -/
def State.scMretPlain (s : State) : State :=
  let m := s.csr csrMSTATUS
  let mpp := bits m 11 2
  let m' := m - bits m 3 1 * 2 ^ 3 - bits m 7 1 * 2 ^ 7 - mpp * 2 ^ 11 + bit m 7 * 2 ^ 3 + 2 ^ 7
  let m'' := if mpp = 3 then m' else m' - bit m' 17 * 2 ^ 17
  let s1 := s.setCsr csrMSTATUS m''
  s1.setSc { s1.sc with
    pc := s1.csr csrMEPC
    priv := if mpp = 3 then 3 else 0 }

/-! ## The interrupt controller -/

/-- Serial-port signals: RX not empty, TX empty, transaction done, error. -/
def State.spSignal (s : State) (k i : Nat) : Bool :=
  let posted := s.has (R.SP_RESULT_VALID k) && !s.has (R.SP_RESULT_STALE k)
  match i with
  | 0 => decide (SMap.get s.sc.rxf [] k ≠ [])
  | 1 => decide (SMap.get s.sc.txf [] k = [])
  | 2 => posted
  | _ => posted && decide (s.get (R.SP_RESULT_STATUS k) ≠ 0)

/-- The raw signal of a source (R580); `ext` is the level of a pin source. -/
def State.icRaw (s : State) (n : Nat) (ext : Bool) : Nat :=
  ofFlag (
    if n ≤ 18 then s.siteEvts.any (fun e => decide (bits e 8 8 = n))
    else if n < 40 then s.has (R.TM_CTRL_FIRED (n - 32))
    else if n = 40 then s.has R.WDG_STAT_WARN
    else if n < 60 then s.spSignal ((n - 44) / 4) ((n - 44) % 4)
    else if n = 60 then s.has R.DBG_VT_FLAGS_RXFULL
    else if n = 61 then !s.has R.DBG_VT_FLAGS_TXFULL
    else if n < 128 then (List.range 32).any (fun a => decide (s.get (R.SQ_SIG_SIG (n - 64) a) ≠ 0))
    else if 256 ≤ n ∧ n < 288 then decide (s.queue (cuPopAddr (n - 256)) ≠ [])
    else ext)

/-- IC_SOURCE_EVENT (R580, R582): the controller sees the present raw signal of a source; `level` is that of a pin source. A pulse source
pulses with the write or the firing that R580 names, and at no other time. -/
def execIcSourceEvent (n : Fin 384) (level : Bool) (s : State) : Host.Outcome State Fault Refusal :=
  if !icExists n ∨ icPulse n then done s else done (s.icSignal n (s.icRaw n level))

/-- IP as it stands (R582): of a level source that is not in service it follows the signal while the controller is clocked. -/
def State.icPending (s : State) (n : Nat) : Bool :=
  if icExists n && !icPulse n && s.icIsLevel n && !s.has (R.IC_SRC_ACTIVE n) && !s.sc.held && decide (s.scState ≤ scIDLE) then
    s.icActive n (s.icRaw n (decide (SMap.get s.sc.level 0 n = 1)))
  else s.has (R.IC_SRC_IP n)

/-- The sources that exist sampled at once, the stored level standing for a pin's. -/
def State.icSample (s : State) (n : Nat) : State :=
  if icPulse n then s else s.put (R.IC_SRC_IP n) (s.icActive n (s.icRaw n (decide (SMap.get s.sc.level 0 n = 1))))

/-- A write of IC_SRC_s (R581, R582). CLRPEND wins over SETPEND in one write (assumption 127). -/
def State.icSrcWrite (s : State) (src n v : Nat) : State :=
  if !s.srcOk src then s.reply 0x0D01 0
  else if 5 ≤ bits v 4 3 then s.reply 0x0D02 0
  else
    let s1 := s.sets [(R.IC_SRC_PRIO n, bits v 0 4), (R.IC_SRC_SENSE n, bits v 4 3), (R.IC_SRC_IE n, bit v 7)]
    let s2 := if s1.icIsLevel n then (if icExists n && !s1.has (R.IC_SRC_ACTIVE n) && !s1.sc.held then s1.icSample n else s1)
      else if bit v 11 = 1 then s1.put (R.IC_SRC_IP n) false
      else if bit v 10 = 1 ∧ icExists n then s1.put (R.IC_SRC_IP n) true else s1
    s2.reply 0 0

def State.icSrcNow (s : State) (n : Nat) : Nat := s.get (R.IC_SRC_PRIO n) + s.get (R.IC_SRC_SENSE n) * 2 ^ 4 + s.get (R.IC_SRC_IE n) * 2 ^ 7

/-- IC_SETPEND (R582). -/
def execIcSetpend (src : SrcId) (n : Fin 384) (s : State) : Host.Outcome State Fault Refusal :=
  done (s.icSrcWrite src n (s.icSrcNow n + 2 ^ 10))
/-- IC_CLRPEND (R582). -/
def execIcClrpend (src : SrcId) (n : Fin 384) (s : State) : Host.Outcome State Fault Refusal :=
  done (s.icSrcWrite src n (s.icSrcNow n + 2 ^ 11))

/-- A write of IC_DOORBELL_w (R580). -/
def State.icDoorbell (s : State) (src w v : Nat) : State :=
  if !s.srcOk src then s.reply 0x0D01 0
  else ((List.range 32).foldl (fun (t : State) i =>
    if bit v i = 1 then t.icPulseAt (128 + 32 * w + i) else t) s).reply 0 0

/-- IC_DOORBELL (R580). -/
def execIcDoorbell (src : SrcId) (w : Fin 4) (mask : BitVec 32) (s : State) : Host.Outcome State Fault Refusal :=
  done (s.icDoorbell src w mask.toNat)

/-- The source chosen against a level (R583): the highest PRIO, the lowest number among equals. -/
def State.icBest (s : State) (level : Nat) : Option Nat :=
  if bit (s.csr csrMSTATUS) 3 = 0 ∨ bit (s.csr csrMIE) 11 = 0 then none
  else (List.range 384).foldl (fun (b : Option Nat) n =>
    let p := s.get (R.IC_SRC_PRIO n)
    let ok := s.has (R.IC_SRC_IE n) && s.icPending n && !s.has (R.IC_SRC_ACTIVE n) && decide (s.get R.IC_CTRL_THRESH < p) && decide (level < p)
    match b with
    | none => if ok then some n else none
    | some m => if ok && decide (s.get (R.IC_SRC_PRIO m) < p) then some n else some m) none

/-- A source is claimed and its handler entered (R584 step 4). -/
def State.icClaim (s : State) (n : Nat) : State :=
  let v := s.scWord (s.get R.IC_VTBASE_ADDR + 4 * n)
  let s1 := (v.1.sets [(R.IC_SRC_ACTIVE n, 1), (R.IC_SRC_IP n, 0), (R.IC_STAT_LEVEL, s.get (R.IC_SRC_PRIO n)), (R.IC_STAT_SRC, n)]).setCsr
    csrMCAUSE 0x8000000B
  s1.setSc { s1.sc with
    pc := v.2
    priv := 3
    trapnest := 0
    resv := false }

/-- The registers of a frame (R585). -/
def frameRegs : List Nat := [1, 5, 6, 7, 10, 11, 12, 13, 14, 15, 16, 17, 28, 29, 30, 31]

/-- The frame of the present context (R585). -/
def State.icFrame (s : State) : List Nat :=
  frameRegs.map s.xreg ++ [s.sc.pc, s.csr csrMSTATUS,
    s.get R.IC_STAT_LEVEL + s.get R.IC_STAT_SRC * 2 ^ 4 + s.sc.priv * 2 ^ 13 + s.sc.trapnest * 2 ^ 15]

/-- Words at an address of the core's map: only SRAM takes them. -/
def State.scPutWords (s : State) (a : Nat) (ws : List Nat) : State :=
  if 0x10000000 ≤ a ∧ a + 4 * ws.length ≤ 0x10100000 then (s.sramWrite (a - 0x10000000) ws).1 else s

/-- The context that a delivery interrupts, its next instruction at `pc` (R584): IDLE ends, and a window load or a FENCE that waits is abandoned, to be
executed again. -/
def State.icInterrupted (s : State) (pc : Nat) : State :=
  let c := { s.sc with load := none, fence := false, sleepPend := 0 }
  if s.scState = scIDLE then (s.set R.SC_STATUS_STATE scRUN).setSc c
  else if s.sc.load.isSome || s.sc.fence then s.setSc c
  else s.setSc { c with pc := pc }

/-- IC_DELIVER (R583 to R585): the interrupted context, about to execute the instruction at `pc`, is stacked and the chosen source
claimed. -/
def execIcDeliver (pc : BitVec 32) (s : State) : Host.Outcome State Fault Refusal :=
  let ready := !s.sc.held && decide (s.scState ≤ scIDLE) && !s.has R.DBG_SC_STAT_EMUL && !s.has R.DBG_SC_STAT_HALTED && decide (s.sc.boot = 0)
    && (!s.sc.step || s.has R.DBG_SC_CTRL_STEPIE)
  match (if ready then s.icBest (s.get R.IC_STAT_LEVEL) else none) with
  | none => done s
  | some n =>
    let s0 := s.icInterrupted pc.toNat
    let fr := s0.icFrame
    if s0.sc.sheaf.length < 4 then
      let s1 := (s0.setSc { s0.sc with sheaf := s0.sc.sheaf ++ [fr] }).bump R.IC_STAT_DEPTH 1
      done (s1.icClaim n)
    else
      let a := s0.get R.IC_SP_ADDR
      if a < s0.get R.IC_SPLIM_ADDR + 80 then
        done (if s.has R.IC_STAT_SPFAULT then s else (s.put R.IC_STAT_SPFAULT true).raise 0x0D21 0 0)
      else
        let s1 := (s0.scPutWords (a - 80) (s0.sc.sheaf.headD [] ++ [0])).set R.IC_SP_ADDR (a - 80)
        let s2 := s1.setSc { s1.sc with
          sheaf := s1.sc.sheaf.drop 1 ++ [fr]
          spilled := s1.sc.spilled + 1 }
        done ((s2.bump R.IC_STAT_DEPTH 1).icClaim n)

/-- A freed sheaf slot is refilled (R585). -/
def State.icRefill (s : State) : State :=
  if s.sc.spilled = 0 ∨ 4 ≤ s.sc.sheaf.length then s
  else
    let a := s.get R.IC_SP_ADDR
    let r := (List.range 19).foldl (fun (x : State × List Nat) i => let y := x.1.scWord (a + 4 * i); (y.1, x.2 ++ [y.2])) (s, [])
    (r.1.setSc { r.1.sc with
      sheaf := r.2 :: r.1.sc.sheaf
      spilled := r.1.sc.spilled - 1 }).set R.IC_SP_ADDR (a + 80)

/-- IC_SHEAF_REFILL (R585): the refill of a slot that an exit freed, while the controller is clocked (R575). -/
def execIcSheafRefill (s : State) : Host.Outcome State Fault Refusal := if s.scState ≤ scIDLE then done s.icRefill else done s

/-- The interrupt exit (R586): the handler ends; its frame is reloaded, or serves the next handler. The model decides in cycle x0, where nothing is
reloaded and mstatus.MIE is still the handler's (assumption 128). -/
def State.icExit (s : State) : State :=
  let n := s.get R.IC_STAT_SRC
  let s1 := s.put (R.IC_SRC_ACTIVE n) false
  let s2 := if s1.icIsLevel n then s1.icSample n else s1
  let s3 := if s2.sc.sheaf = [] then s2.icRefill else s2
  match s3.sc.sheaf.getLast? with
  | none => s3
  | some fr =>
    let w := fr.getD 18 0
    match s3.icBest (bits w 0 4) with
    | some m => s3.icClaim m
    | none =>
      let s4 := (List.range 16).foldl (fun (t : State) i => t.setX (frameRegs.getD i 0) (fr.getD i 0)) s3
      let s5 := (s4.setCsr csrMSTATUS (fr.getD 17 0)).sets
        [(R.IC_STAT_LEVEL, bits w 0 4), (R.IC_STAT_SRC, bits w 4 9), (R.IC_STAT_DEPTH, s4.get R.IC_STAT_DEPTH - 1)]
      s5.setSc { s5.sc with
        pc := fr.getD 16 0
        priv := bits w 13 2
        trapnest := bits w 15 4
        sheaf := s5.sc.sheaf.dropLast }

/-- SC_MRET (R586): MRET at `pc`. -/
def execScMret (pc : BitVec 32) (s : State) : Host.Outcome State Fault Refusal :=
  if !s.scRuns then done s
  else if s.sc.priv ≠ 3 then done (s.scTrap pc.toNat 2 0x30200073)
  else if s.sc.trapnest ≠ 0 then done (s.setSc { s.sc with trapnest := s.sc.trapnest - 1 }).scMretPlain
  else if s.get R.IC_STAT_DEPTH ≠ 0 then done s.icExit
  else done s.scMretPlain

/-! ## Reset and boot (R573, R574) -/

/-- The controller's registers take their reset values (R573, R576). -/
def State.icReset (s : State) : State :=
  let keep (a : Nat) : Bool := decide (0x61001001200 ≤ a) && decide (a < 0x61001001280)
  let ic (a : Nat) : Bool := decide (0x61001001000 ≤ a) && decide (a < 0x61001004000) && !keep a
  { s with
    regs := SMap.without s.regs (fun k => ic (k / 64))
    sc := { s.sc with
      sheaf := []
      spilled := 0
      trapnest := 0 } }

/-- The core enters reset with a cause (R573): SRAM kept, controller and core at their reset values, GO and LOCK cleared. -/
def State.scReset (s : State) (cause : Nat) : State :=
  let s1 := s.icReset.sets [(R.SC_CTRL_GO, 0), (R.WDG_CTRL_LOCK, 0), (R.SC_STATUS_STATE, 0), (R.SC_STATUS_RCAUSE, cause),
    (R.DBG_SC_STAT_HALTED, 0), (R.DBG_SC_STAT_DEFERRED, 0), (R.DBG_SC_STAT_EMUL, 0), (R.WDG_STAT_FROZEN, 0)]
  (s1.setSc { s1.sc with
    held := true
    boot := 0
    pc := 0
    priv := 3
    resv := false
    csr := []
    load := none
    fence := false
    sleepPend := 0
    wake := false
    step := false }).bump R.SC_STATUS_RESETS 1

/-- The boot ROM jumps to the entry under SRC = 0, once GO is 1 and no debugger holds the core halted (R574). -/
def State.scGoJump (s : State) : State :=
  if s.sc.boot = 1 ∧ s.has R.SC_CTRL_GO ∧ !s.has R.DBG_SC_STAT_HALTED then
    s.setSc { s.sc with boot := 0, pc := 0x10000000 + 2 * s.get R.SC_BOOT_ENTRY }
  else s

/-- SC_RESET_RELEASE (R573, R574, R640): in RUN the core leaves reset into its boot ROM, or halts at 0; in SAFE so does one that was
reset while it ran, and one that BOOT or LOAD held stays held (R50). A GO written since the reset cleared it ends the wait at once. -/
def execScResetRelease (s : State) : Host.Outcome State Fault Refusal :=
  if !s.sc.held ∨ s.sc.modeHeld ∨ !s.inMode [mRUN, mSAFE] then done s
  else
    let s1 := s.setSc { s.sc with
      held := false
      boot := if s.has R.SC_BOOT_SRC then 2 else 1
      wrapBase := s.tp.wide }
    if s.has R.DBG_SC_CTRL_HALTRESET then
      done ((s1.setSc { s1.sc with hreq := false }).sets [(R.DBG_SC_STAT_HALTED, 1), (R.DBG_SC_STAT_CAUSE, 6), (R.WDG_STAT_FROZEN, 1)] |>.raise 0x0E32 0 0)
    else done s1.scGoJump

/-- A write of SC_CTRL (R567, R573, R574); 0x0D02 goes before the 0x0D01 of RESET (assumption 126). -/
def State.scCtrlWrite (s : State) (src v : Nat) : State :=
  if !s.srcOk src then s.reply 0x0D01 0
  else if bits v 0 2 = 0 then s.reply 0x0D02 0
  else if bit v 3 = 1 ∧ src = 97 then s.reply 0x0D01 0
  else
    let s1 := s.set R.SC_CTRL_DIV (bits v 0 2)
    let s2 := if bit v 2 = 1 then (s1.put R.SC_CTRL_GO true).scGoJump else s1
    (if bit v 3 = 1 then s2.scReset 3 else s2).reply 0 0

/-- SC_GO (R574). -/
def execScGo (src : SrcId) (s : State) : Host.Outcome State Fault Refusal :=
  done (s.scCtrlWrite src (s.get R.SC_CTRL_DIV + 4))
/-- SC_RESET (R573). -/
def execScReset (src : SrcId) (s : State) : Host.Outcome State Fault Refusal :=
  done (s.scCtrlWrite src (s.get R.SC_CTRL_DIV + 8))

/-- A write of SC_BOOT, SC_SLEEP, SC_WIN_w, SC_EVT_EN, IC_CTRL, IC_VTBASE, IC_SP, IC_SPLIM, IC_PINSEL_j or IC_WAKE_n, by its offset. SRC 0 of
IC_WAKE_n, its reset value, is taken while EN = 0 (assumption 126). -/
def State.scPlainWrite (s : State) (src off v : Nat) : State :=
  let bad := s.reply 0x0D02 0
  if !s.srcOk src then s.reply 0x0D01 0
  else if off = 0x10 then
    if bits v 32 32 % 65536 ≠ 0 then bad
    else (s.sets [(R.SC_BOOT_SRC, bit v 0), (R.SC_BOOT_ENTRY, bits v 1 19), (R.SC_BOOT_FLASH_ADDR, bits v 32 32)]).reply 0 0
  else if off = 0x18 then (if bits v 0 2 = 3 then bad else (s.set R.SC_SLEEP_TARGET (bits v 0 2)).reply 0 0)
  else if 0x40 ≤ off ∧ off < 0x60 then (s.set (R.SC_WIN_BASE ((off - 0x40) / 8)) (bits v 0 16)).reply 0 0
  else if off = 0x80 then (s.set R.SC_EVT_EN_EN (bits v 1 18)).reply 0 0
  else if off = 0x1000 then (s.set R.IC_CTRL_THRESH (bits v 0 4)).reply 0 0
  else if off = 0x1008 then (if bit v 17 = 1 then s.put R.IC_STAT_SPFAULT false else s).reply 0 0
  else if off = 0x1010 then (if v % 2048 ≠ 0 then bad else (s.set R.IC_VTBASE_ADDR v).reply 0 0)
  else if off = 0x1018 then (if v % 16 ≠ 0 then bad else (s.set R.IC_SP_ADDR v).reply 0 0)
  else if off = 0x1020 then (s.set R.IC_SPLIM_ADDR v).reply 0 0
  else if 0x1100 ≤ off ∧ off < 0x1180 then
    (if 335 < bits v 0 9 then bad else (s.set (R.IC_PINSEL_PIN ((off - 0x1100) / 4)) (bits v 0 9)).reply 0 0)
  else if 0x1200 ≤ off ∧ off < 0x1280 then
    let n := (off - 0x1200) / 4
    if bits v 0 9 = 0 ∧ bit v 9 = 1 ∨ 383 < bits v 0 9 then bad
    else (s.sets [(R.IC_WAKE_SRC n, bits v 0 9), (R.IC_WAKE_EN n, bit v 9)]).reply 0 0
  else s.reply 0x0203 0

/-! ## Sleep (R575 to R579, R644) -/

/-- WARN follows COUNT (R590). -/
def State.wdgWarn (s : State) : State :=
  if s.get R.WDG_STAT_COUNT ≤ s.get R.WDG_WARNAT_WARNAT then s.put R.WDG_STAT_WARN true else s

/-- Reloads COUNT. -/
def State.wdgReload (s : State) : State := ((s.set R.WDG_STAT_COUNT (s.get R.WDG_CTRL_LOAD)).put R.WDG_STAT_WARN false).wdgWarn

/-- Enters SLEEP or OFF; a watched level that is already active wakes at once (R578). -/
def State.scSleep (s : State) (st : Nat) : State :=
  let w := (List.range 384).any (fun n => icExists n && s.watches n && s.icIsLevel n && s.icActive n (SMap.get s.sc.level 0 n))
  (s.set R.SC_STATUS_STATE st).setSc { s.sc with wake := w, sleepPend := 0 }

/-- SC_WFI (R575, R576, R642, R644): WFI at `pc`. -/
def execScWfi (pc : BitVec 32) (s : State) : Host.Outcome State Fault Refusal :=
  if !s.scRuns then done s
  else
    let s1 := s.setSc { s.sc with pc := (pc.toNat + 4) % 2 ^ 32, sleepPend := 0 }
    let t := s.get R.SC_SLEEP_TARGET
    if s.sc.step then done s1
    else if t = 0 then done (s1.set R.SC_STATUS_STATE scIDLE)
    else if !(List.range 32).any (fun w => s.has (R.IC_WAKE_EN w)) then done ((s1.set R.SC_STATUS_STATE scIDLE).raise 0x0D09 0 0)
    else if s.attached then done ((s1.scSleep (t + 1)).put R.DBG_SC_STAT_EMUL true)
    else if s.sc.posted ≠ [] then done ((s1.set R.SC_STATUS_STATE scIDLE).setSc { s1.sc with sleepPend := t + 1 })
    else done (s1.scSleep (t + 1))

/-- SC_WAKE (R576 to R579, R591, R644): a watched event ends SLEEP, OFF or their emulation. -/
def execScWake (s : State) : Host.Outcome State Fault Refusal :=
  let st := s.get R.SC_STATUS_STATE
  if s.sc.held ∨ !s.sc.wake ∨ st < 2 then done s
  else if st = scSLEEP then
    let s1 := (s.sets [(R.SC_STATUS_STATE, scRUN), (R.DBG_SC_STAT_EMUL, 0)]).setSc { s.sc with wake := false }
    done ((List.range 384).foldl (fun (t : State) n =>
      if icExists n && t.icIsLevel n && !t.has (R.IC_SRC_ACTIVE n) then t.icSample n else t) s1)
  else
    let keep := s.regs.filter (fun e => decide (0x61001000040 ≤ e.1 / 64) && decide (e.1 / 64 < 0x61001000060))
    let s1 := { s with regs := s.regs.filter (fun e => !keep.contains e) }
    let s2 := (s1.scReset 5).sramClear
    done s2.wdgReload

/-- SC_SRAM_ACCESS (R572, R643, R566): the core's access at `pc` to SRAM: kind 0 load, 1 store, 2 fetch, 3 LR, 4 SC; `size` is log2 of
the bytes; `rd` is x0 to x31 or f0 to f31; `upset` are cells of the row that stand inverted when it is read. -/
def execScSramAccess (pc : BitVec 32) (addr : BitVec 20) (kind : Fin 5) (size : Fin 3) (sign : Bool) (rd : Fin 64) (data : BitVec 32)
    (upset : BitVec 144) (s : State) : Host.Outcome State Fault Refusal :=
  if !s.scRuns then done s
  else
    let k := kind.val
    let o := addr.toNat
    let a := 0x10000000 + o
    let row := o / 16
    let n := 2 ^ size.val
    let isStore := decide (k = 1 ∨ k = 4)
    let s0 := s.setSc { s.sc with sram := SMap.set s.sc.sram 0 row (SMap.get s.sc.sram 0 row ^^^ upset.toNat) }
    let next (t : State) : State := t.setSc { t.sc with pc := (pc.toNat + 4) % 2 ^ 32 }
    if k ≠ 2 ∧ o % n ≠ 0 then done (s0.scTrap pc.toNat (if isStore then 6 else 4) a)
    else if k = 4 ∧ !s.sc.resv then done (next (s0.setX rd 1))
    else if isStore then
      let sh := 8 * (o % 16)
      let r := s0.sramPut row ((2 ^ (8 * n) - 1) * 2 ^ sh) (data.toNat % 2 ^ (8 * n) * 2 ^ sh)
      if !r.2 then done ((r.1.raise 0x0D12 0 0).scTrap pc.toNat 7 a)
      else if k = 4 then done (next ((r.1.setX rd 0).setSc { (r.1.setX rd 0).sc with resv := false }))
      else done (next r.1)
    else match s0.sramRow row with
      | (t, none) => done ((t.raise 0x0D12 0 0).scTrap pc.toNat (if k = 2 then 1 else 5) a)
      | (t, some v) =>
        let w := bits v (8 * (o % 16)) (8 * n)
        if k = 2 then done t
        else
          let u := t.setX rd (if sign then encode2 32 (signed (8 * n) w) else w)
          done (next (if k = 3 then u.setSc { u.sc with resv := true } else u))

/-! ## Timers and watchdog (R588 to R591) -/

def State.tmPending (s : State) (n : Nat) : Nat := SMap.get s.sc.tmT 0 n
def State.setTm (s : State) (n t : Nat) : State :=
  (s.setSc { s.sc with tmT := SMap.set s.sc.tmT 0 n (t % 2 ^ 64) }).set (R.TM_TARGET_TARGET n) (t / 65536)

/-- A write of TM_CTRL_n (R588), judged at V_W, the value of the next tick (R290). Of several refusals 0x0D04 goes first, then 0x0D02 (assumption 129). -/
def State.tmCtrlWrite (s : State) (src n v : Nat) : State :=
  let armed := s.has (R.TM_CTRL_ARM n)
  let tg := s.get (R.TM_TARGET_TARGET n)
  let p := s.get (R.TM_PERIOD_PERIOD n)
  let per := bit v 2 = 1
  let vw := s.timeTick.time48 78
  if !s.srcOk src then s.reply 0x0D01 0
  else if bit v 0 = 1 ∧ armed then s.reply 0x0D04 0
  else if bit v 0 = 1 ∧ per ∧ (p < 100 * 2 ^ 32 ∨ 2 ^ 63 ≤ p) then s.reply 0x0D02 0
  else if bit v 0 = 1 ∧ ((tg / 65536 + 2 ^ 32 - vw / 65536) % 2 ^ 32 = 2 ^ 31 ∨ signed 48 (tg + 2 ^ 48 - vw) < 20 * 65536) then s.reply 0x0D03 0
  else
    let s1 := s.set (R.TM_CTRL_PERIODIC n) (bit v 2)
    let s2 := if bit v 3 = 1 then s1.set (R.TM_CTRL_FIRED n) 0 else s1
    let s3 := if bit v 0 = 1 ∧ s.inMode [mRUN, mSAFE] then ((s2.set (R.TM_CTRL_ARM n) 1).setTm n (tg * 65536)).setSc
        { ((s2.set (R.TM_CTRL_ARM n) 1).setTm n (tg * 65536)).sc with tmCut := SMap.set s2.sc.tmCut 0 n 0 } else s2
    let s4 := if bit v 1 = 1 ∧ s3.has (R.TM_CTRL_ARM n) then
        s3.setSc { s3.sc with tmCut := SMap.set s3.sc.tmCut 0 n (s3.tp.tick + 65) } else s3
    s4.reply 0 0

/-- TM_ARM (R588). -/
def execTmArm (src : SrcId) (n : Fin 8) (periodic : Bool) (s : State) : Host.Outcome State Fault Refusal :=
  done (s.tmCtrlWrite src n (1 + 4 * ofFlag periodic))
/-- TM_DISARM (R588). -/
def execTmDisarm (src : SrcId) (n : Fin 8) (s : State) : Host.Outcome State Fault Refusal :=
  done (s.tmCtrlWrite src n (2 + 4 * s.get (R.TM_CTRL_PERIODIC n)))

/-- A write of TM_TARGET_n or TM_PERIOD_n. -/
def State.tmWrite (s : State) (src n v : Nat) (period : Bool) : State :=
  if !s.srcOk src then s.reply 0x0D01 0
  else if s.has (R.TM_CTRL_ARM n) ∧ !period then s.reply 0x0D04 0
  else (if period then s.set (R.TM_PERIOD_PERIOD n) v else s.set (R.TM_TARGET_TARGET n) v).reply 0 0

def State.tmDue (s : State) (n : Nat) : Bool := s.has (R.TM_CTRL_ARM n) && notEarlier (s.time48 78) (s.tmPending n / 65536)

/-- One timer that is due (R588, R589). -/
def State.tmFire (s : State) (stepped : Bool) (n : Nat) : State :=
  let p := s.get (R.TM_PERIOD_PERIOD n)
  let per := s.has (R.TM_CTRL_PERIODIC n) && decide (p ≠ 0)
  let k := if stepped && per then ((s.time48 78 * 65536 + 65535 + 2 ^ 64 - s.tmPending n) % 2 ^ 64) / p + 1 else 1
  let s1 := s.bump (R.TM_CTRL_MISSED n) (s.get (R.TM_CTRL_FIRED n) + (k - 1))
  let s2 := s1.set (R.TM_CTRL_FIRED n) 1
  if per then s2.setTm n (s2.tmPending n + k * p) else s2.set (R.TM_CTRL_ARM n) 0

/-- Timers at a backward step (R589, R322). -/
def State.tmBack (prev : Nat) (s : State) (n : Nat) : State :=
  if !s.has (R.TM_CTRL_ARM n) then s
  else
    let r := backStep (if s.has (R.TM_CTRL_PERIODIC n) then some (s.get (R.TM_PERIOD_PERIOD n)) else none) (s.tmPending n) prev (s.time48 78)
    if r.2 then ((s.setTm n r.1).set (R.TM_CTRL_ARM n) 0).raise 0x0D23 0 0 else s.setTm n r.1

/-- The timers at one tick. -/
def State.timersTick (s : State) (prev : Nat) (step : Int) : State :=
  let s0 := (List.range 8).foldl (fun (t : State) n =>
    let c := SMap.get t.sc.tmCut 0 n
    if c ≠ 0 ∧ c < t.tp.tick then
      (t.set (R.TM_CTRL_ARM n) 0).setSc { t.sc with tmCut := SMap.set t.sc.tmCut 0 n 0 } else t) s
  let s1 := if step < 0 then (List.range 8).foldl (State.tmBack prev) s0 else s0
  (List.range 8).foldl (fun (t : State) n => if t.tmDue n then t.tmFire (decide (0 < step)) n else t) s1

/-- Whether COUNT counts (R590, R591). -/
def State.wdgCounts (s : State) : Bool :=
  s.has R.WDG_CTRL_EN && s.inMode [mRUN, mSAFE] && !s.has R.WDG_STAT_FROZEN && decide (s.scState ≠ scOFF)
    && !(decide (s.scState = scSLEEP) && s.has R.WDG_CTRL_SLEEP_HOLD)

/-- COUNT reaches 0 (R590). -/
def State.wdgExpire (s : State) : State :=
  (((s.bump R.WDG_STAT_EXPIRIES 1).raise 0x0D30 0 0).scReset 2).wdgReload

/-- One microsecond of the watchdog. -/
def State.wdgTick (s : State) : State :=
  if !s.wdgCounts then s
  else
    let c := s.get R.WDG_STAT_COUNT - 1
    if c = 0 then s.wdgExpire else (s.set R.WDG_STAT_COUNT c).wdgWarn

/-- WDG_KICK (R590). -/
def State.wdgKick (s : State) (src key : Nat) : State :=
  if !s.srcOk src then s.reply 0x0D01 0
  else if key % 2 ^ 16 ≠ 0x4B1C then s.reply 0x0D05 0
  else s.wdgReload.reply 0 0
def execWdgKick (src : SrcId) (key : BitVec 16) (s : State) : Host.Outcome State Fault Refusal := done (s.wdgKick src key.toNat)

/-- A write of WDG_CTRL or WDG_WARNAT (R590, R597). LOCK is set by a 1 only, so that a 0 is no write that clears it; the range goes before the lock
(assumption 129). -/
def State.wdgWrite (s : State) (src v : Nat) (warnat : Bool) : State :=
  let lock := s.has R.WDG_CTRL_LOCK
  if !s.srcOk src then s.reply 0x0D01 0
  else if warnat then (if lock then s.reply 0x0D06 0 else ((s.set R.WDG_WARNAT_WARNAT v).wdgWarn).reply 0 0)
  else if bits v 32 32 < 1000 then s.reply 0x0D02 0
  else if lock ∧ ((bit v 0 = 0 ∧ s.has R.WDG_CTRL_EN) ∨ bits v 32 32 ≠ s.get R.WDG_CTRL_LOAD) then s.reply 0x0D06 0
  else
    let s1 := s.sets [(R.WDG_CTRL_EN, bit v 0), (R.WDG_CTRL_SLEEP_HOLD, bit v 2), (R.WDG_CTRL_LOAD, bits v 32 32)]
    (if bit v 1 = 1 then s1.put R.WDG_CTRL_LOCK true else s1).reply 0 0

/-- Timers and watchdog at one tick: `pre` is the state before it. -/
def State.siteTick (s pre : State) : State :=
  let step := if (SMap.get s.tp.heldTime none 78).isSome then 0 else pre.stepSum s.tp.tick
  let s1 := if s.inMode [mRUN, mSAFE] then s.timersTick (pre.time48 78) step else s
  if s.tp.acc / 2 ^ 32 / 1000 ≠ pre.tp.acc / 2 ^ 32 / 1000 then s1.wdgTick else s1

/-! ## Serial ports (R592 to R595) -/

def State.spTx (s : State) (k : Nat) : List Nat := SMap.get s.sc.txf [] k
def State.spRx (s : State) (k : Nat) : List Nat := SMap.get s.sc.rxf [] k
def State.setSpTx (s : State) (k : Nat) (l : List Nat) : State :=
  (s.setSc { s.sc with txf := SMap.set s.sc.txf [] k l }).set (R.SP_RESULT_TXFILL k) l.length
def State.setSpRx (s : State) (k : Nat) (l : List Nat) : State :=
  (s.setSc { s.sc with rxf := SMap.set s.sc.rxf [] k l }).set (R.SP_RESULT_RXFILL k) l.length
def State.spPost (s : State) (k code : Nat) : State := s.post (R.SP_RESULT_STATUS k) code
def State.spBusy (s : State) (k : Nat) : Bool := decide (SMap.get s.sc.spRun none k ≠ none)
/-- CS_L of SP_k stays low after its transaction (KEEP_CS, R594). -/
def State.setCsLow (s : State) (k : Nat) (b : Bool) : State := s.setSc { s.sc with csLow := SMap.set s.sc.csLow false k b }

/-- What pin `i` of SP_k does (R592): high impedance where it has no role or the device is not in RUN, an input, driven, or open drain. -/
inductive SpPin where
  | highZ | input | driven | openDrain
deriving DecidableEq, Repr
def State.spPinRole (s : State) (k i : Nat) : SpPin :=
  if s.mode0 ≠ mRUN then .highZ
  else match s.get (R.SP_CFG_MODE k), i with
    | 1, 0 => .driven
    | 1, 1 => .input
    | 1, 2 => if s.has (R.SP_CFG_FLOW k) then .driven else .highZ
    | 1, 3 => if s.has (R.SP_CFG_FLOW k) then .input else .highZ
    | 2, 2 => .input
    | 2, _ => .driven
    | 3, 0 => .openDrain
    | 3, 1 => .openDrain
    | _, _ => .highZ
/-- CS_L of an SPI port (R594): low during a transaction, and after it where KEEP_CS = 1. -/
def State.spCsLow (s : State) (k : Nat) : Bool := decide (s.get (R.SP_CFG_MODE k) = 2) && (s.spBusy k || SMap.get s.sc.csLow false k)

/-- The bytes a whole transaction sends (R594): SPI clocks zeros after its bytes; I2C sends ADDR with a write bit before them, and after them ADDR with a
read bit where bytes come in. -/
def SpTx.wire (t : SpTx) (i2c : Bool) : List Nat :=
  if i2c then (if t.out = [] then [] else 2 * t.addr :: t.out) ++ (if t.rlen = 0 then [] else [2 * t.addr + 1])
  else t.out ++ List.replicate (t.rlen - t.out.length) 0

/-- Whether a loaded partition owns a pin (R520, R593). -/
def State.pinOwned (s : State) (pin : Nat) : Bool :=
  (List.range 64).any (fun c =>
    match s.partOf c with
    | none => false
    | some q =>
      let p := (s.bough c).plane
      let sh := s.get (R.PT_STAT_SHADOW q)
      (decide (s.ptState q = 1) || decide (s.ptState q = 2)) && (p :: (if sh = 2 ∨ sh = 4 then [1 - p] else [])).any (fun pl =>
        (List.range 64).any (fun e => decide (bit (s.pinEntry pl c e) 12 = 1) && decide (bits (s.pinEntry pl c e) 0 9 = pin))))

/-- A write of SP_CFG_k (R592, R593, R597). A change of MODE raises a CS_L that KEEP_CS held. The order of the refusals is assumption 130. -/
def State.spCfgWrite (s : State) (src k v : Nat) : State :=
  let mode := bits v 0 2
  let div := bits v 16 16
  let badDiv := (mode = 1 ∧ div < 16) ∨ (mode = 2 ∧ div = 0) ∨ (mode = 3 ∧ div < 100)
  if !s.srcOk src then (s.spPost k 0x0D01).reply 0 0
  else if bits v 3 2 = 3 ∨ badDiv then (s.spPost k 0x0D02).reply 0 0
  else if s.spBusy k ∧ (mode ≠ s.get (R.SP_CFG_MODE k) ∨ div ≠ s.get (R.SP_CFG_DIV k)) then (s.spPost k 0x0D07).reply 0 0
  else if s.get (R.SP_CFG_MODE k) = 0 ∧ mode ≠ 0 ∧ (List.range 4).any (fun i => s.pinOwned (spPin k + i)) then (s.spPost k 0x0D08).reply 0 0
  else ((if mode = s.get (R.SP_CFG_MODE k) then s else s.setCsLow k false).setWord [R.SP_CFG_MODE k, R.SP_CFG_FLOW k, R.SP_CFG_PARITY k, R.SP_CFG_STOP2 k, R.SP_CFG_CPOL k, R.SP_CFG_CPHA k, R.SP_CFG_DIV k] v).reply 0 0

/-- SP_CFG_WRITE (R593). -/
def execSpCfgWrite (src : SrcId) (k : Fin 4) (data : BitVec 32) (s : State) : Host.Outcome State Fault Refusal :=
  done (s.spCfgWrite src k data.toNat)

/-- A write of SP_CMD_k (R592, R594). -/
def State.spCmd (s : State) (src k v : Nat) : State :=
  let wlen := bits v 0 5
  let rlen := bits v 5 5
  if !s.srcOk src then (s.spPost k 0x0D01).reply 0 0
  else if s.mode0 ≠ mRUN then (s.spPost k 0x0D1C).reply 0 0
  else if 16 < wlen ∨ 16 < rlen ∨ s.get (R.SP_CFG_MODE k) < 2 then (s.spPost k 0x0D02).reply 0 0
  else if s.spBusy k ∨ (s.spTx k).length < wlen ∨ 16 < rlen + (s.spRx k).length then (s.spPost k 0x0D07).reply 0 0
  else
    let s1 := s.setSpTx k ((s.spTx k).drop wlen)
    ((s1.setSc { s1.sc with spRun := SMap.set s1.sc.spRun none k (some ⟨(s.spTx k).take wlen, rlen, bits v 10 7, decide (bit v 17 = 1)⟩) }).expect
      (R.SP_RESULT_STATUS k)).reply 0 0

/-- SP_CMD (R594). -/
def execSpCmd (src : SrcId) (k : Fin 4) (data : BitVec 32) (s : State) : Host.Outcome State Fault Refusal := done (s.spCmd src k data.toNat)

/-- SP_TRANSACTION_DONE (R594): the transaction ends; `end3` says how an I²C one ended (0 whole, 1 address not acknowledged, 2 data not
acknowledged, 3 bus held or lost), `rx` are the bytes that came in. Of an I2C transaction that failed the bytes are shown as far as its end tells
(assumption 130). -/
def execSpTransactionDone (k : Fin 4) (end3 : Fin 4) (rx : List (BitVec 8)) (s : State) : Host.Outcome State Fault Refusal :=
  match SMap.get s.sc.spRun none k.val with
  | none => done s
  | some t =>
    let s1 := s.setSc { s.sc with spRun := SMap.set s.sc.spRun none k.val none }
    let i2c := decide (s.get (R.SP_CFG_MODE k) = 3)
    let e := if i2c then end3.val else 0
    let got := ((rx.map (fun (x : BitVec 8) => x.toNat)) ++ List.replicate t.rlen 0).take t.rlen
    let s2 := if e = 0 then s1.setSpRx k (s1.spRx k ++ got) else s1
    let sent := if e = 0 then t.wire i2c else (t.wire i2c).take (e % 3)
    done (({ s2 with out := [.bytes k sent] }.setCsLow k (!i2c && t.keep)).spPost k (if e = 0 then 0 else 0x0D17 + e))

/-- A write of SP_DATA_POP_k (R594, R597). -/
def State.spPush (s : State) (src k v : Nat) : State :=
  if !s.srcOk src then (s.spPost k 0x0D01).reply 0 0
  else if 16 ≤ (s.spTx k).length then (s.spPost k 0x0D07).reply 0 0
  else (s.setSpTx k (s.spTx k ++ [v % 256])).reply 0 0

/-- SP_DATA_PUSH (R594). -/
def execSpDataPush (src : SrcId) (k : Fin 4) (byte : BitVec 8) (s : State) : Host.Outcome State Fault Refusal := done (s.spPush src k byte.toNat)

/-- A read of SP_DATA_POP_k (R597, R16). -/
def State.spPop (s : State) (k : Nat) (debug : Bool) : State :=
  match s.spRx k with
  | [] => s.reply 0 0
  | w :: t => (if debug then s else s.setSpRx k t).reply 0 (w + 2 ^ 8)

/-- SP_DATA_POP (R594). -/
def execSpDataPop (k : Fin 4) (s : State) : Host.Outcome State Fault Refusal := done (s.spPop k false)

/-- UART_RX_BYTE (R594). -/
def execUartRxByte (k : Fin 4) (byte : BitVec 8) (err : Bool) (s : State) : Host.Outcome State Fault Refusal :=
  if s.get (R.SP_CFG_MODE k) ≠ 1 ∨ s.mode0 ≠ mRUN then done s
  else if 16 ≤ (s.spRx k).length then done (s.raise 0x0D33 0 0)
  else done (s.setSpRx k (s.spRx k ++ [byte.toNat + ofFlag err * 2 ^ 9]))

/-- UART_TX_BYTE (R594). -/
def execUartTxByte (k : Fin 4) (s : State) : Host.Outcome State Fault Refusal :=
  if s.get (R.SP_CFG_MODE k) ≠ 1 ∨ s.mode0 ≠ mRUN then done s
  else match s.spTx k with
    | [] => done s
    | w :: t => done ({ s with out := [.bytes k [w]] }.setSpTx k t)

/-- Leaving RUN (R592): transactions in progress end with 0x0D1C, and the pins go to high impedance. -/
def State.spStop (s : State) : State :=
  (List.range 4).foldl (fun (t : State) k =>
    if t.spBusy k then (t.setSc { t.sc with spRun := SMap.set t.sc.spRun none k none }).spPost k 0x0D1C else t) (s.setSc { s.sc with csLow := [] })

/-! ## The site event queue (R596) -/

/-- A read of the lower half of SC_EVT_POP. -/
def State.scEvtRead (s : State) : State :=
  let addr := R.SC_EVT_POP_CODE.addr
  match s.siteEvts with
  | [] => { s.reply 0 0 with half := SMap.set s.half none addr (some 0) }
  | w :: t => { s.reply 0 w with
      siteEvts := t
      half := SMap.set s.half none addr (some (w / 2 ^ 32)) }

/-- SC_EVT_POP (R596). -/
def execScEvtPop (s : State) : Host.Outcome State Fault Refusal := done s.scEvtRead

end Sys2Proof.Machine
end

