-- ==== Sys2Proof/Machine/Tick.lean ====
section
/-!
DEFINITION. One rising edge of TCLK (R281): the time plane moves, then the timeline, the timers, the
watchdog and the wake compare act on the value of the tick. The rows that
name what a tick may do are the tick itself where the next tick does it.
-/
namespace Sys2Proof.Machine
open Sys2Proof

/-- Whether the armed wake compare fires at the present time (R44). -/
def State.wakeDue (s : State) : Bool :=
  s.has R.DEV_WAKE_ARM && decide (s.mode0 ≠ mOFF) && decide ((s.get R.DEV_WAKE_WRAPS : Int) ≤ s.mode.wakeC + s.timeWide 77 / 2 ^ 48 - s.tp.wide)
    && decide (s.get R.DEV_WAKE_TARGET ≤ s.time48 77)

/-- A wake trigger (R45, cause 0x03). -/
def State.wake (s : State) : State := if s.mode0 = mSTANDBY ∧ s.coreRails then s.trigger 0x03 0 else s

/-- The wake compare at the present time (R44): it fires, clears ARM and wakes the device from STANDBY; in any other mode it is logged. -/
def State.wakeTick (s : State) : State :=
  if !s.wakeDue then s
  else if s.mode0 = mSTANDBY then (s.put R.DEV_WAKE_ARM false).wake
  else { s.put R.DEV_WAKE_ARM false with mode := { s.mode with wakeLog := s.mode.wakeLog ++ [s.now32] } }

/-- The latches of a capture take what the bough's flip-flops hold (R539). -/
def State.capTake (s0 : State) (b : Nat) (c : CapPend) : State :=
  let s := s0.settled
  let lo := ffKey b 0 0 0 0 0
  let hi := ffKey (b + 1) 0 0 0 0 0
  let old := SMap.clear s.pt.capLatch lo hi
  let cap := if s.latchDark b then old else
    s.fab.ffs.foldl (fun (m : SMap Nat) (e : Nat × Nat) => if lo ≤ e.1 ∧ e.1 < hi then SMap.set m 0 e.1 e.2 else m) old
  { s with pt := { s.pt with capLatch := cap, capPend := SMap.set s.pt.capPend none b (some { c with taken := true }) } }

/-- The captures whose T_c the tick reaches take, before the clock edges of that instant (R538, R539): T_c is four ticks of 1.25 ns
after the firing. -/
def State.capTick (s : State) : State :=
  s.pt.capPend.foldl (fun (t : State) e =>
    match e.2 with
    | some c => if !c.taken && decide (c.tick + 4 ≤ s.tp.tick) then t.capTake e.1 c else t
    | none => t) s

/-- One tick (R281, R315, R538, R588, R590, R44). -/
def State.tclkTick (s : State) : State := if s.mode0 = mOFF then s else ((s.timeTick.capTick.timelineTick s).siteTick s).wakeTick

/-- The next tick, where it is of the kind asked for. -/
def State.tickIf (s : State) (c : Bool) : State := if c then s.tclkTick else s

/-- TIME_CLOCK_TICK (R281). -/
def execTimeClockTick (s : State) : Host.Outcome State Fault Refusal := done s.tclkTick

/-- DEV_WAKE_FIRE (R44): the compare at the present time, or the tick, where the wake is due at it. -/
def execDevWakeFire (s : State) : Host.Outcome State Fault Refusal := done (if s.wakeDue then s.wakeTick else s.tickIf s.timeTick.wakeDue)

/-- TIME_WRAP (R293): the tick, where it changes WRAPS. -/
def execTimeWrap (s : State) : Host.Outcome State Fault Refusal := done (s.tickIf (decide (s.timeTick.tp.wraps ≠ s.tp.wraps)))

/-- HALF_PERIOD (R293): the tick, where it crosses 0x8000_0000 ns. -/
def execHalfPeriod (s : State) : Host.Outcome State Fault Refusal :=
  done (s.tickIf (decide (s.timeTick.tp.acc / 2 ^ 63 ≠ s.tp.acc / 2 ^ 63) && decide (s.timeTick.tp.wraps = s.tp.wraps)))

/-- ADJ_APPLY (R290): the tick, where an accepted adjustment is due at it. -/
def execAdjApply (s : State) : Host.Outcome State Fault Refusal :=
  done (s.tickIf (s.tp.adj.any (fun e => decide (e.1 ≤ s.tp.tick + 1))))

/-- STEP_APPLY (R295): the tick, where a step is due at it. -/
def execStepApply (s : State) : Host.Outcome State Fault Refusal :=
  done (s.tickIf (s.tp.adj.any (fun e => decide (e.1 ≤ s.tp.tick + 1) && e.2.isStep)))

/-- SLEW_END (R296): the tick, where the running slew ends at it. -/
def execSlewEnd (s : State) : Host.Outcome State Fault Refusal :=
  done (s.tickIf (s.tp.slew.isSome && s.timeTick.tp.slew.isNone))

/-- TL_SLOT_FIRE (R315): the tick, where an armed slot is due at it. -/
def execTlSlotFire (s : State) : Host.Outcome State Fault Refusal :=
  done (s.tickIf (s.armedSlots.any (fun k => notEarlier (s.timeTick.time48 72) (s.pendingT k / 65536))))

/-- TM_FIRE (R588): the tick, where timer `n` is due at it. -/
def execTmFire (n : Fin 8) (s : State) : Host.Outcome State Fault Refusal := done (s.tickIf (s.timeTick.tmDue n))

/-- WDG_EXPIRY (R590): the tick, where the watchdog's COUNT reaches 0 at it. -/
def execWdgExpiry (s : State) : Host.Outcome State Fault Refusal :=
  done (s.tickIf (decide (s.timeTick.tp.acc / 2 ^ 32 / 1000 ≠ s.tp.acc / 2 ^ 32 / 1000) && s.wdgCounts && decide (s.get R.WDG_STAT_COUNT ≤ 1)))

end Sys2Proof.Machine
end

