-- ==== Sys2Proof/Machine/SiteDebug.lean ====
section
/-!
DEFINITION. Run control of the site core and of the sequencers, and the virtual terminal (R640 to R650).
-/
namespace Sys2Proof.Machine
open Sys2Proof

/-- The status that a write of a debug register meets by its source and level (R646): 0 where it is taken. -/
def State.dbgWriteRefusal (s : State) (src : Nat) : Nat :=
  if src ≠ 161 then 0x0E01 else if s.dbgLevel < 2 then 0x0E02 else 0
/-- The status that a read meets (R646). -/
def State.dbgReadRefusal (s : State) (src : Nat) : Nat :=
  if src = 65 then 0 else if src ≠ 161 then 0x0E01 else if s.dbgLevel = 0 then 0x0E02 else 0

/-! ## The site core -/

/-- The core halts (R640 to R643): DPC, CAUSE and IDX; the reservation drops, the watchdog freezes (R591), 0x0E32 is raised. -/
def State.scHaltAt (s : State) (dpc cause idx : Nat) : State :=
  let s1 := s.setSc { s.sc with
    pc := dpc % 2 ^ 32
    resv := false
    hreq := false
    sleepPend := 0
    step := false }
  (s1.sets [(R.SC_STATUS_STATE, scRUN), (R.DBG_SC_STAT_HALTED, 1), (R.DBG_SC_STAT_DEFERRED, 0), (R.DBG_SC_STAT_EMUL, 0),
    (R.DBG_SC_STAT_CAUSE, cause), (R.DBG_SC_STAT_IDX, idx), (R.WDG_STAT_FROZEN, 1)]).raise 0x0E32 0 0

/-- The core resumes at DPC (R642), in its boot ROM too (R574); COUNT becomes the larger of its frozen value and 1,000 (R591). -/
def State.scResume (s : State) : State :=
  State.scGoJump <| (s.sets [(R.DBG_SC_STAT_HALTED, 0), (R.DBG_SC_STAT_CAUSE, 0), (R.DBG_SC_STAT_IDX, 0), (R.WDG_STAT_FROZEN, 0),
    (R.WDG_STAT_COUNT, max 1000 (s.get R.WDG_STAT_COUNT))]).wdgWarn

/-- A halt request (R640, R641): it waits for its boundary, and is deferred while a reservation is held. -/
def State.scHaltReq (s : State) : State :=
  if s.has R.DBG_SC_STAT_HALTED then s
  else (s.setSc { s.sc with hreq := true }).put R.DBG_SC_STAT_DEFERRED (s.sc.resv && !s.sc.held)

/-- Whether RESUME, STEP or RESET of a write is refused in the present run state (R642, R652). -/
def State.dbgCtrlBad (s : State) (v : Nat) : Bool :=
  (decide (bits v 2 2 ≠ 0) && !s.has R.DBG_SC_STAT_HALTED) || (decide (bits v 2 3 ≠ 0) && !s.inMode [mRUN, mSAFE])

/-- A write of DBG_SC_CTRL (R640 to R646). -/
def State.dbgCtrlWrite (s : State) (src v : Nat) : State :=
  let c := s.dbgWriteRefusal src
  if c ≠ 0 then s.reply c 0
  else if s.dbgCtrlBad v then s.reply 0x0E07 0
  else
    let s1 := s.sets [(R.DBG_SC_CTRL_ATTACH, bit v 0), (R.DBG_SC_CTRL_HALTRESET, bit v 5), (R.DBG_SC_CTRL_STEPIE, bit v 6),
      (R.DBG_SC_CTRL_EBREAKM, bit v 7)]
    let s2 := if bit v 1 = 1 then s1.scHaltReq else s1
    let s3 := if bit v 3 = 1 then (s2.scResume).setSc { s2.scResume.sc with step := true } else if bit v 2 = 1 then s2.scResume else s2
    (if bit v 4 = 1 then s3.scReset 4 else s3).reply 0 0

/-- The read-write bits of DBG_SC_CTRL as they stand. -/
def State.dbgCtrlNow (s : State) : Nat :=
  s.word [R.DBG_SC_CTRL_ATTACH, R.DBG_SC_CTRL_HALTRESET, R.DBG_SC_CTRL_STEPIE, R.DBG_SC_CTRL_EBREAKM]

/-- DBG_HALTREQ (R640). -/
def execDbgHaltreq (src : SrcId) (s : State) : Host.Outcome State Fault Refusal := done (s.dbgCtrlWrite src (s.dbgCtrlNow + 2))
/-- DBG_RESUME (R642). -/
def execDbgResume (src : SrcId) (s : State) : Host.Outcome State Fault Refusal := done (s.dbgCtrlWrite src (s.dbgCtrlNow + 4))
/-- DBG_STEP (R642): the core runs until the boundary after its next instruction, which SC_HALT reports. -/
def execDbgStep (src : SrcId) (s : State) : Host.Outcome State Fault Refusal := done (s.dbgCtrlWrite src (s.dbgCtrlNow + 8))
/-- DBG_RESET (R642). -/
def execDbgReset (src : SrcId) (s : State) : Host.Outcome State Fault Refusal := done (s.dbgCtrlWrite src (s.dbgCtrlNow + 16))

/-- Whether the core may stand at an instruction boundary: out of reset, in RUN or IDLE, no window load and no FENCE waiting (R570, R640). -/
def State.scBoundary (s : State) : Bool := !s.sc.held && decide (s.scState ≤ scIDLE) && s.sc.load.isNone && !s.sc.fence

/-- SC_HALT (R640, R642): an instruction boundary, with the next instruction at `pc`, takes a halt request or ends a step; in IDLE
the DPC is the address after the WFI. -/
def execScHalt (pc : BitVec 32) (s : State) : Host.Outcome State Fault Refusal :=
  if !s.scBoundary ∨ s.has R.DBG_SC_STAT_HALTED then done s
  else if s.sc.step then done (s.scHaltAt (if s.scState = scIDLE then s.sc.pc else pc.toNat) 2 0)
  else if s.sc.hreq && !s.has R.DBG_SC_STAT_DEFERRED then
    if s.sc.resv then done (s.put R.DBG_SC_STAT_DEFERRED true)
    else done (s.scHaltAt (if s.scState = scIDLE then s.sc.pc else pc.toNat) 1 0)
  else done s

/-- SC_HALT_DEFERRED (R641): the SC has retired, a trap cleared the reservation, or 16 instructions have retired. -/
def execScHaltDeferred (pc : BitVec 32) (s : State) : Host.Outcome State Fault Refusal :=
  if !s.scBoundary ∨ !s.has R.DBG_SC_STAT_DEFERRED then done s
  else done (s.scHaltAt (if s.scState = scIDLE then s.sc.pc else pc.toNat) 1 0)

/-- DBG_BREAKPOINT_HIT (R643): the instruction at ADDR of breakpoint `n` is about to execute. -/
def execDbgBreakpointHit (n : Fin 8) (s : State) : Host.Outcome State Fault Refusal :=
  if s.scRuns ∧ s.has (R.DBG_BP_EN n) then done (s.scHaltAt (2 * s.get (R.DBG_BP_ADDR n)) 3 n) else done s

/-- Whether an access of 2^size bytes at `a` touches the range of watchpoint `n` (R643). -/
def State.wpMatches (s : State) (n a size : Nat) (store : Bool) : Bool :=
  let k := s.get (R.DBG_WP_KIND n)
  let base := s.get (R.DBG_WP_ADDR n)
  decide (bit k (ofFlag store) = 1) && decide (a < base + 2 ^ s.get (R.DBG_WP_LOG2SIZE n)) && decide (base < a + 2 ^ size)

/-- DBG_WATCHPOINT_HIT (R643): an access has completed, or was issued as a posted store; `pc` is the next instruction. -/
def execDbgWatchpointHit (n : Fin 4) (addr : BitVec 32) (size : Fin 3) (store : Bool) (pc : BitVec 32) (s : State) :
    Host.Outcome State Fault Refusal :=
  if s.scRuns ∧ s.wpMatches n addr.toNat size store then done (s.scHaltAt pc.toNat 4 n) else done s

/-- DBG_EBREAK (R643): EBREAK at `pc`. Whether DPC then names it or the instruction after it the manual leaves open (place 21). -/
def execDbgEbreak (pc : BitVec 32) (compressed : Bool) (tval : BitVec 32) (s : State) : Host.Outcome State Fault Refusal :=
  if !s.scRuns then done s
  else if s.has R.DBG_SC_CTRL_EBREAKM then
    let f := s.fresh 21
    done (f.2.scHaltAt (if f.1 % 2 = 0 then pc.toNat else pc.toNat + (if compressed then 2 else 4)) 5 0)
  else done (s.scTrap pc.toNat 3 tval.toNat)

/-! ## Registers of the halted core (R645) -/

/-- Whether a number names a CSR of the core (assumption 40). -/
def csrExists (n : Nat) : Bool :=
  let within (a b : Nat) : Bool := decide (a ≤ n) && decide (n ≤ b)
  within 0x001 0x003 || within 0xC00 0xC1F || within 0xC80 0xC9F || within 0xF11 0xF15 || within 0x300 0x301 || within 0x304 0x306
    || decide (n = 0x310) || within 0x340 0x344 || within 0x3A0 0x3A3 || within 0x3B0 0x3BF || decide (n = 0xB00) || within 0xB02 0xB1F
    || decide (n = 0xB80) || within 0xB82 0xB9F || decide (n = 0x320) || within 0x323 0x33F || decide (n = 0x30A) || decide (n = 0x31A)

/-- A CSR as a debugger reads it: fcsr holds fflags and frm; time and timeh follow R568; the counters of cycles and retired
instructions are free, since the model counts neither (place 22). -/
def State.csrRead (s : State) (n : Nat) : Nat × State :=
  if n = 1 then (bits (s.csr 3) 0 5, s)
  else if n = 2 then (bits (s.csr 3) 5 3, s)
  else if n = 0xC01 then (s.time48 78 / 2 ^ 16, s)
  else if n = 0xC81 then (encode2 32 (s.timeWide 78 / 2 ^ 48 - s.sc.wrapBase), s)
  else if [0xC00, 0xC02, 0xC80, 0xC82, 0xB00, 0xB02, 0xB80, 0xB82].contains n then
    let f := s.fresh 22
    (f.1 % 2 ^ 32, f.2)
  else (s.csr n, s)

/-- A CSR write by the debugger. -/
def State.csrWrite (s : State) (n v : Nat) : State :=
  let w := s.csr 3
  if n = 1 then s.setCsr 3 (w - bits w 0 5 + v % 32)
  else if n = 2 then s.setCsr 3 (w - bits w 5 3 * 32 + v % 8 * 32)
  else s.setCsr n v

/-- A register read by number: none where no register has it. -/
def State.dbgRegRead (s : State) (n : Nat) : Option (Nat × State) :=
  if n < 0x40 then some (s.xreg n, s)
  else if n = 0x40 then some (s.sc.pc, s)
  else if 0x80 ≤ n ∧ n < 0x100 then
    let w := (n - 0x80) % 0x20
    if 18 < w then none else some ((s.sc.sheaf.getD ((n - 0x80) / 0x20) []).getD w 0, s)
  else if 0x1000 ≤ n ∧ csrExists (n - 0x1000) then some (s.csrRead (n - 0x1000))
  else none

/-- A register write by number: none where it is refused with 0x0E08. -/
def State.dbgRegWrite (s : State) (n v : Nat) : Option State :=
  if n < 0x40 then some (s.setX n v)
  else if n = 0x40 then some (s.setSc { s.sc with pc := v / 2 * 2 })
  else if 0x1000 ≤ n ∧ csrExists (n - 0x1000) ∧ (n - 0x1000) / 1024 ≠ 3 then some (s.csrWrite (n - 0x1000) v)
  else none

/-- A write of DBG_SC_REGCMD (R645, R646). -/
def State.dbgRegCmd (s : State) (src v : Nat) : State :=
  let post (t : State) (code : Nat) : State := (t.post R.DBG_SC_REGRES_STATUS code).reply 0 0
  let c := s.dbgWriteRefusal src
  if c ≠ 0 then post s c
  else if !s.has R.DBG_SC_STAT_HALTED then post s 0x0E07
  else
    let n := bits v 0 13
    let d := bits v 32 32
    if bit v 13 = 1 then
      match s.dbgRegWrite n d with
      | none => post s 0x0E08
      | some t => post (t.set R.DBG_SC_REGDATA_DATA d) 0
    else
      match s.dbgRegRead n with
      | none => post s 0x0E08
      | some (d, t) => post (t.set R.DBG_SC_REGDATA_DATA d) 0

/-- DBG_SC_REGCMD (R645). -/
def execDbgScRegcmd (src : SrcId) (data : Word64) (s : State) : Host.Outcome State Fault Refusal := done ((s.commit R.DBG_SC_REGCMD_REGNO.addr).dbgRegCmd src data.toNat)

/-- A write of DBG_BP_n (R643). -/
def State.dbgBpWrite (s : State) (src n v : Nat) : State :=
  let c := s.dbgWriteRefusal src
  if c ≠ 0 then s.reply c 0 else (s.sets [(R.DBG_BP_EN n, bit v 0), (R.DBG_BP_ADDR n, bits v 1 31)]).reply 0 0

/-- A write of DBG_WP_n (R643, R646). -/
def State.dbgWpWrite (s : State) (src n v : Nat) : State :=
  let c := s.dbgWriteRefusal src
  let l := bits v 32 4
  if c ≠ 0 then s.reply c 0
  else if l < 2 ∨ bits v 0 32 % 2 ^ l ≠ 0 then s.reply 0x0E08 0
  else (s.sets [(R.DBG_WP_ADDR n, bits v 0 32), (R.DBG_WP_LOG2SIZE n, l), (R.DBG_WP_KIND n, bits v 36 2)]).reply 0 0

/-! ## Sequencers (R647 to R649) -/

/-- DBG_SQ_STAT follows the sequencer: HALTED and PENDHALT. -/
def State.sqDbgShow (s : State) (b a : Nat) : State :=
  let q := s.seq b a
  s.sets [(R.DBG_SQ_STAT_HALTED b a, ofFlag (decide (s.sqState b a = sqHALT))),
    (R.DBG_SQ_STAT_PENDHALT b a, ofFlag (decide (q.haltPend ≠ 0) && !q.free))]

/-- HALT is entered at a boundary, with the pipeline frozen (R191, R647). -/
def State.sqHalt (s : State) (b a cause held : Nat) : State :=
  let s1 := if s.sqState b a = sqRUN then s.sqHoldoff b a held else s
  ((s1.setSeq b a { s1.seq b a with haltFrom := s.sqState b a, haltPend := 0 }).sets
    [(R.SQ_STATUS_STATE b a, sqHALT), (R.DBG_SQ_STAT_CAUSE b a, cause)]).sqDbgShow b a

/-- A halt that waits is taken at a boundary that is not held off, or in WAIT; a step only once it has run an instruction. -/
def State.sqHaltTake (s : State) (b a held : Nat) : State :=
  let q := s.seq b a
  if q.haltPend = 0 ∨ q.haltPend = 4 then s
  else if s.sqState b a = sqWAIT ∨ (s.sqState b a = sqRUN ∧ q.free = true ∧ q.stuck = false) then s.sqHalt b a q.haltPend held
  else s

/-- The outcome of a CMD write: LAST, and the answer (R646, R647). -/
def State.sqDbgLast (s : State) (b a code : Nat) : State := (s.set (R.DBG_SQ_STAT_LAST b a) code).reply code 0

/-- CMD HALT. -/
def State.sqDbgHalt (s : State) (b a : Nat) : State :=
  let st := s.sqState b a
  if st = sqIDLE ∨ st = sqFAULT then s.sqDbgLast b a 0x0E07
  else if st = sqHALT then s.sqDbgLast b a 0
  else ((s.setSeq b a { s.seq b a with haltPend := 1 }).sqDbgShow b a).sqDbgLast b a 0

/-- The sequencer runs on from HALT (R647). -/
def State.sqDbgGo (s : State) (b a pend : Nat) : State :=
  let q := s.seq b a
  (((s.setSeq b a { q with haltPend := pend }).sets [(R.SQ_STATUS_STATE b a, q.haltFrom), (R.DBG_SQ_STAT_CAUSE b a, 0),
    (R.DBG_SQ_STAT_BPIDX b a, 0), (R.DBG_SQ_STAT_HELDBP b a, 0)]).sqAct b a).sqDbgShow b a

/-- CMD RESUME (`pend` 0) or STEP (`pend` 4). -/
def State.sqDbgRun (s : State) (b a pend : Nat) : State :=
  if s.sqState b a ≠ sqHALT then s.sqDbgLast b a 0x0E07 else (s.sqDbgGo b a pend).sqDbgLast b a 0

/-- A write of DBG_SQ_CTRL. -/
def State.sqDbgCtrl (s : State) (src b a v held : Nat) : State :=
  let c := s.dbgWriteRefusal src
  if c ≠ 0 then s.sqDbgLast b a c
  else match bits v 0 2 with
    | 0 => s.sqDbgLast b a 0
    | 1 => (s.sqDbgHalt b a).sqHaltTake b a held
    | 2 => s.sqDbgRun b a 0
    | _ => s.sqDbgRun b a 4

/-- DBG_SQ_HALT (R647): the CMD write, or, where a halt already waits, the boundary at which it is taken; `held` is its hold-off in
cycles. -/
def execDbgSqHalt (src : SrcId) (b : BoughId) (a : SeqId) (held : Nat) (s : State) : Host.Outcome State Fault Refusal :=
  if (s.seq b a).haltPend ≠ 0 then done (s.sqHaltTake b a held) else done (s.sqDbgCtrl src b a 1 held)
/-- DBG_SQ_RESUME (R647). -/
def execDbgSqResume (src : SrcId) (b : BoughId) (a : SeqId) (s : State) : Host.Outcome State Fault Refusal := done (s.sqDbgCtrl src b a 2 0)
/-- DBG_SQ_STEP (R647). -/
def execDbgSqStep (src : SrcId) (b : BoughId) (a : SeqId) (s : State) : Host.Outcome State Fault Refusal := done (s.sqDbgCtrl src b a 3 0)

/-- DBG_SQ_BREAKPOINT_HIT (R648): the fetched instruction at BP_j is about to enter stage D. -/
def execDbgSqBreakpointHit (b : BoughId) (a : SeqId) (j : Fin 2) (s : State) : Host.Outcome State Fault Refusal :=
  let q := s.seq b a
  let en := if j = 0 then s.has (R.DBG_SQ_BP_EN_0 b a) else s.has (R.DBG_SQ_BP_EN_1 b a)
  let at_ := if j = 0 then s.get (R.DBG_SQ_BP_BP_0 b a) else s.get (R.DBG_SQ_BP_BP_1 b a)
  match q.cur with
  | none => done s
  | some c =>
    if !en ∨ s.sqState b a ≠ sqRUN ∨ c.addr ≠ at_ then done s
    else
      let s1 := (s.setSeq b a { q with haltPend := 3 }).sets [(R.DBG_SQ_STAT_BPIDX b a, j), (R.DBG_SQ_STAT_HELDBP b a, ofFlag (!q.free))]
      done ((s1.sqHaltTake b a 0).sqDbgShow b a)

/-- A write of DBG_SQ_BP. -/
def State.sqDbgBp (s : State) (src b a v : Nat) : State :=
  let c := s.dbgWriteRefusal src
  if c ≠ 0 then s.reply c 0
  else (s.sets [(R.DBG_SQ_BP_BP_0 b a, v), (R.DBG_SQ_BP_EN_0 b a, bit v 11), (R.DBG_SQ_BP_BP_1 b a, bits v 12 11),
    (R.DBG_SQ_BP_EN_1 b a, bit v 23)]).reply 0 0

/-- A write of DBG_SQ_SEL (R649). -/
def State.sqDbgSel (s : State) (src b a v : Nat) : State :=
  let c := s.dbgWriteRefusal src
  if c ≠ 0 then s.reply c 0
  else if 5 < bits v 0 3 then s.reply 0x0E08 0
  else (s.sets [(R.DBG_SQ_SEL_ITEM b a, bits v 0 3), (R.DBG_SQ_SEL_NUM b a, bits v 3 4), (R.DBG_SQ_SEL_LANE b a, bits v 7 3)]).reply 0 0

/-- Whether the item that DBG_SQ_SEL names exists (R649). -/
def sqItemOk (item num : Nat) : Bool :=
  match item with
  | 0 => true
  | 1 => decide (num < 8)
  | 2 => decide (num < 4)
  | 3 => decide (num < 4)
  | 4 => true
  | _ => true

/-- The state in which DBG_SQ_DATA acts. -/
def State.sqDbgOpen (s : State) (b a : Nat) : Bool := [sqHALT, sqIDLE, sqFAULT].contains (s.sqState b a)

/-- The item that DBG_SQ_SEL names. Which end of the loop stack is entry 0 the manual leaves open (place 23), and an entry above DEPTH
is free (place 24). -/
def State.sqDbgItem (s : State) (b a : Nat) : Nat × State :=
  let q := s.seq b a
  let num := s.get (R.DBG_SQ_SEL_NUM b a)
  let lane := s.get (R.DBG_SQ_SEL_LANE b a)
  match s.get (R.DBG_SQ_SEL_ITEM b a) with
  | 0 => (encode2 64 (signed 24 (q.vreg lane num)), s)
  | 1 => (q.sreg num, s)
  | 2 =>
    let g := q.ag num
    (g.base + g.ptr * 2 ^ 11 + g.len * 2 ^ 22 + g.stride * 2 ^ 34 + ofFlag g.circ * 2 ^ 46, s)
  | 3 =>
    let l := if Config.freeNat 23 0 % 2 = 0 then q.loops else q.loops.reverse
    match l[num]? with
    | some e => (e.start + e.stop * 2 ^ 11 + e.count * 2 ^ 22, s)
    | none =>
      let f := s.fresh 24
      (f.1 % 2 ^ 39, f.2)
  | 4 =>
    let x := s.slice b (8 * a + lane)
    (x.p % 2 ^ 56 + s.operand b a lane [] [] 0 0x19 % 64 * 2 ^ 56, s)
  | _ => (s.get (R.SQ_STATUS_PC b a) + s.sqState b a * 2 ^ 16, s)

/-- A read of DBG_SQ_DATA (R646, R649). -/
def State.sqDbgRead (s : State) (src b a : Nat) : State :=
  let c := s.dbgReadRefusal src
  if c ≠ 0 then s.reply c 0
  else if !s.sqDbgOpen b a then s.reply 0x0E07 0
  else if !sqItemOk (s.get (R.DBG_SQ_SEL_ITEM b a)) (s.get (R.DBG_SQ_SEL_NUM b a)) then s.reply 0x0E08 0
  else
    let r := s.sqDbgItem b a
    r.2.reply 0 r.1

/-- A write of DBG_SQ_DATA (R649): V takes a value that sign-extends to the word, S one of 32 bits. -/
def State.sqDbgWrite (s : State) (src b a v : Nat) : State :=
  let c := s.dbgWriteRefusal src
  let item := s.get (R.DBG_SQ_SEL_ITEM b a)
  let num := s.get (R.DBG_SQ_SEL_NUM b a)
  let q := s.seq b a
  if c ≠ 0 then s.reply c 0
  else if !s.sqDbgOpen b a then s.reply 0x0E07 0
  else if 1 < item ∨ !sqItemOk item num then s.reply 0x0E08 0
  else if item = 0 then
    if v ≠ encode2 64 (signed 24 v) then s.reply 0x0E08 0
    else (s.setSeq b a { q with v := SMap.set q.v 0 (s.get (R.DBG_SQ_SEL_LANE b a) * 16 + num) (v % 2 ^ 24) }).reply 0 0
  else if 2 ^ 32 ≤ v then s.reply 0x0E08 0
  else (s.setSeq b a { q with s := SMap.set q.s 0 num v }).reply 0 0

/-- DBG_SQ_DATA_WRITE (R649). -/
def execDbgSqDataWrite (src : SrcId) (b : BoughId) (a : SeqId) (data : Word64) (s : State) : Host.Outcome State Fault Refusal :=
  done ((s.commit (Config.rp b 3 + 0x8020 + 0x40 * a.val)).sqDbgWrite src b a data.toNat)

/-! ## The virtual terminal (R650) -/

/-- A write of DBG_TXDATA by the core. -/
def State.vtTx (s : State) (src v : Nat) : State :=
  if src ≠ 97 then s.reply 0x0E01 0
  else if s.has R.DBG_VT_FLAGS_TXFULL then ((s.bump R.DBG_VT_FLAGS_TXOVR 1).raise 0x0E20 0 0).reply 0 0
  else ((s.set R.DBG_TXDATA_DATA v).put R.DBG_VT_FLAGS_TXFULL true).reply 0 0
/-- A write of DBG_RXDATA by the debugger. -/
def State.vtRx (s : State) (src v : Nat) : State :=
  if src ≠ 161 ∨ s.dbgLevel = 0 then s.reply 0x0E01 0
  else if s.has R.DBG_VT_FLAGS_RXFULL then ((s.bump R.DBG_VT_FLAGS_RXOVR 1).raise 0x0E20 0 0).reply 0 0
  else ((s.set R.DBG_RXDATA_DATA v).put R.DBG_VT_FLAGS_RXFULL true).reply 0 0
/-- A write of DBG_VT_FLAGS: the debugger clears TXFULL, the core RXFULL. -/
def State.vtFlags (s : State) (src v : Nat) : State :=
  let okTx := decide (bit v 0 = 0) || (decide (src = 161) && decide (s.dbgLevel ≠ 0))
  let okRx := decide (bit v 1 = 0) || decide (src = 97)
  if !okTx || !okRx || (decide (src ≠ 97) && (decide (src ≠ 161) || decide (s.dbgLevel = 0))) then s.reply 0x0E01 0
  else
    let s1 := if bit v 0 = 1 then s.put R.DBG_VT_FLAGS_TXFULL false else s
    (if bit v 1 = 1 then s1.put R.DBG_VT_FLAGS_RXFULL false else s1).reply 0 0

/-- DBG_TXDATA_WRITE (R650). -/
def execDbgTxdataWrite (src : SrcId) (data : BitVec 32) (s : State) : Host.Outcome State Fault Refusal := done (s.vtTx src data.toNat)
/-- DBG_RXDATA_WRITE (R650). -/
def execDbgRxdataWrite (src : SrcId) (data : BitVec 32) (s : State) : Host.Outcome State Fault Refusal := done (s.vtRx src data.toNat)

/-! ## The end of full authorization (R638) -/

/-- The level drops; where it was full, the device has still to act on it. -/
def State.grantEnd (s : State) : State :=
  { s with
    dbgLevel := 0
    tap := { s.tap with ending := s.tap.ending || decide (s.dbgLevel = 2) } }

/-- Every sequencer that a debugger holds runs on, its breakpoints disabled. -/
def State.sqDbgFree (s : State) : State :=
  let clear := fun (t : State) (i : Nat) => t.sets [(R.DBG_SQ_BP_EN_0 (i / 32) (i % 32), 0), (R.DBG_SQ_BP_EN_1 (i / 32) (i % 32), 0)]
  let s1 := (s.regs.map (fun e => e.1 / 64)).eraseDups.foldl (fun t a =>
    let o := a % 2 ^ 36
    if a / 2 ^ 36 % 4 = 3 ∧ 0x8008 ≤ o ∧ o < 0x8800 ∧ o % 64 = 8 then clear t (32 * (a / 2 ^ 38) + (o - 0x8000) / 64) else t) s
  s1.seqs.foldl (fun t e =>
    let b := e.1 / 32
    let a := e.1 % 32
    if t.sqState b a = sqHALT then t.sqDbgGo b a 0
    else t.setSeq b a { t.seq b a with haltPend := 0 }) s1

/-- The site core goes free of the debugger (R638): its breakpoints and watchpoints are disabled, ATTACH is 0, no halt or step is asked for, and a halted core runs on. -/
def State.scDbgFree (s : State) : State :=
  let s1 := (List.range 8).foldl (fun (t : State) n => t.put (R.DBG_BP_EN n) false) s
  let s2 := (List.range 4).foldl (fun (t : State) n => t.set (R.DBG_WP_KIND n) 0) s1
  let s3 := (s2.put R.DBG_SC_CTRL_ATTACH false).put R.DBG_SC_STAT_DEFERRED false
  let s4 := if s3.has R.DBG_SC_STAT_HALTED then s3.scResume else s3
  s4.setSc { s4.sc with hreq := false, step := false }

/-- What the device does when full authorization has ended. -/
def State.grantAct (s : State) : State :=
  let s6 := s.scDbgFree.sqDbgFree
  { s6 with tap := { s6.tap with ending := false, dapWait := none } }

/-- DEBUG_GRANT_END (R638). -/
def execDebugGrantEnd (s : State) : Host.Outcome State Fault Refusal := if s.tap.ending then done s.grantAct else done s

end Sys2Proof.Machine
end

