-- ==== Sys2Proof/Machine/Power.lean ====
section
/-!
DEFINITION. The power that the CMC estimates (R709, R710, R712): sums in nW, and the static power of a bough, whose factor is a power of 2, in binary64.
-/
namespace Sys2Proof.Machine
open Sys2Proof

/-- The coefficients of R709 at a point: P_S in nW, D_F and D_S in nW per kHz. -/
def powerCoef (point : Nat) : Nat × Nat × Nat :=
  match point with | 1 => (180000000, 740, 230) | 2 => (240000000, 910, 290) | 3 => (300000000, 1100, 350) | _ => (0, 0, 0)

/-- The frequency of a running line of a bough in kHz times 8 (R265): that of its global line over its divider. -/
def State.lineKhz8 (s : State) (b n : Nat) : Nat := s.gclFreq (s.get (lineSrc b n)) * 8 / 2 ^ s.get (lineDact b n)
def State.runningLines (s : State) (b : Nat) : List Nat :=
  (List.range 16).filter (fun n => s.has (lineRun b n) && s.gclLive (s.get (lineSrc b n)))

/-- P_b of R709 at activities of 1, in W as binary64: REST draws the static part alone, OFF nothing. `temp` is T_b as binary64. -/
def State.boughPower (s : State) (b temp : Nat) : Nat :=
  if s.opState b = 0 then 0
  else
    let c := powerCoef (s.point b)
    let x := f64.div (f64.sub temp (f64.ofInt 110)) (f64.ofInt 25)
    let static := f64.mul (f64.ofRatio c.1 1000000000) (Config.pow64 (f64.ofInt 2) x)
    if s.opState b = 4 then static
    else
      let l := s.runningLines b
      let fab := if l.isEmpty then 0 else f64.ofRatio ((l.map (s.lineKhz8 b)).sum * c.2.1 : Nat) (l.length * 8000000000)
      let sq := if s.has (lineRun b 16) && s.gclLive (s.get (lineSrc b 16)) then f64.ofRatio (s.lineKhz8 b 16 * c.2.2 : Nat) 8000000000 else 0
      f64.add static (f64.add fab sq)

/-- The power of a lane in nW (R710): Q_0 to Q_7 by symbol rate, Q_8 to Q_11 by bit rate; a lane of the host link has the rate of the link. -/
def State.lanePower (s : State) (n : Nat) : Nat :=
  if s.lnState n = lnOFF then 0
  else if s.lnState n = lnIDLE then 20000000
  else
    let f := s.quadFreq (n / 4) (s.lnPll n)
    let den := f.2 * 2 ^ s.get (R.LN_CFG_DIV n)
    let atLeast (khz : Nat) : Bool := decide (khz * den ≤ 2 * f.1)
    if n < 32 then (if atLeast 40000000 then 460000000 else if atLeast 20000000 then 320000000 else if atLeast 8000000 then 220000000 else 150000000)
    else if hostLane n ∧ s.lnMode n = 1 then (if s.get R.HL_STATUS_RATE = 5 then 200000000 else 120000000)
    else if atLeast 20000000 then 200000000 else 120000000

/-- The Gb/s of the channels of a port that are enabled and up. -/
def State.portGbps (s : State) (k : Nat) : Nat :=
  ((List.range 4).filter (fun c => s.chExists (4 * k + c) && s.has (R.CH_CFG_EN (4 * k + c)) && s.has (R.CH_STAT_LINK (4 * k + c)))).length
    * (portCfg (s.peCfg k)).rate

/-- The other blocks of R710 in nW, but for the user I/O, at activities of 1: the loft at the rate of the channels that are up, the NoC at full
utilisation, a bank that is ON at one data row of 16 bytes per NoC cycle (R375). -/
def State.blockPower (s : State) : Nat :=
  let core := s.inMode [mBOOT, mLOAD, mRUN, mSAFE]
  let count (l : List Nat) (p : Nat → Bool) : Nat := (l.filter p).length
  let ports := ((List.range 8).map (fun k => if s.get (R.PE_CFG_CFG k) = 0 then 0 else 100000000 + 4000000 * s.portGbps k)).sum
  let loft := if s.inMode [mRUN, mSAFE] then 300000000 + ((List.range 8).map s.portGbps).sum * 1500000000 / 3200 else 0
  let granary := count (List.range 64) (fun g => decide (s.grPwrOf g = 2)) * (30000000 + 25600000)
    + count (List.range 64) (fun g => decide (s.grPwrOf g = 3)) * 5000000
  let site := if s.scState = scOFF then 0 else if s.scState = scSLEEP then 50000000 else if s.devClk 15 then 600000000 else 0
  let plls := count (List.range 16) (fun p => s.has (R.CP_CFG_EN p)) * 50000000
  ((List.range 48).map s.lanePower).sum + ports + loft + (if core then 4920000000 + granary + site + 64 * 20000000 else 0)
    + (if s.has R.HL_STATUS_UP then 1000000000 else 0) + (if core then 1000000000 else 150000000) + plls

/-- PWR_EST_W (R712), an F32 in W: the sum of R709 and R710. Of the user I/O the state holds neither loads nor toggle rates, so that its part is a free
value of at most 1.50 W (free place 25). `temp` is the temperature of a bough as binary64. -/
def State.powerEstimate (s : State) (temp : Nat → Nat) : State :=
  let f := s.fresh 25
  let fixed := f64.ofRatio (s.blockPower + f.1 % 1500000001 : Nat) 1000000000
  { f.2 with estW := f64.convert f32 ((List.range 64).foldl (fun a b => f64.add a (s.boughPower b (temp b))) fixed) }

end Sys2Proof.Machine
end

