-- ==== Sys2Proof/Machine/Health.lean ====
section
/-!
DEFINITION. Health monitors, the ageing model and end-of-life prediction (chapter 22).
-/
namespace Sys2Proof.Machine
open Sys2Proof

/-! ## Monitors -/

/-- The kinds of R654: 0 TEMP, 1 VOLT, 2 RO, 3 HDR, 4 EYE, 5 MRAM, 6 UPSET. -/
def hmKind (m : Nat) : Nat :=
  if m < 72 then 0 else if m < 90 then 1 else if m < 154 then 2 else if m < 218 then 3 else if m < 266 then 4 else if m < 271 then 5 else 6

/-- The monitors that measure wear. -/
def wearMons : List Nat := (List.range 181).map (fun i => 90 + i)

/-- A decimal constant as a binary64 word. -/
def f64dec (num : Int) (den : Nat) : Nat := f64.ofRatio num den

def Wear.zero : Wear := ⟨0, 0, 0, 0, 0, 0, 0, 0, 0⟩
def State.wear (s : State) (m : Nat) : Wear := SMap.get s.hm.wear Wear.zero m
def State.setWear (s : State) (m : Nat) (w : Wear) : State := { s with hm := { s.hm with wear := SMap.set s.hm.wear Wear.zero m w } }

/-- Raises a code of a monitor; in STANDBY it is held for BOOT (R671). -/
def State.hmRaise (s : State) (code m : Nat) : State :=
  if s.mode0 = mSTANDBY then { s with hm := { s.hm with waiting := s.hm.waiting ++ [(code, m)] } } else s.raise code m 0

/-- What a monitor compares (R654): a VCCO or supply rail its deviation from nominal in percent, every other its value. -/
def hmLevel (m value nominal : Nat) : Nat :=
  if hmKind m = 1 ∧ m ≠ 81 then
    let d := f64.sub value nominal
    f64.mul (f64.div (d % f64.signBit) nominal) (f64.ofInt 100)
  else value

/-- Whether a level lies at or beyond a threshold; VBATT falls (R654). -/
def hmBeyond (m level thr : Nat) : Bool := if m = 81 then !f64.lt thr level else !f64.lt level thr

/-- Whether a level has passed back beyond a threshold by the margin of its kind (R661). -/
def hmBack (m level thr : Nat) : Bool :=
  if m = 81 then !f64.lt level (f64.add thr (f64dec 5 100))
  else
    let margin := match hmKind m with
      | 0 => f64.ofInt 2
      | 1 => f64dec 1 2
      | _ => f64.mul thr (f64dec 5 100)
    !f64.lt (f64.sub thr margin) level

/-- WARN and ALARM of monitor `m` at a sample (R661). -/
def State.hmEval (s : State) (m level : Nat) : State :=
  let w := f32.convert f64 (s.get (R.HM_THR_WARN m))
  let a := f32.convert f64 (s.get (R.HM_THR_ALARM m))
  let s1 :=
    if s.has (R.HM_VAL_WARN m) then (if hmBack m level w then s.put (R.HM_VAL_WARN m) false else s)
    else if hmBeyond m level w then (s.put (R.HM_VAL_WARN m) true).hmRaise 0x0F20 m else s
  if s1.has (R.HM_VAL_ALARM m) then (if hmBack m level a then (s1.put (R.HM_VAL_ALARM m) false).hmRaise 0x0F22 m else s1)
  else if hmBeyond m level a then (s1.put (R.HM_VAL_ALARM m) true).hmRaise 0x0F21 m else s1

/-- A sample (R654): its value as a binary64 word, and the nominal of a rail. -/
def State.hmSample (s : State) (m value nominal : Nat) : State :=
  (s.sets [(R.HM_VAL_VALUE m, f64.convert f32 value), (R.HM_VAL_VALID m, 1)]).hmEval m (hmLevel m value nominal)

/-- A measurement of a wear monitor: a sample, and a part of the day's value (R663). -/
def State.hmMeasure (s : State) (m value : Nat) : State :=
  let s1 := s.hmSample m value 0
  let w := s1.wear m
  s1.setWear m { w with
    daySum := f64.add w.daySum value
    dayN := w.dayN + 1
    last := value }

/-- The value of a monitor as a binary64 word. -/
def State.hmValue (s : State) (m : Nat) : Nat := f32.convert f64 (s.get (R.HM_VAL_VALUE m))

/-! ## Samples -/

/-- Whether sensor `m` can read (R655, R671). -/
def State.sensorOn (s : State) (m : Nat) : Bool :=
  if m = 64 then decide (s.mode0 ≠ mOFF)
  else s.inMode [mBOOT, mLOAD, mRUN, mSAFE] && (decide (64 < m) || decide (s.opState m ≠ 0))

/-- One reading of a temperature sensor, in 1/16 °C (R655). -/
def State.tempRead (s : State) (m : Nat) (t : Int) : State :=
  if !s.sensorOn m then s
  else if t < -880 ∨ 2400 < t then
    if s.hm.faulty.contains m then s
    else ({ s.put (R.HM_VAL_VALID m) false with hm := { s.hm with faulty := s.hm.faulty ++ [m] } }).hmRaise 0x0F24 m
  else ({ s with hm := { s.hm with faulty := s.hm.faulty.filter (fun x => decide (x ≠ m)) } }).hmSample m (f64.ofRatio t 16) 0

/-- The estimator reads its on-die sensor (R306). -/
def State.hoSensor (s : State) (l : List (Fin 72 × Int)) : State :=
  if s.get R.HO_TEMP_SRC ≠ 0 then s
  else
    let m := s.get R.HO_TEMP_SENS
    match l.find? (fun (p : Fin 72 × Int) => decide (p.1.val = m)) with
    | some p => if s.sensorOn m && !s.hm.faulty.contains m then s.hoReading (16 * p.2) else s.put R.HO_STAT_TEMP_OK false
    | none => if s.sensorOn m then s else s.put R.HO_STAT_TEMP_OK false

/-- TEMP_SAMPLE (R655): the sensors that read, with their readings in 1/16 °C. -/
def execTempSample (readings : List (Fin 72 × Int)) (s : State) : Host.Outcome State Fault Refusal :=
  done ((readings.foldl (fun (t : State) (p : Fin 72 × Int) => t.tempRead p.1 p.2) s).hoSensor readings)

/-- The voltage of an IO_BANK code in mV (R734). -/
def vccoMv (code : Nat) : Nat :=
  match code with | 1 => 1000 | 2 => 1200 | 3 => 1350 | 4 => 1500 | 5 => 1800 | 6 => 2500 | 7 => 3300 | _ => 0

/-- The nominal of rail `r` in mV (R656, R692); 0 for an undeclared bank and for VBATT. -/
def State.railMv (s : State) (r : Nat) : Nat :=
  match r with
  | 0 => 800 | 1 => 720 | 2 => 800 | 3 => 880 | 4 => 800 | 5 => 850 | 6 => 900 | 7 => 1200 | 8 => 1800 | 9 => 0
  | _ => vccoMv (s.get (R.IO_BANK_VCCO (r - 10)))


/-- One reading of a rail monitor in mV (R656, R671): in BOOT and LOAD only of a rail that is powered. -/
def State.voltRead (s : State) (r mv : Nat) : State :=
  let always := [0, 8, 9].contains r
  let on := s.inMode [mRUN, mSAFE] || (s.inMode [mBOOT, mLOAD] && (always || s.railOk r || decide (10 ≤ r))) || (decide (s.mode0 = mSTANDBY) && always)
  if !on then s
  else if 10 ≤ r ∧ (s.railMv r = 0 ∨ !s.railOk r) then s.put (R.HM_VAL_VALID (72 + r)) false
  else s.hmSample (72 + r) (f64.ofRatio mv 1000) (f64.ofRatio (s.railMv r) 1000)

/-- VOLT_SAMPLE (R656): the rails that are sampled, with their readings in mV. -/
def execVoltSample (millivolts : List (Fin 18 × Nat)) (s : State) : Host.Outcome State Fault Refusal :=
  done (millivolts.foldl (fun (t : State) (p : Fin 18 × Nat) => t.voltRead p.1 p.2) s)

/-- One measurement of a ring-oscillator pair: counts of the stressed and the reference oscillator (R657). -/
def State.roRead (s : State) (b fs fr : Nat) : State :=
  if !s.inMode [mBOOT, mLOAD, mRUN, mSAFE] ∨ s.opState b = 0 ∨ !s.has R.CK_STATUS_TPLL_LOCK ∨ s.has (R.OP_STATUS_BUSY b) ∨ fr = 0 then s
  else
    let q := f64.div (f64.div (f64.ofInt fs) (f64.ofInt fr)) (Config.partConst (16 + b))
    s.hmMeasure (90 + b) (f64.mul (f64.ofInt 1000000) (f64.sub (f64.ofInt 1) q))

/-- RO_SAMPLE (R657). -/
def execRoSample (counts : List (BoughId × Nat × Nat)) (s : State) : Host.Outcome State Fault Refusal :=
  done (counts.foldl (fun (t : State) (p : BoughId × Nat × Nat) => t.roRead p.1 p.2.1 p.2.2) s)

/-- The HDR sample of a locked window (R658). -/
def State.hdrSample (s : State) (b : Nat) : State :=
  if s.has (R.DR_STATUS_LOCKED b) && !s.has (R.DR_STATUS_HOLD b) && s.inMode [mBOOT, mLOAD, mRUN, mSAFE] then
    let k := Config.partConst (256 + s.get (R.DR_STATUS_OP b))
    let t := f64.sub (s.hmValue b) (f64.ofInt 85)
    s.hmMeasure (154 + b) (f64.sub (f64.ofInt (s.trim b)) (f64.mul k t))
  else s

/-- REGULATOR_WINDOW (R119, R658): RATIO, and the junction temperature in units of 1/256 °C. -/
def execRegulatorWindow (b : BoughId) (ratio : BitVec 16) (temp : Int) (s : State) : Host.Outcome State Fault Refusal :=
  if s.get (R.DR_STATUS_OP b) = 0 ∨ s.mode0 = mSAFE then done s
  else done ((s.regWindow b ratio.toNat temp).hdrSample b)

/-- The EYE sample of a posted margin (R659, R671). -/
def State.eyeSample (s : State) (n : Nat) : State :=
  if !s.inMode [mRUN, mSAFE] then s
  else
    let v : Int := 63 - (s.get (R.LN_EYE_RES1_LEFT n) + s.get (R.LN_EYE_RES1_RIGHT n) : Nat)
    let s1 := s.hmMeasure (218 + n) (f64.ofInt v)
    { s1 with hm := { s1.hm with margins := if s1.hm.margins.contains n then s1.hm.margins else s1.hm.margins ++ [n] } }

/-- EYE_SCAN_COMPLETE (R403, R404, R659): the measured points, each as its decisions and errors. -/
def execEyeScanComplete (n : LaneId) (points : List (Nat × Nat)) (s : State) : Host.Outcome State Fault Refusal :=
  match (s.lane n).scan with
  | none => done s
  | some e =>
    if !e.complete points then done s
    else
      let s1 := s.eyePost n 0 points
      done (if e.cmd = 5 then s1.eyeSample n else s1)

/-- AUTO_EYE_SCAN (R659): EYE_MARGIN as source 65 on each active protocol lane that has posted no margin today. -/
def execAutoEyeScan (s : State) : Host.Outcome State Fault Refusal :=
  if !s.has R.HM_CTRL_AUTO_EYE ∨ s.mode0 ≠ mRUN then done s
  else done ((List.range 48).foldl (fun (t : State) n =>
    if t.lnState n = lnACTIVE ∧ t.lnMode n = 1 ∧ !t.hm.margins.contains n ∧ (t.lane n).scan.isNone then t.lnCmd 65 n 5 [] else t) s)

/-- A completed write of a part of an MRAM region (R660): 0 slot A, 1 slot B, 2 dictionary store, 3 logs, 4 user non-volatile area. -/
def State.mramWrite (s : State) (region item : Nat) : State :=
  let k := region * 65536 + item
  let s1 := { s with hm := { s.hm with writes := SMap.set s.hm.writes 0 k (SMap.get s.hm.writes 0 k + 1) } }
  let most : Nat := s1.hm.writes.foldl (fun (a : Nat) (e : Nat × Nat) => if e.1 / 65536 = region then max a e.2 else a) 0
  s1.hmMeasure (266 + region) (f64.ofInt (most : Nat))

/-- GL_UPSETS_24H: corrected plus uncorrectable frames of the last 24 one-hour bins (R563). -/
def State.upsets24 (s : State) : Nat :=
  s.gl.hours.foldl (fun (a : Nat) (e : Nat × Nat) => if s.hour.toNat < e.1 + 24 then a + e.2 else a) 0

/-- The hourly UPSET sample (R654). -/
def State.upsetSample (s : State) : State := s.hmSample 271 (f64.ofInt (s.upsets24 : Nat)) 0

/-! ## The ageing model -/

/-- AF of R662 from T in °C, V and vref in V. -/
def ageFactor (t v vref : Nat) : Nat :=
  let inv := f64.div (f64.ofInt 1) (f64dec 35815 100)
  let cur := f64.div (f64.ofInt 1) (f64.add t (f64dec 27315 100))
  let e1 := f64.mul (f64dec 58024 10) (f64.sub inv cur)
  let e2 := f64.mul (f64.ofInt 10) (f64.sub v vref)
  f64.mul (Config.exp64 e1) (Config.exp64 e2)

/-- AF of wear monitor `m` in the present second. -/
def State.hmAf (s : State) (m : Nat) : Nat :=
  match hmKind m with
  | 5 => f64.ofInt 1
  | 4 =>
    let n := m - 218
    if s.lnState n = lnOFF then 0 else ageFactor (s.hmValue (65 + n / 16)) (s.hmValue 78) (f64dec 9 10)
  | k =>
    let b := if k = 2 then m - 90 else m - 154
    if s.opState b = 0 then 0 else ageFactor (s.hmValue b) (f64.ofRatio (s.railMv (s.point b)) 1000) (f64dec 8 10)

/-- One powered second of a wear monitor. -/
def State.ageOne (s : State) (m : Nat) : State :=
  let af := s.hmAf m
  let w := s.wear m
  s.setWear m { w with
    tau := f64.add w.tau (f64.div af (f64.ofInt 86400))
    afSum := f64.add w.afSum af }

/-- One second of powered time (R662): every wear monitor advances, the second is counted, and each powered hour takes an upset sample. -/
def State.ageSecond (s : State) : State :=
  let s1 := wearMons.foldl (fun (t : State) m => t.ageOne m) s
  let s2 := { s1 with hm := { s1.hm with powered := s1.hm.powered + 1, secs := s1.hm.secs + 1 } }
  if s2.hm.powered % 3600 = 0 then s2.upsetSample else s2

/-- x = τ^n (R663). -/
def hmX (m tau : Nat) : Nat := if hmKind m = 5 then tau else Config.pow64 tau (f64dec 2 10)

/-- A fit (R663): the sums and N. -/
def State.hmFit (s : State) (m value : Nat) : State :=
  let w := s.wear m
  let x := hmX m w.tau
  let y := f64.sub value w.base
  (s.setWear m { w with
    sxx := f64.add w.sxx (f64.mul x x)
    sxy := f64.add w.sxy (f64.mul x y)
    syy := f64.add w.syy (f64.mul y y) }).bump (R.HM_VAL_N m) 1

/-- The slope and its deviation (R663). -/
def State.hmSlope (s : State) (m : Nat) : Nat × Nat :=
  let w := s.wear m
  let n := s.get (R.HM_VAL_N m)
  let a := f64.div w.sxy w.sxx
  let r := f64.sub w.syy (f64.mul a w.sxy)
  let r0 := if f64.lt r 0 then 0 else r
  (a, if 2 ≤ n then f64.sqrt (f64.div r0 (f64.mul (f64.ofInt (n - 1 : Nat)) w.sxx)) else 0)

/-- Days that remain at k deviations above the slope (R664). -/
def State.hmDays (s : State) (m k : Nat) : Nat :=
  if s.get (R.HM_VAL_N m) < 8 then 0xFFFFFFFE
  else
    let w := s.wear m
    let f := s.hmSlope m
    let ak := f64.add f.1 (f64.mul k f.2)
    let afd := f64.div w.afSum (f64.ofInt 86400)
    if !f64.lt 0 ak ∨ f64.read afd = .fin false 0 f64.emin then 0xFFFFFFFF
    else
      let q := f64.div (f64.sub (f32.convert f64 (s.get (R.HM_THR_ALARM m))) w.base) ak
      let tth := if hmKind m = 5 then q else Config.pow64 q (f64.ofInt 5)
      if !f64.lt w.tau tth then 0
      else match f64.floor (f64.div (f64.sub tth w.tau) afd) with
        | some d => min d.toNat 0xFFFFFFFD
        | none => 0xFFFFFFFD

/-- The daily sample of a wear monitor, with its alarm test, fit and prediction (R661, R663, R664, R666). -/
def State.hmDay (s : State) (m : Nat) : State :=
  let w := s.wear m
  let s1 :=
    if w.dayN = 0 then s
    else
      let v := if hmKind m ≤ 3 then f64.div w.daySum (f64.ofInt w.dayN) else w.last
      let s0 := s.hmEval m v
      if !s0.has (R.HM_VAL_BASED m) then (s0.setWear m { w with base := v }).put (R.HM_VAL_BASED m) true
      else
        let t := s0.hmFit m v
        t.sets [(R.HM_PRED_DAYS m, t.hmDays m 0), (R.HM_PRED_DAYS_LO m, t.hmDays m (f64.ofRatio (t.get R.HM_CTRL_KC) 16))]
  let u := s1.wear m
  s1.setWear m { u with
    daySum := 0
    dayN := 0
    afSum := 0 }

/-- HM_EOL after a fit (R665). -/
def State.hmEol (s : State) : State :=
  let best := wearMons.foldl (fun (a : Option (Nat × Nat)) m =>
    let d := s.get (R.HM_PRED_DAYS_LO m)
    if 0xFFFFFFFE ≤ d then a
    else match a with
      | none => some (d, m)
      | some x => if d < x.1 then some (d, m) else a) none
  match best with
  | none => { s.sets [(R.HM_EOL_DAYS_LO, 0xFFFFFFFF), (R.HM_EOL_MON, 0), (R.HM_EOL_VALID, 0)] with hm := { s.hm with below := false } }
  | some (d, m) =>
    let s1 := s.sets [(R.HM_EOL_DAYS_LO, d), (R.HM_EOL_MON, m), (R.HM_EOL_VALID, 1)]
    let low := decide (d < s.get R.HM_CTRL_EOL_WARN)
    let s2 := { s1 with hm := { s1.hm with below := low } }
    if low && !s.hm.below then s2.raise 0x0F23 m 0 else s2

/-- A monitor's model starts over: N, the sums and BASE are cleared, and τ is kept (R668). -/
def State.hmClear (s : State) (m : Nat) : State :=
  (s.setWear m { s.wear m with base := 0, sxx := 0, sxy := 0, syy := 0 }).sets [(R.HM_VAL_N m, 0), (R.HM_VAL_BASED m, 0)]

/-- The REBASEs that came in the second of a daily sample act after it (R666). -/
def State.hmRebases (s : State) : State :=
  s.hm.rebase.foldl State.hmClear { s with hm := { s.hm with rebase := [] } }

/-- Every wear model is written to its record in the MRAM log area (R667). -/
def State.hmStore (s : State) : State :=
  wearMons.foldl (fun (t : State) m =>
    let rec_ := some (t.wear m, t.get (R.HM_VAL_N m), t.has (R.HM_VAL_BASED m))
    ({ t with hm := { t.hm with recs := SMap.set t.hm.recs (some (Wear.zero, 0, false)) m rec_ } }).mramWrite 3 m) s.hmRebases

/-- The daily samples, where 86,400 s of powered time are full (R663 to R667). -/
def State.hmDaily (s : State) : State :=
  if s.hm.secs < 86400 ∨ !s.inMode [mBOOT, mLOAD, mRUN, mSAFE] then s
  else
    let s1 := (wearMons.foldl (fun (t : State) m => t.hmDay m) s).hmEol
    ({ s1 with hm := { s1.hm with secs := s1.hm.secs - 86400, margins := [] } }).hmStore

/-- HM_DAILY_FIT (R663 to R667). -/
def execHmDailyFit (s : State) : Host.Outcome State Fault Refusal := done s.hmDaily

/-- HM_AGE_TICK (R662, R712): one second, of powered time in BOOT, LOAD, RUN and SAFE; PWR_EST_W is updated. Daily samples that are due belong to the
second before it. -/
def execHmAgeTick (s : State) : Host.Outcome State Fault Refusal :=
  if s.mode0 = mOFF then done s
  else if s.mode0 = mSTANDBY then done (s.powerEstimate s.hmValue)
  else
    let t := s.hmDaily.ageSecond
    done (t.powerEstimate t.hmValue)

/-- At entry to BOOT the records come back, and alarms that waited are raised (R667, R671). -/
def State.hmBoot (s : State) : State :=
  let s1 := wearMons.foldl (fun (t : State) m =>
    match SMap.get t.hm.recs (some (Wear.zero, 0, false)) m with
    | some (w, n, based) =>
      (t.setWear m { w with daySum := 0, dayN := 0, last := 0, afSum := 0 }).sets [(R.HM_VAL_N m, n), (R.HM_VAL_BASED m, ofFlag based)]
    | none => ((t.setWear m Wear.zero).sets [(R.HM_VAL_N m, 0), (R.HM_VAL_BASED m, 0)]).raise 0x0F25 m 0) s
  let s2 := s1.hm.waiting.foldl (fun (t : State) (p : Nat × Nat) => t.raise p.1 p.2 0) s1
  { s2 with hm := { s2.hm with waiting := [] } }

/-! ## Registers (R668, R669) -/

/-- A persistent entry of the dictionary was written: its store write is due (R606). -/
def State.persist (s : State) (index sub : Nat) : State :=
  let k := index * 256 + sub
  if s.dict.due.contains k then s else { s with dict := { s.dict with due := s.dict.due ++ [k] } }

/-- A write of HM_CTRL. -/
def State.hmCtrlWrite (s : State) (src v : Nat) : State :=
  if !s.srcOk src then s.reply 0x0F01 0
  else if bits v 8 8 < 16 ∨ bits v 16 16 = 0 then s.reply 0x0F02 0
  else
    let s1 := s.sets [(R.HM_CTRL_AUTO_EYE, bit v 0), (R.HM_CTRL_KC, bits v 8 8), (R.HM_CTRL_EOL_WARN, bits v 16 16)]
    (((s1.persist 0x5000 3).persist 0x5000 4).persist 0x5000 5).reply 0 0

/-- A write of HM_THR_m (R661). -/
def State.hmThrWrite (s : State) (src m v : Nat) : State :=
  let w := bits v 0 32
  let a := bits v 32 32
  let bad := if m = 81 then f32.lt w a else f32.lt a w
  if !s.srcOk src then s.reply 0x0F01 0
  else if f32.read w = .nan ∨ f32.read a = .nan ∨ bad = true then s.reply 0x0F02 0
  else (((s.sets [(R.HM_THR_WARN m, w), (R.HM_THR_ALARM m, a)]).persist (0x5A00 + m) 2).persist (0x5A00 + m) 3).reply 0 0

/-- A write of HM_CMD (R668); in the second of a daily sample REBASE waits for it (R666). -/
def State.hmCmd (s : State) (src v : Nat) : State :=
  let m := bits v 4 9
  let post (t : State) (code : Nat) : State := ((t.set R.HM_CMD_RESULT_MON m).post R.HM_CMD_RESULT_STATUS code).reply 0 0
  if !s.srcOk src then post s 0x0F01
  else if 1 < bits v 0 4 ∨ 271 < m then post s 0x0F02
  else if bits v 0 4 = 0 then post s 0
  else if hmKind m < 2 ∨ 4 < hmKind m then post s 0x0F03
  else if s.hm.secs < 86400 then post (s.hmClear m) 0
  else post { s with hm := { s.hm with rebase := s.hm.rebase ++ [m] } } 0

/-- HM_REBASE (R668). -/
def execHmRebase (src : SrcId) (mon : BitVec 9) (s : State) : Host.Outcome State Fault Refusal :=
  done (s.hmCmd src (1 + mon.toNat * 16))

end Sys2Proof.Machine
end

