-- ==== Sys2Proof/Machine/Security.lean ====
section
/-!
DEFINITION. Fuses, key RAM, counters, site images, CMC firmware and the CMC's readback (chapter 23). A write that a command of the table names arrives
here through the dictionary: `isLocal` says that it comes on the mailbox, slave serial or JTAG path, `level` is the level of its session.
-/
namespace Sys2Proof.Machine
open Sys2Proof

def State.setSec (s : State) (x : Sec) : State := { s with sec := x }

/-- Whether the CMC runs its ROM recovery code (R686). -/
def State.romOnly (s : State) : Bool := decide (s.mode0 = mSAFE) && decide (s.get R.DEV_MODE_CAUSE = 0x12)

/-- A write that a command names directly reaches its entry only while the dictionary is open (R622), and in recovery only where the ROM serves it. -/
def State.viaDict (s : State) (index : Nat) (f : State → State) : State :=
  if !s.inMode [mBOOT, mLOAD, mRUN, mSAFE] then s
  else if s.romOnly && decide (index ≠ 0x1000) && decide (index ≠ 0x8015) then s.reply 0x0501 0
  else f s

/-- The refusal of a fuse write (R675). Level, mode and path in that order is the model's choice (assumption 158). -/
def State.fuseRefusal (s : State) (isLocal : Bool) (level : Nat) : Nat :=
  if level < 2 then 0x0504
  else if !s.inMode [mBOOT, mSAFE] then 0x0506
  else if !isLocal && decide (level ≠ 3) then 0x1001
  else 0

/-- Bits of a value that are blown, from bit 0 up, until a bit fails its verify read (R675). -/
def blown (v : Nat) (fail : Option Nat) : Nat × Bool :=
  match fail with
  | none => (v, true)
  | some i => if bit v i = 1 then (v % 2 ^ i, false) else (v, true)

/-- A key field of `n` bytes is programmed: the data first, then the CRC (R674). -/
def burnField (n data : Nat) (fail : Option Nat) : KeyField × Bool :=
  let k := keyField n data
  match fail with
  | none => (k, true)
  | some i =>
    if i < 8 * n then
      let d := blown data (some i)
      if d.2 then (k, true) else (⟨d.1, 0⟩, false)
    else
      let c := blown k.crc (some (i - 8 * n))
      if c.2 then (k, true) else (⟨data, c.1⟩, false)

/-- The answer to a fuse write: 0x1006 where a bit failed (R675). -/
def State.fuseDone (s : State) (ok : Bool) : State := s.secShow.reply (if ok then 0 else 0x1006) 0

/-- POLICY_SET (R677). -/
def State.policySet (s : State) (isLocal : Bool) (level v : Nat) (fail : Option Nat) : State :=
  let c := s.fuseRefusal isLocal level
  if c ≠ 0 then s.reply c 0
  else
    let w := s.policy ||| v
    if 255 < v ∨ (bit w 1 = 1 ∧ bit w 2 = 1) then s.reply 0x1007 0
    else
      let r := blown (v - (v &&& s.policy)) fail
      State.fuseDone { s with policy := s.policy ||| r.1 } r.2

/-- FUSE_POLICY_SET (R677). -/
def execFusePolicySet (isLocal : Bool) (level : Fin 4) (data : BitVec 32) (fail : Option (Fin 32)) (s : State) :
    Host.Outcome State Fault Refusal := done (s.viaDict 0x8010 (fun t => t.policySet isLocal level data.toNat (fail.map (fun x => x.val))))

/-- EF_KEY (R674). -/
def State.efKeySet (s : State) (isLocal : Bool) (level key : Nat) (fail : Option Nat) : State :=
  let c := s.fuseRefusal isLocal level
  if c ≠ 0 then s.reply c 0
  else if s.sec.efKey.state 32 ≠ 0 then s.reply 0x1003 0
  else
    let r := burnField 32 key fail
    (s.setSec { s.sec with efKey := r.1 }).fuseDone r.2

/-- FUSE_EF_KEY (R674). -/
def execFuseEfKey (isLocal : Bool) (level : Fin 4) (key : BitVec 256) (fail : Option (Fin 288)) (s : State) :
    Host.Outcome State Fault Refusal := done (s.viaDict 0x8010 (fun t => t.efKeySet isLocal level key.toNat (fail.map (fun x => x.val))))

/-- PK_PROGRAM (R674, R689). -/
def State.pkProgram (s : State) (isLocal : Bool) (level slot digest : Nat) (fail : Option Nat) : State :=
  let c := s.fuseRefusal isLocal level
  if level < 2 then s.reply 0x0504 0
  else if 3 < slot then s.reply 0x0505 0
  else if c ≠ 0 then s.reply c 0
  else if (s.pkSlot slot).state 48 ≠ 0 then s.reply 0x1003 0
  else
    let r := burnField 48 digest fail
    (s.setSec { s.sec with pk := SMap.set s.sec.pk ⟨0, 0⟩ slot r.1 }).fuseDone r.2

/-- FUSE_PK_PROGRAM (R674). -/
def execFusePkProgram (isLocal : Bool) (level : Fin 4) (slot : BitVec 8) (digest : BitVec 384) (fail : Option (Fin 416)) (s : State) :
    Host.Outcome State Fault Refusal := done (s.viaDict 0x8011 (fun t => t.pkProgram isLocal level slot.toNat digest.toNat (fail.map (fun x => x.val))))

/-- PK_REVOKE (R679). -/
def State.pkRevoke (s : State) (isLocal : Bool) (level slot : Nat) (fail : Bool) : State :=
  let c := s.fuseRefusal isLocal level
  let rev := s.sec.pkRev ||| 2 ^ slot
  let left := (List.range 4).any (fun k => decide ((s.pkSlot k).state 48 = 1) && decide (bit rev k = 0))
  if level < 2 then s.reply 0x0504 0
  else if 3 < slot then s.reply 0x0505 0
  else if c ≠ 0 then s.reply c 0
  else if !s.openDevice && !left then s.reply 0x1009 0
  else if fail ∧ bit s.sec.pkRev slot = 0 then s.fuseDone false
  else (s.setSec { s.sec with pkRev := rev }).fuseDone true

/-- FUSE_PK_REVOKE (R679). -/
def execFusePkRevoke (isLocal : Bool) (level : Fin 4) (slot : BitVec 8) (fail : Bool) (s : State) : Host.Outcome State Fault Refusal :=
  done (s.viaDict 0x8011 (fun t => t.pkRevoke isLocal level slot.toNat fail))

/-- DBG_KEY_1 or DBG_KEY_2 (R674). -/
def State.dbgKeySet (s : State) (isLocal : Bool) (level l key : Nat) (fail : Option Nat) : State :=
  let c := s.fuseRefusal isLocal level
  if c ≠ 0 then s.reply c 0
  else if (s.dbgKeyOf l).state 32 ≠ 0 then s.reply 0x1003 0
  else
    let r := burnField 32 key fail
    (s.setSec { s.sec with dbgKey := SMap.set s.sec.dbgKey ⟨0, 0⟩ l r.1 }).fuseDone r.2

/-- FUSE_DBG_KEY (R674): level 1, or level 2 where `full`. -/
def execFuseDbgKey (isLocal : Bool) (level : Fin 4) (full : Bool) (key : BitVec 256) (fail : Option (Fin 288)) (s : State) :
    Host.Outcome State Fault Refusal := done (s.viaDict 0x8013 (fun t => t.dbgKeySet isLocal level (if full then 2 else 1) key.toNat (fail.map (fun x => x.val))))

/-! ## Counters (R681, R686) -/

/-- How far a counter gets: the bits blown before the one that fails. -/
def counted (now v : Nat) (fail : Option Nat) : Nat × Bool :=
  match fail with
  | none => (v, true)
  | some i => if now + i < v then (now + i, false) else (v, true)

/-- RB_ADVANCE (R681). -/
def State.rbAdvance (s : State) (level v : Nat) (fail : Option Nat) : State :=
  if level < 2 then s.reply 0x0504 0
  else if v < s.sec.rb ∨ 64 < v ∨ s.ld.lastVersion < v ∨ s.has R.LD_STATUS_SEEDED then s.reply 0x1004 0
  else
    let r := counted s.sec.rb v fail
    let t := s.setSec { s.sec with rb := r.1 }
    (if r.2 then t.raise 0x1035 0 0 else t).fuseDone r.2

/-- RB_ADVANCE (R681): `fail` is the place among the bits to blow of one that fails. -/
def execRbAdvance (level : Fin 4) (v : BitVec 8) (fail : Option (Fin 64)) (s : State) : Host.Outcome State Fault Refusal :=
  done (s.viaDict 0x8012 (fun t => t.rbAdvance level v.toNat (fail.map (fun x => x.val))))

/-- FW_RB_ADVANCE (R686). -/
def State.fwRbAdvance (s : State) (level v : Nat) (fail : Option Nat) : State :=
  if level < 3 then s.reply 0x0504 0
  else if v < s.sec.fwRb ∨ s.sec.runSecver < v then s.reply 0x1004 0
  else
    let r := counted s.sec.fwRb v fail
    (s.setSec { s.sec with fwRb := r.1 }).fuseDone r.2

/-- FW_RB_ADVANCE (R686). -/
def execFwRbAdvance (level : Fin 4) (v : BitVec 8) (fail : Option (Fin 32)) (s : State) : Host.Outcome State Fault Refusal :=
  done (s.viaDict 0x8015 (fun t => t.fwRbAdvance level v.toNat (fail.map (fun x => x.val))))

/-! ## Key RAM and tamper (R676) -/

/-- Key RAM is overwritten with zeros. -/
def State.ramErase (s : State) : State := (s.setSec { s.sec with ramKey := ⟨0, 0⟩ }).secShow

/-- RAM_KEY (R676, R689). -/
def State.ramKeySet (s : State) (isLocal : Bool) (level key : Nat) : State :=
  if level < 2 then s.reply 0x0504 0
  else if key = 0 then s.reply 0x0505 0
  else if !s.inMode [mBOOT, mLOAD, mRUN, mSAFE] then s.reply 0x0506 0
  else if !isLocal && decide (level ≠ 3) then s.reply 0x1001 0
  else if !s.pins.tamperL then s.reply 0x1005 0
  else ((s.setSec { s.sec with ramKey := keyField 32 key }).secShow).reply 0 0

/-- RAM_KEY_WRITE (R676). -/
def execRamKeyWrite (isLocal : Bool) (level : Fin 4) (key : BitVec 256) (s : State) : Host.Outcome State Fault Refusal :=
  done (s.viaDict 0x8010 (fun t => t.ramKeySet isLocal level key.toNat))

/-- RAM_KEY_ERASE = TRUE (R689). -/
def State.ramKeyErase (s : State) (level : Nat) : State :=
  if level < 2 then s.reply 0x0504 0 else (s.ramErase.raise 0x1031 0 0).reply 0 0

/-- RAM_KEY_ERASE (R689). -/
def execRamKeyErase (level : Fin 4) (s : State) : Host.Outcome State Fault Refusal := done (s.viaDict 0x8010 (fun t => t.ramKeyErase level))

/-- TAMPER_CLR = TRUE (R676): nothing clears while TAMPER_L is low. -/
def State.tamperClr (s : State) (level : Nat) : State :=
  if level < 2 then s.reply 0x0504 0
  else (if s.pins.tamperL then (s.setSec { s.sec with tamperSeen := false, vbattLost := false }).secShow else s).reply 0 0

/-- TAMPER_CLR (R676). -/
def execTamperClr (level : Fin 4) (s : State) : Host.Outcome State Fault Refusal := done (s.viaDict 0x8014 (fun t => t.tamperClr level))

/-! ## Site images (R574, R682) -/

/-- Whether the header of a site image stands, but for its key, version and tag (R682). -/
def siteHeaderOk (h : List Nat) : Bool :=
  let len := leField h 8 4
  decide (h.length = 256) && decide (h.take 4 = [0x59, 0x4C, 0x53, 0x43]) && decide (leField h 4 2 = 1) && decide (leField h 6 1 ≤ 2)
    && decide (len % 4 = 0) && decide (4 ≤ len) && decide (len ≤ 1048576) && decide (leField h 12 4 % 2 = 0) && decide (leField h 12 4 < len)
    && (decide (leField h 6 1 ≠ 0) || (decide (leField h 24 12 = 0) && decide (leField h 36 16 = 0)))
    && decide (leField h 7 1 = 0) && decide (leField h 148 108 = 0)

/-- The body of a site image, or the code of its first failure (R682). -/
def State.siteImage (s : State) (image : List Nat) : Except Nat (List Nat) :=
  let h := image.take 256
  let len := leField h 8 4
  let body := (image.drop 256).take len
  let sig := (image.drop (256 + len)).take 96
  let key := leField h 6 1
  let pub := (h.drop 52).take 96
  if !siteHeaderOk h ∨ body.length < len ∨ sig.length < 96 then .error 0x1020
  else match s.keyRefusal key with
    | some c => .error c
    | none =>
      if !s.keyAccepted pub then .error 0x1021
      else if !Config.ecdsaOk (beNum pub) (Config.sha384 (h ++ body)) (beNum sig) then .error 0x1021
      else if leField h 16 8 < s.sec.rb then .error 0x1022
      else if key = 0 then .ok body
      else match Config.gcmOpen (s.keyValue key) (beNum ((h.drop 24).take 12)) (h.take 36) (body ++ (h.drop 36).take 16) with
        | none => .error 0x1023
        | some plain => .ok plain

/-- Bytes written into SRAM from an offset, a word at a time. -/
def State.sramLoad (s : State) (o : Nat) (bytes : List Nat) : State :=
  (List.range (bytes.length / 4)).foldl (fun (t : State) i => (t.sramWrite (o + 4 * i) [leField bytes (4 * i) 4]).1) s

/-- SC_FLASH_BOOT_COMPLETE (R574, R682): the CMC has read the site image from the flash, the loader being idle. -/
def execScFlashBootComplete (image : List (BitVec 8)) (s : State) : Host.Outcome State Fault Refusal :=
  if s.sc.boot ≠ 2 ∨ s.sc.held ∨ s.ldState ≠ ldIDLE then done s
  else
    let bytes := image.map (fun (b : BitVec 8) => b.toNat)
    match s.siteImage bytes with
    | .ok body =>
      let t := s.sramLoad 0 body
      done (t.setSc { t.sc with
        boot := 0
        pc := 0x10000000 + leField bytes 12 4 })
    | .error c =>
      let t := (s.set R.SC_STATUS_BOOTERR c).raise 0x0D31 0 0
      done (State.scGoJump (t.setSc { t.sc with boot := 1 }))

/-! ## CMC firmware (R683 to R686) -/

def State.fwRunning (s : State) : Nat := s.get R.SEC_STATUS_FW_SLOT
def State.fwSlot (s : State) (k : Nat) : List Nat := SMap.get s.sec.slots [] k
/-- FW_VERSION: the FWVER of the running slot (R623, R683). -/
def State.fwVersion (s : State) : Nat := leField (s.fwSlot s.fwRunning) 12 4

/-- XFER_START of FW_IMAGE (R684): the inactive slot is erased. -/
def State.fwBegin (s : State) : State :=
  (s.setSec { s.sec with slots := SMap.set s.sec.slots [] (1 - s.fwRunning) [], fwState := 1 }).mramWrite (1 - s.fwRunning) 0

/-- Bytes of FW_IMAGE as they arrive. -/
def State.fwTake (s : State) (bytes : List Nat) : State :=
  let k := 1 - s.fwRunning
  s.setSec { s.sec with slots := SMap.set s.sec.slots [] k (s.fwSlot k ++ bytes) }

/-- A transfer of FW_IMAGE that ends unfinished (R684). -/
def State.fwCut (s : State) : State := s.setSec { s.sec with fwState := 3 }

/-- The check of a firmware image in the order of R683: 0 where it is valid. -/
def State.fwCheck (s : State) (f : List Nat) : Nat :=
  let h := f.take 256
  let sv := leField h 6 1
  let len := leField h 8 4
  let body := f.drop 256
  if h.length < 256 ∨ h.take 4 ≠ [0x59, 0x4C, 0x46, 0x57] ∨ leField h 4 2 ≠ 1 ∨ 32 < sv then 0x1010
  else if sv < s.sec.fwRb then 0x1012
  else if len = 0 ∨ 163584 < len ∨ body.length ≠ len ∨ beNum ((h.drop 16).take 48) ≠ Config.sha384 body then 0x1010
  else if !Config.ecdsaOk (Config.partConst 3) (Config.sha384 (h.take 160)) (beNum ((h.drop 160).take 96)) then 0x1011
  else if leField h 7 1 ≠ 0 ∨ leField h 64 96 ≠ 0 then 0x1010
  else 0

/-- Whether a session has a transfer of FW_IMAGE open. -/
def State.fwOpen (s : State) : Bool :=
  s.dict.sess.any (fun (e : Nat × Session) => match e.2.xfer with | some x => decide (x.index = 0x8015) && x.write | none => false)

/-- FW_IMAGE_COMPLETE (R684): the last byte of the image has come. -/
def execFwImageComplete (s : State) : Host.Outcome State Fault Refusal :=
  if s.sec.fwState ≠ 1 ∨ s.fwOpen then done s
  else
    let c := s.fwCheck (s.fwSlot (1 - s.fwRunning))
    done (s.setSec { s.sec with fwState := if c = 0 then 2 else 3, fwLastErr := c })

/-- The sessions close, transfers of the firmware with them. -/
def State.sessClear (s : State) : State :=
  let t := if s.fwOpen then s.fwCut else s
  { t with dict := { t.dict with sess := [] } }

/-- The CMC runs a slot (R685, R686). -/
def State.fwRun (s : State) (slot : Nat) : State :=
  (s.setSec { s.sec with runSecver := leField (s.fwSlot slot) 6 1 }).set R.SEC_STATUS_FW_SLOT slot

/-- FW_SWITCH = TRUE (R685). It restarts within its command, and LOAD counts as a busy loader (assumption 160). -/
def State.fwSwitch (s : State) (level : Nat) : State :=
  if level < 3 then s.reply 0x0504 0
  else if s.sec.fwState ≠ 2 ∨ s.fwOpen then s.reply 0x1013 0
  else if s.ldState ≠ ldIDLE ∨ s.mode0 = mLOAD then s.reply 0x1014 0
  else (((s.fwRun (1 - s.fwRunning)).sessClear).raise 0x1033 0 0).reply 0 0

/-- FW_SWITCH (R685). -/
def execFwSwitch (level : Fin 4) (s : State) : Host.Outcome State Fault Refusal := done (s.viaDict 0x8015 (fun t => t.fwSwitch level))

/-- CMC_FW_BOOT (R686): at a start, whether each slot authenticates. -/
def execCmcFwBoot (auth0 auth1 : Bool) (s : State) : Host.Outcome State Fault Refusal :=
  let ok (k : Nat) : Bool := if k = 0 then auth0 else auth1
  let k := s.fwRunning
  if s.mode0 ≠ mBOOT then done s
  else if ok k then done (s.fwRun k)
  else if ok (1 - k) then done ((s.fwRun (1 - k)).raise 0x1034 0 0)
  else done (s.trigger 0x12 0x1214)

/-- CMC_FW_AUTH_FAIL (R686, R45): neither slot authenticates. -/
def execCmcFwAuthFail (s : State) : Host.Outcome State Fault Refusal := done (s.trigger 0x12 0x1214)

/-! ## Readback (R687) -/

/-- A field of SEC_RB_SEL, which takes the layout of RB_SEL. -/
def State.rbSelOf (s : State) (f : Fld) : Nat := bits s.sec.rbSel f.lo f.w

/-- The bytes of SEC_RB_FRAME or SEC_RB_LATCH, or the code of their refusal (R540, R541, R687). -/
def State.secRead (s : State) (level : Nat) (latch : Bool) : Except Nat (List Nat) :=
  let b := s.rbSelOf R.RB_SEL_B
  let row := s.rbSelOf R.RB_SEL_ROW
  let col := s.rbSelOf R.RB_SEL_COL
  let idx := s.rbSelOf R.RB_SEL_INDEX
  let plane := s.rbSelOf R.RB_SEL_PLANE
  let key := match s.partOf b with | some q => SMap.get s.pt.keysel 0 q | none => 0
  if level < 2 then .error 0x0504
  else if s.policyBit 7 ∧ key ≠ 0 then .error 0x1008
  else if latch then .ok ((List.range 3072).flatMap (fun w => toBytes 4 (s.latchWord b w)))
  else if !frameExists row col idx then .error 0x0125
  else if s.planeWritten plane b then .error 0x0126
  else .ok (toBytes 512 (s.frame plane b row col idx) ++ toBytes 4 (s.frameChecks plane b row col idx))

/-- SEC_RB_READ (R687). -/
def execSecRbRead (level : Fin 4) (latch : Bool) (s : State) : Host.Outcome State Fault Refusal :=
  done (s.viaDict 0x8016 (fun t => match t.secRead level latch with
    | .error c => t.reply c 0
    | .ok l => { t.reply 0 0 with out := [.bytes 0 l] }))

/-! ## The I/O table (R723) -/

/-- A write of IO_TABLE (R723, R606): it is kept for the next full load. -/
def State.ioTableWrite (s : State) (level : Nat) (t : List Nat) : State :=
  if level < 2 then s.reply 0x0504 0
  else if !ioTableOk t then s.reply 0x0505 0
  else (State.persist { s with dict := { s.dict with vals := SMap.set s.dict.vals none 0x240001 (some t) } } 0x2400 1).reply 0 0

/-- IO_TABLE_WRITE (R723). -/
def execIoTableWrite (level : Fin 4) (table : List (BitVec 8)) (s : State) : Host.Outcome State Fault Refusal :=
  done (s.viaDict 0x2400 (fun t => t.ioTableWrite level (table.map (fun (b : BitVec 8) => b.toNat))))

end Sys2Proof.Machine
end

