-- ==== Sys2Proof/Machine/Mode.lean ====
section
/-!
DEFINITION. Modes and power (chapters 1 and 24): persistent dictionary entries, requests, the wake compare, what a transition
does when it completes, rails, insertion, tamper and thermal pins. A transition is two commands: its trigger sets BUSY, and
MODE_TRANSITION_COMPLETE brings every block into the state of the new mode.
-/
namespace Sys2Proof.Machine
open Sys2Proof

/-! ## Persistent entries (R606) -/

/-- Bytes of a value in network order. -/
def netBytes (n v : Nat) : List Nat := (toBytes n v).reverse

/-- A persistent entry that a register mirrors (R669, R712): its field, its wire length, and whether it travels as KC / 16 in binary32. -/
def persistField (k : Nat) : Option (Fld × Nat × Bool) :=
  let m := k / 256 - 0x5A00
  if k = 0x500003 then some (R.HM_CTRL_EOL_WARN, 2, false)
  else if k = 0x500004 then some (R.HM_CTRL_KC, 4, true)
  else if k = 0x500005 then some (R.HM_CTRL_AUTO_EYE, 1, false)
  else if k = 0x230002 then some (R.PWR_CTRL_THERM_SHUT, 1, false)
  else if k = 0x230003 then some (R.PWR_CTRL_THERM_HOT, 1, false)
  else if 0x5A0000 ≤ k ∧ m < 272 ∧ k % 256 = 2 then some (R.HM_THR_WARN m, 4, false)
  else if 0x5A0000 ≤ k ∧ m < 272 ∧ k % 256 = 3 then some (R.HM_THR_ALARM m, 4, false)
  else none

/-- The entries of `persistField`, as index × 256 + sub. -/
def persistFields : List Nat :=
  [0x500003, 0x500004, 0x500005, 0x230002, 0x230003] ++ (List.range 272).flatMap (fun m => [(0x5A00 + m) * 256 + 2, (0x5A00 + m) * 256 + 3])

/-- The value in use of a persistent entry as its wire bytes; none is the Default. -/
def State.persistNow (s : State) (k : Nat) : Option (List Nat) :=
  match persistField k with
  | some (f, n, kc) => some (netBytes n (if kc then f32.ofRatio (s.get f) 16 else s.get f))
  | none => SMap.get s.dict.vals none k

/-- Puts the wire bytes of a persistent entry that a register mirrors into its field; none is the Default. -/
def State.persistPut (s : State) (k : Nat) (v : Option (List Nat)) : State :=
  match persistField k with
  | none => s
  | some (f, _, kc) =>
    match v with
    | none => s.set f f.rst
    | some l => s.set f (if kc then ((f64.floor (f64.mul (f32.convert f64 (beNum l)) (f64.ofInt (16 : Nat)))).getD 0).toNat else beNum l)

/-- One store write: every entry that is due (R606); each is one write of an item of the dictionary store, or of the user area (R660). -/
def State.storeDue (s : State) : State :=
  let t := s.dict.due.foldl (fun (u : State) k =>
    ({ u with dict := { u.dict with store := SMap.set u.dict.store none k (s.persistNow k) } }).mramWrite (if k = 0x1F0001 then 4 else 2) k) s
  { t with dict := { t.dict with due := [] } }

/-- At entry to BOOT every persistent entry takes its stored value, or its Default (R606). -/
def State.persistLoad (s : State) : State :=
  let s1 := { s with dict := { s.dict with vals := s.dict.store.filter (fun e => (persistField e.1).isNone) } }
  persistFields.foldl (fun (t : State) k => t.persistPut k (SMap.get s.dict.store none k)) s1

/-- At entry to RUN the CMC writes SC_BOOT_SRC and SC_BOOT_ADDR into SC_BOOT (R598). -/
def State.scBootLoad (s : State) : State :=
  let v (k : Nat) : Nat := match SMap.get s.dict.vals none k with | some l => beNum l | none => 0
  s.sets [(R.SC_BOOT_SRC, v 0x180004), (R.SC_BOOT_FLASH_ADDR, v 0x180005)]

/-! ## Requests and the wake compare -/

/-- Whether a source may write DEV_MODE_REQ (R40, R677). -/
def State.modeSrcOk (s : State) (src : Nat) : Bool :=
  (decide (src = 33) && decide (bit s.policy 5 = 0)) || (decide (src = 97) && decide (bit s.policy 6 = 0))
    || (decide (src = 161) && decide (s.dbgLevel = 2))

/-- The cause by which a request reaches its target (R45); none where R45 lists none. -/
def State.requestCause (s : State) (target : Nat) : Option Nat :=
  [0x0D, 0x0E, 0x0F, 0x10].find? (fun c => s.inMode (causeFrom c) && decide (causeTo c = target))

/-- The code of the first check of R42 that a request fails; 0 where it passes or is posted at once with 0x0000. -/
def State.modeCheck (s : State) (ok : Bool) (confirm target : Nat) : Nat :=
  if !ok then 0x1204
  else if s.has R.DEV_MODE_BUSY then 0x1201
  else if confirm ≠ 0xA5C3 then 0x1203
  else if target = 0 ∨ target = 4 ∨ 6 ≤ target then 0x1202
  else if target = 3 then (if s.mode0 = mLOAD ∨ s.ldState ≠ ldIDLE then 0x0140 else if !s.coreRails then 0x1206 else 0)
  else if target = s.mode0 then 0
  else if (s.requestCause target).isNone then 0x1202
  else if target = mSTANDBY ∧ s.has R.DBG_SC_CTRL_ATTACH ∧ s.dbgLevel = 2 then 0x1207
  else if target = mBOOT ∧ !s.coreRails then 0x1206
  else 0

/-- An armed LOAD request (R43): the strapped flash source starts at once, where the loader is on (R50). -/
def State.modeArm (s : State) : State :=
  let s0 := if s.mode.armed then s.postMode 0x1205 3 else s
  let s1 := { s0.expect R.DEV_MODE_RESULT_STATUS with mode := { s0.mode with armed := true } }
  if bits s.mode.straps 0 2 = 0 ∧ s.inMode [mBOOT, mRUN, mSAFE] then s1.ldStart srcFLASH 0 0 15 0 else s1

/-- A write of DEV_MODE_REQ (R40 to R43); `ok` says that its source and level are permitted. The write is answered with 0x0000 (R737). -/
def State.modeReq (s : State) (ok : Bool) (confirm target : Nat) : State :=
  let c := s.modeCheck ok confirm target
  if s.mode0 = mOFF then s
  else (if c ≠ 0 then s.postMode c target
   else if target = 3 then s.modeArm
   else match s.requestCause target with
     | none => s.postMode 0 target
     | some cause =>
       let s1 := (s.expect R.DEV_MODE_RESULT_STATUS).trigger cause 0
       { s1 with mode := { s1.mode with request := some target } }).reply 0 0

/-- MODE_REQ_STANDBY (R45). -/
def execModeReqStandby (src : SrcId) (confirm : BitVec 16) (s : State) : Host.Outcome State Fault Refusal :=
  done (s.modeReq (s.modeSrcOk src) confirm.toNat 1)
/-- MODE_REQ_BOOT (R45). -/
def execModeReqBoot (src : SrcId) (confirm : BitVec 16) (s : State) : Host.Outcome State Fault Refusal :=
  done (s.modeReq (s.modeSrcOk src) confirm.toNat 2)
/-- MODE_REQ_LOAD (R43). -/
def execModeReqLoad (src : SrcId) (confirm : BitVec 16) (s : State) : Host.Outcome State Fault Refusal :=
  done (s.modeReq (s.modeSrcOk src) confirm.toNat 3)
/-- MODE_REQ_SAFE (R45). -/
def execModeReqSafe (src : SrcId) (confirm : BitVec 16) (s : State) : Host.Outcome State Fault Refusal :=
  done (s.modeReq (s.modeSrcOk src) confirm.toNat 5)

/-- Posts the outcome of a write of DEV_WAKE (R44). -/
def State.wakePost (s : State) (code : Nat) : State :=
  (s.sets [(R.DEV_MODE_RESULT_TARGET, 0), (R.DEV_MODE_RESULT_WAKE, 1)]).post R.DEV_MODE_RESULT_STATUS code

/-- Whether a write of DEV_WAKE is refused (R44). -/
def State.wakeRefused (s : State) (v : Nat) : Bool :=
  s.has R.DEV_WAKE_ARM && decide (bit v 48 = 1)
    && (decide (bits v 0 48 ≠ s.get R.DEV_WAKE_TARGET) || decide (bits v 49 15 ≠ s.get R.DEV_WAKE_WRAPS))

/-- A write of DEV_WAKE (R44). -/
def State.wakeWrite (s : State) (v : Nat) : State :=
  if s.mode0 = mOFF then s
  else if s.wakeRefused v then (s.wakePost 0x1208).reply 0 0
  else
    let s1 := if bit v 48 = 1 ∧ !s.has R.DEV_WAKE_ARM then { s with mode := { s.mode with wakeC := 0 } } else s
    ((s1.setWord [R.DEV_WAKE_TARGET, R.DEV_WAKE_ARM, R.DEV_WAKE_WRAPS] v).wakePost 0).reply 0 0

/-- DEV_WAKE_WRITE (R44). -/
def execDevWakeWrite (_src : SrcId) (data : Word64) (s : State) : Host.Outcome State Fault Refusal := done ((s.commit R.DEV_WAKE_ARM.addr).wakeWrite data.toNat)

/-- WAKE_L_FALLING (R45). While a transition runs in another mode the edge is a displaced trigger, evaluated again in the new mode (R53). -/
def execWakeLFalling (s : State) : Host.Outcome State Fault Refusal :=
  if s.mode0 ≠ mSTANDBY ∧ s.mode.trans.isSome then done (s.trigger 0x03 0) else done s.wake

/-- SS_RDY (R488, R490, R510). -/
def State.ssRdy (s : State) (v : Bool) : State := { s with pins := { s.pins with ssRdy := v } }

/-- SS_SELECT (R45, R488, R621): in STANDBY a select wakes; while the loader is idle, `dictMsg` says that the first byte is 0x41, and the
bytes of a dictionary message follow; else a stream begins. While a load runs SS_RDY stays low. -/
def execSsSelect (dictMsg : Bool) (s : State) : Host.Outcome State Fault Refusal :=
  if s.mode0 = mSTANDBY then done s.wake
  else if !s.inMode [mBOOT, mLOAD, mRUN, mSAFE] ∨ s.ldState ≠ ldIDLE then done s
  else if dictMsg then done (State.ssRdy { s with dict := { s.dict with serial := some [] } } true)
  else done ((s.ldStart srcSERIAL 0 0 15 0).ssRdy true)

/-- SS_DESELECT (R490, R621): a stream of the slave serial port that has not ended ends early; a response is released. -/
def execSsDeselect (s : State) : Host.Outcome State Fault Refusal :=
  let s1 := State.ssRdy { s with dict := { s.dict with serial := none } } false
  if s.ldState ≠ ldIDLE ∧ s.get R.LD_STATUS_SRC = srcSERIAL then
    (if s.ld.ended then done s1 else done (s1.ldStop 0x0108))
  else match s1.ld.discard with
    | some (x, _) => if x = srcSERIAL then done { s1 with ld := { s1.ld with discard := none } } else done s1
    | none => done s1

/-! ## What a mode does to the blocks (R50) -/

/-- Every slot disarms, pulses under way end with the pins, every capture unit's EN clears; `empty` also empties the capture FIFOs (R337, R51). -/
def State.timelineStop (s : State) (empty : Bool) : State :=
  let s0 := { s with tl := { s.tl with closing := [] } }
  let s1 := s0.armedSlots.foldl (fun (t : State) k => t.setArmed k false) s0
  let s2 := (List.range 32).foldl (fun (t : State) u => t.put (R.CU_CFG_EN u) false) s1
  if empty then { s2 with pops := SMap.without s2.pops (fun a => decide (0x7e000006000 ≤ a) && decide (a < 0x7e000006400)) } else s2

/-- Timers disarm and the watchdog stops; the core is held in reset (R599). -/
def State.siteHold (s : State) : State :=
  let s1 := (List.range 8).foldl (fun (t : State) n => t.set (R.TM_CTRL_ARM n) 0) s
  ((s1.sets [(R.WDG_CTRL_EN, 0), (R.SC_STATUS_STATE, 0)]).setSc { s1.sc with held := true, modeHeld := true, tmCut := [] })

/-- What leaving a mode ends: in RUN, changes and serial transactions (R275, R592); a load that another cause abandons (R511). A header
acceptance that was displaced is judged in the new mode (R53). -/
def State.leave (s : State) (cause : Nat) : State :=
  let s1 := if s.mode0 = mRUN then s.opAbandon.spStop else s
  let own := [0x04, 0x05, 0x06, 0x07].contains cause || s1.mode.displaced.any (fun t => [0x04, 0x05].contains t.cause)
  let s2 := if !own ∧ (s1.ld.img ≠ none ∨ s1.ld.seedFor ≠ none) then (s1.setLd { s1.ld with waitSeeds := [] }).ldFinish 0 0x010F else s1
  if s2.mode0 = mRUN then (List.range 32).foldl (fun (t : State) q => t.set (R.PT_STAT_ACT q) 0) s2 else s2

/-- A bough at entry to SAFE (R50, R360, R534): drained, its lines stopped, its collar clamped. A swap in progress runs to its end. -/
def State.boughSafe (s : State) (b : Nat) : State :=
  let t := (s.drainNow b).fallEnd b
  match (t.bough b).run with
  | .running | .loading => t.boughHalt b .stopped
  | _ => t

/-- Entry to SAFE. -/
def State.enterSafe (s : State) : State :=
  let s1 := (List.range 64).foldl State.boughSafe s
  (((s1.timelineStop false).portsSafe.lanesMode mSAFE).glSafe).sets [(R.LD_STATUS_CFG_DONE, 0), (R.LD_STATUS_CFG_ERR, 1), (R.LD_CTRL_SAFE_OPEN, 0)]

/-- Entry to LOAD (R504 step 1). -/
def State.enterLoad (s : State) : State :=
  let s1 := { s with pt := { s.pt with swaps := [] } }
  ((((s1.ldEnter).timelineStop true).portsSafe).lanesMode mLOAD).siteHold

/-- Entry to RUN (R51, R458, R549, R573, R598). -/
def State.enterRun (s : State) : State :=
  let s1 := ((s.timelineStop true).portsReset).lanesMode mRUN
  let s2 := { s1 with gl := { s1.gl with pos := [] } }
  let s3 := s2.scBootLoad.scReset 1
  s3.setSc { s3.sc with modeHeld := false }

/-- Partitions and planes are gone (R544, R514). -/
def State.partsClear (s : State) : State :=
  { s with
    regs := SMap.without s.regs (fun k => decide (0x42000001000 ≤ k / 64) && decide (k / 64 < 0x42000001200))
    pt := State.reset.pt } |>.sets [(R.LD_PART_STAT_STATE, 0), (R.LD_STATUS_CFG_DONE, 0), (R.LD_STATUS_CFG_ERR, 0), (R.LD_STATUS_SEEDED, 0)]

/-- A bough that is empty (R127, R160, R188, R220). -/
def State.boughEmpty (s : State) (b : Nat) : State :=
  let t := ((s.boughOff b).clearBough b).sets [(R.BM_CNT_CORR b, 0), (R.BM_CNT_UNC b, 0)]
  { t with
    pops := SMap.set t.pops [] (bmErrPop b) []
    popOvf := SMap.set t.popOvf 0 (bmErrPop b) 0 }

/-- The fabric is cleared (R45 causes 0x0E and 0x0F). -/
def State.fabricClear (s : State) : State :=
  let s1 := (List.range 64).foldl State.boughEmpty s
  s1.glEmpty.partsClear

/-- Crown clocks are disabled at entry to BOOT (R279). -/
def State.clocksDisable (s : State) : State :=
  let s1 := (List.range 14).foldl (fun (t : State) p => t.put (R.CP_CFG_EN p) false) s
  let s2 := (List.range 32).foldl (fun (t : State) g => t.put (R.GCL_CFG_ON g) false) s1
  let s3 := (List.range 16).foldl (fun (t : State) m => t.put (R.MON_CFG_EN m) false) s2
  s3.set R.CK_STATUS_CP_LOCK (s3.get R.CK_STATUS_CP_LOCK / 2 ^ 14 * 2 ^ 14)

/-- VCC_NOC and VCC_SRAM power up with the entry to BOOT: FOSC and its PLLs start (R279, R262), the granary and site SRAM are
cleared (R385, R599). The dividers that make 1.6 GHz of FOSC's 400 MHz are the model's choice (assumption 175). -/
def State.powerUp (s : State) : State :=
  let s1 := [14, 15].foldl (fun (t : State) p =>
    t.sets [(R.CP_CFG_EN p, 1), (R.CP_CFG_M_FB p, 4), (R.CP_CFG_N p, 64), (R.CP_OUT_O p, 4), (R.CP_MUX_ACT p, 2)]) (s.put R.CK_STATUS_FOSC_ON true)
  s1.granaryPowerUp.sramClear

/-- The settings, records and events that come back at each entry to BOOT (R606, R667, R676, R724, R562). -/
def State.bootCmc (s : State) : State :=
  let s1 := ((s.persistLoad.hmBoot).ioReset.sets [(R.IO_STATUS_STATE, 0), (R.IO_STATUS_MATCH, 0)]).glPut glResetWord
  let s2 := s1.sec.waiting.foldl (fun (t : State) c => t.raise c 0 0) s1
  s2.setSec { s2.sec with waiting := [] }

/-- Entry to BOOT. -/
def State.enterBoot (s : State) : State :=
  let s1 := if s.mode0 = mSTANDBY then s.powerUp else s.fabricClear.clocksDisable
  let s2 := ((((s1.timelineStop true).portsSafe).lanesMode mBOOT).siteHold).bootCmc
  let s3 := { s2 with mode := { s2.mode with bootWindow := false } }
  if bits s3.mode.straps 0 2 = 0 ∧ s3.ldState = ldIDLE then s3.ldStart srcFLASH 0 0 15 0 else s3

/-- Whether a register belongs to the always-on domain: DEV_MODE, DEV_MODE_RESULT, DEV_WAKE, the time plane, the power registers, the
selected firmware slot (R39, R702, R711). -/
def alwaysOn (k : Nat) : Bool :=
  let a := k / 64
  (decide (0x41000000000 ≤ a) && decide (a < 0x41000000020)) || (decide (0x7D000000000 ≤ a) && decide (a < 0x7D000001000))
    || (decide (0x41000025000 ≤ a) && decide (a < 0x41000025020)) || decide (k = R.SEC_STATUS_FW_SLOT.key) || decide (k = R.CK_STATUS_TPLL_LOCK.key)

/-- What MRAM, the fuses and the VBATT domain hold (R702), with what is outside the device and the model's own fields. -/
def State.keepMemory (s : State) : State :=
  { State.reset with
    answer := s.answer
    out := s.out
    free := s.free
    pending := s.pending
    pins := s.pins
    policy := s.policy
    lref := s.lref
    regs := s.regs.filter (fun e => decide (e.1 = R.SEC_STATUS_FW_SLOT.key))
    gr := { State.reset.gr with recorded := s.gr.recorded }
    hm := { State.reset.hm with
      recs := s.hm.recs
      writes := s.hm.writes
      powered := s.hm.powered }
    dict := { State.reset.dict with store := s.dict.store }
    sec := { State.reset.sec with
      efKey := s.sec.efKey
      pk := s.sec.pk
      pkRev := s.sec.pkRev
      dbgKey := s.sec.dbgKey
      rb := s.sec.rb
      fwRb := s.sec.fwRb
      ramKey := s.sec.ramKey
      tamperSeen := s.sec.tamperSeen
      vbattLost := s.sec.vbattLost
      waiting := s.sec.waiting
      slots := s.sec.slots
      runSecver := s.sec.runSecver
      fwState := s.sec.fwState
      fwLastErr := s.sec.fwLastErr } }

/-- Entry to STANDBY (R47, R702): everything but the always-on domain is lost. Due store writes and the wear records are written first. -/
def State.enterStandby (s : State) : State :=
  let s1 := s.grantEnd
  let k := s1.keepMemory.ssRdy false
  { k with
    regs := s1.regs.filter (fun e => alwaysOn e.1)
    mode := s1.mode
    tp := s1.tp
    clk := { k.clk with
      muxSw := s1.clk.muxSw.filter (fun e => decide (e.1 = 48))
      trips := s1.clk.trips }
    dict := { k.dict with
      vals := s1.dict.vals
      fails := s1.dict.fails
      locked := s1.dict.locked
      authFails := s1.dict.authFails }
    tap := { s1.tap with
      pins := none
      dapWait := none
      ending := false }
    hm := { k.hm with
      secs := s1.hm.secs
      waiting := s1.hm.waiting } }

/-- OFF (R50): only VBATT is powered; MRAM and fuses keep what they hold. -/
def State.enterOff (s : State) : State :=
  let t := s.grantEnd.keepMemory
  let u := (t.set R.DEV_MODE_MODE mOFF).ssRdy false
  { u with mode := { t.mode with straps := s.mode.straps, quiet := false }, pins := { u.pins with thermL := true } }

/-! ## Completion -/

/-- DEV_MODE after a transition (R39). -/
def State.setMode (s : State) (t : Trans) : State :=
  s.sets [(R.DEV_MODE_PREV_MODE, s.mode0), (R.DEV_MODE_MODE, t.target), (R.DEV_MODE_BUSY, 0), (R.DEV_MODE_CAUSE, t.cause), (R.DEV_MODE_STATUS, t.status)]

/-- The MODE record (R52, R471). -/
def State.modeRecord (s : State) : State :=
  s.offer (fun _ _ => true) (s.mkRec 2 (s.get R.DEV_MODE_STATUS) 0 (s.word devModeFields) [])

/-- The results that a completed transition posts (R41, R43): an accepted request whose target it reached, with 0x0000; any other,
and an armed LOAD request, with 0x1205. -/
def State.modeResults (s : State) (t : Trans) : State :=
  let own := [0x04, 0x05, 0x0D, 0x0E, 0x0F, 0x10].contains t.cause
  let s1 := match s.mode.request with
    | none => s
    | some r => s.postMode (if own ∧ r = t.target then 0 else 0x1205) r
  let s2 := if s1.mode.armed then s1.postMode 0x1205 3 else s1
  { s2 with mode := { s2.mode with request := none, armed := false } }

/-- A displaced trigger is evaluated again in the new mode (R53). An accepted header that the new mode does not admit is refused: SAFE admits
only streams that were opened in SAFE (R49). A wake needs its rails. -/
def State.reconsider (s : State) (l : List Trans) : State :=
  l.foldl (fun (u : State) t =>
    if t.cause = 0x04 ∨ t.cause = 0x05 then
      (if u.ld.img = none then u
       else if u.inMode (causeFrom t.cause) ∧ u.mode0 ≠ mSAFE then u.trigger t.cause t.status
       else u.ldRefuse 0x0104)
    else if t.cause = 0x03 then (if u.mode.trans.isSome then u else u.wake)
    else if u.inMode (causeFrom t.cause) then u.trigger t.cause t.status
    else u) s

/-- What the target mode does to every block (R50). -/
def State.enter (s : State) (t : Trans) : State :=
  match t.target with
  | 2 => s.enterBoot
  | 3 => s.enterLoad
  | 4 => s.enterRun
  | 5 => s.enterSafe
  | _ => s.storeDue.hmStore

/-- Lanes Q_8 and Q_9 go idle, and the link is lost (R482, R705). -/
def State.hlDown (s : State) : State :=
  (if s.has R.HL_STATUS_UP then s.hlLoss.sets [(R.HL_STATUS_UP, 0), (R.HL_STATUS_RATE, 0), (R.HL_STATUS_WIDTH, 0)] else s).lanesIdle hostLane

/-- The pins' own effect on a TAP instruction that drives them (R633): another mode ends it. -/
def State.tapMode (s : State) (target : Nat) : State :=
  if target = mLOAD ∨ target = mSTANDBY then { s with tap := { s.tap with pins := none, ir := if s.tap.pins.isSome then 0xFF else s.tap.ir } } else s

/-- A transition completes (R45, R52, R53). -/
def State.modeComplete (s : State) (t : Trans) : State :=
  let held := s.mode.displaced
  let s1 := { s.leave t.cause with mode := { (s.leave t.cause).mode with trans := none, displaced := [] } }
  let s2 := (((s1.enter t).tapMode t.target).modeResults t).setMode t
  let s3 := s2.modeRecord
  if t.target = mSTANDBY then ((s3.hlQuiet).enterStandby).reconsider held
  else if t.cause = 0x0C then (s3.hlQuiet.hlDown).reconsider held
  else s3.reconsider held

/-- Whether a transition waits for a port that it drains, or that a swap holds until it is drained (R360). -/
def State.transDrains (s : State) (t : Trans) : Bool :=
  decide (t.cause ≠ 0x11) && decide (t.target ≠ mRUN) && s.inMode [mLOAD, mRUN] && (List.range 64).any (fun b => decide (s.p0 b ≠ p0ASLEEP))

/-- A transition completes once every port that it drains is ASLEEP (R45, R52, R360). -/
def State.transEnd (s : State) : State :=
  match s.mode.trans with
  | none => s
  | some t => if s.transDrains t then s else s.modeComplete t

/-! ## Rails (R693 to R701) -/

/-- The time of a loss or a removal, in PWR_LOG. -/
def State.pwrStamp (s : State) : State := s.set R.PWR_LOG_TIME s.now32

/-- A rail becomes good (R693). -/
def State.railUp (s : State) (r : Nat) : State :=
  if s.mode0 = mOFF ∨ bit (s.get R.PWR_STATUS_GOOD) r = 1 then s
  else ((((s.set R.PWR_STATUS_GOOD (s.get R.PWR_STATUS_GOOD + 2 ^ r)).put R.PWR_EVT_RAIL_GOOD true).raise 0x1120 r 0)).ioShow

/-- A rail that was good is lost (R693). -/
def State.railDown (s : State) (r : Nat) : State :=
  let s1 := (s.set R.PWR_STATUS_GOOD (s.get R.PWR_STATUS_GOOD - 2 ^ r)).sets [(R.PWR_LOG_LAST_LOST, r), (R.PWR_EVT_RAIL_LOST, 1)]
  ((s1.pwrStamp).raise 0x1121 r 0).ioShow

/-- Whether a rail is reported good now. -/
def State.railSeen (s : State) (r : Nat) : Bool := decide (s.mode0 ≠ mOFF) && decide (bit (s.get R.PWR_STATUS_GOOD) r = 1)

/-- POR_RELEASE (R700, R703, R284, R286): from OFF into STANDBY with cause 0x01; the straps are sampled and the time PLL's mux
starts toward SEL's input. -/
def execPorRelease (insertHigh : Bool) (straps : BitVec 16) (s : State) : Host.Outcome State Fault Refusal :=
  if s.mode0 ≠ mOFF then done s
  else
    let k := s.keepMemory
    let fs := bits straps.toNat 2 3
    let s1 := { k.sets [(R.TPLL_CFG_N, Config.trefN fs), (R.TPLL_CFG_FRAC, Config.trefFrac fs)] with
      mode := { k.mode with straps := straps.toNat }
      pins := { k.pins with insertL := insertHigh }
      clk := { k.clk with muxSw := SMap.set k.clk.muxSw 0 48 1 } }
    done (if insertHigh then (s1.put R.PWR_EVT_INSERT_POR true).raise 0x1122 0 0 else s1)

/-- CORE_RAILS_GOOD_BOOT (R701): VCC_NOC and VCC_SRAM good within the window after POR release. -/
def execCoreRailsGoodBoot (s : State) : Host.Outcome State Fault Refusal :=
  if s.mode0 ≠ mSTANDBY ∨ !s.mode.bootWindow then done s else done (((s.railUp 4).railUp 5).trigger 0x02 0)

/-- RAIL_GOOD (R693). -/
def execRailGood (r : Fin 18) (s : State) : Host.Outcome State Fault Refusal := done (s.railUp r)

/-- RAIL_LOST_AON_AUX (R696): cause 0x13 to OFF. Its mode-change record goes out before the host link goes down (R52). -/
def execRailLostAonAux (_aux : Bool) (s : State) : Host.Outcome State Fault Refusal :=
  if s.mode0 = mOFF then done s else done ((s.setMode ⟨0x13, mOFF, 0x1213⟩).modeRecord.hlQuiet).enterOff

/-- RAIL_LOST_NOC_SRAM (R696, R701). -/
def execRailLostNocSram (sram : Bool) (s : State) : Host.Outcome State Fault Refusal :=
  let r := if sram then 5 else 4
  if !s.railSeen r then done s
  else
    let s1 := (s.railDown r).trigger 0x11 0x1213
    done { s1 with mode := { s1.mode with bootWindow := false } }

/-- A bough whose fabric rail is lost (R696). -/
def State.boughRailLost (s : State) (b : Nat) : State :=
  let s1 := match s.opChange b with
    | none => s
    | some c => if c.auto ∨ c.byLoad then s.opEnd b else (s.opEnd b).opPost b c.target 0x0612
  ((s1.boughOff b).put R.PWR_EVT_FAB_OFF true).raise 0x1126 b 0

/-- RAIL_LOST_FABRIC (R696): `point` 0 to 2 is the rail of OP_L, OP_N or OP_H. -/
def execRailLostFabric (point : Fin 3) (s : State) : Host.Outcome State Fault Refusal :=
  let r := point.val + 1
  if !s.railSeen r then done s
  else done ((List.range 64).foldl (fun (t : State) b => if t.get (R.OP_STATUS_RAIL b) = r then t.boughRailLost b else t) (s.railDown r))

/-- RAIL_LOST_SERIAL (R696): VCC_SER, or VCC_SERH. -/
def execRailLostSerial (high : Bool) (s : State) : Host.Outcome State Fault Refusal :=
  let r := if high then 7 else 6
  if !s.railSeen r then done s
  else
    let s1 := (s.railDown r).hlDown
    done ((List.range 48).foldl (fun (t : State) n => if t.lnState n = lnOFF then t else t.laneDown n lnOFF) s1)

/-- RAIL_LOST_VCCO (R696, R725). -/
def execRailLostVcco (bank : Fin 8) (s : State) : Host.Outcome State Fault Refusal :=
  if !s.railSeen (10 + bank.val) then done s else done (s.railDown (10 + bank.val))

/-- Raises codes of the VBATT domain: at once while the CMC runs, else at the next entry to BOOT (R676). -/
def State.vbattRaise (s : State) (codes : List Nat) : State :=
  if s.inMode [mBOOT, mLOAD, mRUN, mSAFE] then codes.foldl (fun (t : State) c => t.raise c 0 0) s
  else s.setSec { s.sec with waiting := s.sec.waiting ++ codes }

/-- VBATT_LOST (R676): the key is lost, and 0x1032 waits for the next entry to BOOT. -/
def execVbattLost (s : State) : Host.Outcome State Fault Refusal :=
  let s1 := if s.railSeen 9 then s.railDown 9 else s
  let s2 := s1.ramErase
  done ((s2.setSec { s2.sec with vbattLost := true, waiting := s2.sec.waiting ++ [0x1032] }).secShow)

/-! ## Pins -/

/-- TAMPER_ASSERTED (R676): TAMPER_L acts; `held` says whether it stays low. -/
def execTamperAsserted (held : Bool) (s : State) : Host.Outcome State Fault Refusal :=
  let s1 := { s with pins := { s.pins with tamperL := !held } }.ramErase
  let s2 := (s1.setSec { s1.sec with tamperSeen := true }).secShow.grantEnd
  done ((s2.vbattRaise [0x1030, 0x1031]).trigger 0x0A 0x1210)

/-- THERMAL_SHUTDOWN (R707, R713): a sensor that can read, is not faulty and reads at or above THERM_SHUT, in 1/16 °C. -/
def execThermalShutdown (sensor : Fin 72) (reading : Int) (s : State) : Host.Outcome State Fault Refusal :=
  if !s.sensorOn sensor ∨ s.hm.faulty.contains sensor.val ∨ reading < (16 * s.get R.PWR_CTRL_THERM_SHUT : Nat) then done s
  else done (((s.put R.PWR_EVT_SHUT true).raise 0x1124 sensor 0).trigger 0x0B 0x1211)

/-- THERM_HOT_CHANGE (R708): THERM_L follows the hottest valid sensor, in 1/16 °C. -/
def execThermHotChange (hottest : Int) (s : State) : Host.Outcome State Fault Refusal :=
  let hot : Int := (16 * s.get R.PWR_CTRL_THERM_HOT : Nat)
  if s.mode0 = mOFF then done s
  else if s.pins.thermL ∧ hot ≤ hottest then
    done (({ s with pins := { s.pins with thermL := false } }.put R.PWR_EVT_HOT true).raise 0x1125 0 0)
  else if !s.pins.thermL ∧ hottest < hot - 48 then done { s with pins := { s.pins with thermL := true } }
  else done s

/-- A removal is logged (R704 step 5). -/
def State.removal (s : State) : State :=
  (((s.bump R.PWR_LOG_REMOVALS 1).pwrStamp.put R.PWR_EVT_REMOVAL true).mramWrite 3 0x10000).raise 0x1123 0 0

/-- INSERT_L rises: the change is seen only from asserted (R703), and the link stays down until it falls again (R705). -/
def State.insertUp (s : State) : State :=
  { s with
    pins := { s.pins with insertL := true }
    mode := { s.mode with quiet := true } }

/-- INSERT_L_DEASSERTED (R704): steps 1 to 5 of the quiet exit; step 6 on follow at the completion of its transition. -/
def execInsertLDeasserted (s : State) : Host.Outcome State Fault Refusal :=
  if s.pins.insertL ∨ !s.inMode [mLOAD, mRUN] then done s
  else
    let s1 := ((List.range 64).foldl State.boughSafe s.insertUp).timelineStop false
    done ((s1.portsSafe.lanesMode mSAFE).removal.trigger 0x0C 0x1212)

/-- INSERT_L_DEASSERT_IDLE (R48, R482): lanes idle, the event rings are flushed, the removal is logged. -/
def execInsertLDeassertIdle (s : State) : Host.Outcome State Fault Refusal :=
  if s.pins.insertL ∨ !s.inMode [mBOOT, mSTANDBY, mSAFE] then done s
  else
    let s1 := s.insertUp.lanesIdle (fun n => !hostLane n)
    done (s1.hlQuiet.hlDown).removal

/-- INSERT_L_ASSERTED (R705): the host link may train again. -/
def execInsertLAsserted (s : State) : Host.Outcome State Fault Refusal :=
  done { s with
    pins := { s.pins with insertL := false }
    mode := { s.mode with quiet := false } }

end Sys2Proof.Machine
end

