-- ==== Sys2Proof/Machine/Bus.lean ====
section
/-!
DEFINITION. Registers as a bus access meets them (R6 to R8, R13 to R16, R737): which register stands at an address, what a write of it
does, what a read of it returns and does.
-/
namespace Sys2Proof.Machine
open Sys2Proof

/-! ## The address map -/

/-- A register found at an address: its name, the indices of its block and strides, the byte offset within it, its width, its fields. -/
structure Hit where
  name : RegName
  i0 : Nat
  i1 : Nat
  i2 : Nat
  rem : Nat
  width : Nat
  fields : List Fld
deriving DecidableEq, Repr

/-- Node, port and offset of a NoC byte address (R36). -/
def nodeOf (a : Nat) : Nat := a / 2 ^ 38 % 64
def portOf (a : Nat) : Nat := a / 2 ^ 36 % 4
def offOf (a : Nat) : Nat := a % 2 ^ 36

/-- The quad whose block an address lies in, and the offset in it (R393). -/
def quadAt (a : Nat) : Option (Nat × Nat) :=
  let n := nodeOf a
  let o := offOf a
  if portOf a ≠ 1 ∨ o < 0x80000 then none
  else if n < 8 ∧ o < 0x81000 then some (n, o - 0x80000)
  else if n = 8 ∧ o < 0x82000 then some (8 + (o - 0x80000) / 0x1000, (o - 0x80000) % 0x1000)
  else if n = 15 ∧ o < 0x81000 then some (10, o - 0x80000)
  else if n = 23 ∧ o < 0x81000 then some (11, o - 0x80000)
  else none

/-- The index of the repeated block and the offset in it that an address has under a kind of block. -/
def Blk.locate (k : Blk) (a : Nat) : Option (Nat × Nat) :=
  let n := nodeOf a
  let o := offOf a
  let from' (i base lo : Nat) : Option (Nat × Nat) := if lo ≤ base then some (i, base - lo) else none
  match k with
  | .abs base => from' 0 a base
  | .router p off => if portOf a = p then from' n o off else none
  | .gran off => if portOf a = 2 ∧ 56 ≤ n then from' (n - 56) o off else none
  | .port off => if portOf a = 1 ∧ n < 8 then from' n o off else none
  | .chan off => if portOf a = 1 ∧ n < 8 ∧ 0x10000 ≤ o ∧ o < 0x14000 then from' (4 * n + (o - 0x10000) / 0x1000) (o % 0x1000) off else none
  | .quad off => match quadAt a with | some (q, x) => from' q x off | none => none
  | .stq off => match quadAt a with | some (q, x) => if 10 ≤ q then from' q x off else none | none => none

/-- Whether a row of the map holds an address, and where in it. -/
def RegRow.hit (r : RegRow) (a : Nat) : Option Hit :=
  match r.blk.locate a with
  | none => none
  | some (i0, d) =>
    let i1 := if r.d1 = 0 then 0 else d / r.d1
    let e := if r.d1 = 0 then d else d % r.d1
    let i2 := if r.d2 = 0 then 0 else e / r.d2
    let f := if r.d2 = 0 then e else e % r.d2
    if i1 < r.n1 ∧ i2 < r.n2 ∧ 8 * f < r.width then some ⟨r.name, i0, i1, i2, f, r.width, r.fields i0 i1 i2⟩ else none

/-- The register at an address of the map. -/
def regFind (a : Nat) : Option Hit := regRows.findSome? (fun r => r.hit a)

/-- The address of a register found at `a`. -/
def Hit.base (h : Hit) (a : Nat) : Nat := a - h.rem

/-- Whether a hard port carries a block (R35), or is a router's own port 3. -/
def blockAt (n p : Nat) : Bool :=
  decide (p = 3) || (decide (p = 1) && (decide (n < 9) || [15, 16, 23, 24, 31, 40].contains n || decide (56 ≤ n)))
    || (decide (p = 2) && ([16, 31].contains n || decide (56 ≤ n)))

/-- An access to an address without a register: a hard port without a block is an unmapped target (R36); at a bough's own port no
register of the map stands, and nothing happens; an offset without a register answers as its block does (assumption 165). -/
def State.noRegister (s : State) (a status : Nat) : State :=
  if portOf a = 0 then s else s.reply (if blockAt (nodeOf a) (portOf a) then status else 0x0201) 0

/-! ## Writes -/

/-- What a write of a field does under its access code (R13): a W1C bit written with 1 clears, a W1S bit sets, RO, WO, RC and RS ignore it. -/
def State.fieldWrite (s : State) (f : Fld) (v : Nat) : State :=
  let x := bits v f.lo f.w
  match f.acc with
  | .rw => s.set f x
  | .w1c => s.set f (s.get f - (s.get f &&& x))
  | .w1s => s.set f (s.get f ||| x)
  | _ => s

/-- A hardware event sets W1C bits in the cycle of a write (R14): they stand after it. -/
def State.hwSets (s : State) (fs : List Fld) (v : Nat) : State :=
  fs.foldl (fun t f => if f.acc = .w1c then t.set f (t.get f ||| bits v f.lo f.w) else t) s

/-- The code with which a block refuses a write of one of its plain registers from a source; 0 where it takes it. -/
def State.blockRefusal (s : State) (src a : Nat) : Nat :=
  let ok := s.srcOk src
  let o := offOf a
  let cmc := decide (a / 2 ^ 36 = 0x41)
  if cmc ∧ 0x24000 ≤ o ∧ o < 0x25000 then 0x1001
  else if cmc ∧ 0x25000 ≤ o ∧ o < 0x26000 then (if ok then 0 else 0x1101)
  else if cmc ∧ 0x23000 ≤ o ∧ o < 0x24000 then (if ok then 0 else 0x0F01)
  else if cmc ∧ 0x22000 ≤ o ∧ o < 0x23000 then (if ok ∧ src ≠ 65 then 0 else 0x0517)
  else if cmc ∧ 0x21000 ≤ o ∧ o < 0x22000 then (if ok then 0 else 0x0C01)
  else if cmc ∧ 0x20000 ≤ o ∧ o < 0x21000 then (if s.srcTp src then 0 else 0x020D)
  else if portOf a = 3 ∧ o < 0x300 then (if s.srcTp src then 0 else 0x020D)
  else if portOf a = 3 ∧ 0x8000 ≤ o ∧ o < 0x9000 then s.dbgWriteRefusal src
  else if portOf a = 2 ∧ 56 ≤ nodeOf a then (if s.srcTp src then 0 else 0x0909)
  else if (quadAt a).isSome then (if ok then 0 else 0x0A01)
  else if portOf a = 1 ∧ nodeOf a < 8 then (if ok then 0 else 0x0401)
  else if a / 2 ^ 36 = 0x21 then (if ok then 0 else 0x0B01)
  else if a / 2 ^ 36 = 0x42 then (if ok then 0 else 0x010E)
  else if a / 2 ^ 36 = 0x61 then (if ok then 0 else 0x0D01)
  else if a / 2 ^ 36 = 0xA1 then s.dbgWriteRefusal src
  else 0

/-- A write of a register that has no meaning of its own (R13). -/
def State.plainWrite (s : State) (src a : Nat) (h : Hit) (v : Nat) : State :=
  let c := s.blockRefusal src a
  if c ≠ 0 then s.reply c 0 else (h.fields.foldl (fun t f => t.fieldWrite f v) s).reply 0 0

/-- A write of PWR_CTRL (R707, R708, R711). -/
def State.pwrCtrlWrite (s : State) (src v : Nat) : State :=
  let shut := bits v 0 8
  let hot := bits v 8 8
  if !s.srcOk src then s.reply 0x1101 0
  else if shut < 112 ∨ 125 < shut ∨ hot < 85 ∨ shut < hot + 2 then s.reply 0x1102 0
  else (((s.sets [(R.PWR_CTRL_THERM_SHUT, shut), (R.PWR_CTRL_THERM_HOT, hot)]).persist 0x2300 2).persist 0x2300 3).reply 0 0

/-- Registers of a bough, of its clocks and of its sequencers (chapters 3 to 8, 10). -/
def State.writeBough (s : State) (src : Nat) (h : Hit) (v : Nat) : Option State :=
  let b := h.i0
  let a := h.i1
  match h.name with
  | .DR_CTRL => some (s.boughRegWrite b 0x1000 v)
  | .BM_CTRL => some (s.boughRegWrite b 0x2000 v)
  | .BM_INJECT => some (s.bmInjectWrite b v)
  | .SL_CTRL => some (s.boughRegWrite b 0x4000 v)
  | .SQ_CMD => some (s.sqCmd b a (bits v 0 4) (bits v 4 2) false false false)
  | .BCK => some (s.bckWrite b a v)
  | .SQCK => some (s.bckWrite b 16 v)
  | .OP_REQ => some ((s.opReq src b (bits v 0 3)).reply 0 0)
  | .TRG_SW => some (s.trgSw b (bits v 0 16))
  | .DBG_SQ_CTRL => some (s.sqDbgCtrl src b a v 0)
  | .DBG_SQ_BP => some (s.sqDbgBp src b a v)
  | .DBG_SQ_SEL => some (s.sqDbgSel src b a v)
  | .DBG_SQ_DATA => some (s.sqDbgWrite src b a v)
  | .NOC_CTRL => some (s.nocCtrlWrite src b v)
  | .NOC_CNT_CLR => some (s.nocCntClr src b (decide (bit v 0 = 1)))
  | .NOC_TBL => some (s.nocTblWrite src b a h.i2 v)
  | .GR_CTRL => some (s.grCtrlWrite src b v)
  | .GR_CMD => some ((s.grCmd src b v).reply 0 0)
  | .GR_INJECT => some (s.grInjectWrite src b v)
  | _ => none

/-- Registers of the clocks, the time plane, the timeline and the capture units (chapters 8 to 10). -/
def State.writeTime (s : State) (src : Nat) (h : Hit) (v : Nat) : Option State :=
  let i := h.i1
  match h.name with
  | .MON_CFG => some (s.monWrite i false v)
  | .MON_STAT => some (s.monWrite i true v)
  | .CP_CFG => some (s.cpWrite src i false v)
  | .CP_OUT => some (s.cpWrite src i true v)
  | .CP_MUX => some (s.muxWrite src i v)
  | .GCL_MUX => some (s.muxWrite src (16 + i) v)
  | .GCL_CFG => some (s.gclCfgWrite i v)
  | .CLKOUT => some (s.clkoutWrite i v)
  | .TPLL_MUX => some (s.tpllMuxWrite src v)
  | .TPLL_CFG => some (s.tpllCfgWrite v)
  | .TP_INC_BASE => some (s.incBaseWrite v)
  | .TP_STEP => some (s.stepWrite v)
  | .TP_SLEW => some (s.slewWrite v)
  | .SRV_CTRL => some ((s.srvSettings src 0 v).reply 0 0)
  | .SRV_GAIN => some ((s.srvSettings src 1 v).reply 0 0)
  | .SRV_LIM => some ((s.srvSettings src 2 v).reply 0 0)
  | .SRV_INTEG => some ((s.srvSettings src 3 v).reply 0 0)
  | .SRV_OFFS_WR => some ((s.srvOffs src v).reply 0 0)
  | .SRV_CMD => some ((s.srvCmd src (bits v 0 4)).reply 0 0)
  | .PPS_CFG => some (s.ppsWrite i 0 v)
  | .PPS_DLY => some (s.ppsWrite i 1 v)
  | .PPS_EXP => some (s.ppsWrite i 2 v)
  | .FD_CFG => some (s.fdWrite v)
  | .HO_CTRL => some (s.hoCtrlWrite v)
  | .HO_TEMP => some (s.hoTempCfgWrite v)
  | .HO_TEMP_WR => some (s.hoTempWrite v)
  | .TL_CMD => some ((s.tlCmd src v).reply 0 0)
  | .TL_SLOT_CTRL => some ((s.tlSlotWrite i 0 v).reply 0 0)
  | .TL_SLOT_TARGET => some ((s.tlSlotWrite i 1 v).reply 0 0)
  | .TL_SLOT_PERIOD => some ((s.tlSlotWrite i 2 v).reply 0 0)
  | .TL_SLOT_DEST => some ((s.tlSlotWrite i 3 v).reply 0 0)
  | .CU_CFG => some (s.cuWrite i v)
  | _ => none

/-- Whether the fields of LN_EYE_CFG are in the range of the table (R19, R403). -/
def eyeCfgInRange (v : Nat) : Bool :=
  decide (20 ≤ bits v 17 6) && decide (bits v 17 6 ≤ 40) && decide (bits v 32 16 ≠ 0) && decide (bits v 15 2 ≠ 3)

/-- Registers of the lanes, the port engines, the loft and the host link (chapters 13 to 15). -/
def State.writeLink (s : State) (src a : Nat) (h : Hit) (v : Nat) : Option State :=
  let q := h.i0
  let n := 4 * h.i0 + h.i1
  let off := offOf (h.base a)
  match h.name with
  | .QD_PLL => some (s.quadWrite src q h.i1 v)
  | .LN_CFG => some (s.lnCfgWrite src n v)
  | .LN_EQ_TX => some (s.eqTxWrite src n v)
  | .LN_CMD => some ((s.lnCmd src n (bits v 0 3) []).reply 0 0)
  | .LN_PRBS_CFG => some (s.prbsWrite src n v)
  | .LN_EYE_CFG => if s.srcOk src && !eyeCfgInRange v then some (s.reply 0x0A06 0) else none
  | .ST_CFG => some (s.stCfgWrite src (q - 10) v)
  | .ST_RX_RD => some (s.stRdWrite src (q - 10) v)
  | .JS_CFG => some (s.jsCfgWrite src (q - 10) v)
  | .LL_CFG => some (s.llCfgWrite src (q - 10) v)
  | .PE_CFG => some (s.peCfgWrite src q v)
  | .CH_CFG => some (s.chCfgWrite src q v)
  | .CH_TS_DLY | .CH_RXMAP => some (s.chPlainWrite src q v h.fields)
  | .CH_TXQ_ENQ => some ((s.txEnq src q v).reply 0 0)
  | .CH_TXTS_POP | .CH_RXQ_POP => some (s.reply 0 0)
  | .CH_QBV_CTRL => some (s.qbvCtrlWrite src q v)
  | .CH_QBV_CYCLE => some (s.gateBankWrite src q h.i1 none v)
  | .CH_GCL => some (s.gateBankWrite src q h.i1 (some h.i2) v)
  | .LOFT_CMD => some ((s.loftCmd src v).reply 0 0)
  | .LOFT_CH => some (s.loftChWrite src h.i1 v)
  | .PE_TOD => some (s.peTodWrite src false v)
  | .PE_TOD_S => some (s.peTodWrite src true v)
  | .HL_MSIX_SEND => some (s.hlMsixWrite src (bits v 0 6))
  | .HL_APT | .EV_BASE | .EV_CFG | .DMA_BASE | .DMA_CFG => some ((s.hlCfgWrite src off v).reply 0 0)
  | .EV_HEAD => if s.srcOk src then some (s.evHeadWrite src h.i1 v) else none
  | .DMA_PI => some (s.dmaPiWrite src h.i1 v)
  | _ => none

/-- Registers of the CMC, the loader and the site core (chapters 1, 11, 16 to 19, 21, 22, 24). -/
def State.writeSite (s : State) (src a : Nat) (h : Hit) (v : Nat) : Option State :=
  let i := h.i1
  let off := offOf (h.base a)
  match h.name with
  | .DEV_MODE_REQ => some (s.modeReq (s.modeSrcOk src) (bits v 16 16) (bits v 0 3))
  | .DEV_WAKE => some (s.wakeWrite v)
  | .NOC_EPOCH_CMD => some ((s.epochCmd src (decide (bit v 0 = 1))).reply 0 0)
  | .LD_CTRL | .LD_ARG => some (s.ldCfgWrite src off v)
  | .LD_CMD => some ((s.ldCmd src v).reply 0 0)
  | .PT_CTRL => some (s.ptCtrlWrite src i v)
  | .RB_MASK => some (s.rbWrite src v false)
  | .RB_SEL => some (s.rbWrite src v true)
  | .RB_CMD => some ((s.rbCmd src v).reply 0 0)
  | .GL_CTRL => some ((s.glCtrl src v).reply 0 0)
  | .GL_CMD => some ((s.glCmd src v).reply 0 0)
  | .GL_WATCH => some (s.glWatchWrite src v)
  | .SC_CTRL => some (s.scCtrlWrite src v)
  | .SC_BOOT | .SC_SLEEP | .SC_WIN | .SC_EVT_EN | .IC_CTRL | .IC_STAT | .IC_VTBASE | .IC_SP | .IC_SPLIM | .IC_PINSEL | .IC_WAKE =>
    some (s.scPlainWrite src (off - 0x1000000) v)
  | .IC_SRC => some (s.icSrcWrite src i v)
  | .IC_DOORBELL => some (s.icDoorbell src i v)
  | .TM_CTRL => some (s.tmCtrlWrite src i v)
  | .TM_TARGET => some (s.tmWrite src i v false)
  | .TM_PERIOD => some (s.tmWrite src i v true)
  | .WDG_CTRL => some (s.wdgWrite src v false)
  | .WDG_WARNAT => some (s.wdgWrite src v true)
  | .WDG_KICK => some (s.wdgKick src (bits v 0 16))
  | .SP_CFG => some (s.spCfgWrite src i v)
  | .SP_CMD => some ((s.spCmd src i v).reply 0 0)
  | .SP_DATA_POP => some (s.spPush src i (bits v 0 8))
  | .DBG_SC_CTRL => some (s.dbgCtrlWrite src v)
  | .DBG_SC_REGCMD => some ((s.dbgRegCmd src v).reply 0 0)
  | .DBG_BP => some (s.dbgBpWrite src i v)
  | .DBG_WP => some (s.dbgWpWrite src i v)
  | .DBG_TXDATA => some (s.vtTx src v)
  | .DBG_RXDATA => some (s.vtRx src v)
  | .DBG_VT_FLAGS => some (s.vtFlags src v)
  | .HM_CTRL => some (s.hmCtrlWrite src v)
  | .HM_THR => some (s.hmThrWrite src i v)
  | .HM_CMD => some ((s.hmCmd src v).reply 0 0)
  | .PWR_CTRL => some (s.pwrCtrlWrite src v)
  | _ => none

/-- A write of a register found at address `a`, with its whole word. UO_CMD has its meaning in Access.lean. -/
def State.hitWrite (s : State) (src a : Nat) (h : Hit) (v : Nat) : State :=
  match (s.writeBough src h v).orElse (fun _ => (s.writeTime src h v).orElse (fun _ =>
      (s.writeLink src a h v).orElse (fun _ => s.writeSite src a h v))) with
  | some t => t
  | none => s.plainWrite src a h v

/-! ## Reads -/

/-- The state with the fields filled that the manual defines as a view of other state. -/
def State.shown (s : State) (h : Hit) : State :=
  let b := h.i0
  match h.name with
  | .SQ_STATUS | .SQ_FAULT | .SQ_CNT | .SQ_HOLDOFF | .SQ_SIG => s.sqShow b h.i1
  | .TP_INC | .TP_DINC => s.incShow
  | .HO_STAT | .HO_COEF_0 | .HO_COEF_1 | .HO_COEF_2 | .HO_PRED | .HO_EACC | .HO_LAST => s.hoShow
  | .EV_STAT => s.ringShow h.i1
  | .LOFT_FREE | .LOFT_USE => s.loftShow
  | .CH_STAT => (s.txtsShow b).put (R.CH_STAT_BAD b) (s.timeBad (64 + b / 4))
  | .IC_SRC => s.put (R.IC_SRC_IP h.i1) (s.icPending h.i1)
  | .GL_STATUS | .GL_PASS | .GL_CNT | .GL_SET | .GL_CTRL => s.glShow
  | .SEC_STATUS => s.secShow
  | .IO_STATUS => s.ioShow
  | .DBG_SQ_STAT => s.sqDbgShow b h.i1
  | .PWR_STATUS => s.sets [(R.PWR_STATUS_INSERT, ofFlag (!s.pins.insertL)), (R.PWR_STATUS_THERM, ofFlag (!s.pins.thermL))]
  | _ => s

/-- Whether a register belongs to a port channel that does not exist under PE_CFG (R426, R456): it reads 0. -/
def State.darkChan (s : State) (h : Hit) : Bool :=
  match h.name with
  | .CH_CFG | .CH_STAT | .CH_TS_DLY | .CH_RXMAP | .CH_TXQ_ENQ | .CH_TXTS_POP | .CH_TXTS_FRAC | .CH_CNT_RX | .CH_CNT_TX | .CH_CNT_FEC
  | .CH_RXQ_POP | .CH_RXQ_TS | .CH_QBV_CTRL | .CH_QBV_CYCLE | .CH_GCL => !s.chExists h.i0
  | _ => false

/-- The oldest entry of a _POP queue without popping it (R16, R22). -/
def State.popPeek (s : State) (h : Hit) (a : Nat) : Nat :=
  match h.name with
  | .CH_RXQ_POP => match (s.chan h.i0).rx.find? (fun e => decide (e.1 = h.i1)) with | some e => (s.loftFrame e.2).desc | none => 0
  | .SP_DATA_POP => (s.spPop h.i1 true).answer.data
  | .SC_EVT_POP => s.siteEvts.headD 0
  | .BM_ERR_POP => (s.bmErrPopRead h.i0).answer.data
  | .GR_ERR_POP => (s.grErrPop h.i0).answer.data
  | _ => ((s.queue (h.base a)).headD 0) % 2 ^ 64

/-- The live word of a register: fields of WO access read 0 (R13). `dbg` when the read carries the debug attribute (R16). -/
def State.liveWord (s : State) (a : Nat) (h : Hit) (dbg : Bool) : Nat :=
  let i := h.i1
  let n := 4 * h.i0 + h.i1
  if s.darkChan h then 0
  else if h.fields.any (fun f => f.acc = .rs) then s.popPeek h a
  else match h.name with
    | .TP_NOW => s.now48 + s.tp.wraps * 2 ^ 48
    | .NOC_LINK => s.nocLinkWord h.i0 h.i1
    | .TL_SLOT_TARGET => if s.armed i then s.pendingT i / 65536 else s.word h.fields
    | .SL_RES_P => s.slSnapRead h.i0 i false true
    | .SL_OVF_MAP => s.ovfMap h.i0 i
    | .SL_RES_S => s.slSnapRead h.i0 i true dbg
    | .LN_EQ_RX => s.eqRxWord n
    | .PE_STATUS => s.peStatus h.i0
    | .LN_PRBS_ERR => if dbg then s.word h.fields else (s.lane n).errSnap
    | .LN_EYE_RES0 => if dbg then s.word h.fields else (s.lane n).eyeSnap
    | .ST_MARK_TIME => if dbg then s.word h.fields else (s.stream (h.i0 - 10)).markSnap
    | .ST_MARK_FLAGS => if dbg then s.word h.fields else (s.stream (h.i0 - 10)).markFlags
    | .LOFT_BOOK => if dbg then s.loftTaken (fun f => !f.queued) + s.loftTaken (fun f => f.queued) * 2 ^ 32 else s.word h.fields
    | _ => (s.shown h).word (h.fields.filter (fun f => f.acc ≠ .wo))

/-- An ordinary read that includes the lower half: the whole word in the answer, with the side effects of the read. -/
def State.readEffect (s : State) (src a : Nat) (h : Hit) : State :=
  let b := h.i0
  let i := h.i1
  if s.darkChan h then s.reply 0 0
  else match h.name with
    | .BM_ERR_POP => s.bmErrPopRead b
    | .GR_ERR_POP => s.grErrPop b
    | .CH_TXTS_POP => s.txtsPop b
    | .CH_RXQ_POP => s.rxPop b i
    | .LD_ERR_POP => s.ldErrRead
    | .GL_LOG_POP => s.glLogRead
    | .SC_EVT_POP => s.scEvtRead
    | .SP_DATA_POP => s.spPop i false
    | .SL_RES_P => s.slResPRead b i false
    | .LN_PRBS_BITS => s.prbsBitsRead (4 * b + i)
    | .LN_EYE_RES1 => s.eyeRes1Read (4 * b + i)
    | .ST_MARK_POS => s.markRead (b - 10)
    | .LOFT_FREE => s.loftFreeRead
    | .DBG_SQ_DATA => s.sqDbgRead src b i
    | _ => if h.fields.any (fun f => f.acc = .rs) then s.popRead (h.base a) else s.reply 0 (s.liveWord a h false)

/-- The code with which a read of a register is refused (R646); 0 where it is served. -/
def State.readRefusal (s : State) (src a : Nat) : Nat :=
  if a / 2 ^ 36 = 0xA1 ∨ (portOf a = 3 ∧ 0x8000 ≤ offOf a ∧ offOf a < 0x9000) then s.dbgReadRefusal src else 0

/-- Clears RC fields after a read; those that a hardware event sets in the same cycle stand (R15). -/
def State.rcClear (s : State) (fs : List Fld) (hw : Nat) : State :=
  fs.foldl (fun t f => if f.acc = .rc then t.set f (bits hw f.lo f.w) else t) s

/-- A read of the lower half or of a 32-bit register (part 0), of the upper half (1), or of a 64-bit register whole (2): the answer holds
its status and the word or words (R8, R16). -/
def State.hitRead (s : State) (src a : Nat) (h : Hit) (part : Nat) (hw : Nat) : State :=
  let dbg := decide (src = 161)
  let c := s.readRefusal src a
  let base := h.base a
  if c ≠ 0 then s.reply c 0
  else if dbg then
    let t := if h.name = .DBG_SQ_DATA then s.sqDbgRead src h.i0 h.i1 else s.reply 0 (s.liveWord a h true)
    t.reply t.answer.status (if part = 1 then t.answer.data / 2 ^ 32 else if part = 0 then t.answer.data % 2 ^ 32 else t.answer.data)
  else if part = 1 then
    match SMap.get s.half none base with
    | some v => { s with half := SMap.set s.half none base none }.reply 0 v
    | none => s.reply 0 ((if h.name = .SL_RES_P then s.slSnapRead h.i0 h.i1 false false else s.liveWord a h false) / 2 ^ 32)
  else
    let t := (s.readEffect src a h).rcClear h.fields hw
    if t.answer.status ≠ 0 then t.reply t.answer.status 0
    else
      let hold : Option Nat := if part = 2 ∨ h.width = 32 ∨ h.name = .SL_RES_P then none else some (t.answer.data / 2 ^ 32)
      { t with half := SMap.set t.half none base hold }.reply 0 (if part = 2 then t.answer.data else t.answer.data % 2 ^ 32)

/-! ## Instruction stores (R214, R218) -/

/-- The sequencer and the word that an address of a router's port 3 names. -/
def istoreAt (a : Nat) : Option (Nat × Nat × Nat) :=
  let o := offOf a
  if portOf a = 3 ∧ 0x100000 ≤ o ∧ o < 0x180000 then
    some ((o - 0x100000) / 0x4000, (o - 0x100000) % 0x4000 / 8, o % 8)
  else none

/-- The word of the active instruction store. -/
def State.istoreWord (s : State) (b a w : Nat) : Nat := SMap.get s.istore 0 (istoreKey (s.bough b).plane b a w)

end Sys2Proof.Machine
end

