-- ==== Sys2Proof/Machine/Access.lean ====
section
/-!
DEFINITION. Accesses (chapters 0, 11, 15, 19, 20): register accesses by word and by pair of words, what a request does at its destination port,
injection and responses, and what each hard master does with its answers: the host link's DMA engines, the site core's windows, the stream
engines, the CMC for user objects.
-/
namespace Sys2Proof.Machine
open Sys2Proof

/-! ## Registers by word (R6 to R8, R214) -/

/-- A read of one 32-bit word of a register block; an address without a register reads 0. -/
def State.wordRead (s : State) (src a hw : Nat) : State :=
  match istoreAt a with
  | some (q, w, r) => s.reply 0 (bits (s.istoreWord (nodeOf a) q w) (8 * r) 32)
  | none => match regFind a with
    | none => s.noRegister a 0
    | some h => s.hitRead src a h (if 4 ≤ h.rem then 1 else 0) hw

/-- A read of two words from an even one: one 64-bit access (R342). -/
def State.wideRead (s : State) (src a hw : Nat) : State :=
  match istoreAt a with
  | some (q, w, _) => s.reply 0 (s.istoreWord (nodeOf a) q w)
  | none =>
    let two : State :=
      let t := s.wordRead src a (hw % 2 ^ 32)
      let u := t.wordRead src (a + 4) (hw / 2 ^ 32)
      u.reply (if t.answer.status ≠ 0 then t.answer.status else u.answer.status) (t.answer.data + u.answer.data * 2 ^ 32)
    match regFind a with
    | none => two
    | some h => if h.width = 64 then s.hitRead src a h 2 hw else two

/-- The records of a declaration table as the CMC reads them from memory (R626): bytes by 32-byte record. -/
def State.nocWords (s : State) (src addr n : Nat) : State × Nat × List Nat :=
  let one (t : State) (a : Nat) : State × Nat × List Nat :=
    let nd := nodeOf a
    let o := offOf a
    if portOf a = 1 ∧ 56 ≤ nd then
      let g := (t.grBank (nd - 56) o).1
      let base := (t.grBank (nd - 56) o).2
      if 2 ^ 22 ≤ o then (t, 0x0901, [])
      else if t.grPwrOf g = 3 then (t, 0x0902, [])
      else if t.grPwrOf g ≠ 2 then (t, 0x0903, [])
      else match t.grReadRow g (base / 16) src with
        | (u, some v) => (u, 0, [bits v (8 * (base % 16)) 32])
        | (u, none) => (u, 0x0911, [])
    else if portOf a = 1 ∧ nd = 24 ∧ o < 0x100000 then t.sramRead o 1
    else if portOf a = 1 ∧ nd < 8 ∧ 0x800000000 ≤ o then
      let r := t.loftWindow (o - 0x800000000) 4 none 0
      (r.1, r.2.1, [beNum r.2.2.reverse])
    else if portOf a = 0 then
      let f := t.fresh 26
      (f.2, 0, [f.1 % 2 ^ 32])
    else
      let u := t.wordRead src a 0
      ({ u with answer := t.answer }, u.answer.status, [u.answer.data])
  (List.range n).foldl (fun (x : State × Nat × List Nat) i =>
    if x.2.1 ≠ 0 then x
    else
      let r := one x.1 (addr + 4 * i)
      (r.1, r.2.1, x.2.2 ++ r.2.2)) (s, 0, [])

/-! ## User objects (R626, R628) -/

/-- One record of a declaration table, from its eight words; none where a field breaks its requirement. -/
def uoRecord (ws : List Nat) : Option UserObj :=
  let w (i : Nat) : Nat := ws.getD i 0
  let index := bits (w 0) 0 16
  let sub := bits (w 0) 16 8
  let ty := bits (w 0) 24 8
  let access := bits (w 1) 0 8
  let level := bits (w 1) 8 8
  let size := bits (w 1) 16 16
  let addr := w 2 + w 3 * 2 ^ 32
  let name := (ws.drop 4).flatMap (toBytes 4)
  let str := decide (ty = 0x0D ∨ ty = 0x0E)
  if index < 0xA000 ∨ 0xBFFF < index ∨ sub = 0 ∨ ty = 0 ∨ 0x0E < ty ∨ 2 < access ∨ 2 < level
      ∨ (str = true ∧ (size = 0 ∨ 256 < size)) ∨ (str = false ∧ size ≠ 0) ∨ 2 ^ 44 ≤ addr ∨ addr % 4 ≠ 0
      ∨ name.any (fun c => decide (127 < c)) ∨ (name.dropWhile (fun c => decide (c ≠ 0))).any (fun c => decide (c ≠ 0)) then none
  else some ⟨index, sub, ty, access, level, size, addr, name⟩

/-- The first record that makes a table bad: a broken field, a name used twice, or an index whose subindices leave a gap. -/
def uoFirstBad (l : List (Option UserObj)) : Option Nat :=
  let ok := l.filterMap id
  (List.range l.length).find? (fun i =>
    match l.getD i none with
    | none => true
    | some r =>
      ((l.take i).filterMap id).any (fun x => decide (x.index = r.index) && decide (x.sub = r.sub))
        || (decide (1 < r.sub) && !ok.any (fun x => decide (x.index = r.index) && decide (x.sub + 1 = r.sub))))

def State.uoPost (s : State) (code entry : Nat) : State :=
  ((s.set R.UO_RESULT_ENTRY entry).post R.UO_RESULT_STATUS code).reply 0 0

/-- UO_CMD DECLARE (R626): a read of the table that fails posts 0x0516. -/
def State.uoDeclare (s : State) (count : Nat) : State :=
  let r := s.nocWords 65 (s.get R.UO_BASE_ADDR) (8 * count)
  if count = 0 then s.uoPost 0 0
  else if r.2.1 ≠ 0 then r.1.uoPost 0x0516 0
  else
    let l := (List.range count).map (fun i => uoRecord ((r.2.2.drop (8 * i)).take 8))
    match uoFirstBad l with
    | some i => r.1.uoPost 0x0511 i
    | none => ({ r.1 with dict := { r.1.dict with user := l.filterMap id } }).uoPost 0 0

def State.uoClear (s : State) : State := ({ s with dict := { s.dict with user := [] } }).uoPost 0 0

/-- A write of UO_CMD (R628). -/
def State.uoCmd (s : State) (src v : Nat) : State :=
  let count := bits v 0 11
  if !s.srcOk src || decide (src = 65) then s.uoPost 0x0517 0
  else if 1024 < count then s.uoPost 0x0511 0
  else match bits v 11 2 with
    | 0 => s.uoPost 0 0
    | 1 => s.uoDeclare count
    | 2 => s.uoClear
    | _ => s.uoPost 0x0511 0

/-- UO_DECLARE (R626, R628). -/
def execUoDeclare (src : SrcId) (count : BitVec 11) (s : State) : Host.Outcome State Fault Refusal :=
  done (s.uoCmd src (count.toNat + 2048))
/-- UO_CLEAR (R626, R628). -/
def execUoClear (src : SrcId) (_count : BitVec 11) (s : State) : Host.Outcome State Fault Refusal := done (s.uoCmd src 4096)

/-! ## Register writes by word -/

/-- A write of a register found at address `a`. A table address that is no multiple of 32 is refused with 0x0511 (R628, assumption 141). -/
def State.regWrite (s : State) (src a : Nat) (h : Hit) (v : Nat) : State :=
  if h.name = .UO_CMD then s.uoCmd src v
  else if h.name = .UO_BASE ∧ v % 32 ≠ 0 ∧ s.blockRefusal src a = 0 then s.reply 0x0511 0
  else s.hitWrite src a h v

/-- A write of one 32-bit word of a register block: of a 64-bit register the lower half waits and the upper half commits (R7). -/
def State.wordWrite (s : State) (src a v : Nat) : State :=
  let held (b cur : Nat) : Nat := (SMap.get s.stage none b).getD cur
  let clear (b : Nat) : State := s.commit b
  let hold (b : Nat) : State := ({ s with stage := SMap.set s.stage none b (some (v % 2 ^ 32)) }).reply 0 0
  match istoreAt a with
  | some (q, w, r) =>
    let b := a - r
    if r < 4 then hold b
    else (clear b).istoreWrite (nodeOf a) q w (held b (s.istoreWord (nodeOf a) q w % 2 ^ 32) + v % 2 ^ 32 * 2 ^ 32)
  | none => match regFind a with
    | none => s.noRegister a (s.blockRefusal src a)
    | some h =>
      let b := h.base a
      if h.width = 32 then s.regWrite src a h v
      else if h.rem < 4 then hold b
      else (clear b).regWrite src b { h with rem := 0 } (held b (s.liveWord b h true % 2 ^ 32) + v % 2 ^ 32 * 2 ^ 32)

/-- A write of two words from an even one: one 64-bit access, which commits at once (R7, R342). Over two 32-bit registers it is refused
whole where either of them refuses its half (R19, R24). -/
def State.wideWrite (s : State) (src a v : Nat) : State :=
  let clear : State := s.commit a
  let two : State :=
    let t := s.wordWrite src a (v % 2 ^ 32)
    let u := t.wordWrite src (a + 4) (v / 2 ^ 32)
    let w := s.wordWrite src (a + 4) (v / 2 ^ 32)
    if t.answer.status ≠ 0 then t
    else if w.answer.status ≠ 0 then w
    else if u.answer.status ≠ 0 then s.reply u.answer.status 0
    else u
  match istoreAt a with
  | some (q, w, _) => clear.istoreWrite (nodeOf a) q w v
  | none => match regFind a with
    | none => two
    | some h => if h.width = 64 then clear.regWrite src a h v else two

/-! ## Destination ports (R35, R36, R342) -/

/-- Whether the NoC has its power and its clock (R262, R370). -/
def State.nocUp (s : State) : Bool := !s.inMode [mOFF, mSTANDBY] && s.devClk 15

def toWords (l : List Nat) : Nat → List Nat
  | 0 => []
  | n + 1 => beNum ((l.take 4).reverse) :: toWords (l.drop 4) n

/-- Words of the readback windows, one after another; the first status that is not 0 ends the access. -/
def State.readbackWords (s : State) (src : Nat) (frame : Bool) (w n : Nat) : State × Nat × List Nat :=
  (List.range n).foldl (fun (x : State × Nat × List Nat) i =>
    if x.2.1 ≠ 0 then x
    else
      let t := x.1.readbackRead src frame (w + i)
      (t, t.answer.status, x.2.2 ++ [t.answer.data])) (s, 0, [])

/-- A read at a port that holds registers and windows: its status and words. -/
def State.portRead (s : State) (q : NocReq) : State × Nat × List Nat :=
  let n := q.node
  let o := q.addr % 2 ^ 36
  let k := q.words
  if q.port = 1 ∧ n < 8 ∧ 0x800000000 ≤ o then
    let r := s.loftWindow (o - 0x800000000) (4 * k) none 0
    (r.1, r.2.1, toWords r.2.2 k)
  else if q.port = 1 ∧ (n = 15 ∨ n = 23) ∧ o < 0x4000 then (s, 0, List.replicate k 0)
  else if q.port = 1 ∧ n = 24 ∧ o < 0x100000 then s.sramRead o k
  else if q.port = 2 ∧ n = 16 ∧ 0x10000 ≤ o ∧ o < 0x20000 then (s, 0, List.replicate k 0)
  else if q.port = 2 ∧ n = 16 ∧ 0x20000 ≤ o ∧ o < 0x23000 then s.readbackWords q.src false ((o - 0x20000) / 4) k
  else if q.port = 2 ∧ n = 16 ∧ 0x30000 ≤ o ∧ o < 0x30204 then s.readbackWords q.src true ((o - 0x30000) / 4) k
  else if k = 1 then
    let t := s.wordRead q.src q.addr 0
    (t, t.answer.status, [t.answer.data % 2 ^ 32])
  else if k = 2 ∧ q.waddr % 2 = 0 then
    let t := s.wideRead q.src q.addr 0
    (t, t.answer.status, [t.answer.data % 2 ^ 32, t.answer.data / 2 ^ 32])
  else (s, 0x0203, [])

/-- A write at such a port: its status; none while it waits at the loader's intake (R489). -/
def State.portWrite (s : State) (q : NocReq) : State × Option Nat :=
  let n := q.node
  let o := q.addr % 2 ^ 36
  let k := q.words
  let ws := (q.data ++ List.replicate k 0).take k
  if q.port = 1 ∧ n < 8 ∧ 0x800000000 ≤ o then
    let r := s.loftWindow (o - 0x800000000) (4 * k) (some (ws.flatMap (toBytes 4))) 0
    (r.1, some r.2.1)
  else if q.port = 1 ∧ (n = 15 ∨ n = 23) ∧ o < 0x4000 then
    let r := s.stTxWrite (if n = 15 then 0 else 1) q.waddr q.last ws
    (r.1, some r.2)
  else if q.port = 1 ∧ n = 24 ∧ o < 0x100000 then
    if s.srcOk q.src then let r := s.sramWrite o ws; (r.1, some r.2) else (s, some 0x0D01)
  else if q.port = 2 ∧ n = 16 ∧ 0x10000 ≤ o ∧ o < 0x20000 then
    if s.get R.LD_STATUS_SRC = srcPUSH ∧ s.ldState ≠ ldIDLE ∧ q.src = s.get R.LD_STATUS_OWNER ∧ 262144 < s.ld.buf.length + 4 * k then (s, none)
    else let t := s.pushWrite q.src (ws.flatMap (toBytes 4)); (t, some t.answer.status)
  else if q.port = 2 ∧ n = 16 ∧ ((0x20000 ≤ o ∧ o < 0x23000) ∨ (0x30000 ≤ o ∧ o < 0x30204)) then
    (s, some (if s.srcOk q.src then 0 else 0x010E))
  else if k = 1 then let t := s.wordWrite q.src q.addr (ws.headD 0); (t, some t.answer.status)
  else if k = 2 ∧ q.waddr % 2 = 0 then let t := s.wideWrite q.src q.addr (joinWords ws); (t, some t.answer.status)
  else (s, some 0x0203)

/-- A request at a port that holds registers and windows is served; none where it waits (R489). -/
def State.portServe (s : State) (q : NocReq) : Option State :=
  let me := 4 * q.node + q.port
  if q.wr then
    let r := s.portWrite q
    r.2.map (fun c => ({ r.1 with answer := s.answer }).respond q me c [])
  else
    let r := s.portRead q
    some (({ r.1 with answer := s.answer }).respond q me r.2.1 r.2.2)

/-- What the port at the end of buffer `bid` does with a request (R35, R36, R342, R354, R356, R375); none where the request waits there: for room in the bridge, in
its bank's queue or in the loader's intake, or for the collar to release. -/
def State.takeReq (s : State) (bid : Nat) (poison : Bool) (q : NocReq) : Option State :=
  let n := bid / 8
  let port := bid % 8
  if port = 0 ∧ s.p0 n ≠ p0OPEN ∧ s.p0 n ≠ p0DRAINING then none
  else if (port = 0 ∧ !s.nocOn n) ∨ (port ≠ 0 ∧ !blockAt n port) then some (s.respond q (4 * n + 3) 0x0201 [])
  else if poison ∧ q.wr then some (s.respond q (4 * n + port) 0x0231 [])
  else if port = 0 then (if s.reqInFlits n + q.flits ≤ 8 then some (s.setBuf n (s.bufOf n ++ [q])) else none)
  else if port = 1 ∧ 56 ≤ n then
    if q.addr % 2 ^ 36 < 2 ^ 22 ∧ 8 ≤ (s.grQueue (s.grBank (n - 56) (q.addr % 2 ^ 36)).1).length then none else some (s.grArrive (n - 56) q)
  else s.portServe q

/-! ## Injection (R340, R345) -/

/-- A source's port takes up a request, to be injected by its router: the state and the request's serial number. -/
def State.inject (s : State) (src tag : Nat) (wr : Bool) (waddr last : Nat) (data : List Nat) (upset : Option NocUpset) : State × Nat :=
  let id := s.noc.next
  let q : NocReq := ⟨id, src, tag, waddr, last, wr, 0, data⟩
  ({ s with noc := { s.noc with next := id + 1, outst := s.noc.outst ++ [q] } }.queuePkt ⟨.req q, 0, false, upset⟩, id)

/-- A TAG that a source has not outstanding (R345). -/
def State.freeTag (s : State) (src : Nat) : Option Nat := (List.range 64).find? (fun t => (s.outstanding src t).isNone)

/-! ## What a master does with its response -/

/-- The site core's load or posted store of request `r.id` is answered (R570). -/
def State.scReach (s : State) (r : NocRsp) (a : Nat) : State :=
  let err (t : State) : State := t.sets [(R.SC_NOCERR_ADDR, a), (R.SC_NOCERR_WR, ofFlag r.wr), (R.SC_NOCERR_STATUS, r.status)]
  match s.sc.load with
  | some (id, rd, size, sign, addr) =>
    if id = r.id then
      let t := s.setSc { s.sc with load := none }
      if r.status ≠ 0 then (err t).scTrap t.sc.pc 5 addr
      else
        let w := bits (joinWords r.data) (8 * (addr % 4)) (8 * size)
        let u := t.setX rd (if sign then encode2 32 (signed (8 * size) w) else w)
        u.setSc { u.sc with pc := (u.sc.pc + 4) % 2 ^ 32 }
    else s
  | none => s

/-- The last posted store is answered: a FENCE ends, and a sleep that waited begins (R570, R576). -/
def State.scPostedEnd (s : State) : State :=
  if s.sc.posted ≠ [] then s
  else if s.sc.fence then s.setSc { s.sc with fence := false, pc := (s.sc.pc + 4) % 2 ^ 32 }
  else if s.sc.sleepPend ≠ 0 ∧ s.get R.SC_STATUS_STATE = scIDLE then s.scSleep s.sc.sleepPend
  else s

def State.scStoreReach (s : State) (r : NocRsp) (a : Nat) : State :=
  if !s.sc.posted.contains r.id then s
  else
    let t := s.setSc { s.sc with
      posted := s.sc.posted.filter (fun k => decide (k ≠ r.id))
      winOut := s.sc.winOut.filter (fun e => decide (e.1 ≠ r.id)) }
    let u := if r.status = 0 then t
      else (t.sets [(R.SC_NOCERR_ADDR, a), (R.SC_NOCERR_WR, 1), (R.SC_NOCERR_STATUS, r.status)]).raise 0x0D20 0 a
    u.scPostedEnd

/-- The stream engine begins the write of the chunk at the head of its queue, or drops it (R420). -/
def State.stNext (s : State) (q : Nat) (upset : Option NocUpset) : State :=
  let k := 10 + q
  let x := s.stream q
  match x.rx with
  | [] => s.setStream q { x with busy := false }
  | c :: t =>
    let size := 2 ^ s.get (R.ST_CFG_RING_LOG2 k)
    if !s.inMode [mRUN] then s.setStream q { x with busy := false }
    else if s.ringFill q = size then
      (c :: t).foldl (fun (y : State) _ => (y.bump (R.ST_CNT_DROP k) 1).raise 0x0A24 (4 * k) 0) (s.setStream q { x with rx := [], busy := false })
    else
      let a := s.get (R.ST_CFG_RING_BASE k) * 256 + 64 * (s.get (R.ST_RX_WR_WR k) % size)
      let src := if q = 0 then 61 else 93
      ((s.setStream q { x with busy := true }).inject src ((s.freeTag src).getD 0) true (a / 4) (a / 4 % 64 + 15) c upset).1

/-- The write of a chunk is answered (R420). -/
def State.stReach (s : State) (q : Nat) (r : NocRsp) : State :=
  let k := 10 + q
  let x := s.stream q
  if !x.busy then s
  else
    let t := s.setStream q { x with rx := x.rx.drop 1, busy := false }
    let u := if r.status = 0 then t.set (R.ST_RX_WR_WR k) (t.get (R.ST_RX_WR_WR k) + 1) else t.bump (R.ST_CNT_DROP k) 1
    u.stNext q none

/-- Whether the engine of quad 10 + q receives (R413, R417): a lane link that is UP and discards nothing, a converter link that is aligned. -/
def State.stReceives (s : State) (q : Nat) : Bool :=
  s.inMode [mRUN] && (if s.get (R.ST_CFG_USE (10 + q)) = 2 then s.has (R.LL_STAT_UP (10 + q)) && !(s.stream q).discard
    else match s.jsGov q with
      | some g => !s.has (R.JS_CFG_DIR g) && (s.stream q).aligned
      | none => false)

/-- A BAR read whose responses have all come is completed (R465): 1 UR, 4 Completer Abort. -/
def State.barDone (s : State) (j : BarJob) : State :=
  let sts := j.parts.filterMap (fun p => p.2.2.map (fun x => x.1))
  let words := j.parts.flatMap (fun p => match p.2.2 with | some x => x.2 | none => [])
  let s1 := { s with hl := { s.hl with bars := s.hl.bars.filter (fun x => decide (x ≠ j)) } }
  if j.wr then s1
  else
    let t : HostTlp := match sts.find? (fun c => decide (c ≠ 0)) with
      | some c => .completion (if c = 0x0201 then 1 else 4) []
      | none => .completion 0 (words.flatMap (toBytes 4))
    { s1 with out := [.tlp t] }

/-- A response for a BAR access: a status that is not 0 is logged (R465). -/
def State.barReach (s : State) (r : NocRsp) : State :=
  match s.hl.bars.find? (fun j => j.parts.any (fun p => decide (p.1 = r.id))) with
  | none => s.reply r.status (joinWords r.data)
  | some j =>
    let a := ((j.parts.find? (fun p => decide (p.1 = r.id))).map (fun p => p.2.1)).getD 0
    let j' : BarJob := { j with parts := j.parts.map (fun p => if p.1 = r.id then (p.1, p.2.1, some (r.status, r.data)) else p) }
    let s1 := { s with hl := { s.hl with bars := s.hl.bars.map (fun x => if x = j then j' else x) } }
    let s2 := if r.status = 0 then s1 else s1.hlErr r.status a
    if j'.parts.all (fun p => p.2.2.isSome) then s2.barDone j' else s2

/-- A response reaches its requester, and its tag is free (R344). -/
def State.reach (s : State) (r : NocRsp) : State :=
  let a := ((s.noc.outst.find? (fun q => decide (q.id = r.id))).map (fun q => q.addr)).getD 0
  let t := s.dropOutst r.id
  if r.dest % 4 = 0 then s.owe (r.dest / 4) r
  else if r.dest = 97 ∧ ((s.sc.load.map (fun l => l.1)) = some r.id ∨ s.sc.posted.contains r.id) then
    if r.wr then t.scStoreReach r a else t.scReach r a
  else if r.dest = 61 then t.stReach 0 r
  else if r.dest = 93 then t.stReach 1 r
  else if r.dest = 33 then t.barReach r
  else if r.dest = 161 ∧ s.tap.dapWait = some r.id then
    { t with tap := { t.tap with
      dapWait := none
      dapData := joinWords r.data
      dapStatus := r.status } }
  else t.reply r.status (joinWords r.data)

/-- What the port at the end of buffer `bid` does with a response (R344, R354, R359, R363); none where it waits for room on RSP_IN (R356). -/
def State.takeRsp (s : State) (bid : Nat) (poison : Bool) (r0 : NocRsp) : Option State :=
  let n := bid / 8
  let r := if poison ∧ r0.status = 0 then { r0 with status := 0x0231 } else r0
  if !s.noc.outst.any (fun q => decide (q.id = r.id)) then some (s.lateRsp r)
  else if s.noc.catching.contains r.id then
    let t := s.dropOutst r.id
    some { t with noc := { t.noc with
      catching := t.noc.catching.filter (fun k => decide (k ≠ r.id))
      caught := t.noc.caught ++ [r] } }
  else if bid % 8 = 0 ∧ !s.noc.dropping.contains n ∧ s.p0 n ≠ p0ASLEEP ∧ s.p0 n ≠ p0HELD ∧ 8 < s.rspInFlits n + r.flits then none
  else some (s.reach r)

/-- A packet that a port takes from its receive buffer, and its slots' credits: the first, or at the granary the first whose bank has room (R375). -/
def State.portTake (s : State) (k : Nat) : Option State :=
  let l := s.nocBuf k
  (List.range (if 56 ≤ k / 32 ∧ k / 4 % 8 = 1 then l.length else 1)).findSome? (fun i =>
    match l[i]? with
    | none => none
    | some p =>
      (match p.body with
        | .req q => s.takeReq (k / 4) p.poison q
        | .rsp r => s.takeRsp (k / 4) p.poison r).map (fun (t : State) => t.setNocBuf k ((t.nocBuf k).eraseIdx i) (t.nocCred k + p.flits)))

/-- Every port takes what it can; the flag says whether one did. -/
def State.portsTake (s : State) : State × Bool :=
  (s.noc.bufs.filter (fun e => (bufRouter (e.1 / 4)).isNone)).foldl (fun (a : State × Bool) e =>
    match a.1.portTake e.1 with
    | some t => (t, true)
    | none => a) (s, false)

/-- The network runs on until no packet can move. -/
def State.nocLoop : Nat → State → State
  | 0, s => s
  | n + 1, s =>
    let new := s.nocInjects
    let s1 := new.foldl (fun (t : State) e => t.nocInject e.1 e.2) s
    let s2 := s1.nocHop
    let r := s2.portsTake
    if new.isEmpty && s1.nocReady.isEmpty && !r.2 then r.1 else State.nocLoop n r.1

/-- Packets cross the network, with no clock between commands, as far as buffers and ports let them (R341, R344, R352; assumption 70). -/
def State.nocRun (s : State) : State := if s.nocUp then State.nocLoop 4096 s else s

/-- The oldest response that a port has ready for a source, and with a tag where one is named, is injected and crosses the network (R344, R354, R363). -/
def State.nocResponse (s : State) (dest : Nat) (tag : Option Nat) (upset : Option NocUpset) : State :=
  match s.noc.rsps.find? (fun r => decide (r.dest = dest) && (match tag with | some t => decide (r.tag = t) | none => true)) with
  | none => s
  | some r => ({ s with noc := { s.noc with rsps := s.noc.rsps.erase r } }.queuePkt ⟨.rsp r, 0, false, upset⟩).nocRun

/-- NOC_REQUEST (R340, R341, R345): a hard master issues a request; it never repeats a tag that is outstanding. -/
def execNocRequest (src : SrcId) (tag : Fin 64) (wr : Bool) (waddr : BitVec 42) (last : BitVec 6) (data : List (BitVec 32))
    (upset : Option NocUpset) (s : State) : Host.Outcome State Fault Refusal :=
  if !s.nocUp || decide (src.val % 4 = 0) || (s.outstanding src tag).isSome then done s
  else done (s.inject src tag wr waddr.toNat last.toNat (data.map (fun (d : BitVec 32) => d.toNat)) upset).1.nocRun

/-- NOC_RESPONSE (R344, R354, R363). -/
def execNocResponse (dest : SrcId) (tag : Fin 64) (upset : Option NocUpset) (s : State) : Host.Outcome State Fault Refusal :=
  if s.nocUp then done (s.nocResponse dest (some tag.val) upset) else done s

/-- ST_RX_CHUNK (R420). -/
def execStRxChunk (q : Fin 2) (data : Struck (List (BitVec 32))) (s : State) : Host.Outcome State Fault Refusal :=
  let x := s.stream q
  let c := ((data.1.map (fun (d : BitVec 32) => d.toNat)) ++ List.replicate 16 0).take 16
  if !s.stReceives q then done s
  else
    let t := s.setStream q { x with rx := x.rx ++ [c] }
    done (if x.busy then t else (t.stNext q data.2).nocRun)

/-- ST_RX_CHUNK_WRITTEN (R420): the response of the write under way returns. -/
def execStRxChunkWritten (q : Struck (Fin 2)) (s : State) : Host.Outcome State Fault Refusal :=
  if s.nocUp then done (s.nocResponse (if q.1.val = 0 then 61 else 93) none q.2) else done s

/-- Whether the response of a request stands at the fabric's port already (R363). -/
def State.rspArrived (s : State) (q : NocReq) : Bool :=
  decide (q.src % 4 = 0) && ((s.rspInOf (q.src / 4)).any (fun r => decide (r.id = q.id)) || (s.p0Rsps (q.src / 4)).any (fun r => decide (r.id = q.id)))

/-- NOC_RSP_TIMEOUT (R363). -/
def execNocRspTimeout (src : SrcId) (tag : Fin 64) (s : State) : Host.Outcome State Fault Refusal :=
  match s.outstanding src tag with
  | none => done s
  | some q =>
    let s1 := s.bump (R.NOC_CNT_TIMEOUT (src.val / 4)) 1
    let r := q.answer (src.val / 4 * 4 + 3) 0x0207 []
    if s.rspArrived q then done s
    else if src.val % 4 = 0 then
      (if 8 < s.rspInFlits (src.val / 4) + r.flits then done s else done ((s1.dropOutst q.id).owe (src.val / 4) { r with id := 0 }))
    else done (s1.reach r).nocRun

/-! ## The site core's windows (R570) -/

/-- BASE of window `w` as it acts (R597): a change waits for the response of a store outstanding through the window. -/
def State.winBase (s : State) (w : Nat) : Nat :=
  match s.sc.winOut.find? (fun e => decide (e.2.1 = w)) with
  | some e => e.2.2
  | none => s.get (R.SC_WIN_BASE w)

/-- SC_WINDOW_LOAD (R570): `size` is log2 of the bytes, `rd` x0 to x31 or f0 to f31. -/
def execScWindowLoad (pc : BitVec 32) (w : Fin 4) (off : BitVec 28) (size : Fin 3) (sign : Bool) (rd : Struck (Fin 64))
    (s : State) : Host.Outcome State Fault Refusal :=
  let o := off.toNat
  let addr := 0x40000000 + 0x10000000 * w.val + o
  let a := s.winBase w * 2 ^ 28 + o
  let n := 2 ^ size.val
  let s1 := s.setSc { s.sc with pc := pc.toNat }
  if !s.scRuns then done s
  else if o % n ≠ 0 then done (s.scTrap pc.toNat 4 addr)
  else match s.freeTag 97 with
    | none => done s
    | some tag =>
      let r := s1.inject 97 tag false (a / 4) (a / 4 % 64) [] rd.2
      done (r.1.setSc { r.1.sc with load := some (r.2, rd.1.val, n, sign, addr) }).nocRun

/-- SC_WINDOW_STORE (R570). -/
def execScWindowStore (pc : BitVec 32) (w : Fin 4) (off : BitVec 28) (size : Fin 3) (data : Struck (BitVec 32)) (s : State) :
    Host.Outcome State Fault Refusal :=
  let o := off.toNat
  let addr := 0x40000000 + 0x10000000 * w.val + o
  let a := s.winBase w * 2 ^ 28 + o
  if !s.scRuns then done s
  else if size.val < 2 then done ((s.raise 0x0D0A 0 addr).scTrap pc.toNat 7 addr)
  else if o % 4 ≠ 0 then done (s.scTrap pc.toNat 6 addr)
  else if 8 ≤ s.sc.posted.length then done s
  else match s.freeTag 97 with
    | none => done s
    | some tag =>
      let r := s.inject 97 tag true (a / 4) (a / 4 % 64) [data.1.toNat] data.2
      done (r.1.setSc { r.1.sc with
        posted := r.1.sc.posted ++ [r.2]
        winOut := r.1.sc.winOut ++ [(r.2, w.val, s.winBase w)]
        pc := (pc.toNat + 4) % 2 ^ 32 }).nocRun

/-- SC_FENCE (R570): a FENCE whose predecessor set includes O. -/
def execScFence (pc : BitVec 32) (s : State) : Host.Outcome State Fault Refusal :=
  if !s.scRuns then done s
  else if s.sc.posted = [] then done (s.setSc { s.sc with pc := (pc.toNat + 4) % 2 ^ 32 })
  else done (s.setSc { s.sc with pc := pc.toNat, fence := true })

/-! ## Accesses that run to their end within a command -/

/-- An access of the host link's DMA engines, or of the CMC for a user object, that crosses the network and comes back before the command ends: its status and words. A response that does not
come is timed out (R363). Port 0 answers here only where the router answers for it; none is the running design's own answer. An upset strikes a write's
request, or a read's response. -/
def State.syncAccess (s : State) (src : Nat) (wr : Bool) (addr words : Nat) (data : List Nat) (upset : Option NocUpset) : State × Option (Nat × List Nat) :=
  let w := addr / 4
  let tag := (s.freeTag src).getD 0
  let r := s.inject src tag wr w (w % 64 + words - 1) data (if wr then upset else none)
  let node := w / 2 ^ 36 % 64
  if w / 2 ^ 34 % 4 = 0 ∧ (s.p0 node = p0OPEN ∨ s.p0 node = p0HELD) ∧ s.nocOn node then (s, none)
  else
    let s1 := { r.1 with noc := { r.1.noc with catching := [r.2] } }.nocRun
    let g := (s1.grBank (node - 56) (addr % 2 ^ 36)).1
    let s2 := if w / 2 ^ 34 % 4 = 1 ∧ 56 ≤ node then
        (s1.grQueue g).foldl (fun (t : State) x => (t.setGrQueue g ((t.grQueue g).drop 1)).grServe g x.1) s1
      else s1
    let s3 := s2.nocResponse src (some tag) (if wr then none else upset)
    let s4 := { s3 with noc := { s3.noc with catching := [], caught := [] } }
    match s3.noc.caught.find? (fun x => decide (x.id = r.2)) with
    | some x => (s4, some (x.status, x.data))
    | none => ((s4.dropOutst r.2).bump (R.NOC_CNT_TIMEOUT (src / 4)) 1, some (0x0207, []))

/-! ## DMA (R467 to R469) -/

/-- Moves the words of a descriptor piece by piece, a piece ending at a 256-byte boundary, with `left` words still to move: the state, the
first status that is not 0, words moved, words read. `data` holds the host's words of DIR 0, and of DIR 1 those that a running design
answers; a running design answers 0, or, where `fails`, a status that is left open. -/
def State.dmaMove (s : State) (wr fails : Bool) (data : List Nat) (upset : Option NocUpset) :
    Nat → Nat → Nat → Nat → List Nat → State × Nat × Nat × List Nat
  | 0, _, _, moved, acc => (s, 0, moved, acc)
  | fuel + 1, left, addr, moved, acc =>
    let k := min left ((256 - addr % 256) / 4)
    let piece := ((data.drop moved) ++ List.replicate k 0).take k
    if k = 0 then (s, 0, moved, acc)
    else
      let r := s.syncAccess 33 wr addr k piece (if moved = 0 then upset else none)
      match r.2 with
      | some (c, ws) => if c ≠ 0 then (r.1, c, moved, acc) else r.1.dmaMove wr fails data upset fuel (left - k) (addr + 4 * k) (moved + k) (acc ++ ws)
      | none =>
        if fails then
          let f := r.1.fresh 27
          (f.2, max 1 (f.1 % 65536), moved, acc)
        else r.1.dmaMove wr fails data upset fuel (left - k) (addr + 4 * k) (moved + k) (acc ++ if wr then [] else piece)

/-- The whole move of a descriptor: the state with what it sent to the host, the status and the bytes moved. -/
def State.dmaRun (s : State) (j : DmaJob) (data : List Nat) (n : Nat) (fails : Bool) (upset : Option NocUpset) : State × Nat × Nat :=
  let wr := decide (bit j.flags 0 = 0)
  let r := s.dmaMove wr fails data upset (n / 64 + 2) n j.noc 0 []
  let out : List OutItem := if r.2.2.1 = 0 then [] else if wr then [.tlp (.read j.host (4 * r.2.2.1))]
    else [.tlp (.write j.host (r.2.2.2.flatMap (toBytes 4)))]
  ({ r.1 with out := out }, r.2.1, 4 * r.2.2.1)

/-- DMA_DESCRIPTOR_COMPLETE (R468): `data` as in dmaMove. -/
def execDmaDescriptorComplete (e : Fin 4) (data : Struck (List (BitVec 32))) (s : State) : Host.Outcome State Fault Refusal :=
  match s.dmaJob e with
  | none => done s
  | some j =>
    if !s.hlMaster || !s.nocUp || j.fault.isSome then done s
    else
      let r := s.dmaRun j (data.1.map (fun (d : BitVec 32) => d.toNat)) (j.len / 4) false data.2
      if r.2.1 ≠ 0 then done s else done (r.1.dmaEnd e j 0 j.len)

/-- DMA_DESCRIPTOR_FAIL (R469): `hostFailed` when a host read fails after the words of `data` have come. -/
def execDmaDescriptorFail (e : Fin 4) (data : Struck (List (BitVec 32))) (hostFailed : Bool) (s : State) : Host.Outcome State Fault Refusal :=
  let ws := data.1.map (fun (d : BitVec 32) => d.toNat)
  match s.dmaJob e with
  | none => done s
  | some j =>
    if !s.hlMaster || !s.nocUp then done s
    else match j.fault with
      | some c => done (s.dmaEnd e j c 0)
      | none =>
        let n := if hostFailed then min ws.length (j.len / 4) else j.len / 4
        let r := s.dmaRun j ws n false data.2
        if r.2.1 ≠ 0 then done (r.1.dmaEnd e j r.2.1 r.2.2)
        else if hostFailed then (if bit j.flags 0 = 0 ∧ j.len ≠ 0 then done (r.1.dmaEnd e j 0x0B12 r.2.2) else done s)
        else
          let f := s.dmaRun j ws n true data.2
          if f.2.1 ≠ 0 then done (f.1.dmaEnd e j f.2.1 f.2.2) else done s

/-! ## Register accesses as commands of their own -/

/-- REGISTER_WRITE (R13, R14): one word, or two where `wide`; `hwSet` holds the W1C bits that a hardware event sets in the same cycle. -/
def execRegisterWrite (src : SrcId) (addr : NocAddr) (wide : Bool) (data hwSet : Word64) (s : State) : Host.Outcome State Fault Refusal :=
  let a := addr.toNat
  if !s.nocUp || decide (a % 4 ≠ 0) || (wide && decide (a % 8 ≠ 0)) then done s
  else
    let t := if wide then s.wideWrite src a data.toNat else s.wordWrite src a (data.toNat % 2 ^ 32)
    match regFind a with
    | some h => done (t.hwSets h.fields (hwSet.toNat * 2 ^ (8 * h.rem)))
    | none => done t

/-- WRITE_LOWER_HALF (R7): held in the staging latch of a 64-bit register. -/
def execWriteLowerHalf (src : SrcId) (addr : NocAddr) (data : BitVec 32) (s : State) : Host.Outcome State Fault Refusal :=
  if s.nocUp ∧ addr.toNat % 8 = 0 then done (s.wordWrite src addr.toNat data.toNat) else done s

/-- WRITE_UPPER_HALF (R7): commits both halves. -/
def execWriteUpperHalf (src : SrcId) (addr : NocAddr) (data : BitVec 32) (s : State) : Host.Outcome State Fault Refusal :=
  if s.nocUp ∧ addr.toNat % 8 = 4 then done (s.wordWrite src addr.toNat data.toNat) else done s

/-- READ_LOWER_HALF (R8): the read latches the upper half. -/
def execReadLowerHalf (src : SrcId) (addr : NocAddr) (s : State) : Host.Outcome State Fault Refusal :=
  if s.nocUp ∧ addr.toNat % 8 = 0 then done (s.wordRead src addr.toNat 0) else done s

/-- READ_UPPER_HALF (R8): the latched half, or the live one. -/
def execReadUpperHalf (src : SrcId) (addr : NocAddr) (s : State) : Host.Outcome State Fault Refusal :=
  if s.nocUp ∧ addr.toNat % 8 = 4 then done (s.wordRead src addr.toNat 0) else done s

/-- DEBUG_READ (R16): a read from source 161. -/
def execDebugRead (addr : NocAddr) (wide : Bool) (s : State) : Host.Outcome State Fault Refusal :=
  let a := addr.toNat
  if !s.nocUp || decide (a % 4 ≠ 0) || (wide && decide (a % 8 ≠ 0)) then done s
  else done (if wide then s.wideRead 161 a 0 else s.wordRead 161 a 0)

/-- RC_READ (R15): a read that clears RC fields; `hwSet` holds the bits that a hardware event sets in the same cycle. -/
def execRcRead (src : SrcId) (addr : NocAddr) (hwSet : Word64) (s : State) : Host.Outcome State Fault Refusal :=
  if s.nocUp ∧ addr.toNat % 4 = 0 then done (s.wordRead src addr.toNat hwSet.toNat) else done s

end Sys2Proof.Machine
end

