-- ==== Sys2Proof/Machine/Entries.lean ====
section
/-!
DEFINITION. The entries of the object dictionary (R601 to R606, R623 to R627, and the entry tables of the other chapters): for each index its
subindices in order, each with its type, access right, level, range, and what a read returns and a write does.
-/
namespace Sys2Proof.Machine
open Sys2Proof

/-! ## The entry model (R602 to R604) -/

/-- Who writes an entry: whether on the mailbox, slave serial or JTAG path, and the level of the session. -/
structure DCtx where
  isLocal : Bool
  level : Nat
deriving DecidableEq, Repr

/-- An entry (R603, R604): its type code; its access right (0 RO, 1 RW, 2 WO); its level; the longest wire form of a STRING or DOMAIN; the modes of an RWM
entry; whether wire bytes lie in its range; its wire bytes, or the code that a read meets; what a write of wire bytes does, its status in the answer. -/
structure DEnt where
  typ : Nat
  acc : Nat
  level : Nat
  max : Nat
  modes : List Nat
  ok : State → List Nat → Bool
  read : State → Except Nat (List Nat)
  write : DCtx → State → List Nat → State

/-- Wire length of a type of one length (R603). -/
def typeLen (typ : Nat) : Nat :=
  match typ with
  | 1 | 2 | 6 => 1
  | 3 | 7 => 2
  | 4 | 8 | 10 => 4
  | 5 | 9 => 8
  | 11 => 6
  | 12 => 10
  | _ => 0

/-- Whether a type is STRING or DOMAIN. -/
def typeVar (typ : Nat) : Bool := decide (typ = 13) || decide (typ = 14)

def tBOOL : Nat := 1
def tU8 : Nat := 2
def tU16 : Nat := 3
def tU32 : Nat := 4
def tU64 : Nat := 5
def tI8 : Nat := 6
def tI64 : Nat := 9
def tF32 : Nat := 10
def tTIME : Nat := 11
def tSTR : Nat := 13
def tDOM : Nat := 14

/-- A read-only entry of level 0, of a type of one length. -/
def eRo (typ : Nat) (f : State → Nat) : DEnt :=
  ⟨typ, 0, 0, 0, [], fun _ _ => true, fun s => .ok (netBytes (typeLen typ) (f s)), fun _ s _ => s.reply 0x0503 0⟩

/-- A read-only STRING or DOMAIN of level 0. -/
def eRoVar (typ max : Nat) (f : State → List Nat) : DEnt :=
  ⟨typ, 0, 0, max, [], fun _ _ => true, fun s => .ok (f s), fun _ s _ => s.reply 0x0503 0⟩

/-- A RW entry of a type of one length: its level, range, value, and the effect of a write. -/
def eRw (typ level : Nat) (ok : State → Nat → Bool) (f : State → Nat) (w : State → Nat → State) : DEnt :=
  ⟨typ, 1, level, 0, [], fun s l => ok s (beNum l), fun s => .ok (netBytes (typeLen typ) (f s)), fun _ s l => w s (beNum l)⟩

/-- A WO entry of a type of one length. -/
def eWo (typ level : Nat) (ok : Nat → Bool) (w : DCtx → State → Nat → State) : DEnt :=
  ⟨typ, 2, level, 0, [], fun _ l => ok (beNum l), fun _ => .error 0x0503, fun c s l => w c s (beNum l)⟩

/-- A WO DOMAIN. -/
def eWoDom (level max : Nat) (ok : List Nat → Bool) (w : DCtx → State → List Nat → State) : DEnt :=
  ⟨tDOM, 2, level, max, [], fun _ l => ok l, fun _ => .error 0x0503, w⟩

/-- A WO BOOL whose TRUE acts, and whose FALSE does nothing. -/
def eWoTrue (level : Nat) (f : DCtx → State → State) : DEnt :=
  eWo tBOOL level (fun _ => true) (fun c s v => if v = 1 then f c s else s.reply 0 0)

/-- The value in use of a persistent entry that no register holds (R606). -/
def State.nv (s : State) (index sub dflt : Nat) : Nat :=
  match SMap.get s.dict.vals none (index * 256 + sub) with | some l => beNum l | none => dflt

/-- A persistent entry takes a value; its store write is due (R606). -/
def State.nvPut (s : State) (index sub : Nat) (l : List Nat) : State :=
  (State.persist { s with dict := { s.dict with vals := SMap.set s.dict.vals none (index * 256 + sub) (some l) } } index sub).reply 0 0

/-- A persistent RW entry of level 2 with its Default and range. -/
def eNv (typ index sub dflt : Nat) (ok : Nat → Bool) : DEnt :=
  eRw typ 2 (fun _ v => ok v) (fun s => s.nv index sub dflt) (fun s v => s.nvPut index sub (netBytes (typeLen typ) v))

/-- What an entry that acts as a register write answers (R605): the status of the write, or, of a register that posts, the status that it posted at refusal. -/
def State.act (s : State) (res : Option Fld) (f : State → State) : State :=
  let t := f (s.reply 0 0)
  let c := if t.answer.status ≠ 0 then t.answer.status
    else match res with
      | some r => if t.get (resSeq r) ≠ s.get (resSeq r) ∧ !t.expecting r then t.get r else 0
      | none => 0
  t.reply c 0

/-- The whole word of a register with one of its fields replaced. -/
def State.wordWith (s : State) (f : Fld) (v : Nat) : Nat :=
  let fs := match regFind f.addr with | some h => h.fields | none => []
  fs.foldl (fun a g => if g.acc = .wo then a else a + (if g = f then v % 2 ^ f.w else s.get g) * 2 ^ g.lo) 0

/-- An RW entry over a field of a register whose writes have a meaning `w` (R605). -/
def eField (typ level : Nat) (f : Fld) (res : Option Fld) (ok : State → Nat → Bool) (w : State → Nat → State) : DEnt :=
  eRw typ level ok (fun s => s.get f) (fun s v => s.act res (fun t => w t (t.wordWith f v)))

def anyVal : State → Nat → Bool := fun _ _ => true
def inRange (lo hi : Nat) : State → Nat → Bool := fun _ v => decide (lo ≤ v) && decide (v ≤ hi)
def asciiBytes (t : String) : List Nat := t.toList.map (fun c => c.toNat)

/-- A KC value (R669): the multiple of 1/16 from 1.0 to 15.9375 that an F32 word holds. -/
def kcOf (v : Nat) : Option Nat := (List.range 256).find? (fun m => decide (16 ≤ m) && decide (f32.ofRatio m 16 = v))

/-! ## Identity, communications, sessions and modes (R623) -/

def Session.open' (x : Session) : Bool := decide (x.state ≠ 0)
def State.sess (s : State) (i : Nat) : Session := SMap.get s.dict.sess Session.free i
def State.setSess (s : State) (i : Nat) (x : Session) : State := { s with dict := { s.dict with sess := SMap.set s.dict.sess Session.free i x } }
def State.sessOpen (s : State) : Nat := ((List.range 16).filter (fun i => (s.sess i).open')).length

/-- DICT_DEFAULTS = TRUE (R623): every persistent entry except the keys takes its Default, and is due in the store. -/
def State.dictDefaults (s : State) : State :=
  let key (k : Nat) : Bool := decide (k = 0x800001) || decide (k = 0x800002)
  let ks := ((s.dict.vals ++ s.dict.store).map (fun e => e.1)).filter (fun k => !key k)
  let fs := persistFields.filter (fun k => match persistField k with
    | some (f, _) => decide (s.get f ≠ f.rst)
    | none => false)
  let s1 := { s with dict := { s.dict with vals := s.dict.vals.filter (fun e => key e.1) } }
  let s2 := persistFields.foldl (fun (t : State) k => t.persistPut k none) s1
  (ks ++ fs).foldl (fun (t : State) k => t.persist (k / 256) (k % 256)) s2

def ents1000 : List DEnt :=
  [eRoVar tSTR 256 (fun _ => asciiBytes "Vrelkor"), eRoVar tSTR 256 (fun _ => asciiBytes "YL9048"), eRoVar tSTR 256 (fun _ => asciiBytes "FH1936"),
    eRo tU32 (fun _ => 0x9048), eRo tU8 (fun _ => 1), eRo tU64 (fun _ => Config.partConst 0), eRo tU16 (fun _ => 0x1F3C), eRo tU16 (fun _ => 0x9048),
    eRo tU8 (fun s => s.fwRunning), eRo tU32 (fun s => s.fwVersion)]

def ents1010 : List DEnt :=
  [eNv tU8 0x1010 1 0 (fun v => decide (v ≤ 1)), eRo tU64 (fun _ => Config.partConst 1 % 2 ^ 48), eNv tU32 0x1010 3 0 (fun _ => true),
    eNv tU32 0x1010 4 0xFFFFFF00 (fun _ => true), eNv tU32 0x1010 5 0 (fun _ => true), eNv tU16 0x1010 6 0 (fun v => decide (v ≤ 4094)),
    eRo tBOOL (fun s => ofFlag s.dict.mgtLink), eRo tU32 (fun s => s.dict.mgtDrop)]

def ents1020 : List DEnt :=
  [eRo tU8 (fun s => s.sessOpen), eRo tU8 (fun s => 16 - s.sessOpen), eNv tU16 0x1020 3 60 (fun v => decide (5 ≤ v) && decide (v ≤ 3600)),
    { eRw tBOOL 2 anyVal (fun _ => 0) (fun s v => (if v = 1 then s.dictDefaults else s).reply 0 0) with modes := [mBOOT, mSAFE] }]

def resultFields (st : Fld) : List Fld := [st, resSeq st, resValid st, resStale st]

def ents1100 : List DEnt :=
  [eRo tU32 (fun s => s.word devModeFields),
    eWo tU32 2 (fun _ => true) (fun _ s v => s.act (some R.DEV_MODE_RESULT_STATUS) (fun t => t.modeReq true (bits v 16 16) (bits v 0 3))),
    eRo tU64 (fun s => s.word (resultFields R.DEV_MODE_RESULT_STATUS ++ [R.DEV_MODE_RESULT_TARGET, R.DEV_MODE_RESULT_WAKE])),
    eRw tU64 2 anyVal (fun s => s.word [R.DEV_WAKE_TARGET, R.DEV_WAKE_ARM, R.DEV_WAKE_WRAPS])
      (fun s v => s.act (some R.DEV_MODE_RESULT_STATUS) (fun t => t.wakeWrite v))]

def ents1800 : List DEnt :=
  [eRo tU8 (fun s => s.get R.SC_STATUS_STATE), eRo tU8 (fun s => s.get R.SC_STATUS_RCAUSE), eRo tU8 (fun s => s.get R.SC_STATUS_RESETS),
    eNv tU8 0x1800 4 0 (fun v => decide (v ≤ 1)), eNv tU32 0x1800 5 0 (fun v => decide (v % 65536 = 0)),
    eRo tU16 (fun s => s.get R.WDG_STAT_EXPIRIES), eRo tU32 (fun s => s.sc.corrected)]

def ents1F00 : List DEnt :=
  [⟨tDOM, 1, 2, 65536, [], fun _ _ => true, fun s => .ok ((SMap.get s.dict.vals none 0x1F0001).getD (List.replicate 65536 0)),
    fun _ s l => s.nvPut 0x1F00 1 l⟩]

/-! ## Clocks, points, regulators (chapters 3, 8), power and the I/O table (chapters 24, 25) -/

def bitsOf (n : Nat) (f : Nat → Bool) : Nat := (List.range n).foldl (fun a i => if f i then a + 2 ^ i else a) 0
def sumOf (n : Nat) (f : Nat → Nat) : Nat := (List.range n).foldl (fun a i => a + f i) 0
def maxOf (n : Nat) (f : Nat → Nat) : Nat := (List.range n).foldl (fun a i => max a (f i)) 0
/-- A sum cut at the largest value of its type: a count saturates. -/
def satOf (n v : Nat) : Nat := min (2 ^ n - 1) v

def ents2000 : List DEnt :=
  [eRo tBOOL (fun s => s.get R.CK_STATUS_FOSC_QUAL), eRo tU8 (fun s => s.get R.CK_STATUS_CMC_FOSC), eRo tU16 (fun s => s.get R.CK_STATUS_CP_LOCK),
    eRo tU16 (fun s => bitsOf 16 (fun m => s.has (R.MON_STAT_QUAL m))), eRo tU16 (fun s => bitsOf 16 (fun m => s.has (R.MON_STAT_TRIPPED m))),
    eRo tU32 (fun s => satOf 32 s.clk.trips)]

def ents2010 (o : Nat) : List DEnt :=
  let w (s : State) (v : Nat) : State := s.clkoutWrite o v
  [eField tU8 2 (R.CLKOUT_SRC o) none (inRange 0 127) w, eField tU32 2 (R.CLKOUT_DIV o) none (inRange 1 65536) w,
    eField tBOOL 2 (R.CLKOUT_EN o) none anyVal w]

def ents2100 (b : Nat) : List DEnt :=
  [eRo tU8 (fun s => s.get (R.OP_STATUS_STATE b)),
    eRw tU8 1 (inRange 0 4) (fun s => s.get (R.OP_STATUS_TARGET b)) (fun s v => s.act (some (R.OP_RESULT_STATUS b)) (fun t => t.opReq 65 b v)),
    eRo tU16 (fun s => s.get (R.OP_RESULT_STATUS b)), eRo tU32 (fun s => s.sqFreq b)]

def ents2200 (b : Nat) : List DEnt :=
  let w (s : State) (v : Nat) : State := s.boughRegWrite b 0x1000 v
  [eField tBOOL 2 (R.DR_CTRL_AUTO_DOWN b) none anyVal w, eField tU8 2 (R.DR_CTRL_WARN_STEPS b) none (inRange 0 15) w,
    eRo tI8 (fun s => encode2 8 (s.trim b)), eRo tU8 (fun s => s.get (R.DR_STATUS_HEADROOM b)),
    eRo tU8 (fun s => s.word [R.DR_STATUS_LOCKED b, R.DR_STATUS_HOLD b, R.DR_STATUS_WARN b, R.DR_STATUS_EXHAUSTED b, R.DR_STATUS_FLOOR b,
      R.DR_STATUS_UNGUARDED b, R.DR_STATUS_HOLD_DRIFT b]),
    eRo tU16 (fun s => s.get (R.DR_MEAS_RATIO b))]

def ents2300 : List DEnt :=
  let w (s : State) (v : Nat) : State := s.pwrCtrlWrite 65 v
  [eRo tU32 (fun s => s.get R.PWR_STATUS_GOOD), eField tU8 2 R.PWR_CTRL_THERM_SHUT none (inRange 112 125) w,
    eField tU8 2 R.PWR_CTRL_THERM_HOT none (fun s v => decide (85 ≤ v) && decide (v + 2 ≤ s.get R.PWR_CTRL_THERM_SHUT)) w,
    eRo tU16 (fun s => s.get R.PWR_LOG_REMOVALS), eRo tU8 (fun s => s.get R.PWR_LOG_LAST_LOST), eRo tF32 (fun s => s.estW)]

def ents2400 : List DEnt :=
  [⟨tDOM, 1, 2, 1408, [], fun _ _ => true, fun s => .ok (if s.ioTable = [] then List.replicate 1408 0 else s.ioTable), fun c s l => s.ioTableWrite c.level l⟩,
    eRo tU8 (fun s => s.get R.IO_STATUS_STATE), eRo tU8 (fun s => s.ioShow.get R.IO_STATUS_VCCO_OK)]

/-! ## The time plane, servo, holdover, timeline and capture (chapters 9, 10) -/

def ents3000 : List DEnt :=
  [eRo tTIME (fun s => s.now48), eRo tU16 (fun s => s.tp.wraps),
    eRo tF32 (fun s => f32.ofRatio (signed 40 (s.incShow.get R.TP_DINC_DINC) * 100) 35184372),
    eRo tBOOL (fun s => s.get R.TP_STATUS_TPLL_LOCK), eRo tU8 (fun s => s.get R.TP_STATUS_ACT_CKID), eRo tBOOL (fun s => s.get R.TP_STATUS_DIST_OK)]

def ents3010 : List DEnt :=
  let ctrl (s : State) (v : Nat) : State := s.srvSettings 65 0 v
  [eRo tU8 (fun s => s.get R.SRV_STAT_STATE), eField tU8 2 R.SRV_CTRL_PSRC (some R.SRV_RESULT_STATUS) (inRange 0 3) ctrl,
    eField tBOOL 2 R.SRV_CTRL_FSRC (some R.SRV_RESULT_STATUS) anyVal ctrl, eRo tI64 (fun s => encode2 64 (signed 48 (s.get R.SRV_THETA_THETA))),
    eField tU32 2 R.SRV_LIM_FREQ_LIM (some R.SRV_RESULT_STATUS) (inRange 1 200000) (fun s v => s.srvSettings 65 2 v),
    eRw tBOOL 1 anyVal (fun s => s.get R.SRV_STAT_FORCED)
      (fun s v => s.act (some R.SRV_RESULT_STATUS) (fun t => t.srvCmd 65 (if v = 1 then 1 else 2)))]

def ents3020 (i : Nat) : List DEnt :=
  [eRo tU16 (fun s => s.get (R.PPS_STAT_MISS i)), eRo tU16 (fun s => s.get (R.PPS_STAT_OUTL i)),
    eRw tI64 2 (fun _ v => decide (-(2 ^ 39 : Int) ≤ signed 64 v) && decide (signed 64 v < (2 ^ 39 : Int)))
      (fun s => encode2 64 (signed 40 (s.get (R.PPS_DLY_DLY i)))) (fun s v => s.act none (fun t => t.ppsWrite i 1 (v % 2 ^ 40)))]

def ents3030 : List DEnt :=
  let w (s : State) (v : Nat) : State := s.hoCtrlWrite v
  let f4 (s : State) (l : List Fld) : List Nat := l.flatMap (fun f => netBytes 4 (s.hoShow.get f))
  [eRo tU32 (fun s => s.get R.HO_PRED_REMAIN), eField tU16 2 R.HO_CTRL_BUDGET none (inRange 1 65535) w, eRo tBOOL (fun s => s.get R.HO_STAT_MODEL_VALID),
    eRoVar tDOM 16 (fun s => f4 s [R.HO_COEF_0_A0, R.HO_COEF_0_A1, R.HO_COEF_1_A2, R.HO_COEF_1_B]),
    eRoVar tDOM 8 (fun s => f4 s [R.HO_COEF_2_SIGF, R.HO_COEF_2_SIGB]), eRo tF32 (fun s => f32.ofRatio (signed 16 (s.get R.HO_STAT_TEMP_NOW)) 256),
    eRo tF32 (fun s => s.get R.HO_EACC_E_ACC), eRo tF32 (fun s => s.get R.HO_LAST_ERR),
    eRw tF32 2 (fun _ v => (kcOf v).isSome) (fun s => f32.ofRatio (s.get R.HO_CTRL_KC) 16)
      (fun s v => s.act none (fun t => w t (t.wordWith R.HO_CTRL_KC ((kcOf v).getD 0))))]

def ents3100 : List DEnt :=
  [eRo tU16 (fun s => s.get R.TL_STATUS_NARMED), eRo tU32 (fun s => satOf 32 s.tl.lost), eRo tU32 (fun s => satOf 32 s.tl.skipped)]

def ents3110 (u : Nat) : List DEnt :=
  let w (s : State) (v : Nat) : State := s.cuWrite u v
  [eField tBOOL 2 (R.CU_CFG_EN u) none anyVal w, eField tU16 2 (R.CU_CFG_SRC u) none (fun _ v => cuSrcOk v) w,
    eRo tU32 (fun s => s.get (R.CU_STAT_COUNT u)), eRo tU16 (fun s => s.get (R.CU_STAT_LOST u))]

/-! ## The loader, partitions and boughs (chapters 16, 17) -/

/-- A piece of LD_STREAM passes to the loader (R488, R510, R618); `start` on the first one. -/
def State.ldDictTake (s : State) (start : Bool) (l : List Nat) : State :=
  if start then
    if s.ldState ≠ ldIDLE then s.reply 0x0140 0 else ((s.ldStart srcDICT 0 0 15 65).ldTake l).reply 0 0
  else if s.ldState ≠ ldIDLE ∧ s.get R.LD_STATUS_SRC = srcDICT then (s.ldTake l).reply 0 0
  else s.reply 0 0

def ents4000 : List DEnt :=
  [eRo tU8 (fun s => s.ldState), eRo tU16 (fun s => s.get R.LD_RESULT_STATUS), eRo tU64 (fun s => s.ld.lastImage), eRo tU64 (fun s => s.ld.lastVersion),
    eRo tU64 (fun s => s.get R.LD_PART_STAT_STATE), eRo tBOOL (fun s => s.get R.LD_STATUS_SEEDED),
    { eRw tBOOL 2 anyVal (fun s => s.get R.LD_CTRL_SAFE_OPEN) (fun s v => (if v = 1 then s.put R.LD_CTRL_SAFE_OPEN true else s).reply 0 0) with
      modes := [mSAFE] },
    eWoDom 2 (2 ^ 32 - 1) (fun _ => true) (fun _ s l => s.ldDictTake true l),
    eWo tU8 2 (fun v => decide (1 ≤ v) && decide (v ≤ 31)) (fun _ s v => s.act (some R.LD_RESULT_STATUS) (fun t => t.ldCmd 65 (4 + 16 * v))),
    eRw tU16 2 (inRange 1 65535) (fun s => s.get R.LD_CTRL_TIMEOUT) (fun s v => s.act none (fun t => t.ldCfgWrite 65 8 v))]

def ents4040 (q : Nat) : List DEnt :=
  [eRo tU8 (fun s => s.get (R.PT_STAT_STATE q)), eRo tU8 (fun s => s.get (R.PT_STAT_SHADOW q)), eRo tU16 (fun s => s.get (R.PT_STAT_SWAPS q)),
    eRo tU64 (fun s => s.get (R.PT_BOUGHS_BOUGHS q)),
    eRw tU8 2 (inRange 0 2) (fun s => s.get (R.PT_CTRL_POLICY q)) (fun s v => s.act none (fun t => t.ptCtrlWrite 65 q v))]

def ents4100 (b : Nat) : List DEnt :=
  [eRo tU8 (fun s => (s.partOf b).getD 0xFF), eRo tU8 (fun s => (s.bough b).plane), eRo tU32 (fun s => s.get (R.RB_CAP_TIME b))]

/-! ## The gleaner, health, memories, slices, sequencers, NoC and granary (chapters 4 to 6, 11, 12, 18, 22) -/

def ents5000 : List DEnt :=
  let w (s : State) (v : Nat) : State := s.hmCtrlWrite 65 v
  let map (f : Nat → Fld) (s : State) : List Nat := toBytes 34 (bitsOf 272 (fun m => s.has (f m)))
  [eRo tU32 (fun s => s.get R.HM_EOL_DAYS_LO), eRo tU16 (fun s => s.get R.HM_EOL_MON), eField tU16 2 R.HM_CTRL_EOL_WARN none (inRange 1 65535) w,
    eRw tF32 2 (fun _ v => (kcOf v).isSome) (fun s => f32.ofRatio (s.get R.HM_CTRL_KC) 16)
      (fun s v => s.act none (fun t => w t (t.wordWith R.HM_CTRL_KC ((kcOf v).getD 0)))),
    eField tBOOL 2 R.HM_CTRL_AUTO_EYE none anyVal w, eRo tU64 (fun s => s.hm.powered), eRoVar tDOM 34 (map R.HM_VAL_ALARM), eRoVar tDOM 34 (map R.HM_VAL_WARN)]

/-- GL_EN and GL_REPAIR_EN are written through GL_CTRL with its confirmation; the other settings stay (R562). -/
def State.glEntry (s : State) (i v : Nat) : State :=
  let w := s.glSet
  let b := bits w 0 2
  let n := if i = 0 then b / 2 * 2 + v else b % 2 + 2 * v
  s.act (some R.GL_CMD_RESULT_STATUS) (fun t => t.glCtrl 65 (n + bits w 4 4 * 16 + 0xA5C3 * 65536))

def ents5100 : List DEnt :=
  let total (k : Nat) (s : State) : Nat := SMap.get s.gl.totals 0 k
  [eRw tBOOL 2 anyVal (fun s => bit s.glSet 0) (fun s v => s.glEntry 0 v), eRw tBOOL 2 anyVal (fun s => bit s.glSet 1) (fun s v => s.glEntry 1 v),
    eRo tU32 (total 0), eRo tU32 (total 1), eRo tU32 (total 2), eRo tU32 (total 3), eRo tU32 (fun s => maxOf 4 (fun q => s.get (R.GL_PASS_LAST_US q))),
    eRo tU32 (fun s => satOf 32 (s.gl.hours.foldl (fun a e => if s.hour.toNat < e.1 + 24 then a + e.2 else a) 0)), eRo tU16 (fun s => s.get R.GL_WATCH_RESETS)]

def ents5300 (b : Nat) : List DEnt :=
  let w (s : State) (v : Nat) : State := s.boughRegWrite b 0x2000 v
  [eRo tU16 (fun s => s.get (R.BM_CNT_CORR b)), eRo tU16 (fun s => s.get (R.BM_CNT_UNC b)), eField tBOOL 2 (R.BM_CTRL_UNC_EVT_EN b) none anyVal w,
    eWoTrue 2 (fun _ s => s.act none (fun t => w t (t.wordWith (R.BM_CTRL_CNT_CLR b) 0 + 4)))]

def ents5400 (b : Nat) : List DEnt :=
  [eRo tU16 (fun s => sumOf 4 (fun w => popCount 64 (s.ovfMap b w))),
    eField tBOOL 2 (R.SL_CTRL_OVF_EVT_EN b) none anyVal (fun s v => s.boughRegWrite b 0x4000 v),
    eWoTrue 2 (fun _ s => ((List.range 4).foldl (fun (t : State) w => t.set (R.SL_OVF_MAP_OVF b w) 0) s).reply 0 0)]

def ents5500 (b : Nat) : List DEnt :=
  let st (s : State) (a : Nat) : Nat := s.sqState b a
  [eRo tU32 (fun s => bitsOf 32 (fun a => decide (st s a = sqRUN) || decide (st s a = sqWAIT))), eRo tU32 (fun s => bitsOf 32 (fun a => decide (st s a = sqFAULT))),
    eRo tU64 (fun s => sumOf 32 (fun a => s.get (R.SQ_CNT_STALLS b a))), eRo tU32 (fun s => sumOf 32 (fun a => s.get (R.SQ_CNT_EVLOST b a))),
    eRo tU32 (fun s => maxOf 32 (fun a => s.get (R.SQ_HOLDOFF_MAX b a)))]

def ents5600 : List DEnt :=
  [eRo tU8 (fun s => s.get R.NOC_EPOCH_CUR), eRo tBOOL (fun s => s.get R.NOC_EPOCH_BUSY), eRo tU32 (fun s => sumOf 64 (fun n => s.get (R.NOC_CNT_HDR_UNC n)))]

def ents5640 (n : Nat) : List DEnt :=
  [eRo tU8 (fun s => s.get (R.NOC_STATUS_P0 n)), eRo tU16 (fun s => s.get (R.NOC_CNT_ASLEEP n)), eRo tU16 (fun s => s.get (R.NOC_CNT_TIMEOUT n)),
    eRo tU16 (fun s => s.get (R.NOC_CNT_LATE n)), eField tU16 2 (R.NOC_CTRL_RSP_TO n) none (inRange 1 65535) (fun s v => s.nocCtrlWrite 65 n v)]

def ents5700 : List DEnt :=
  let sum (f : Nat → Nat → Fld) (s : State) : Nat := sumOf 64 (fun g => s.get (f (g / 8) (g % 8)))
  [eRo tU32 (sum R.GB_CNT_CORR), eRo tU32 (sum R.GB_CNT_UNC), eRo tU16 (sum R.GB_STATUS_SPARES_FREE)]

def ents5780 (g : Nat) : List DEnt :=
  let k := g / 8
  let j := g % 8
  [eRo tU8 (fun s => s.get (R.GB_STATUS_PWR k j)), eRo tU16 (fun s => s.get (R.GB_STATUS_FAULTS k j)), eRo tU16 (fun s => s.get (R.GB_CNT_BT_PASS k j)),
    eRw tU8 2 (fun _ v => decide (v = 0 ∨ v = 2 ∨ v = 3)) (fun s => match SMap.get s.gr.pwr 0 g with | 0 => s.get (R.GB_STATUS_PWR k j) | t + 1 => t)
      (fun s v => s.act (some (R.GR_CMD_RESULT_STATUS k)) (fun t => t.grCmd 65 k ((if v = 0 then 3 else if v = 2 then 1 else 2) + j * 16)))]

def ents5A00 (m : Nat) : List DEnt :=
  [eRo tF32 (fun s => s.get (R.HM_VAL_VALUE m)),
    eRw tF32 2 anyVal (fun s => s.get (R.HM_THR_WARN m)) (fun s v => s.act none (fun t => t.hmThrWrite 65 m (v + t.get (R.HM_THR_ALARM m) * 2 ^ 32))),
    eRw tF32 2 anyVal (fun s => s.get (R.HM_THR_ALARM m)) (fun s v => s.act none (fun t => t.hmThrWrite 65 m (t.get (R.HM_THR_WARN m) + v * 2 ^ 32))),
    eRo tU32 (fun s => s.get (R.HM_PRED_DAYS m)), eRo tU32 (fun s => s.get (R.HM_PRED_DAYS_LO m)), eRo tU16 (fun s => s.get (R.HM_VAL_N m))]

/-! ## Lanes, ports, loft, host link (chapters 13 to 15) -/

def ents6000 (n : Nat) : List DEnt :=
  [eRo tU8 (fun s => s.get (R.LN_STAT_STATE n)), eField tU8 2 (R.LN_CFG_MODE n) none (inRange 0 2) (fun s v => s.lnCfgWrite 65 n v),
    eRo tU8 (fun s => s.get (R.LN_STAT_FAILS n)),
    eRoVar tDOM 4 (fun s => [R.LN_EYE_RES1_LEFT n, R.LN_EYE_RES1_RIGHT n, R.LN_EYE_RES1_TOP n, R.LN_EYE_RES1_BOTTOM n].map (fun f => s.get f)),
    eRo tF32 (fun s => if s.get (R.LN_PRBS_BITS_BITS n) = 0 then 0 else f32.ofRatio (s.get (R.LN_PRBS_ERR_ERR n)) (s.get (R.LN_PRBS_BITS_BITS n)))]

def ents6030 (q : Nat) : List DEnt :=
  eRo tU8 (fun s => bitsOf 2 (fun j => s.has (R.QD_PLL_LOCK q j))) ::
    (if q < 10 then [] else [eRo tU32 (fun s => s.get (R.ST_CNT_DROP q)), eRo tBOOL (fun s => s.get (R.LL_STAT_UP q))])

def ents6100 (k : Nat) : List DEnt :=
  [eField tU8 2 (R.PE_CFG_CFG k) none (inRange 0 6) (fun s v => s.peCfgWrite 65 k v), eRo tU8 (fun s => s.get (R.PE_STATUS_LINK k))]

def ents6140 (ch : Nat) : List DEnt :=
  let at' (s : State) (f : Fld) : Nat := if s.chExists ch then s.get f else 0
  [eRw tU8 2 (inRange 0 2) (fun s => at' s (R.CH_CFG_END ch)) (fun s v => s.act none (fun t => t.chCfgWrite 65 ch (t.wordWith (R.CH_CFG_END ch) v))),
    eRo tU32 (fun s => at' s (R.CH_CNT_RX_FRAMES ch)),
    eRo tU32 (fun s => at' s (R.CH_CNT_RX_DROP_LOFT ch) + at' s (R.CH_CNT_RX_DROP_FCS ch) + at' s (R.CH_CNT_RX_DROP_LEN ch) + at' s (R.CH_CNT_RX_DROP_DIR ch)),
    eRo tU16 (fun s => at' s (R.CH_CNT_TX_TXTS_OVF ch)), eRo tU16 (fun s => at' s (R.CH_CNT_FEC_UNC ch)), eRo tU8 (fun s => at' s (R.CH_CNT_TX_GATE_DISCARD ch))]

def ents6180 : List DEnt :=
  [eRo tU32 (fun s => s.loftFree), eRo tU32 (fun s => s.loftTaken (fun f => !f.queued)), eRo tU32 (fun s => s.loftTaken (fun f => f.queued))]

def ents7000 : List DEnt :=
  [eRo tBOOL (fun s => s.get R.HL_STATUS_UP), eRo tU8 (fun s => s.get R.HL_STATUS_RATE), eRo tU8 (fun s => s.get R.HL_STATUS_WIDTH), eRo tU32 (fun s => s.hl.lostDown)]

/-! ## Authorization and security (R624, R625, R689), debug -/

/-- A write of KEY_OPERATOR or KEY_INTEGRATOR (R625). -/
def State.keyPut (s : State) (c : DCtx) (l : Nat) (key : List Nat) : State :=
  if !c.isLocal && decide (c.level ≠ 3) then s.reply 0x050C 0 else s.nvPut 0x8000 l key

/-- Whether the key of a session level is set, and the key: the Vendor key is set at test, an unset key counts as zeros (R610, R624). -/
def State.sessKey (s : State) (level : Nat) : Option Nat :=
  if level = 3 then some (Config.partConst 2) else (SMap.get s.dict.vals none (0x800000 + level)).map beNum

def State.isLocked (s : State) (level : Nat) : Bool := s.dict.locked.contains level

/-- One entry of SESS_LIST (R624). -/
def State.sessRow (s : State) (i : Nat) : List Nat :=
  let x := s.sess i
  let idle : Int := if x.state = 0 then 0 else (s.nowFull - x.seen) / (10 ^ 9 * 65536)
  [x.state, x.level, x.path, 0] ++ netBytes 2 x.sid ++ netBytes 2 (min 65535 idle.toNat)

def keyOk (l : List Nat) : Bool := decide (l.length = 32) && decide (beNum l ≠ 0)

def ents8000 : List DEnt :=
  [eWoDom 2 32 keyOk (fun c s l => s.keyPut c 1 l), eWoDom 2 32 keyOk (fun c s l => s.keyPut c 2 l),
    eRo tU8 (fun s => 8 + bitsOf 3 (fun l => decide (1 ≤ l) && (s.sessKey l).isSome)), eRo tU32 (fun s => s.dict.authFails),
    eRo tU8 (fun s => bitsOf 4 (fun l => s.isLocked l)), eNv tU8 0x8000 6 5 (fun v => decide (1 ≤ v)),
    eRoVar tDOM 128 (fun s => (List.range 16).flatMap (fun i => s.sessRow i))]

/-- The check value of a key (R689). -/
def KeyField.kcv (k : KeyField) : Nat := if k.state 32 = 1 then bits (Config.aesBlock k.data 0) 96 32 else 0

def len32 (l : List Nat) : Bool := decide (l.length = 32)

def ents8010 : List DEnt :=
  [eRo tU32 (fun s => s.policy), eWo tU32 2 (fun _ => true) (fun c s v => s.policySet c.isLocal c.level v none),
    eWoDom 2 32 len32 (fun c s l => s.efKeySet c.isLocal c.level (beNum l) none), eRo tU8 (fun s => s.sec.efKey.state 32), eRo tU32 (fun s => s.sec.efKey.kcv),
    eWoDom 2 32 len32 (fun c s l => s.ramKeySet c.isLocal c.level (beNum l)), eRo tU32 (fun s => s.sec.ramKey.kcv), eWoTrue 2 (fun c s => s.ramKeyErase c.level)]

def ents8011 : List DEnt :=
  [eWoDom 2 49 (fun l => decide (l.length = 49) && decide (l.headD 4 ≤ 3)) (fun c s l => s.pkProgram c.isLocal c.level (l.headD 0) (beNum (l.drop 1)) none),
    eWo tU8 2 (fun v => decide (v ≤ 3)) (fun c s v => s.pkRevoke c.isLocal c.level v false),
    eRo tU16 (fun s => sumOf 4 (fun k => (s.pkSlot k).state 48 * 4 ^ k) + s.sec.pkRev % 16 * 256),
    eRoVar tDOM 192 (fun s => (List.range 4).flatMap (fun k => netBytes 48 (s.pkSlot k).data))]

def ents8012 : List DEnt := [eRo tU8 (fun s => s.sec.rb), eWo tU8 2 (fun _ => true) (fun c s v => s.rbAdvance c.level v none)]

def ents8013 : List DEnt :=
  [eWoDom 2 32 len32 (fun c s l => s.dbgKeySet c.isLocal c.level 1 (beNum l) none), eWoDom 2 32 len32 (fun c s l => s.dbgKeySet c.isLocal c.level 2 (beNum l) none),
    eRo tU8 (fun s => (s.dbgKeyOf 1).state 32 + 4 * (s.dbgKeyOf 2).state 32)]

def ents8014 : List DEnt := [eRo tBOOL (fun s => ofFlag s.sec.tamperSeen), eWoTrue 2 (fun c s => s.tamperClr c.level)]

def ents8015 : List DEnt :=
  [eWoDom 3 163840 (fun l => decide (256 ≤ l.length)) (fun _ s l => (s.fwTake l).reply 0 0), eRo tU8 (fun s => s.sec.fwState), eRo tU16 (fun s => s.sec.fwLastErr),
    eWoTrue 3 (fun c s => s.fwSwitch c.level), eWo tU8 3 (fun _ => true) (fun c s v => s.fwRbAdvance c.level v none)]

def ents8016 : List DEnt :=
  [eRw tU32 2 anyVal (fun s => s.sec.rbSel) (fun s v => (s.setSec { s.sec with rbSel := v }).reply 0 0),
    { eRoVar tDOM 516 (fun _ => []) with level := 2, read := fun s => s.secRead 2 false },
    { eRoVar tDOM 12288 (fun _ => []) with level := 2, read := fun s => s.secRead 2 true }]

def ents9000 : List DEnt :=
  [eRo tU8 (fun s => s.dbgLevel), eRo tBOOL (fun s => ofFlag (s.has R.DBG_SC_CTRL_ATTACH && decide (s.dbgLevel = 2))), eRo tU32 (fun s => s.tap.authFails),
    eRo tBOOL (fun s => ofFlag s.tap.locked), eRo tBOOL (fun s => s.get R.DBG_SC_STAT_HALTED)]

/-! ## The dictionary -/

/-- The entries of an index of the fixed part, at subindices 1 upward; none where the index is not defined. -/
def dictSubs (index : Nat) : List DEnt :=
  let within (base n : Nat) : Bool := decide (base ≤ index) && decide (index < base + n)
  if index = 0x1000 then ents1000 else if index = 0x1010 then ents1010 else if index = 0x1020 then ents1020 else if index = 0x1100 then ents1100
  else if index = 0x1800 then ents1800 else if within 0x1810 4 then [eRo tU8 (fun s => s.get (R.SP_CFG_MODE (index - 0x1810)))]
  else if index = 0x1F00 then ents1F00 else if index = 0x2000 then ents2000 else if within 0x2010 2 then ents2010 (index - 0x2010)
  else if within 0x2100 64 then ents2100 (index - 0x2100) else if within 0x2200 64 then ents2200 (index - 0x2200)
  else if index = 0x2300 then ents2300 else if index = 0x2400 then ents2400 else if index = 0x3000 then ents3000 else if index = 0x3010 then ents3010
  else if within 0x3020 2 then ents3020 (index - 0x3020) else if index = 0x3030 then ents3030 else if index = 0x3100 then ents3100
  else if within 0x3110 32 then ents3110 (index - 0x3110) else if index = 0x4000 then ents4000 else if within 0x4040 32 then ents4040 (index - 0x4040)
  else if within 0x4100 64 then ents4100 (index - 0x4100) else if index = 0x5000 then ents5000 else if index = 0x5100 then ents5100
  else if within 0x5300 64 then ents5300 (index - 0x5300) else if within 0x5400 64 then ents5400 (index - 0x5400)
  else if within 0x5500 64 then ents5500 (index - 0x5500) else if index = 0x5600 then ents5600 else if within 0x5640 64 then ents5640 (index - 0x5640)
  else if index = 0x5700 then ents5700 else if within 0x5780 64 then ents5780 (index - 0x5780) else if within 0x5A00 272 then ents5A00 (index - 0x5A00)
  else if within 0x6000 48 then ents6000 (index - 0x6000) else if within 0x6030 12 then ents6030 (index - 0x6030)
  else if within 0x6100 8 then ents6100 (index - 0x6100) else if within 0x6140 32 then ents6140 (index - 0x6140) else if index = 0x6180 then ents6180
  else if index = 0x7000 then ents7000
  else if within 0x7010 4 then [eRo tU32 (fun s => s.get (R.EV_STAT_LOST (index - 0x7010))), eRo tBOOL (fun s => s.get (R.EV_CFG_EN (index - 0x7010)))]
  else if within 0x7020 4 then [eRo tU8 (fun s => s.get (R.DMA_STAT_STATE (index - 0x7020)))]
  else if index = 0x8000 then ents8000 else if index = 0x8010 then ents8010 else if index = 0x8011 then ents8011 else if index = 0x8012 then ents8012
  else if index = 0x8013 then ents8013 else if index = 0x8014 then ents8014 else if index = 0x8015 then ents8015 else if index = 0x8016 then ents8016
  else if index = 0x9000 then ents9000 else []

/-- User objects (R626, R627) are reached with NoC accesses: their meaning stands in userRead and userWrite. -/
def UserObj.ent (u : UserObj) : DEnt := ⟨u.typ, u.access, u.level, u.size, [], fun _ _ => true, fun _ => .error 0x0516, fun _ s _ => s.reply 0x0516 0⟩

/-- Checks 1 and 2 of R604, with subindex 0 of R602: the entry, or its refusal. In the recovery of R686 only identity and firmware stand. -/
def State.dictFind (s : State) (index sub : Nat) : Except Nat DEnt :=
  if s.romOnly && decide (index ≠ 0x1000) && decide (index ≠ 0x8015) then .error 0x0501
  else if 0xA000 ≤ index ∧ index ≤ 0xBFFF then
    let us := s.dict.user.filter (fun u => decide (u.index = index))
    if us = [] then .error 0x0501
    else if sub = 0 then .ok (eRo tU8 (fun _ => us.length))
    else match us.find? (fun u => decide (u.sub = sub)) with
      | some u => .ok u.ent
      | none => .error 0x0502
  else
    let l := dictSubs index
    if l.length = 0 then .error 0x0501
    else if sub = 0 then .ok (eRo tU8 (fun _ => l.length))
    else match l[sub - 1]? with
      | some e => .ok e
      | none => .error 0x0502

/-- Checks 3 to 5 of R604, and, of an inline access, that the entry is short enough (R603); 0 where they pass. -/
def State.dictRight (s : State) (c : DCtx) (e : DEnt) (wr inline : Bool) : Nat :=
  if c.level < e.level then 0x0504
  else if (wr ∧ e.acc = 0) ∨ (!wr ∧ e.acc = 2) then 0x0503
  else if wr ∧ e.modes ≠ [] ∧ !s.inMode e.modes then 0x0506
  else if inline ∧ typeVar e.typ ∧ 256 < e.max then 0x0515
  else 0

/-- Check 6 of R604 on the value of a write; 0 where it passes. -/
def State.dictValue (s : State) (e : DEnt) (typ : Nat) (l : List Nat) : Nat :=
  if typ ≠ e.typ ∨ (if typeVar e.typ then decide (e.max < l.length) else decide (l.length ≠ typeLen e.typ)) = true then 0x0505
  else if e.typ = tBOOL ∧ 1 < beNum l then 0x0505
  else if e.ok s l then 0 else 0x0505

/-! ## User objects (R627) -/

/-- NoC accesses of the CMC over words from an address, a new one at each 256-byte boundary: the first status that is not 0, and the words read.
What a running design answers is left open (places 26, 28). -/
def State.userMove (s : State) (wr : Bool) (addr : Nat) : Nat → Nat → List Nat → List Nat → State × Nat × List Nat
  | 0, _, _, acc => (s, 0, acc)
  | n + 1, left, data, acc =>
    if left = 0 then (s, 0, acc)
    else
      let k := min left (64 - addr / 4 % 64)
      match s.syncAccess 65 wr addr k (data.take k) none with
      | (t, some (0, ws)) => t.userMove wr (addr + 4 * k) n (left - k) (data.drop k) (acc ++ ws)
      | (t, some (c, _)) => (t, c, acc)
      | (t, none) =>
        let f := t.fresh 28
        if f.1 % 65536 ≠ 0 then (f.2, f.1 % 65536, acc)
        else
          let g := (List.range k).foldl (fun (x : State × List Nat) _ => let r := x.1.fresh 26; (r.2, x.2 ++ [r.1 % 2 ^ 32])) (f.2, [])
          g.1.userMove wr (addr + 4 * k) n (left - k) (data.drop k) (acc ++ g.2)

/-- Words that a user object occupies. -/
def UserObj.words (u : UserObj) : Nat :=
  if typeVar u.typ then (u.size + 3) / 4 else if u.typ = 12 then 3 else if 4 < typeLen u.typ then 2 else 1

/-- A read of a user object: its status, and its wire bytes or the NoC status. -/
def State.userRead (s : State) (u : UserObj) : State × Nat × List Nat :=
  let r := s.userMove false u.addr 66 u.words [] []
  let mem := r.2.2.flatMap (toBytes 4)
  if r.2.1 ≠ 0 then (r.1, 0x0516, netBytes 2 r.2.1)
  else if typeVar u.typ then (r.1, 0, mem.take u.size)
  else (r.1, 0, (mem.take (typeLen u.typ)).reverse)

/-- A write of a user object: its status. -/
def State.userWrite (s : State) (u : UserObj) (l : List Nat) : State × Nat :=
  let mem := if typeVar u.typ then l else l.reverse
  let bytes := (mem ++ List.replicate (4 * u.words) 0).take (4 * u.words)
  let r := s.userMove true u.addr 66 u.words (toWords bytes u.words) []
  (r.1, if r.2.1 = 0 then 0 else 0x0516)

/-- The user object of an index and subindex. -/
def State.userOf (s : State) (index sub : Nat) : Option UserObj := s.dict.user.find? (fun u => decide (u.index = index) && decide (u.sub = sub))

end Sys2Proof.Machine
end

