-- ==== Sys2Proof/Machine/Agzer.lean ====
section
/-!
DEFINITION. The Agzer protocol (R607 to R622): sessions, messages, transfers, and the paths that carry them. A message is executed whole in one
command; its response stands in `out`, and a register answer is left as it was.
-/
namespace Sys2Proof.Machine
open Sys2Proof

/-! ## Messages (R612, R613) -/

def agMax : Nat := 1472

/-- A message whose header stands: its KIND, session id, SEQ, FLAGS, body, tag, and the bytes that the tag covers. -/
structure AgMsg where
  kind : Nat
  sid : Nat
  seq : Nat
  tagged : Bool
  all : Bool
  body : List Nat
  tag : List Nat
  covered : List Nat
deriving DecidableEq, Repr

/-- A field of a message in network order. -/
def netField (l : List Nat) (o n : Nat) : Nat := beNum ((l.drop o).take n)

/-- The message that bytes hold; none where its header is wrong or LEN disagrees with its length. -/
def agParse (l : List Nat) : Option AgMsg :=
  let len := netField l 6 2
  let flags := netField l 14 2
  let tagged := decide (bit flags 0 = 1)
  if l.length < 16 ∨ agMax < l.length ∨ l.take 3 ≠ [0x41, 0x5A, 1] ∨ netField l 12 2 ≠ 0 ∨ 3 < flags ∨ l.length ≠ 16 + len + (if tagged then 16 else 0) then none
  else some ⟨netField l 3 1, netField l 4 2, netField l 8 4, tagged, decide (bit flags 1 = 1), (l.drop 16).take len, l.drop (16 + len), l.take (16 + len)⟩

/-- A raw frame's payload without the zeros that pad it to 46 bytes (R619). -/
def agUnpad (l : List Nat) : List Nat :=
  let n := 16 + netField l 6 2 + (if bit (netField l 14 2) 0 = 1 then 16 else 0)
  if l.length = 46 ∧ n < 46 ∧ (l.drop n).all (fun b => decide (b = 0)) then l.take n else l

/-- The tag of a header and body under a session key (R609): the first 16 bytes of an HMAC. -/
def agTag (skey : Nat) (l : List Nat) : List Nat := (netBytes 32 (Config.hmac256 skey l)).take 16

/-- A response: header, body, and the tag where a session key is named (R612). -/
def agBytes (kind sid seq status : Nat) (body : List Nat) (skey : Option Nat) : List Nat :=
  let l := [0x41, 0x5A, 1, kind % 256] ++ netBytes 2 sid ++ netBytes 2 body.length ++ netBytes 4 seq ++ netBytes 2 status
    ++ netBytes 2 (if skey.isSome then 1 else 0) ++ body
  match skey with
  | some k => l ++ agTag k l
  | none => l

/-- The key under which a session's responses are tagged. -/
def Session.tagKey (x : Session) : Option Nat := if x.level = 0 then none else some x.skey

/-! ## Sessions (R607 to R611) -/

/-- Where a message came from: the path code of R624, and of the management port the address that R611 binds. -/
structure AgFrom where
  path : Nat
  addr : Nat × Nat × Nat
deriving DecidableEq, Repr

def AgFrom.isLocal (f : AgFrom) : Bool := decide (f.path ≤ 2)

/-- The path of a command's operand. -/
def agSource (p : AgPath) : AgFrom :=
  match p.kind.val with
  | 0 => ⟨3, (0, p.ip.toNat, p.port.toNat)⟩
  | 1 => ⟨4, (p.mac.toNat, 0, 0)⟩
  | _ => ⟨1, (0, 0, 0)⟩

/-- A slot closes; a transfer of it ends unfinished (R608, R618, R684). -/
def State.sessClose (s : State) (i : Nat) : State :=
  let t := match (s.sess i).xfer with
    | some x => if x.index = 0x8015 ∧ x.write then s.fwCut else s
    | none => s
  t.setSess i Session.free

/-- The slot of a session id on a path, at the address it is bound to (R611). -/
def State.sessFind (s : State) (f : AgFrom) (sid : Nat) : Option Nat :=
  (List.range 16).find? (fun i =>
    let x := s.sess i
    decide (x.state ≠ 0) && decide (x.sid = sid) && decide (x.path = f.path) && decide (x.addr = f.addr))

/-- Counts an authentication or tag failure (R610, R612, R624). -/
def State.authFailed (s : State) : State :=
  ({ s with dict := { s.dict with authFails := satAdd (2 ^ 32 - 1) s.dict.authFails 1 } }).raise 0x0522 0 0

def minute : Int := 60 * 10 ^ 9 * 65536

/-- An AUTH failure at a level, and the lockout that LOCK_LIMIT of them within 60 s begin (R610). -/
def State.levelFailed (s : State) (level : Nat) : State :=
  let l := ((SMap.get s.dict.fails [] level).filter (fun (t : Int) => decide (s.nowFull - minute < t))) ++ [s.nowFull]
  let t := s.authFailed
  if s.nv 0x8000 6 5 ≤ l.length ∧ !s.isLocked level then
    ({ t with dict := { t.dict with
        fails := SMap.set t.dict.fails [] level []
        locked := t.dict.locked ++ [level] } }).raise 0x0523 0 0
  else { t with dict := { t.dict with fails := SMap.set t.dict.fails [] level l } }

/-- The state and, of a message that is answered, its response. -/
abbrev AgOut := State × Option (List Nat)

/-- An answer before any session is known. -/
def State.agBare (s : State) (sid seq status : Nat) : AgOut := (s, some (agBytes 0x3F sid seq status [] none))

def State.agAccept (s : State) (i : Nat) : AgOut :=
  let x := s.sess i
  ((s.setSess i { x with state := 2, seen := s.nowFull }).raise 0x0520 0 0,
    some (agBytes 0x04 x.sid 0 0 (netBytes 2 x.sid ++ [x.level] ++ netBytes 2 (s.nv 0x1020 3 60)) none))

/-- HELLO (R608 to R610). -/
def State.agHello (s : State) (f : AgFrom) (m : AgMsg) : AgOut :=
  let level := m.body.headD 0
  if m.body.length ≠ 17 ∨ 3 < level ∨ m.tagged ∨ m.all ∨ m.sid ≠ 0 ∨ m.seq ≠ 0 then s.agBare 0 m.seq 0x050E
  else
    let s1 := if f.isLocal then s.sessClose f.path else s
    let slot := if f.isLocal then some f.path else ((List.range 13).map (fun i => i + 3)).find? (fun i => decide ((s1.sess i).state = 0))
    if level ≠ 0 ∧ s1.isLocked level then s1.agBare 0 0 0x050B
    else if level ≠ 0 ∧ (s1.sessKey level).isNone ∧ !f.isLocal then s1.agBare 0 0 0x0513
    else match slot with
      | none => s1.agBare 0 0 0x050D
      | some i =>
        let a := s1.fresh 29
        let b := a.2.fresh 30
        let sid := 1 + i + 16 * (a.1 % 4095)
        let nd := b.1 % 2 ^ 128
        let x : Session := { Session.free with
          state := 1
          level := level
          path := f.path
          sid := sid
          addr := f.addr
          nc := beNum (m.body.drop 1)
          nd := nd
          skey := (s1.sessKey level).getD 0
          seen := s.nowFull }
        let t := b.2.setSess i x
        if level = 0 then t.agAccept i else (t, some (agBytes 0x02 sid 0 0 (netBytes 2 sid ++ netBytes 16 nd) none))

/-- AUTH (R609, R610), under the key that the level had at the HELLO, which the slot holds while it is half open (R625). -/
def State.agAuth (s : State) (f : AgFrom) (m : AgMsg) : AgOut :=
  if m.body.length ≠ 32 ∨ m.tagged ∨ m.all ∨ m.seq ≠ 0 then s.agBare 0 m.seq 0x050E
  else match s.sessFind f m.sid with
    | none => s.agBare m.sid 0 0x0508
    | some i =>
      let x := s.sess i
      let k := x.skey
      let nc := netBytes 16 x.nc
      let nd := netBytes 16 x.nd
      if x.state ≠ 1 then s.agBare m.sid 0 0x0508
      else if beNum m.body = Config.hmac256 k (asciiBytes "AGZA" ++ nd ++ nc ++ [x.level] ++ netBytes 2 x.sid) then
        (s.setSess i { x with skey := Config.hmac256 k (asciiBytes "AGZK" ++ nc ++ nd) }).agAccept i
      else (s.levelFailed x.level).agBare m.sid 0 0x050A

/-! ## Items (R604, R613, R616) -/

/-- One item of a READ: its bytes in the response. -/
def State.agReadItem (s : State) (c : DCtx) (index sub : Nat) : State × List Nat :=
  let item (typ status : Nat) (v : List Nat) : List Nat := netBytes 2 index ++ [sub, typ] ++ netBytes 2 status ++ netBytes 2 v.length ++ v
  match s.dictFind index sub with
  | .error code => (s, item 0 code [])
  | .ok e =>
    let r := s.dictRight c e false true
    if r ≠ 0 then (s, item e.typ r [])
    else match s.userOf index sub with
      | some u => let x := s.userRead u; (x.1, item (if x.2.1 = 0 then e.typ else tU16) x.2.1 x.2.2)
      | none => match e.read s with
        | .ok v => (s, item e.typ 0 v)
        | .error code => (s, item e.typ code [])

/-- The items of a READ, four bytes each. -/
def State.agRead (s : State) (c : DCtx) : Nat → List Nat → State × List Nat
  | 0, _ => (s, [])
  | n + 1, l =>
    let x := s.agReadItem c (netField l 0 2) (netField l 2 1)
    let y := x.1.agRead c n (l.drop 4)
    (y.1, x.2 ++ y.2)

/-- An item of a WRITE. -/
structure AgItem where
  index : Nat
  sub : Nat
  typ : Nat
  val : List Nat
deriving DecidableEq, Repr

/-- The items of a WRITE body; none where it breaks its layout. -/
def agItems : Nat → List Nat → Option (List AgItem)
  | 0, l => if l = [] then some [] else none
  | n + 1, l =>
    let len := netField l 4 2
    if l.length < 6 + len then none
    else (agItems n (l.drop (6 + len))).map (fun t => ⟨netField l 0 2, netField l 2 1, netField l 3 1, (l.drop 6).take len⟩ :: t)

/-- Checks 1 to 6 of an item of a WRITE (R604); 0 where they pass. -/
def State.agCheck (s : State) (c : DCtx) (i : AgItem) : Nat :=
  match s.dictFind i.index i.sub with
  | .error code => code
  | .ok e =>
    let r := s.dictRight c e true true
    if r ≠ 0 then r else s.dictValue e i.typ i.val

/-- An item that passes them is executed: its status. -/
def State.agDo (s : State) (c : DCtx) (i : AgItem) : State × Nat :=
  match s.userOf i.index i.sub with
  | some u => s.userWrite u i.val
  | none => match s.dictFind i.index i.sub with
    | .error code => (s, code)
    | .ok e => let t := e.write c s i.val; (t, t.answer.status)

/-- Items one after another; `stop` ends at the first refusal, and the later ones carry 0x0515 (R616). -/
def State.agWrite (s : State) (c : DCtx) (stop : Bool) : List AgItem → State × List Nat
  | [] => (s, [])
  | i :: t =>
    let code := s.agCheck c i
    let x := if code ≠ 0 then (s, code) else s.agDo c i
    if stop ∧ x.2 ≠ 0 then (x.1, x.2 :: t.map (fun _ => 0x0515))
    else
      let y := x.1.agWrite c stop t
      (y.1, x.2 :: y.2)

/-- A WRITE: the status of each item (R616). -/
def State.agWriteAll (s : State) (c : DCtx) (all : Bool) (l : List AgItem) : State × List Nat :=
  let codes := l.map (fun i => s.agCheck c i)
  if all ∧ codes.any (fun x => decide (x ≠ 0)) then (s, codes.map (fun x => if x = 0 then 0x0515 else x))
  else s.agWrite c all l

/-! ## Transfers (R618) -/

def State.setXfer (s : State) (i : Nat) (x : Option Xfer) : State := s.setSess i { s.sess i with xfer := x }

/-- XFER_START: a refusal, or the length granted. -/
def State.xferStart (s : State) (c : DCtx) (i index sub : Nat) (wr : Bool) (total : Nat) : State × Except Nat Nat :=
  match s.dictFind index sub with
  | .error code => (s, .error code)
  | .ok e =>
    let r := s.dictRight c e wr false
    if r ≠ 0 then (s, .error r)
    else if !typeVar e.typ ∨ e.max < total then (s, .error 0x0505)
    else if (s.sess i).xfer.isSome then (s, .error 0x0515)
    else if wr then
      if index = 0x8015 ∧ total < 256 then (s, .error 0x0505)
      else if index = 0x8015 ∧ !s.inMode [mBOOT, mRUN, mSAFE] then (s, .error 0x0506)
      else if index = 0x4000 ∧ s.ldState ≠ ldIDLE then (s, .error 0x0140)
      else ((if index = 0x8015 then s.fwBegin else s).setXfer i (if total = 0 then none else some ⟨index, sub, true, total, 0, []⟩), .ok total)
    else
      let x : State × Nat × List Nat := match s.userOf index sub with
        | some u => s.userRead u
        | none => match e.read s with
          | .ok v => (s, 0, v)
          | .error code => (s, code, [])
      if x.2.1 ≠ 0 then (x.1, .error x.2.1)
      else
        let n := min total x.2.2.length
        (x.1.setXfer i (if n = 0 then none else some ⟨index, sub, false, n, 0, x.2.2.take n⟩), .ok n)

/-- The whole value of a write transfer has come: the status. -/
def State.xferEnd (s : State) (c : DCtx) (x : Xfer) (v : List Nat) : State × Nat :=
  match s.dictFind x.index x.sub with
  | .error code => (s, code)
  | .ok e =>
    let r := s.dictValue e e.typ v
    if r ≠ 0 then (s, r)
    else match s.userOf x.index x.sub with
      | some u => s.userWrite u v
      | none => let t := e.write c s v; (t, t.answer.status)

/-- XFER_DATA: a refusal, or the bytes of a read piece. -/
def State.xferData (s : State) (c : DCtx) (i offset : Nat) (data : List Nat) : State × Except Nat (List Nat) :=
  match (s.sess i).xfer with
  | none => (s, .error 0x0509)
  | some x =>
    if offset ≠ x.moved then (s, .error 0x0509)
    else if x.write then
      let moved := x.moved + data.length
      if data = [] then (s, .ok [])
      else if x.total < moved then (s, .error 0x0505)
      else
        let left := decide (moved < x.total)
        if x.index = 0x4000 then
          let t := s.ldDictTake (decide (x.moved = 0)) data
          if t.answer.status ≠ 0 then (s, .error t.answer.status)
          else (t.setXfer i (if left then some { x with moved := moved } else none), .ok [])
        else if x.index = 0x8015 then
          ((s.fwTake data).setXfer i (if left then some { x with moved := moved } else none), .ok [])
        else if left then (s.setXfer i (some { x with moved := moved, buf := x.buf ++ data }), .ok [])
        else
          let r := (s.setXfer i none).xferEnd c x (x.buf ++ data)
          (r.1, if r.2 = 0 then .ok [] else .error r.2)
    else
      let piece := x.buf.take 1024
      let moved := x.moved + piece.length
      (s.setXfer i (if moved < x.total then some { x with moved := moved, buf := x.buf.drop 1024 } else none), .ok piece)

/-! ## Requests of an open session (R612 to R616) -/

/-- Whether the body of a request keeps the layout of its KIND; an unknown KIND has none. -/
def agLayout (m : AgMsg) : Bool :=
  let n := m.body.headD 0
  match m.kind with
  | 0x10 => decide (1 ≤ m.body.length) && decide (n ≤ 32) && decide (m.body.length = 1 + 4 * n)
      && (List.range n).all (fun i => decide (netField m.body (4 + 4 * i) 1 = 0)) && !m.all
  | 0x12 => decide (1 ≤ m.body.length) && decide (n ≤ 32) && (agItems n (m.body.drop 1)).isSome
  | 0x20 => decide (m.body.length = 8) && decide (netField m.body 3 1 ≤ 1) && !m.all
  | 0x22 => decide (4 ≤ m.body.length) && decide (m.body.length ≤ 1028) && !m.all
  | 0x30 => decide (m.body.length = 0) && !m.all
  | _ => false

/-- Executes a request of the session in a slot: the KIND of the answer, its status and its body. -/
def State.agExec (s : State) (c : DCtx) (i : Nat) (m : AgMsg) : State × Nat × Nat × List Nat :=
  let b := m.body
  match m.kind with
  | 0x10 => let r := s.agRead c (b.headD 0) (b.drop 1); (r.1, 0x11, 0, b.headD 0 :: r.2)
  | 0x12 =>
    let l := (agItems (b.headD 0) (b.drop 1)).getD []
    let r := s.agWriteAll c m.all l
    (r.1, 0x13, 0, b.headD 0 :: (l.zip r.2).flatMap (fun x => netBytes 2 x.1.index ++ [x.1.sub, 0] ++ netBytes 2 x.2))
  | 0x20 => match s.xferStart c i (netField b 0 2) (netField b 2 1) (decide (netField b 3 1 = 1)) (netField b 4 4) with
    | (t, .ok n) => (t, 0x21, 0, netBytes 4 n)
    | (t, .error code) => (t, 0x3F, code, [])
  | 0x22 => match s.xferData c i (netField b 0 4) (b.drop 4) with
    | (t, .ok l) => (t, 0x23, 0, b.take 4 ++ l)
    | (t, .error code) => (t, 0x3F, code, [])
  | _ => (s, 0x31, 0, [])

/-- A request of an open session (R612, R614): discarded where its tag fails, else answered. -/
def State.agRequest (s : State) (f : AgFrom) (i : Nat) (m : AgMsg) : AgOut :=
  let x := s.sess i
  let t := s.setSess i { x with seen := s.nowFull }
  let say (u : State) (kind status : Nat) (body : List Nat) : AgOut := (u, some (agBytes kind x.sid m.seq status body x.tagKey))
  if x.level ≠ 0 ∧ (!m.tagged ∨ m.tag ≠ agTag x.skey m.covered) then (s.authFailed, none)
  else if (x.level = 0 ∧ m.tagged) ∨ !agLayout m then say t 0x3F 0x050E []
  else if m.seq = (x.lastSeq + 1) % 2 ^ 32 then
    let r := t.agExec ⟨f.isLocal, x.level⟩ i m
    let resp := agBytes r.2.1 x.sid m.seq r.2.2.1 r.2.2.2 x.tagKey
    if m.kind = 0x30 then (r.1.sessClose i, some resp)
    else if (r.1.sess i).state = 0 then (r.1, some resp)
    else (r.1.setSess i { r.1.sess i with lastSeq := m.seq, stored := resp }, some resp)
  else if m.seq = x.lastSeq ∧ x.stored ≠ [] then (t, some x.stored)
  else say t 0x3F 0x0507 []

/-- One message, whole (R615); the register answer stays as it was. -/
def State.agMessage (s : State) (f : AgFrom) (bytes : List Nat) : AgOut :=
  let r : AgOut := match agParse bytes with
    | none => s.agBare 0 0 0x050E
    | some m =>
      if m.kind = 0x01 then s.agHello f m
      else if m.kind = 0x03 then s.agAuth f m
      else match s.sessFind f m.sid with
        | some i => if (s.sess i).state = 2 then s.agRequest f i m else s.agBare m.sid m.seq 0x0508
        | none => s.agBare m.sid m.seq 0x0508
  ({ r.1 with answer := s.answer }, r.2)

/-! ## Paths (R619 to R622) -/

/-- A frame came over the management port, so its link is up (MGT_LINK, R623). -/
def State.mgtUp (s : State) : State := { s with dict := { s.dict with mgtLink := true } }

/-- Whether the dictionary is open (R622). -/
def State.dictOpen (s : State) : Bool := s.inMode [mBOOT, mLOAD, mRUN, mSAFE]

/-- A message that arrives on a path of an operand: it may be dropped there; its response goes back the way it came. -/
def State.agArrive (s : State) (p : AgPath) (msg : List (BitVec 8)) : State :=
  let l := msg.map (fun (b : BitVec 8) => b.toNat)
  let f := agSource p
  if !s.dictOpen then s
  else if f.path = 1 then
    match s.dict.serial with
    | none => s
    | some _ =>
      if s.ldState ≠ ldIDLE then s
      else
        let r := s.agMessage f l
        { r.1 with
          dict := { r.1.dict with serial := some l }
          out := match r.2 with | some x => [.bytes 1 x] | none => [] }
  else if s.romOnly then s
  else if f.path = 3 ∧ s.nv 0x1010 3 0 = 0 then s.mgtUp
  else if p.full then { s.mgtUp with dict := { s.mgtUp.dict with mgtDrop := satAdd (2 ^ 32 - 1) s.dict.mgtDrop 1 } }
  else
    let r := s.mgtUp.agMessage f (if f.path = 4 then agUnpad l else l)
    { r.1 with out := match r.2 with | some x => [.bytes f.path x] | none => [] }

/-- The KIND byte of a message. -/
def agKind (msg : List (BitVec 8)) : Nat := ((msg.drop 3).headD 0).toNat

/-- The KINDs of the request rows of the table. -/
def agKinds : List Nat := [0x01, 0x03, 0x10, 0x12, 0x20, 0x22, 0x30]

/-- The row of a KIND takes messages of that KIND, and those of a KIND that no row has. -/
def State.agRow (s : State) (kind : Nat) (p : AgPath) (msg : List (BitVec 8)) : State :=
  if agKind msg ≠ kind ∧ agKinds.contains (agKind msg) then s else s.agArrive p msg

/-- AGZER_HELLO (R609). -/
def execAgzerHello (path : AgPath) (msg : List (BitVec 8)) (s : State) : Host.Outcome State Fault Refusal := done (s.agRow 0x01 path msg)
/-- AGZER_AUTH (R609). -/
def execAgzerAuth (path : AgPath) (msg : List (BitVec 8)) (s : State) : Host.Outcome State Fault Refusal := done (s.agRow 0x03 path msg)
/-- AGZER_READ (R613). -/
def execAgzerRead (path : AgPath) (msg : List (BitVec 8)) (s : State) : Host.Outcome State Fault Refusal := done (s.agRow 0x10 path msg)
/-- AGZER_WRITE (R616). -/
def execAgzerWrite (path : AgPath) (msg : List (BitVec 8)) (s : State) : Host.Outcome State Fault Refusal := done (s.agRow 0x12 path msg)
/-- AGZER_XFER_START (R618). -/
def execAgzerXferStart (path : AgPath) (msg : List (BitVec 8)) (s : State) : Host.Outcome State Fault Refusal := done (s.agRow 0x20 path msg)
/-- AGZER_XFER_DATA (R618). -/
def execAgzerXferData (path : AgPath) (msg : List (BitVec 8)) (s : State) : Host.Outcome State Fault Refusal := done (s.agRow 0x22 path msg)
/-- AGZER_CLOSE (R608). -/
def execAgzerClose (path : AgPath) (msg : List (BitVec 8)) (s : State) : Host.Outcome State Fault Refusal := done (s.agRow 0x30 path msg)

/-- SESSION_IDLE_TIMEOUT (R608). -/
def execSessionIdleTimeout (slot : Fin 16) (s : State) : Host.Outcome State Fault Refusal :=
  if (s.sess slot).state = 2 then done ((s.sessClose slot).raise 0x0521 0 0) else done s

/-- AUTH_TIMEOUT (R608). -/
def execAuthTimeout (slot : Fin 16) (s : State) : Host.Outcome State Fault Refusal :=
  if (s.sess slot).state = 1 then done (s.sessClose slot) else done s

/-- LEVEL_LOCKOUT_EXPIRY (R610). -/
def execLevelLockoutExpiry (level : Fin 4) (s : State) : Host.Outcome State Fault Refusal :=
  done { s with dict := { s.dict with locked := s.dict.locked.filter (fun l => decide (l ≠ level.val)) } }

/-- A frame that the management port takes up: dropped while the dictionary is closed, counted where 16 frames already wait (R619). -/
def State.mgtTake (s : State) (full : Bool) (f : State → State) : State :=
  if !s.dictOpen || s.romOnly then s
  else if full then { s.mgtUp with dict := { s.mgtUp.dict with mgtDrop := satAdd (2 ^ 32 - 1) s.dict.mgtDrop 1 } }
  else f s.mgtUp

/-- MGT_ARP_REQUEST (R619): the answer names MGT_MAC for MGT_IP to the sender. -/
def execMgtArpRequest (mac : BitVec 48) (sender target : BitVec 32) (full : Bool) (s : State) : Host.Outcome State Fault Refusal :=
  done (s.mgtTake full (fun t =>
    let ip := t.nv 0x1010 3 0
    if ip = 0 ∨ target.toNat ≠ ip then t
    else { t with out := [.bytes 3 (netBytes 6 mac.toNat ++ netBytes 6 (Config.partConst 1) ++ [0x08, 0x06, 0, 1, 0x08, 0, 6, 4, 0, 2]
      ++ netBytes 6 (Config.partConst 1) ++ netBytes 4 ip ++ netBytes 6 mac.toNat ++ netBytes 4 sender.toNat)] }))

/-- MGT_ICMP_ECHO (R619): an echo request of up to 1,500 bytes to MGT_IP is answered with an echo reply; `echo` is what follows type, code and checksum. -/
def execMgtIcmpEcho (mac : BitVec 48) (sender target : BitVec 32) (echo : List (BitVec 8)) (full : Bool) (s : State) : Host.Outcome State Fault Refusal :=
  done (s.mgtTake full (fun t =>
    let ip := t.nv 0x1010 3 0
    if ip = 0 ∨ target.toNat ≠ ip ∨ 1500 < echo.length + 24 then t
    else { t with out := [.bytes 3 (netBytes 6 mac.toNat ++ netBytes 4 sender.toNat ++ [0, 0] ++ echo.map (fun (b : BitVec 8) => b.toNat))] }))

/-! ## The mailbox (R620, R628) -/

/-- The outcome of a doorbell. -/
def State.mbPost (s : State) (code : Nat) : State := s.post R.MB_RESULT_STATUS code

/-- A write of MB_DOORBELL: the request in MB_REQ is executed, and its response stands in MB_RSP. A message that is discarded leaves an empty one. -/
def State.mbDoorbell (s : State) (v : Nat) : State :=
  let len := bits v 0 11
  if !s.dictOpen then s
  else if len = 0 then s
  else if len < 16 ∨ agMax < len then s.mbPost 0x050E
  else
    let r := s.agMessage ⟨0, (0, 0, 0)⟩ ((List.range len).map (fun i => SMap.get s.dict.mbReq 0 i))
    let resp := r.2.getD []
    let t := { r.1 with dict := { r.1.dict with mbRsp := resp } }
    ((t.sets [(R.MB_STATUS_RLEN, resp.length), (R.MB_STATUS_DONE, 1), (R.MB_STATUS_BUSY, 0)]).mbPost 0).raise 0x0524 0 0

/-- MB_DOORBELL (R620). -/
def execMbDoorbell (data : BitVec 32) (s : State) : Host.Outcome State Fault Refusal := done (s.mbDoorbell data.toNat)

/-- DICT_STORE_WRITE (R606): the store takes the entries that are due; `fail` keeps them due and raises 0x0525. -/
def execDictStoreWrite (fail : Bool) (s : State) : Host.Outcome State Fault Refusal :=
  if s.dict.due = [] then done s
  else if fail then done (s.raise 0x0525 0 0)
  else done s.storeDue

end Sys2Proof.Machine
end

