-- ==== Sys2Proof/Machine/Bar.lean ====
section
/-!
DEFINITION. Host accesses to BAR 0 and BAR 2 (R463 to R465): what lies in the endpoint itself, and what is carried into the NoC.
-/
namespace Sys2Proof.Machine
open Sys2Proof

/-- What a word of a BAR reaches (R463, R464): a NoC address, a mailbox word, a word of the MSI-X table or of its pending-bit array, or nothing. -/
inductive BarAt where
  | noc (addr : Nat)
  | mailbox (off : Nat)
  | msix (i : Nat)
  | pending (half : Nat)
  | reserved
deriving DecidableEq, Repr

/-- The place of byte offset `o` of a BAR (0 is BAR 0, 1 is BAR 2). -/
def State.barAt (s : State) (bar o : Nat) : BarAt :=
  if bar = 1 then .noc ((s.get (R.HL_APT_BASE (o / 2 ^ 24 % 16)) * 2 ^ 24 + o % 2 ^ 24) % 2 ^ 44)
  else if o < 0x1000 then .noc (0x21000000000 + o)
  else if o < 0x2000 then .mailbox (o - 0x1000)
  else if o < 0x2400 then .msix ((o - 0x2000) / 4)
  else if 0x3000 ≤ o ∧ o < 0x3008 then .pending ((o - 0x3000) / 4)
  else if 0x10000 ≤ o ∧ o < 0x40000 then .noc (0x41000000000 + (o - 0x10000))
  else if 0x40000 ≤ o ∧ o < 0x50000 then .noc (0x7D000000000 + (o - 0x40000))
  else .reserved

/-- A word of the mailbox as the host reads it (R620, R628): MB_RSP reads 0 beyond RLEN. -/
def State.mbRead (s : State) (o : Nat) : State :=
  if o < 0x18 then s.wordRead 33 (0x100000001000 + o) 0
  else if 0x400 ≤ o ∧ o < 0xA00 then s.reply 0 (leField ((List.range 4).map (fun i => SMap.get s.dict.mbReq 0 (o - 0x400 + i))) 0 4)
  else if 0xA00 ≤ o then s.reply 0 (leField (s.dict.mbRsp.drop (o - 0xA00)) 0 4)
  else s.reply 0 0

/-- A word of the mailbox as the host writes it. -/
def State.mbWrite (s : State) (o v : Nat) : State :=
  if o = 0 then s.mbDoorbell v
  else if o < 0x18 then s.wordWrite 33 (0x100000001000 + o) v
  else if 0x400 ≤ o ∧ o < 0xA00 then { s with dict := { s.dict with mbReq := SMap.setRun s.dict.mbReq 0 (o - 0x400) (toBytes 4 v) } }
  else s

/-- A read of one word that the endpoint serves itself; none where nothing stands there. -/
def State.barLocalRead (s : State) (x : BarAt) : Option State :=
  match x with
  | .mailbox o => some (s.mbRead o)
  | .msix i => some (s.reply 0 (s.msixWord i))
  | .pending h => some (s.reply 0 (bits s.hl.msixPend (32 * h) 32))
  | _ => none

/-- A write of one such word: a write where nothing stands is dropped and logged (R463). -/
def State.barLocalWrite (s : State) (x : BarAt) (o v : Nat) : State :=
  match x with
  | .mailbox m => s.mbWrite m v
  | .msix i => s.msixWrite i v
  | .pending _ => s
  | _ => s.hlErr 0x0B04 o

/-- A completion toward the host (R465). -/
def State.hostDone (s : State) (status : Nat) (bytes : List Nat) : State := { s with out := [.tlp (.completion status bytes)] }

/-- The endpoint serves the words of a read itself: a read that meets nothing completes with UR (R463). -/
def State.barRead (s : State) (bar : Nat) : Nat → Nat → List Nat → State
  | 0, _, acc => s.hostDone 0 acc
  | n + 1, o, acc =>
    match s.barLocalRead (s.barAt bar o) with
    | none => s.hostDone 1 []
    | some t => t.barRead bar n (o + 4) (acc ++ toBytes 4 t.answer.data)

/-- The endpoint serves the words of a write itself. -/
def State.barWrite (s : State) (bar : Nat) : Nat → List Nat → State
  | _, [] => s
  | o, v :: t => (s.barLocalWrite (s.barAt bar o) o v).barWrite bar (o + 4) t

/-- A TLP is carried into the NoC, a request to each 256-byte boundary, with the tags that are free (R465): the state, and the parts of the job. -/
def State.barIssue (s : State) (wr : Bool) (upset : Option NocUpset) : Nat → Nat → Nat → List Nat → State × List (Nat × Nat × Option (Nat × List Nat))
  | 0, _, _, _ => (s, [])
  | n + 1, a, left, data =>
    if left = 0 then (s, [])
    else
      let k := min left (64 - a / 4 % 64)
      let r := s.inject 33 ((s.freeTag 33).getD 0) wr (a / 4) (a / 4 % 64 + k - 1) (data.take k) upset
      let y := r.1.barIssue wr none n (a + 4 * k) (left - k) (data.drop k)
      (y.1, (r.2, a, none) :: y.2)

/-- How many requests a run of words makes. -/
def barParts (a words : Nat) : Nat := (a / 4 % 64 + words + 63) / 64

/-- BAR_ACCESS (R463 to R465): a TLP of `words` DWs at byte offset `off`, `partialBe` where a DW of a write has a partial byte enable. A read that must
wait for earlier writes, and a TLP that finds no free tags, is not taken up. -/
def execBarAccess (bar : Fin 2) (off : BitVec 28) (wr : Bool) (words : Nat) (partialBe : Bool)
    (data : Struck (List (BitVec 32))) (s : State) : Host.Outcome State Fault Refusal :=
  let o := off.toNat / 4 * 4
  let ds := ((data.1.map (fun (d : BitVec 32) => d.toNat)) ++ List.replicate words 0).take words
  if !s.has R.HL_STATUS_UP || (decide (bar.val = 0) && decide (0x100000 ≤ o)) then done s
  else if !s.hl.memEn then done (if wr then s else s.hostDone 1 [])
  else if words = 0 then done (if wr then s else s.hostDone 0 [0, 0, 0, 0])
  else if wr ∧ partialBe then done (s.hlErr 0x0B05 (match s.barAt bar.val o with
    | .noc a => a
    | _ => o))
  else match s.barAt bar.val o with
    | .noc a =>
      let free := ((List.range 64).filter (fun t => (s.outstanding 33 t).isNone)).length
      if !s.nocUp || decide (free < barParts a words) || (!wr && s.hl.bars.any (fun j => j.wr)) then done s
      else
        let r := s.barIssue wr data.2 (words + 1) a words ds
        let j : BarJob := ⟨wr, r.2⟩
        done { r.1 with hl := { r.1.hl with bars := r.1.hl.bars ++ [j] } }.nocRun
    | _ =>
      if wr then done ((s.barWrite bar.val o ds).reply s.answer.status s.answer.data)
      else done ((s.barRead bar.val words o []).reply s.answer.status s.answer.data)

end Sys2Proof.Machine
end

