-- ==== Sys2Proof/Machine/Bridge.lean ====
section
/-!
DEFINITION. The commands of the bough port (R356 to R362), flit by flit, and the commands after which packets that waited in the network move on.
-/
namespace Sys2Proof.Machine
open Sys2Proof

/-- The 16 words of a flit's payload. -/
def payloadWords (v : BitVec 512) : List Nat := (List.range 16).map (fun i => bits v.toNat (32 * i) 32)

/-- The words of a range among those of whole flits (R341). -/
def rangeOf (waddr last : Nat) (l : List Nat) : List Nat := (l.drop (waddr % 16)).take (last + 1 - waddr % 64)

/-! ## REQ_OUT (R345, R356, R359) -/

/-- A request of the fabric of which every flit has been taken; one that names an outstanding tag, or comes while the port drains, is answered on RSP_IN. None
where RSP_IN has no room for that answer, so that the last flit is not taken yet. -/
def State.fabricReq (s : State) (b : Nat) (p : FabPart) : Option State :=
  let s1 := { s with noc := { s.noc with partReq := SMap.set s.noc.partReq none b none } }
  let q : NocReq := ⟨s.noc.next, 4 * b, p.tag, p.waddr, p.last, p.wr, 0, []⟩
  let answer (c : Nat) : Option State :=
    if 8 < s.rspInFlits b + q.rspFlits then none
    else some ({ s1 with noc := { s1.noc with next := s1.noc.next + 1 } }.owe b (q.answer (4 * b + 3) c []))
  if (s.outstanding (4 * b) p.tag).isSome then answer 0x0204
  else if s.p0 b = p0DRAINING then (answer 0x0202).map (fun t => t.bump (R.NOC_CNT_ASLEEP b) 1)
  else some (s1.inject (4 * b) p.tag p.wr p.waddr p.last (if p.wr then rangeOf p.waddr p.last p.words else []) p.upset).1

/-- Flits that the bridge's REQ_OUT and RSP_OUT buffers hold (R356). -/
def State.reqOutFlits (s : State) (b : Nat) : Nat :=
  (SMap.get s.noc.inj [] (8 * b)).foldl (fun a p => a + p.flits) 0 + (match SMap.get s.noc.partReq none b with | some p => p.words.length / 16 | none => 0)
def State.rspOutFlits (s : State) (b : Nat) : Nat :=
  rspFlits (s.noc.rsps.filter (fun r => decide (r.resp = 4 * b))) + (SMap.get s.noc.inj [] (8 * b + 1)).foldl (fun a p => a + p.flits) 0
    + (match SMap.get s.noc.partRsp none b with | some p => if p.bad then 0 else p.words.length / 16 | none => 0)

/-- BRIDGE_REQ_OUT (R345, R356, R359): a flit of the fabric's request. The header of the first flit stands for the request's other flits (assumption 74). -/
def execBridgeReqOut (b : BoughId) (tag : Fin 64) (wr : Bool) (waddr : BitVec 42) (last : BitVec 6)
    (payload : Struck (BitVec 512)) (s : State) : Host.Outcome State Fault Refusal :=
  if !s.nocUp || !s.bridgeClocked b || !s.nocOn b || decide (p0ASLEEP ≤ s.p0 b) || decide (8 ≤ s.reqOutFlits b) then done s
  else
    let p := (SMap.get s.noc.partReq none b.val).getD ⟨tag, wr, waddr.toNat, last.toNat, 0, 0, [], false, payload.2⟩
    let p := { p with words := p.words ++ payloadWords payload.1 }
    let q : NocReq := ⟨0, 0, p.tag, p.waddr, p.last, p.wr, 0, []⟩
    if p.words.length < 16 * q.flits then
      done { s with noc := { s.noc with partReq := SMap.set s.noc.partReq none b (some p) } }
    else match s.fabricReq b p with
      | some t => done t.nocRun
      | none => done s

/-! ## RSP_OUT (R357) -/

/-- A response of the fabric that breaks R357 is discarded whole, its later flits too. -/
def State.fabricRspBad (s : State) (b dest tag : Nat) (last : Bool) : State :=
  let t := { s with noc := { s.noc with partRsp := SMap.set s.noc.partRsp none b (if last then none else some ⟨tag, false, 0, 0, dest, 0, [], true, none⟩) } }
  (t.bump (R.NOC_CNT_LATE b) 1).nocLog b 0x0209 dest tag

/-- BRIDGE_RSP_OUT (R357): a flit of the fabric's response. STATUS is that of its first flit (assumption 74). -/
def execBridgeRspOut (b : BoughId) (dest : SrcId) (tag : Fin 64) (status : BitVec 16) (flit : Fin 4 × Bool) (payload : BitVec 512)
    (s : State) : Host.Outcome State Fault Refusal :=
  let fidx := flit.1
  let last := flit.2
  let start : FabPart := ⟨tag, false, 0, 0, dest, status.toNat, [], false, none⟩
  let p := (SMap.get s.noc.partRsp none b.val).getD start
  if !s.nocUp || !s.bridgeClocked b || decide (p0ASLEEP ≤ s.p0 b) || decide (8 ≤ s.rspOutFlits b) then done s
  else if p.bad then done (if last then { s with noc := { s.noc with partRsp := SMap.set s.noc.partRsp none b none } } else s)
  else match (s.tableOf b).find? (fun q => decide (q.src = dest.val) && decide (q.tag = tag.val)) with
    | none => done (s.fabricRspBad b dest tag last)
    | some q =>
      if p.dest ≠ dest.val ∨ p.tag ≠ tag.val ∨ fidx.val ≠ p.words.length / 16 ∨ last ≠ decide (fidx.val + 1 = q.rspFlits) then
        done (s.fabricRspBad b dest tag last)
      else
        let l := p.words ++ payloadWords payload
        if last then
          let t := { s with noc := { s.noc with partRsp := SMap.set s.noc.partRsp none b none } }.setTable b ((s.tableOf b).erase q)
          done (t.respond q (4 * b) p.status (rangeOf q.waddr q.last l))
        else done { s with noc := { s.noc with partRsp := SMap.set s.noc.partRsp none b (some { p with words := l }) } }

/-! ## REQ_IN and RSP_IN (R356 to R358) -/

/-- BRIDGE_REQ_IN (R356 to R358): the fabric takes the next flit of the oldest buffered request. A request enters the table with its first flit, unless the table is
full; the room that a flit leaves ends STALLED. -/
def execBridgeReqIn (b : BoughId) (s : State) : Host.Outcome State Fault Refusal :=
  match s.bufOf b with
  | [] => done s
  | q :: t =>
    let k := SMap.get s.noc.reqTaken 0 b.val
    if !s.nocUp || !s.bridgeClocked b || decide (p0ASLEEP ≤ s.p0 b) || (decide (k = 0) && decide (64 ≤ (s.tableOf b).length)) then done s
    else
      let s1 := if k = 0 then s.setTable b (s.tableOf b ++ [q]) else s
      let s2 := if k + 1 = q.flits then s1.setBuf b t else s1
      let s3 := { s2 with noc := { s2.noc with reqTaken := SMap.set s2.noc.reqTaken 0 b (if k + 1 = q.flits then 0 else k + 1) } }
      done ({ (if s3.p0 b = p0STALLED then s3.setP0 b p0OPEN else s3) with out := [q.flit b k] }).nocRun

/-- BRIDGE_RSP_IN (R356, R358): the fabric takes the next flit of the oldest response owed to it; the last one frees its tag. -/
def execBridgeRspIn (b : BoughId) (s : State) : Host.Outcome State Fault Refusal :=
  let s0 := { s with noc := { s.noc with dropping := s.noc.dropping.filter (fun k => decide (k ≠ b.val)) } }
  if !s.nocUp || !s.bridgeClocked b then done s
  else match s.rspInOf b with
  | [] => done s0
  | r :: t =>
    let k := SMap.get s.noc.rspTaken 0 b.val
    let s1 := if k + 1 = r.flits then (s0.setRspIn b t).dropOutst r.id else s0
    done ({ s1 with
      out := [r.flit b k]
      noc := { s1.noc with rspTaken := SMap.set s1.noc.rspTaken 0 b (if k + 1 = r.flits then 0 else k + 1) } }).nocRun

/-! ## Timeouts and drains (R358, R360) -/

/-- PORT_ACC_TIMEOUT (R358): a request that the bridge has no room for. What waits behind it is answered with it. -/
def execPortAccTimeout (b : BoughId) (s : State) : Host.Outcome State Fault Refusal :=
  let s1 := s.nocRun
  if s1.p0 b ≠ p0OPEN ∨ s1.p0Reqs b = [] then done s
  else done (((s1.p0Reqs b).foldl (fun (t : State) q => t.respond q (4 * b.val + 3) 0x0208 []) ((s1.p0Flush b 0).setP0 b p0STALLED))).nocRun

/-- BRIDGE_RSP_TIMEOUT (R358): the response and every further one are discarded until the fabric takes a flit. -/
def execBridgeRspTimeout (b : BoughId) (s : State) : Host.Outcome State Fault Refusal :=
  if (s.rspInOf b).isEmpty then done s
  else
    let s1 := (s.rspInOf b ++ s.p0Rsps b).foldl (fun (t : State) r => (t.nocLog b 0x0208 (4 * b.val) r.tag).dropOutst r.id) s
    let s2 := (s1.p0Flush b 1).setRspIn b []
    done ({ s2 with noc := { s2.noc with
      dropping := b.val :: s2.noc.dropping.filter (fun k => decide (k ≠ b.val))
      rspTaken := SMap.set s2.noc.rspTaken 0 b 0 } }).nocRun

/-- DRAIN_START (R360). -/
def execDrainStart (b : BoughId) (s : State) : Host.Outcome State Fault Refusal := done (s.drainStart b)
/-- DRAIN_TIMEOUT (R360). -/
def execDrainTimeout (b : BoughId) (s : State) : Host.Outcome State Fault Refusal := done (s.drainAbort b).nocRun
/-- DRAIN_COMPLETE (R360): what waits for the drain goes on. -/
def execDrainComplete (b : BoughId) (s : State) : Host.Outcome State Fault Refusal := done (s.drained b).nocRun

/-! ## Other commands that let packets move on -/

/-- GRANARY_ACCESS (R376): bank `g` serves a request, and its queue has room for the next (R375). -/
def execGranaryAccess (g : Fin 64) (testWait : Bool) (s : State) : Host.Outcome State Fault Refusal := done (s.grNext g testWait).nocRun

/-- SWAP_RELEASE (R530): S24 of a bough; requests that its held port kept go on to the new design (R362). -/
def execSwapRelease (b : BoughId) (s : State) : Host.Outcome State Fault Refusal := done (s.swapRelease b).nocRun

/-- MODE_TRANSITION_COMPLETE (R45, R52). -/
def execModeTransitionComplete (s : State) : Host.Outcome State Fault Refusal := done s.transEnd.nocRun

end Sys2Proof.Machine
end

