-- ==== Sys2Proof/Machine/Tap.lean ====
section
/-!
DEFINITION. The test access port, the debug authorization and the debug access port (R630 to R639). A command loads its instruction (Capture-IR,
Update-IR) and makes one scan of its data register; what Capture-IR and Capture-DR return stands in `out`.
-/
namespace Sys2Proof.Machine
open Sys2Proof

def tapBYPASS : Nat := 0xFF
def tapCFG : Nat := 0x13

/-- The authorization and the modes of an instruction (R630); none for an unlisted code, which acts as BYPASS. -/
def tapNeed (code : Nat) : Option (Nat × List Nat) :=
  let any := [mBOOT, mLOAD, mRUN, mSAFE]
  match code with
  | 0x00 | 0x03 | 0x04 | 0x05 | 0x06 => some (2, [mBOOT, mSAFE])
  | 0x01 | 0x11 => some (1, any)
  | 0x02 => some (0, mSTANDBY :: any)
  | 0x10 | 0x12 | 0x13 | 0x14 => some (0, any)
  | 0x1F => some (0, [mSTANDBY])
  | _ => none

/-- The instructions that drive the pins (R633). -/
def tapDrives (code : Nat) : Bool := [0x00, 0x03, 0x04, 0x05, 0x06].contains code

/-- What Capture-IR returns (R631). -/
def State.tapIrWord (s : State) : Nat := 1 + 4 * s.dbgLevel + 16 * s.tap.outcome

/-- Whether the loader is busy with a source other than JTAG (R635). -/
def State.ldBusyElse (s : State) : Bool := decide (s.ldState ≠ ldIDLE) && decide (s.get R.LD_STATUS_SRC ≠ srcJTAG)

/-- The outcome of an Update-IR and the code of a refusal (R631). -/
def State.tapCheck (s : State) (code : Nat) : Nat × Nat :=
  match tapNeed code with
  | none => (0, 0)
  | some (level, modes) =>
    if s.dbgLevel < level then (1, 0x0E02)
    else if !s.inMode modes then (2, 0x0E07)
    else if code = tapCFG ∧ s.ldBusyElse then (3, 0x0140)
    else (0, 0)

/-- Capture-IR and Update-IR (R631, R633): whether the instruction is accepted. A refused one acts as BYPASS. -/
def State.tapLoad (s : State) (code : Nat) : State × Bool :=
  let c := s.tapCheck code
  let ir := if c.1 ≠ 0 ∨ (tapNeed code).isNone then tapBYPASS else code
  ({ s with
      out := [.word 40 s.tapIrWord]
      tap := { s.tap with
        ir := ir
        outcome := c.1
        tapstat := if c.1 = 0 then s.tap.tapstat else c.2
        pins := if tapDrives ir then some ir else none } }, decide (c.1 = 0))

/-- What Capture-DR returned, after Capture-IR. -/
def State.tapOut (s : State) (v : Nat) : State := { s with out := s.out ++ [.word 40 v] }

/-- An instruction is loaded, and `f` is its scan where it is accepted; while the device is OFF there is no TAP. -/
def State.tapRun (s : State) (code : Nat) (f : State → State) : State :=
  if s.mode0 = mOFF then s
  else
    let r := s.tapLoad code
    if r.2 then f r.1 else r.1

def State.setBoundary (s : State) (v : Nat) : State := { s with tap := { s.tap with boundary := v } }

/-- TAP_RESET (R630, R631, R638): TRST_L low also ends the grant and clears the code of TAPSTAT. -/
def execTapReset (trst : Bool) (s : State) : Host.Outcome State Fault Refusal :=
  if s.mode0 = mOFF then done s
  else
    let t := { s with tap := { s.tap with ir := 0x02, pins := none } }
    if trst then
      let u := t.grantEnd
      done { u with tap := { u.tap with tapstat := 0 } }
    else done t

/-- TAP_EXTEST (R633). -/
def execTapExtest (data : BitVec 1146) (s : State) : Host.Outcome State Fault Refusal := done (s.tapRun 0x00 (fun t => t.setBoundary data.toNat))
/-- TAP_SAMPLE_PRELOAD (R633): the pins are captured, and the boundary register is loaded. -/
def execTapSamplePreload (captured data : BitVec 1146) (s : State) : Host.Outcome State Fault Refusal :=
  done (s.tapRun 0x01 (fun t => (t.setBoundary data.toNat).tapOut captured.toNat))
/-- TAP_IDCODE (R632). -/
def execTapIdcode (s : State) : Host.Outcome State Fault Refusal := done (s.tapRun 0x02 (fun t => t.tapOut 0x1904833D))
/-- TAP_CLAMP (R630). -/
def execTapClamp (s : State) : Host.Outcome State Fault Refusal := done (s.tapRun 0x03 id)
/-- TAP_HIGHZ (R630). -/
def execTapHighz (s : State) : Host.Outcome State Fault Refusal := done (s.tapRun 0x04 id)
/-- TAP_EXTEST_PULSE (R633). -/
def execTapExtestPulse (data : BitVec 1146) (s : State) : Host.Outcome State Fault Refusal := done (s.tapRun 0x05 (fun t => t.setBoundary data.toNat))
/-- TAP_EXTEST_TRAIN (R633). -/
def execTapExtestTrain (data : BitVec 1146) (s : State) : Host.Outcome State Fault Refusal := done (s.tapRun 0x06 (fun t => t.setBoundary data.toNat))
/-- TAP_BYPASS (R631): an instruction is loaded, and no data register is scanned. -/
def execTapBypass (code : BitVec 8) (s : State) : Host.Outcome State Fault Refusal := done (s.tapRun code.toNat id)
/-- TAP_WAKE (R634). -/
def execTapWake (s : State) : Host.Outcome State Fault Refusal := done (s.tapRun 0x1F (fun t => t.wake))
/-- TAP_TAPSTAT (R631). -/
def execTapTapstat (s : State) : Host.Outcome State Fault Refusal :=
  done (s.tapRun 0x14 (fun t => t.tapOut (t.tap.tapstat + t.dbgLevel * 2 ^ 16 + t.get R.DBG_SC_STAT_HALTED * 2 ^ 18)))

/-! ## Authorization (R636, R637, R680) -/

/-- A failure that only shows in TAPSTAT. -/
def State.tapRefuse (s : State) (code : Nat) : State := { s with tap := { s.tap with tapstat := code } }

/-- A counted failure; the third within 60 s locks AUTH and raises 0x0E04. -/
def State.tapFail (s : State) : State :=
  let l := (s.tap.fails.filter (fun (t : Int) => decide (s.nowFull - minute < t))) ++ [s.nowFull]
  let lock := decide (3 ≤ l.length)
  let t := ({ s with tap := { s.tap with
      tapstat := 0x0E03
      authFails := satAdd (2 ^ 32 - 1) s.tap.authFails 1
      fails := if lock then [] else l
      locked := s.tap.locked || lock } }).raise 0x0E31 0 0
  if lock then t.raise 0x0E04 0 0 else t

/-- The key of a debug level in a proof: an unset one counts as zeros, a damaged one is not used (R674, R680). -/
def State.dbgProofKey (s : State) (level : Nat) : Option Nat :=
  match (s.dbgKeyOf level).state 32 with
  | 0 => some 0
  | 1 => some (s.dbgKeyOf level).data
  | _ => none

/-- Whether a proof is right for a level and a nonce (R637). -/
def State.dbgProofOk (s : State) (level nd proof : Nat) : Bool :=
  match s.dbgProofKey level with
  | none => false
  | some k => decide (proof = Config.hmac256 k (asciiBytes "AGZD" ++ netBytes 16 nd ++ [level] ++ netBytes 8 (Config.partConst 0)))

/-- Whether the policy disables a level (R677): DBG_FULL_OFF level 2, DBG_ALL_OFF both. -/
def State.dbgDisabled (s : State) (level : Nat) : Bool := s.policyBit 4 || (decide (level = 2) && s.policyBit 3)

/-- Update-DR of the authorization register (R637). -/
def State.tapAuth (s : State) (nd proof level : Nat) (revoke : Bool) : State :=
  if revoke then s.grantEnd
  else if s.tap.locked then s.tapRefuse 0x0E04
  else if level = 0 ∨ level = 3 then s.tapFail
  else if s.dbgDisabled level then s.tapRefuse 0x0E05
  else if !s.dbgProofOk level nd proof then s.tapFail
  else
    let t := if s.dbgLevel = 2 ∧ level ≠ 2 then s.grantEnd else s
    ({ t with dbgLevel := level }).raise 0x0E30 0 0

/-- TAP_AUTH_UPDATE (R637): the nonce of the scan is left open (place 31). -/
def execTapAuthUpdate (proof : BitVec 256) (level : BitVec 2) (revoke : Bool) (s : State) : Host.Outcome State Fault Refusal :=
  done (s.tapRun 0x10 (fun t =>
    let n := t.fresh 31
    let nd := n.1 % 2 ^ 128
    (n.2.tapOut (nd + t.dbgLevel * 2 ^ 128 + ofFlag t.tap.locked * 2 ^ 130)).tapAuth nd proof.toNat level.toNat revoke))

/-- TAP_AUTH_LOCKOUT_EXPIRY (R637). -/
def execTapAuthLockoutExpiry (s : State) : Host.Outcome State Fault Refusal := done { s with tap := { s.tap with locked := false } }

/-! ## The debug access port (R639) -/

/-- A DAP access that is refused shows its code as its status. -/
def State.dapRefuse (s : State) (code : Nat) : State :=
  { s with tap := { s.tap with
      dapStatus := code
      tapstat := code } }

/-- Update-DR of the DAP register. -/
def State.dapStart (s : State) (data addr op : Nat) (upset : Option NocUpset) : State :=
  let wr := decide (op = 3 ∨ op = 4)
  let wide := decide (op = 2 ∨ op = 4)
  if op = 0 then s
  else if s.tap.dapWait.isSome then s.tapRefuse 0x0E10
  else if 4 < op then s.dapRefuse 0x0E08
  else if wr ∧ s.dbgLevel ≠ 2 then s.dapRefuse 0x0E02
  else if addr % (if wide then 8 else 4) ≠ 0 then s.dapRefuse 0x0203
  else match s.freeTag 161 with
    | none => s.tapRefuse 0x0E10
    | some tag =>
      let ws := if wr then (if wide then [data % 2 ^ 32, data / 2 ^ 32] else [data % 2 ^ 32]) else []
      let r := s.inject 161 tag wr (addr / 4) (addr / 4 % 64 + (if wide then 1 else 0)) ws upset
      { r.1 with tap := { r.1.tap with dapWait := some r.2 } }.nocRun

/-- DAP_ACCESS (R639). -/
def execDapAccess (data : Struck Word64) (addr : NocAddr) (op : BitVec 3) (s : State) : Host.Outcome State Fault Refusal :=
  done (s.tapRun 0x11 (fun t =>
    (t.tapOut (t.tap.dapData % 2 ^ 64 + t.tap.dapStatus * 2 ^ 64 + ofFlag t.tap.dapWait.isSome * 2 ^ 80)).dapStart data.1.toNat addr.toNat op.toNat data.2))

/-! ## Agzer bytes and stream bits (R635) -/

/-- A byte of a request: the message is executed when its last byte has come. -/
def State.agzByte (s : State) (b : Nat) : State :=
  let l := s.tap.agReq ++ [b]
  let n := 16 + netField l 6 2 + (if bit (netField l 14 2) 0 = 1 then 16 else 0)
  if l.length < 16 ∨ (l.length < n ∧ l.length ≤ agMax) then { s with tap := { s.tap with agReq := l, agRsp := [] } }
  else
    let r := s.agMessage ⟨2, (0, 0, 0)⟩ l
    { r.1 with tap := { r.1.tap with agReq := [], agRsp := r.2.getD [] } }

/-- TAP_AGZER (R635): one response byte is captured, and one request byte passes. -/
def execTapAgzer (valid : Bool) (byte : BitVec 8) (s : State) : Host.Outcome State Fault Refusal :=
  done (s.tapRun 0x12 (fun t =>
    let w := match t.tap.agRsp with | [] => 0 | b :: _ => 256 + b
    let u := { t with tap := { t.tap with agRsp := t.tap.agRsp.drop 1 } }.tapOut w
    if valid then u.agzByte byte.toNat else u))

/-- Whole bytes of a run of bits, bit 0 first, and the bits that are short of one. -/
def bitBytes : Nat → List Nat → List Nat × List Nat
  | 0, l => ([], l)
  | n + 1, l =>
    if l.length < 8 then ([], l)
    else
      let r := bitBytes n (l.drop 8)
      (((l.take 8).foldr (fun b a => b + 2 * a) 0) :: r.1, r.2)

/-- CFG_IN as it is loaded: a stream begins where the loader is idle, and a refused one is no longer discarded (R488, R510). -/
def State.cfgBegin (s : State) : State :=
  let t := { s with tap := { s.tap with cfgBits := [] } }
  if t.ldState = ldIDLE then t.ldStart srcJTAG 0 0 15 161 else t

/-- TAP_CFG_IN (R635): CFG_IN is loaded unless it is in force; the bits pass to the loader. -/
def execTapCfgIn (bits : List Bool) (s : State) : Host.Outcome State Fault Refusal :=
  let shift (t : State) : State :=
    if t.ldState = ldIDLE then t
    else
      let r := bitBytes (bits.length + 8) (t.tap.cfgBits ++ bits.map ofFlag)
      { t with tap := { t.tap with cfgBits := r.2 } }.ldTake r.1
  if s.mode0 ≠ mOFF ∧ s.tap.ir = tapCFG ∧ !s.ldBusyElse ∧ s.inMode [mBOOT, mLOAD, mRUN, mSAFE] then done (shift s)
  else done (s.tapRun tapCFG (fun t => shift t.cfgBegin))

end Sys2Proof.Machine
end

