-- ==== Sys2Proof/Machine/Dispatch.lean ====
section
/-!
DEFINITION. What each command does: one arm per constructor, each one call of the command's meaning.
-/
namespace Sys2Proof.Machine
open Sys2Proof

def exec (i : Instr) (s : State) : Host.Outcome State Fault Refusal :=
  match i with
  | .registerWrite src addr wide data hwSet => Sys2Proof.Machine.execRegisterWrite src addr wide data hwSet s
  | .writeLowerHalf src addr data => Sys2Proof.Machine.execWriteLowerHalf src addr data s
  | .writeUpperHalf src addr data => Sys2Proof.Machine.execWriteUpperHalf src addr data s
  | .readLowerHalf src addr => Sys2Proof.Machine.execReadLowerHalf src addr s
  | .readUpperHalf src addr => Sys2Proof.Machine.execReadUpperHalf src addr s
  | .debugRead addr wide => Sys2Proof.Machine.execDebugRead addr wide s
  | .rcRead src addr hwSet => Sys2Proof.Machine.execRcRead src addr hwSet s
  | .porRelease insertHigh straps => Sys2Proof.Machine.execPorRelease insertHigh straps s
  | .coreRailsGoodBoot => Sys2Proof.Machine.execCoreRailsGoodBoot s
  | .railGood r => Sys2Proof.Machine.execRailGood r s
  | .railLostAonAux aux => Sys2Proof.Machine.execRailLostAonAux aux s
  | .railLostNocSram sram => Sys2Proof.Machine.execRailLostNocSram sram s
  | .railLostFabric point => Sys2Proof.Machine.execRailLostFabric point s
  | .railLostSerial high => Sys2Proof.Machine.execRailLostSerial high s
  | .railLostVcco bank => Sys2Proof.Machine.execRailLostVcco bank s
  | .vbattLost => Sys2Proof.Machine.execVbattLost s
  | .wakeLFalling => Sys2Proof.Machine.execWakeLFalling s
  | .tamperAsserted held => Sys2Proof.Machine.execTamperAsserted held s
  | .thermalShutdown sensor reading => Sys2Proof.Machine.execThermalShutdown sensor reading s
  | .thermHotChange hottest => Sys2Proof.Machine.execThermHotChange hottest s
  | .insertLDeasserted => Sys2Proof.Machine.execInsertLDeasserted s
  | .insertLDeassertIdle => Sys2Proof.Machine.execInsertLDeassertIdle s
  | .insertLAsserted => Sys2Proof.Machine.execInsertLAsserted s
  | .modeReqStandby src confirm => Sys2Proof.Machine.execModeReqStandby src confirm s
  | .modeReqBoot src confirm => Sys2Proof.Machine.execModeReqBoot src confirm s
  | .modeReqLoad src confirm => Sys2Proof.Machine.execModeReqLoad src confirm s
  | .modeReqSafe src confirm => Sys2Proof.Machine.execModeReqSafe src confirm s
  | .modeTransitionComplete => Sys2Proof.Machine.execModeTransitionComplete s
  | .devWakeWrite src data => Sys2Proof.Machine.execDevWakeWrite src data s
  | .devWakeFire => Sys2Proof.Machine.execDevWakeFire s
  | .cmcFwAuthFail => Sys2Proof.Machine.execCmcFwAuthFail s
  | .cmcFwBoot auth0 auth1 => Sys2Proof.Machine.execCmcFwBoot auth0 auth1 s
  | .regulatorWindow b ratio temp => Sys2Proof.Machine.execRegulatorWindow b ratio temp s
  | .autoDownDeferredStart b => Sys2Proof.Machine.execAutoDownDeferredStart b s
  | .bmWriteback b k portB => Sys2Proof.Machine.execBmWriteback b k portB s
  | .bmCntClr b corr unc => Sys2Proof.Machine.execBmCntClr b corr unc s
  | .bmInject b data => Sys2Proof.Machine.execBmInject b data s
  | .bmErrPop b => Sys2Proof.Machine.execBmErrPop b s
  | .slResPRead b idx debug => Sys2Proof.Machine.execSlResPRead b idx debug s
  | .sqEventArrival b a ch kind => Sys2Proof.Machine.execSqEventArrival b a ch kind s
  | .sqEventTaken b a held => Sys2Proof.Machine.execSqEventTaken b a held s
  | .sqCmdEvent b a ch => Sys2Proof.Machine.execSqCmdEvent b a ch s
  | .sqCmdStop b a => Sys2Proof.Machine.execSqCmdStop b a s
  | .sqStopTaken b a held => Sys2Proof.Machine.execSqStopTaken b a held s
  | .sqCmdClear b a => Sys2Proof.Machine.execSqCmdClear b a s
  | .sqCmdClrcnt b a stall lost fix => Sys2Proof.Machine.execSqCmdClrcnt b a stall lost fix s
  | .sqIstoreWrite b a w data => Sys2Proof.Machine.execSqIstoreWrite b a w data s
  | .seqFetch b a upset => Sys2Proof.Machine.execSeqFetch b a upset s
  | .seqMem b a => Sys2Proof.Machine.execSeqMem b a s
  | .seqMac b a => Sys2Proof.Machine.execSeqMac b a s
  | .seqLop b a => Sys2Proof.Machine.execSeqLop b a s
  | .seqSop b a => Sys2Proof.Machine.execSeqSop b a s
  | .seqBr b a => Sys2Proof.Machine.execSeqBr b a s
  | .seqRepeat b a => Sys2Proof.Machine.execSeqRepeat b a s
  | .seqSetag b a => Sys2Proof.Machine.execSeqSetag b a s
  | .seqSetmode b a => Sys2Proof.Machine.execSeqSetmode b a s
  | .seqWait b a => Sys2Proof.Machine.execSeqWait b a s
  | .seqEnd b a => Sys2Proof.Machine.execSeqEnd b a s
  | .seqSig b a => Sys2Proof.Machine.execSeqSig b a s
  | .seqStallRelease b a cycles => Sys2Proof.Machine.execSeqStallRelease b a cycles s
  | .foscMonWindow count => Sys2Proof.Machine.execFoscMonWindow count s
  | .foscLoss => Sys2Proof.Machine.execFoscLoss s
  | .cmcClockSwitch => Sys2Proof.Machine.execCmcClockSwitch s
  | .monWindowEnd m count => Sys2Proof.Machine.execMonWindowEnd m count s
  | .monLossTrip m => Sys2Proof.Machine.execMonLossTrip m s
  | .monRefLoss m => Sys2Proof.Machine.execMonRefLoss m s
  | .monCfgWrite src m stat data => Sys2Proof.Machine.execMonCfgWrite src m stat data s
  | .muxSelWrite src mux data => Sys2Proof.Machine.execMuxSelWrite src mux data s
  | .muxSwitchComplete mux => Sys2Proof.Machine.execMuxSwitchComplete mux s
  | .muxForcedSwitch mux => Sys2Proof.Machine.execMuxForcedSwitch mux s
  | .muxSwitchStall mux => Sys2Proof.Machine.execMuxSwitchStall mux s
  | .muxInputFailed mux => Sys2Proof.Machine.execMuxInputFailed mux s
  | .muxDeferredSwitch mux => Sys2Proof.Machine.execMuxDeferredSwitch mux s
  | .muxRevert mux => Sys2Proof.Machine.execMuxRevert mux s
  | .cpCfgWrite src p out data => Sys2Proof.Machine.execCpCfgWrite src p out data s
  | .pllLock p refKhz => Sys2Proof.Machine.execPllLock p refKhz s
  | .pllLockTimeout p => Sys2Proof.Machine.execPllLockTimeout p s
  | .pllLockLost p => Sys2Proof.Machine.execPllLockLost p s
  | .gclFnomWrite src g data => Sys2Proof.Machine.execGclFnomWrite src g data s
  | .gclFreqMeasure g khz => Sys2Proof.Machine.execGclFreqMeasure g khz s
  | .bckWrite src b n data => Sys2Proof.Machine.execBckWrite src b n data s
  | .clkoutWrite src o data => Sys2Proof.Machine.execClkoutWrite src o data s
  | .opReqRaise src b target => Sys2Proof.Machine.execOpReqRaise src b target s
  | .opReqLower src b target => Sys2Proof.Machine.execOpReqLower src b target s
  | .opReqRest src b => Sys2Proof.Machine.execOpReqRest src b s
  | .opReqReturnFromRest src b => Sys2Proof.Machine.execOpReqReturnFromRest src b s
  | .opReqOff src b => Sys2Proof.Machine.execOpReqOff src b s
  | .opReqFromOff src b target => Sys2Proof.Machine.execOpReqFromOff src b target s
  | .opRailSlotGrant => Sys2Proof.Machine.execOpRailSlotGrant s
  | .opChangeComplete b => Sys2Proof.Machine.execOpChangeComplete b s
  | .opLockTimeoutRevert b => Sys2Proof.Machine.execOpLockTimeoutRevert b s
  | .timeWrap => Sys2Proof.Machine.execTimeWrap s
  | .halfPeriod => Sys2Proof.Machine.execHalfPeriod s
  | .tpIncBaseWrite src data => Sys2Proof.Machine.execTpIncBaseWrite src data s
  | .adjApply => Sys2Proof.Machine.execAdjApply s
  | .tpStepWrite src data => Sys2Proof.Machine.execTpStepWrite src data s
  | .stepApply => Sys2Proof.Machine.execStepApply s
  | .tpSlewStart src data => Sys2Proof.Machine.execTpSlewStart src data s
  | .tpSlewAbort src data => Sys2Proof.Machine.execTpSlewAbort src data s
  | .slewEnd => Sys2Proof.Machine.execSlewEnd s
  | .tpllMuxWrite src data => Sys2Proof.Machine.execTpllMuxWrite src data s
  | .tpllRefLoss => Sys2Proof.Machine.execTpllRefLoss s
  | .tpllRefRequalify idx => Sys2Proof.Machine.execTpllRefRequalify idx s
  | .tpllCfgWrite src data => Sys2Proof.Machine.execTpllCfgWrite src data s
  | .tpllLock refHz => Sys2Proof.Machine.execTpllLock refHz s
  | .tpllHold => Sys2Proof.Machine.execTpllHold s
  | .distCalibrated => Sys2Proof.Machine.execDistCalibrated s
  | .distCheckFail consumer passes => Sys2Proof.Machine.execDistCheckFail consumer passes s
  | .srvOffsWr src data => Sys2Proof.Machine.execSrvOffsWr src data s
  | .srvPhaseMeasurement psrc theta => Sys2Proof.Machine.execSrvPhaseMeasurement psrc theta s
  | .srvFreqMeasurement ferr => Sys2Proof.Machine.execSrvFreqMeasurement ferr s
  | .srvMissTimeout => Sys2Proof.Machine.execSrvMissTimeout s
  | .srvCmdHold src => Sys2Proof.Machine.execSrvCmdHold src s
  | .srvCmdRelease src => Sys2Proof.Machine.execSrvCmdRelease src s
  | .srvCmdReset src => Sys2Proof.Machine.execSrvCmdReset src s
  | .srvSettingsWrite src reg data => Sys2Proof.Machine.execSrvSettingsWrite src reg data s
  | .ppsEdge idx time falling => Sys2Proof.Machine.execPpsEdge idx time falling s
  | .ppsMiss idx => Sys2Proof.Machine.execPpsMiss idx s
  | .ppsCfgWrite src idx reg data => Sys2Proof.Machine.execPpsCfgWrite src idx reg data s
  | .fdGateEnd periods span => Sys2Proof.Machine.execFdGateEnd periods span s
  | .hoSample => Sys2Proof.Machine.execHoSample s
  | .hoSteerUpdate => Sys2Proof.Machine.execHoSteerUpdate s
  | .hoPredict => Sys2Proof.Machine.execHoPredict s
  | .modelClr src => Sys2Proof.Machine.execModelClr src s
  | .hoTempPoll reading => Sys2Proof.Machine.execHoTempPoll reading s
  | .hoTempWr src data => Sys2Proof.Machine.execHoTempWr src data s
  | .hoTempTimeout => Sys2Proof.Machine.execHoTempTimeout s
  | .tlArm src slot rel => Sys2Proof.Machine.execTlArm src slot rel s
  | .tlDisarm src slot => Sys2Proof.Machine.execTlDisarm src slot s
  | .tlClrstat src slot => Sys2Proof.Machine.execTlClrstat src slot s
  | .tlSlotFire => Sys2Proof.Machine.execTlSlotFire s
  | .trgSw src b mask => Sys2Proof.Machine.execTrgSw src b mask s
  | .tlLogPop => Sys2Proof.Machine.execTlLogPop s
  | .cuEnable src u data level => Sys2Proof.Machine.execCuEnable src u data level s
  | .cuEdge u time wraps rising => Sys2Proof.Machine.execCuEdge u time wraps rising s
  | .cuPop u => Sys2Proof.Machine.execCuPop u s
  | .nocRequest src tag wr waddr last data upset => Sys2Proof.Machine.execNocRequest src tag wr waddr last data upset s
  | .nocResponse dest tag upset => Sys2Proof.Machine.execNocResponse dest tag upset s
  | .bridgeReqOut b tag wr waddr last payload => Sys2Proof.Machine.execBridgeReqOut b tag wr waddr last payload s
  | .bridgeRspOut b dest tag status flit payload => Sys2Proof.Machine.execBridgeRspOut b dest tag status flit payload s
  | .portAccTimeout b => Sys2Proof.Machine.execPortAccTimeout b s
  | .bridgeRspTimeout b => Sys2Proof.Machine.execBridgeRspTimeout b s
  | .drainStart b => Sys2Proof.Machine.execDrainStart b s
  | .drainTimeout b => Sys2Proof.Machine.execDrainTimeout b s
  | .drainComplete b => Sys2Proof.Machine.execDrainComplete b s
  | .nocRspTimeout src tag => Sys2Proof.Machine.execNocRspTimeout src tag s
  | .epochGo src => Sys2Proof.Machine.execEpochGo src s
  | .epochChangeComplete => Sys2Proof.Machine.execEpochChangeComplete s
  | .nocTblWrite src b bank w data => Sys2Proof.Machine.execNocTblWrite src b bank w data s
  | .nocCntClr src b => Sys2Proof.Machine.execNocCntClr src b s
  | .nocErrPop b => Sys2Proof.Machine.execNocErrPop b s
  | .granaryAccess g testWait => Sys2Proof.Machine.execGranaryAccess g testWait s
  | .grPwrOn src g => Sys2Proof.Machine.execGrPwrOn src g s
  | .grPwrRet src g => Sys2Proof.Machine.execGrPwrRet src g s
  | .grPwrOff src g => Sys2Proof.Machine.execGrPwrOff src g s
  | .gbPowerChangeComplete g => Sys2Proof.Machine.execGbPowerChangeComplete g s
  | .bankClearComplete g => Sys2Proof.Machine.execBankClearComplete g s
  | .grRepair src g row => Sys2Proof.Machine.execGrRepair src g row s
  | .repairComplete k => Sys2Proof.Machine.execRepairComplete k s
  | .grConfClr src g => Sys2Proof.Machine.execGrConfClr src g s
  | .grCntClr src g => Sys2Proof.Machine.execGrCntClr src g s
  | .grBtNow src k => Sys2Proof.Machine.execGrBtNow src k s
  | .btRegionTest k fault => Sys2Proof.Machine.execBtRegionTest k fault s
  | .grIntlvWrite src k data => Sys2Proof.Machine.execGrIntlvWrite src k data s
  | .grInject src k data => Sys2Proof.Machine.execGrInject src k data s
  | .grErrPop k => Sys2Proof.Machine.execGrErrPop k s
  | .qdPllWrite src q j data refKhz => Sys2Proof.Machine.execQdPllWrite src q j data refKhz s
  | .qpllLock q j => Sys2Proof.Machine.execQpllLock q j s
  | .qpllLockLost q j => Sys2Proof.Machine.execQpllLockLost q j s
  | .lnCfgWrite src n data => Sys2Proof.Machine.execLnCfgWrite src n data s
  | .lnEqTxWrite src n data => Sys2Proof.Machine.execLnEqTxWrite src n data s
  | .linkTrainingTapRequest n taps => Sys2Proof.Machine.execLinkTrainingTapRequest n taps s
  | .lnRestart src n => Sys2Proof.Machine.execLnRestart src n s
  | .laneLeaveOff n => Sys2Proof.Machine.execLaneLeaveOff n s
  | .laneDetectPulse n found => Sys2Proof.Machine.execLaneDetectPulse n found s
  | .laneAdapted n ctle vga dfe => Sys2Proof.Machine.execLaneAdapted n ctle vga dfe s
  | .laneTrainTimeout n => Sys2Proof.Machine.execLaneTrainTimeout n s
  | .laneLocked n => Sys2Proof.Machine.execLaneLocked n s
  | .laneLockTimeout n => Sys2Proof.Machine.execLaneLockTimeout n s
  | .laneActive n => Sys2Proof.Machine.execLaneActive n s
  | .laneCapsTimeout n => Sys2Proof.Machine.execLaneCapsTimeout n s
  | .laneLockLost n => Sys2Proof.Machine.execLaneLockLost n s
  | .laneSignalLost n => Sys2Proof.Machine.execLaneSignalLost n s
  | .laneFailExpiry n => Sys2Proof.Machine.execLaneFailExpiry n s
  | .lnPrbsClr src n => Sys2Proof.Machine.execLnPrbsClr src n s
  | .lnInjOne src n => Sys2Proof.Machine.execLnInjOne src n s
  | .prbsCheckerLock n rx => Sys2Proof.Machine.execPrbsCheckerLock n rx s
  | .prbsCheckerLost n rx => Sys2Proof.Machine.execPrbsCheckerLost n rx s
  | .lnPrbsBitsRead n => Sys2Proof.Machine.execLnPrbsBitsRead n s
  | .eyePoint src n => Sys2Proof.Machine.execEyePoint src n s
  | .eyeMargin src n => Sys2Proof.Machine.execEyeMargin src n s
  | .eyeAbort src n points => Sys2Proof.Machine.execEyeAbort src n points s
  | .eyeScanComplete n points => Sys2Proof.Machine.execEyeScanComplete n points s
  | .lnEyeRes1Read n => Sys2Proof.Machine.execLnEyeRes1Read n s
  | .llCapsRx q content ack skew => Sys2Proof.Machine.execLlCapsRx q content ack skew s
  | .llMarkerRx n payload crc => Sys2Proof.Machine.execLlMarkerRx n payload crc s
  | .llElasticOverflow q => Sys2Proof.Machine.execLlElasticOverflow q s
  | .jsCfgWrite src q data => Sys2Proof.Machine.execJsCfgWrite src q data s
  | .jesdSysref q onPhase chunk octet time => Sys2Proof.Machine.execJesdSysref q onPhase chunk octet time s
  | .jesdSysrefTimeout q => Sys2Proof.Machine.execJesdSysrefTimeout q s
  | .jesdIlasRx q lanes f k => Sys2Proof.Machine.execJesdIlasRx q lanes f k s
  | .jesdResync q errors => Sys2Proof.Machine.execJesdResync q errors s
  | .stRxChunk q data => Sys2Proof.Machine.execStRxChunk q data s
  | .stRxChunkWritten q => Sys2Proof.Machine.execStRxChunkWritten q s
  | .stRxRdWrite src q data => Sys2Proof.Machine.execStRxRdWrite src q data s
  | .stTxWrite q waddr last data => Sys2Proof.Machine.execStTxWrite q waddr last data s
  | .stMarkPosRead q => Sys2Proof.Machine.execStMarkPosRead q s
  | .peCfgWrite src k data => Sys2Proof.Machine.execPeCfgWrite src k data s
  | .chCfgWrite src ch data => Sys2Proof.Machine.execChCfgWrite src ch data s
  | .channelLinkUp ch => Sys2Proof.Machine.execChannelLinkUp ch s
  | .channelLinkDown ch => Sys2Proof.Machine.execChannelLinkDown ch s
  | .rxFrame ch bytes time fecOfs fecCorr fecUnc => Sys2Proof.Machine.execRxFrame ch bytes time fecOfs fecCorr fecUnc s
  | .chRxqPop ch q => Sys2Proof.Machine.execChRxqPop ch q s
  | .loftAlloc src ch len => Sys2Proof.Machine.execLoftAlloc src ch len s
  | .loftRelease src handle => Sys2Proof.Machine.execLoftRelease src handle s
  | .loftFlush src ch => Sys2Proof.Machine.execLoftFlush src ch s
  | .chTxqEnq src ch data => Sys2Proof.Machine.execChTxqEnq src ch data s
  | .txFrameStart ch time rowCorr rowUnc => Sys2Proof.Machine.execTxFrameStart ch time rowCorr rowUnc s
  | .txFrameEnd ch => Sys2Proof.Machine.execTxFrameEnd ch s
  | .chTxtsPop ch => Sys2Proof.Machine.execChTxtsPop ch s
  | .gateChange ch => Sys2Proof.Machine.execGateChange ch s
  | .gateDiscard ch q => Sys2Proof.Machine.execGateDiscard ch q s
  | .chQbvCtrlWrite src ch data => Sys2Proof.Machine.execChQbvCtrlWrite src ch data s
  | .gateBankWrite src ch bank entry data => Sys2Proof.Machine.execGateBankWrite src ch bank entry data s
  | .loftChWrite src ch data => Sys2Proof.Machine.execLoftChWrite src ch data s
  | .peTodWrite src seconds data => Sys2Proof.Machine.execPeTodWrite src seconds data s
  | .loftFreeRead => Sys2Proof.Machine.execLoftFreeRead s
  | .barAccess bar off wr words partialBe data => Sys2Proof.Machine.execBarAccess bar off wr words partialBe data s
  | .hostConfigRequest wr dw data => Sys2Proof.Machine.execHostConfigRequest wr dw data s
  | .dmaPiWrite src e data => Sys2Proof.Machine.execDmaPiWrite src e data s
  | .dmaEnable src e => Sys2Proof.Machine.execDmaEnable src e s
  | .dmaDisable src e => Sys2Proof.Machine.execDmaDisable src e s
  | .dmaDescriptorStart e desc => Sys2Proof.Machine.execDmaDescriptorStart e desc s
  | .dmaDescriptorComplete e data => Sys2Proof.Machine.execDmaDescriptorComplete e data s
  | .dmaDescriptorFail e data hostFailed => Sys2Proof.Machine.execDmaDescriptorFail e data hostFailed s
  | .eventRecordWrite n => Sys2Proof.Machine.execEventRecordWrite n s
  | .evHeadWrite src n data => Sys2Proof.Machine.execEvHeadWrite src n data s
  | .evRingEnable src n => Sys2Proof.Machine.execEvRingEnable src n s
  | .msixSend n => Sys2Proof.Machine.execMsixSend n s
  | .msixUnmask vec => Sys2Proof.Machine.execMsixUnmask vec s
  | .hlMsixSend src vec => Sys2Proof.Machine.execHlMsixSend src vec s
  | .hlCfgWrite src off data => Sys2Proof.Machine.execHlCfgWrite src off data s
  | .hlErrPop => Sys2Proof.Machine.execHlErrPop s
  | .hostLinkLoss kind => Sys2Proof.Machine.execHostLinkLoss kind s
  | .hostLinkUp rate widthLog2 => Sys2Proof.Machine.execHostLinkUp rate widthLog2 s
  | .streamHeader src bytes => Sys2Proof.Machine.execStreamHeader src bytes s
  | .streamAccept src bytes => Sys2Proof.Machine.execStreamAccept src bytes s
  | .blockAccept src bytes => Sys2Proof.Machine.execBlockAccept src bytes s
  | .pushWrite src bytes => Sys2Proof.Machine.execPushWrite src bytes s
  | .ldFlash src addr => Sys2Proof.Machine.execLdFlash src addr s
  | .ldPull src addr limit => Sys2Proof.Machine.execLdPull src addr limit s
  | .ldAbort src => Sys2Proof.Machine.execLdAbort src s
  | .ldClrerr src part => Sys2Proof.Machine.execLdClrerr src part s
  | .ldErrPop => Sys2Proof.Machine.execLdErrPop s
  | .ssSelect dictMsg => Sys2Proof.Machine.execSsSelect dictMsg s
  | .ssDeselect => Sys2Proof.Machine.execSsDeselect s
  | .loadDataTimeout => Sys2Proof.Machine.execLoadDataTimeout s
  | .loadClearComplete => Sys2Proof.Machine.execLoadClearComplete s
  | .loadPllTimeout => Sys2Proof.Machine.execLoadPllTimeout s
  | .loadRelease => Sys2Proof.Machine.execLoadRelease s
  | .darkLoadDrained => Sys2Proof.Machine.execDarkLoadDrained s
  | .darkLoadRelease => Sys2Proof.Machine.execDarkLoadRelease s
  | .shadowLoadComplete => Sys2Proof.Machine.execShadowLoadComplete s
  | .swapFreeze b => Sys2Proof.Machine.execSwapFreeze b s
  | .swapRelease b => Sys2Proof.Machine.execSwapRelease b s
  | .swapRefillBlock q => Sys2Proof.Machine.execSwapRefillBlock q s
  | .rbCapture src => Sys2Proof.Machine.execRbCapture src s
  | .rbCapPost b held => Sys2Proof.Machine.execRbCapPost b held s
  | .readbackRead src frame word => Sys2Proof.Machine.execReadbackRead src frame word s
  | .ptSwapPop => Sys2Proof.Machine.execPtSwapPop s
  | .gleanerBranchCheck q upsets sigUpset map => Sys2Proof.Machine.execGleanerBranchCheck q upsets sigUpset map s
  | .gleanerPassComplete q => Sys2Proof.Machine.execGleanerPassComplete q s
  | .gleanerRepairStart blocks status => Sys2Proof.Machine.execGleanerRepairStart blocks status s
  | .gleanerRepairComplete => Sys2Proof.Machine.execGleanerRepairComplete s
  | .gleanerDeferredHandle q map => Sys2Proof.Machine.execGleanerDeferredHandle q map s
  | .watchWalkerTick flips stuck stalled => Sys2Proof.Machine.execWatchWalkerTick flips stuck stalled s
  | .glCtrlWrite src data => Sys2Proof.Machine.execGlCtrlWrite src data s
  | .glClrCnt src => Sys2Proof.Machine.execGlClrCnt src s
  | .glScanNow src => Sys2Proof.Machine.execGlScanNow src s
  | .glLogPop => Sys2Proof.Machine.execGlLogPop s
  | .scResetRelease => Sys2Proof.Machine.execScResetRelease s
  | .scGo src => Sys2Proof.Machine.execScGo src s
  | .scReset src => Sys2Proof.Machine.execScReset src s
  | .scFlashBootComplete image => Sys2Proof.Machine.execScFlashBootComplete image s
  | .scWindowLoad pc w off size sign rd => Sys2Proof.Machine.execScWindowLoad pc w off size sign rd s
  | .scWindowStore pc w off size data => Sys2Proof.Machine.execScWindowStore pc w off size data s
  | .scFence pc => Sys2Proof.Machine.execScFence pc s
  | .scWfi pc => Sys2Proof.Machine.execScWfi pc s
  | .scWake => Sys2Proof.Machine.execScWake s
  | .scSyncTrap pc cause tval => Sys2Proof.Machine.execScSyncTrap pc cause tval s
  | .scMret pc => Sys2Proof.Machine.execScMret pc s
  | .icSourceEvent n level => Sys2Proof.Machine.execIcSourceEvent n level s
  | .icSetpend src n => Sys2Proof.Machine.execIcSetpend src n s
  | .icClrpend src n => Sys2Proof.Machine.execIcClrpend src n s
  | .icDoorbell src w mask => Sys2Proof.Machine.execIcDoorbell src w mask s
  | .icDeliver pc => Sys2Proof.Machine.execIcDeliver pc s
  | .icSheafRefill => Sys2Proof.Machine.execIcSheafRefill s
  | .tmArm src n periodic => Sys2Proof.Machine.execTmArm src n periodic s
  | .tmDisarm src n => Sys2Proof.Machine.execTmDisarm src n s
  | .tmFire n => Sys2Proof.Machine.execTmFire n s
  | .wdgKick src key => Sys2Proof.Machine.execWdgKick src key s
  | .wdgExpiry => Sys2Proof.Machine.execWdgExpiry s
  | .spCfgWrite src k data => Sys2Proof.Machine.execSpCfgWrite src k data s
  | .spCmd src k data => Sys2Proof.Machine.execSpCmd src k data s
  | .spTransactionDone k end3 rx => Sys2Proof.Machine.execSpTransactionDone k end3 rx s
  | .spDataPush src k byte => Sys2Proof.Machine.execSpDataPush src k byte s
  | .spDataPop k => Sys2Proof.Machine.execSpDataPop k s
  | .uartRxByte k byte err => Sys2Proof.Machine.execUartRxByte k byte err s
  | .scEvtPop => Sys2Proof.Machine.execScEvtPop s
  | .agzerHello path msg => Sys2Proof.Machine.execAgzerHello path msg s
  | .agzerAuth path msg => Sys2Proof.Machine.execAgzerAuth path msg s
  | .agzerRead path msg => Sys2Proof.Machine.execAgzerRead path msg s
  | .agzerWrite path msg => Sys2Proof.Machine.execAgzerWrite path msg s
  | .agzerXferStart path msg => Sys2Proof.Machine.execAgzerXferStart path msg s
  | .agzerXferData path msg => Sys2Proof.Machine.execAgzerXferData path msg s
  | .agzerClose path msg => Sys2Proof.Machine.execAgzerClose path msg s
  | .sessionIdleTimeout slot => Sys2Proof.Machine.execSessionIdleTimeout slot s
  | .authTimeout slot => Sys2Proof.Machine.execAuthTimeout slot s
  | .levelLockoutExpiry level => Sys2Proof.Machine.execLevelLockoutExpiry level s
  | .mgtArpRequest mac sender target full => Sys2Proof.Machine.execMgtArpRequest mac sender target full s
  | .mgtIcmpEcho mac sender target echo full => Sys2Proof.Machine.execMgtIcmpEcho mac sender target echo full s
  | .mbDoorbell data => Sys2Proof.Machine.execMbDoorbell data s
  | .dictStoreWrite fail => Sys2Proof.Machine.execDictStoreWrite fail s
  | .uoDeclare src count => Sys2Proof.Machine.execUoDeclare src count s
  | .uoClear src count => Sys2Proof.Machine.execUoClear src count s
  | .tapReset trst => Sys2Proof.Machine.execTapReset trst s
  | .tapExtest data => Sys2Proof.Machine.execTapExtest data s
  | .tapSamplePreload captured data => Sys2Proof.Machine.execTapSamplePreload captured data s
  | .tapIdcode => Sys2Proof.Machine.execTapIdcode s
  | .tapClamp => Sys2Proof.Machine.execTapClamp s
  | .tapHighz => Sys2Proof.Machine.execTapHighz s
  | .tapExtestPulse data => Sys2Proof.Machine.execTapExtestPulse data s
  | .tapExtestTrain data => Sys2Proof.Machine.execTapExtestTrain data s
  | .tapAuthUpdate proof level revoke => Sys2Proof.Machine.execTapAuthUpdate proof level revoke s
  | .tapAuthLockoutExpiry => Sys2Proof.Machine.execTapAuthLockoutExpiry s
  | .dapAccess data addr op => Sys2Proof.Machine.execDapAccess data addr op s
  | .tapAgzer valid byte => Sys2Proof.Machine.execTapAgzer valid byte s
  | .tapCfgIn bits => Sys2Proof.Machine.execTapCfgIn bits s
  | .tapTapstat => Sys2Proof.Machine.execTapTapstat s
  | .tapWake => Sys2Proof.Machine.execTapWake s
  | .tapBypass code => Sys2Proof.Machine.execTapBypass code s
  | .debugGrantEnd => Sys2Proof.Machine.execDebugGrantEnd s
  | .dbgHaltreq src => Sys2Proof.Machine.execDbgHaltreq src s
  | .scHalt pc => Sys2Proof.Machine.execScHalt pc s
  | .scHaltDeferred pc => Sys2Proof.Machine.execScHaltDeferred pc s
  | .dbgResume src => Sys2Proof.Machine.execDbgResume src s
  | .dbgStep src => Sys2Proof.Machine.execDbgStep src s
  | .dbgReset src => Sys2Proof.Machine.execDbgReset src s
  | .dbgBreakpointHit n => Sys2Proof.Machine.execDbgBreakpointHit n s
  | .dbgWatchpointHit n addr size store pc => Sys2Proof.Machine.execDbgWatchpointHit n addr size store pc s
  | .dbgEbreak pc compressed tval => Sys2Proof.Machine.execDbgEbreak pc compressed tval s
  | .dbgScRegcmd src data => Sys2Proof.Machine.execDbgScRegcmd src data s
  | .dbgSqHalt src b a held => Sys2Proof.Machine.execDbgSqHalt src b a held s
  | .dbgSqResume src b a => Sys2Proof.Machine.execDbgSqResume src b a s
  | .dbgSqStep src b a => Sys2Proof.Machine.execDbgSqStep src b a s
  | .dbgSqBreakpointHit b a j => Sys2Proof.Machine.execDbgSqBreakpointHit b a j s
  | .dbgSqDataWrite src b a data => Sys2Proof.Machine.execDbgSqDataWrite src b a data s
  | .dbgTxdataWrite src data => Sys2Proof.Machine.execDbgTxdataWrite src data s
  | .dbgRxdataWrite src data => Sys2Proof.Machine.execDbgRxdataWrite src data s
  | .tempSample readings => Sys2Proof.Machine.execTempSample readings s
  | .voltSample millivolts => Sys2Proof.Machine.execVoltSample millivolts s
  | .roSample counts => Sys2Proof.Machine.execRoSample counts s
  | .autoEyeScan => Sys2Proof.Machine.execAutoEyeScan s
  | .hmAgeTick => Sys2Proof.Machine.execHmAgeTick s
  | .hmDailyFit => Sys2Proof.Machine.execHmDailyFit s
  | .hmRebase src mon => Sys2Proof.Machine.execHmRebase src mon s
  | .fusePolicySet isLocal level data fail => Sys2Proof.Machine.execFusePolicySet isLocal level data fail s
  | .fuseEfKey isLocal level key fail => Sys2Proof.Machine.execFuseEfKey isLocal level key fail s
  | .fusePkProgram isLocal level slot digest fail => Sys2Proof.Machine.execFusePkProgram isLocal level slot digest fail s
  | .fusePkRevoke isLocal level slot fail => Sys2Proof.Machine.execFusePkRevoke isLocal level slot fail s
  | .fuseDbgKey isLocal level full key fail => Sys2Proof.Machine.execFuseDbgKey isLocal level full key fail s
  | .rbAdvance level v fail => Sys2Proof.Machine.execRbAdvance level v fail s
  | .fwRbAdvance level v fail => Sys2Proof.Machine.execFwRbAdvance level v fail s
  | .ramKeyWrite isLocal level key => Sys2Proof.Machine.execRamKeyWrite isLocal level key s
  | .ramKeyErase level => Sys2Proof.Machine.execRamKeyErase level s
  | .tamperClr level => Sys2Proof.Machine.execTamperClr level s
  | .fwImageComplete => Sys2Proof.Machine.execFwImageComplete s
  | .fwSwitch level => Sys2Proof.Machine.execFwSwitch level s
  | .secRbRead level latch => Sys2Proof.Machine.execSecRbRead level latch s
  | .ioTableWrite level table => Sys2Proof.Machine.execIoTableWrite level table s
  | .boughClockEdge globals resets late => Sys2Proof.Machine.execBoughClockEdge globals resets late s
  | .timeClockTick => Sys2Proof.Machine.execTimeClockTick s
  | .bridgeReqIn b => Sys2Proof.Machine.execBridgeReqIn b s
  | .bridgeRspIn b => Sys2Proof.Machine.execBridgeRspIn b s
  | .stTxSend q => Sys2Proof.Machine.execStTxSend q s
  | .jesdCrc12Fail q => Sys2Proof.Machine.execJesdCrc12Fail q s
  | .jsyncIChange q level => Sys2Proof.Machine.execJsyncIChange q level s
  | .uartTxByte k => Sys2Proof.Machine.execUartTxByte k s
  | .scSramAccess pc addr kind size sign rd data upset => Sys2Proof.Machine.execScSramAccess pc addr kind size sign rd data upset s
  | .pushRefusalTimeout => Sys2Proof.Machine.execPushRefusalTimeout s

end Sys2Proof.Machine
end

