-- ==== Sys2Proof/WellFormed.lean ====
section
/-!
DEFINITION. Which commands a sender can issue: those whose lists have the lengths that the other operands and the rules give. Commands without such
a list are always well-formed. The meanings are total: they do not ask for it.
-/
namespace Sys2Proof

/-- Words of a NoC range from the word address to the last index, in one 256-byte block (R341). -/
def rangeWords (waddr : BitVec 42) (last : BitVec 6) : Nat := last.toNat + 1 - waddr.toNat % 64

/-- A NoC write carries just the words of its range; a range that runs backwards has none (R341). -/
def rangeOk (wr : Bool) (waddr : BitVec 42) (last : BitVec 6) (data : List (BitVec 32)) : Bool :=
  decide (data.length = if wr then rangeWords waddr last else 0)

/-- An Agzer message lies within the longest message, or within a raw frame's padding (R612, R619). -/
def msgOk (msg : List (BitVec 8)) : Bool := decide (msg.length ≤ 1500)

/-- Whether a command is well-formed. -/
def Instr.wf (i : Instr) : Bool :=
  match i with
  | .nocRequest _ _ wr waddr last data _ => rangeOk wr waddr last data
  | .stRxChunk _ data => decide (data.1.length ≤ 64)
  | .stTxWrite _ _ _ data => decide (data.length ≤ 64)
  | .llCapsRx _ content _ _ => decide (content.length ≤ 256)
  | .llMarkerRx _ payload _ => decide (payload.length ≤ 256)
  | .rxFrame _ bytes _ _ _ _ => decide (bytes.length ≠ 0)
  | .barAccess _ _ wr words _ data => decide (words ≤ 1024) && decide (data.1.length = if wr then words else 0)
  | .pushWrite _ bytes => decide (bytes.length % 4 = 0) && decide (bytes.length ≤ 256)
  | .scFlashBootComplete image => decide (image.length ≤ 1048928)
  | .spTransactionDone _ _ rx => decide (rx.length ≤ 16)
  | .agzerHello _ msg | .agzerAuth _ msg | .agzerRead _ msg | .agzerWrite _ msg | .agzerXferStart _ msg | .agzerXferData _ msg
  | .agzerClose _ msg => msgOk msg
  | .mgtIcmpEcho _ _ _ echo _ => decide (echo.length ≤ 1496)
  | .ioTableWrite _ table => decide (table.length ≤ 1408)
  | .tempSample readings => decide ((readings.map (fun (r : Fin 72 × Int) => r.1)).Nodup)
  | .voltSample mv => decide ((mv.map (fun (r : Fin 18 × Nat) => r.1)).Nodup)
  | .roSample counts => decide ((counts.map (fun (r : BoughId × Nat × Nat) => r.1)).Nodup)
  | .boughClockEdge _ resets late => decide ((resets.map (fun (r : Nat × Bool) => r.1) ++ late).Nodup)
  | _ => true

end Sys2Proof
end

