-- ==== Sys2Proof/Safety.lean ====
section
/-!
DEFINITION. What a run and a safe run are: a run goes through states by steps; a safe state is one from which a step goes on, with a queue of
well-formed commands and the stores in their canonical forms.
-/
namespace Sys2Proof.Machine
open Sys2Proof

/-- A step leads from one state to the next. -/
def StepsTo (s t : State) : Prop := step s = .next t

/-- States that a state reaches by steps. -/
inductive Reaches : State → State → Prop where
  | refl (s : State) : Reaches s s
  | step (s t u : State) : StepsTo s t → Reaches t u → Reaches s u

/-- Whether a state's queue holds only commands that a test names. -/
def State.queued (s : State) (p : Instr → Bool) : Bool := s.pending.all p

/-- Every waiting command is well-formed. -/
def State.queueOk (s : State) : Bool := s.queued Instr.wf

/-- The register store is in canonical order: one entry for each field, keys rising. -/
def State.regsOk (s : State) : Bool := SMap.sortedFrom 0 s.regs

/-- The memories are canonical: the granary's rows, the instruction stores, the loft, the site SRAM, the frames and the block memories. -/
def State.memOk (s : State) : Bool :=
  SMap.wf 0 s.gr.rows && SMap.wf 0 s.istore && SMap.wf 0 s.loft.mem && SMap.wf 0 s.sc.sram && SMap.wf 0 s.fab.frames && SMap.wf 0 s.fab.bmRows

/-! ## What a command leaves alone -/

/-- Every register field outside a list keeps its value. -/
def RegsKept (s t : State) (fs : List Fld) : Prop := ∀ f : Fld, f.key ∉ fs.map Fld.key → t.get f = s.get f

/-- Only the register fields of a list and the answer changed. -/
def OnlyRegs (s t : State) (fs : List Fld) : Prop := t = { s with regs := t.regs, answer := t.answer } ∧ RegsKept s t fs

/-- Keys of the register fields that raising a code may write: FIFO and LOST of the four event rings (R474, R477). -/
def evKeys : List Nat := [0, 1, 2, 3].flatMap (fun n => [(R.EV_STAT_FIFO n).key, (R.EV_STAT_LOST n).key])

/-- The state without its register fields, its answer and what raising a code writes: the event rings and the site event queue. -/
def State.hushed (s : State) : State :=
  { s with regs := [], answer := ⟨0, 0⟩, siteEvts := [], siteLost := 0, siteOvf := false, hl := { s.hl with rings := [] } }

/-- Only the register fields of a list, the answer and what raising a code writes changed. -/
def OnlyRegsEv (s t : State) (fs : List Fld) : Prop :=
  t.hushed = s.hushed ∧ ∀ f : Fld, f.key ∉ fs.map Fld.key → f.key ∉ evKeys → t.get f = s.get f

/-- A result register shows a posted result (R20, R21). -/
def Posted (s t : State) (st : Fld) (code : Nat) : Prop :=
  t.get st = code ∧ t.get (resSeq st) = (s.get (resSeq st) + 1) % 2 ^ 16 ∧ t.get (resValid st) = 1 ∧ t.get (resStale st) = 0

/-- The fields of a result register that a posted result writes. -/
def resFlds (st : Fld) : List Fld := [st, resSeq st, resValid st, resStale st]

/-- Registers whose writes have a row of their own, or a refusal of their own: a write of any other register acts by its access codes alone. -/
def ownWrite : List RegName :=
  [.DR_CTRL, .BM_CTRL, .BM_INJECT, .SL_CTRL, .SQ_CMD, .BCK, .SQCK, .OP_REQ, .TRG_SW, .DBG_SQ_CTRL, .DBG_SQ_BP, .DBG_SQ_SEL, .DBG_SQ_DATA,
   .NOC_CTRL, .NOC_CNT_CLR, .NOC_TBL, .GR_CTRL, .GR_CMD, .GR_INJECT, .MON_CFG, .MON_STAT, .CP_CFG, .CP_OUT, .CP_MUX, .GCL_MUX, .GCL_CFG,
   .CLKOUT, .TPLL_MUX, .TPLL_CFG, .TP_INC_BASE, .TP_STEP, .TP_SLEW, .SRV_CTRL, .SRV_GAIN, .SRV_LIM, .SRV_INTEG, .SRV_OFFS_WR, .SRV_CMD,
   .PPS_CFG, .PPS_DLY, .PPS_EXP, .FD_CFG, .HO_CTRL, .HO_TEMP, .HO_TEMP_WR, .TL_CMD, .TL_SLOT_CTRL, .TL_SLOT_TARGET, .TL_SLOT_PERIOD,
   .TL_SLOT_DEST, .CU_CFG, .QD_PLL, .LN_CFG, .LN_EQ_TX, .LN_CMD, .LN_PRBS_CFG, .LN_EYE_CFG, .ST_CFG, .ST_RX_RD, .JS_CFG, .LL_CFG, .PE_CFG,
   .CH_CFG, .CH_TS_DLY, .CH_RXMAP, .CH_TXQ_ENQ, .CH_TXTS_POP, .CH_RXQ_POP, .CH_QBV_CTRL, .CH_QBV_CYCLE, .CH_GCL, .LOFT_CMD, .LOFT_CH,
   .PE_TOD, .PE_TOD_S, .HL_MSIX_SEND, .HL_APT, .EV_BASE, .EV_CFG, .DMA_BASE, .DMA_CFG, .EV_HEAD, .DMA_PI, .DEV_MODE_REQ, .DEV_WAKE,
   .NOC_EPOCH_CMD, .LD_CTRL, .LD_ARG, .LD_CMD, .PT_CTRL, .RB_MASK, .RB_SEL, .RB_CMD, .GL_CTRL, .GL_CMD, .GL_WATCH, .SC_CTRL, .SC_BOOT,
   .SC_SLEEP, .SC_WIN, .SC_EVT_EN, .IC_CTRL, .IC_STAT, .IC_VTBASE, .IC_SP, .IC_SPLIM, .IC_PINSEL, .IC_WAKE, .IC_SRC, .IC_DOORBELL,
   .TM_CTRL, .TM_TARGET, .TM_PERIOD, .WDG_CTRL, .WDG_WARNAT, .WDG_KICK, .SP_CFG, .SP_CMD, .SP_DATA_POP, .DBG_SC_CTRL, .DBG_SC_REGCMD,
   .DBG_BP, .DBG_WP, .DBG_TXDATA, .DBG_RXDATA, .DBG_VT_FLAGS, .HM_CTRL, .HM_THR, .HM_CMD, .PWR_CTRL, .UO_CMD]

/-- Registers whose reads have an effect or show other state than their fields: a read of any other register answers its fields. -/
def ownRead : List RegName :=
  [.SQ_STATUS, .SQ_FAULT, .SQ_CNT, .SQ_HOLDOFF, .SQ_SIG, .TP_INC, .TP_DINC, .HO_STAT, .HO_COEF_0, .HO_COEF_1, .HO_COEF_2, .HO_PRED, .HO_EACC,
   .HO_LAST, .EV_STAT, .LOFT_FREE, .LOFT_USE, .GL_STATUS, .GL_PASS, .GL_CNT, .GL_SET, .GL_CTRL, .SEC_STATUS, .IO_STATUS, .DBG_SQ_STAT,
   .PWR_STATUS, .TP_NOW, .TL_SLOT_TARGET, .SL_RES_P, .SL_RES_S, .LN_EQ_RX, .LN_PRBS_ERR, .LN_EYE_RES0, .ST_MARK_TIME, .LOFT_BOOK,
   .NOC_LINK, .SL_OVF_MAP, .ST_MARK_FLAGS, .IC_SRC, .BM_ERR_POP, .GR_ERR_POP, .LD_ERR_POP, .GL_LOG_POP, .SC_EVT_POP, .SP_DATA_POP, .LN_PRBS_BITS, .LN_EYE_RES1, .ST_MARK_POS, .DBG_SQ_DATA,
   .CH_CFG, .CH_STAT, .CH_TS_DLY, .CH_RXMAP, .CH_TXQ_ENQ, .CH_TXTS_POP, .CH_TXTS_FRAC, .CH_CNT_RX, .CH_CNT_TX, .CH_CNT_FEC, .CH_RXQ_POP,
   .CH_RXQ_TS, .CH_QBV_CTRL, .CH_QBV_CYCLE, .CH_GCL]

/-! ## What statements about sequencers read -/

/-- The state that stage A of an instruction without slots reads (R201): writes of instructions three or more before it are made. -/
def State.stageA (s : State) (b a : Nat) : State := s.sqPlain b a id

/-- When a branch is taken (R236). -/
def State.branchTaken (u : State) (b a cond reg : Nat) : Prop :=
  match cond with
  | 0 => True
  | 1 => (u.seq b a).sreg reg = 0
  | 2 => (u.seq b a).sreg reg ≠ 0
  | 3 => signed 32 ((u.seq b a).sreg reg) < 0
  | 4 => 0 ≤ signed 32 ((u.seq b a).sreg reg)
  | 5 => ∃ l < 8, (u.seq b a).vreg l reg ≠ 0
  | 6 => ∀ l < 8, (u.seq b a).vreg l reg ≠ 0
  | 7 => ∃ l < 8, u.laneOvf b a l = true
  | _ => ∃ l < 8, u.lanePdet b a l = 1

/-! ## The network -/

/-- No packet is on the network, none waits to enter it, and every credit is with its sender (R353). -/
abbrev State.nocQuiet (s : State) : Prop := s.nocUp = true ∧ s.noc.bufs = [] ∧ s.noc.inj = [] ∧ s.noc.cred = []

/-! ## The security unit -/

/-- The commands of the security unit (chapter 23) that leave the firmware that runs as it is. -/
def secCommand : Instr → Bool
  | .fusePolicySet .. | .fuseEfKey .. | .fusePkProgram .. | .fusePkRevoke .. | .fuseDbgKey .. | .rbAdvance .. | .fwRbAdvance .. => true
  | .ramKeyWrite .. | .ramKeyErase .. | .tamperClr .. | .fwImageComplete | .secRbRead .. | .ioTableWrite .. => true
  | _ => false

/-- What the fuses of the security unit hold in every state that its commands lead to (R677, R679, R681, R686): the policy has no reserved bit and never bars both
stored keys, the counters lie in their ranges, and the revocations name the four slots. -/
def State.secInv (s : State) : Bool :=
  s.queued secCommand && decide (s.policy < 256) && !(decide (bit s.policy 1 = 1) && decide (bit s.policy 2 = 1)) && decide (s.sec.rb ≤ 64)
    && decide (s.sec.fwRb ≤ s.sec.runSecver) && decide (s.sec.pkRev < 16)

/-- Whether some PK slot holds a key that is not revoked (R679). -/
def State.usableKey (s : State) : Bool := (List.range 4).any (fun k => decide ((s.pkSlot k).state 48 = 1) && decide (bit s.sec.pkRev k = 0))

end Sys2Proof.Machine
end

