-- ==== Sys2Proof/Certificates/Slice0/Obligations.lean ====
section
/-!
DEFINITION. The statements for the provers, O1 to O60, as OBLIGATIONS.json lists them. A statement about a value that is free holds for every value of it.
-/
section
open Sys2Proof Sys2Proof.Machine

/-- O1. A step runs the command at the front of the queue with the queue's rest, and idles on an empty queue: the model's interface, which the spec does not
state. The model's own readings and choices that it rests on: assumptions 7, 41. -/
def Obligations.StepRunsFrontCommand : Prop :=
  (∀ (c : Instr) (rest : List Instr) (s : State), step { s with pending := c :: rest } = exec c { s with pending := rest }) ∧
  (∀ s : State, s.pending = [] → step s = .next s)

/-- O2. Every command answers a next state in every state: the block has no stop of its own (R24, R57). The model's own readings and choices that it rests on:
assumption 1. -/
def Obligations.EveryCommandAnswersANextState : Prop :=
  (∀ (c : Instr) (s : State), ∃ t, exec c s = .next t) ∧ (∀ s : State, ∃ t, step s = .next t)

/-- O3. The state at reset: every register field reads its Reset value, nothing waits, the fuses and key RAM are blank and the memories hold nothing; the
security unit's invariant and the canonical forms hold. Where the spec gives no value, the value is the model's. The model's own readings and choices
that it rests on: assumptions 4, 5. -/
def Obligations.StateAtReset : Prop :=
  (∀ f : Fld, State.reset.get f = f.rst) ∧ State.reset.mode0 = mSTANDBY ∧ State.reset.pending = [] ∧ State.reset.policy = 0 ∧ State.reset.dbgLevel = 0 ∧ State.reset.sec.rb = 0 ∧
    State.reset.usableKey = false ∧ State.reset.openDevice = true ∧ State.reset.secInv = true ∧ State.reset.queueOk = true ∧ State.reset.regsOk = true ∧ State.reset.memOk = true

/-- O4. Fuses only gain (R675, R677, R679, R681, R686): over every step of the security unit's commands the policy, the revocations and the counters keep
their ranges, no bit that is set is lost, no counter falls, a key field that is written stays as it is, and a device that has a key that is not
revoked keeps one. The model's own readings and choices that it rests on: assumptions 157, 158. -/
def Obligations.FusesOnlyGain : Prop :=
  ∀ s t : State, s.secInv = true → step s = .next t → t.secInv = true ∧ s.policy ||| t.policy = t.policy ∧ s.sec.pkRev ||| t.sec.pkRev = t.sec.pkRev ∧
    s.sec.rb ≤ t.sec.rb ∧ s.sec.fwRb ≤ t.sec.fwRb ∧ (s.sec.efKey.state 32 ≠ 0 → t.sec.efKey = s.sec.efKey) ∧ (∀ k, k < 4 → (s.pkSlot k).state 48 ≠ 0 → t.pkSlot k = s.pkSlot k) ∧
    (∀ l, (s.dbgKeyOf l).state 32 ≠ 0 → t.dbgKeyOf l = s.dbgKeyOf l) ∧ (s.usableKey = true → t.usableKey = true)

/-- O5. REGISTER_WRITE of a 32-bit register without a row of its own (R13, R14): each field takes the written bits as its access code says, W1C bits that
hardware sets in the same cycle stand, the answer is 0x0000, and nothing else changes. The model's own readings and choices that it rests on:
assumptions 9, 41, 165. Commands that this statement shows to complete with their own effect: registerWrite. -/
def Obligations.RegisterWriteActsByAccessCode : Prop :=
  ∀ (s : State) (src : SrcId) (addr : NocAddr) (data hw : Word64) (h : Hit),
    s.nocUp = true → addr.toNat % 4 = 0 → istoreAt addr.toNat = none → regFind addr.toNat = some h → h.width = 32 → h.rem = 0 →
    h.name ∉ ownWrite → s.blockRefusal src addr.toNat = 0 → (h.fields.map Fld.key).Nodup →
    ∃ t, exec (.registerWrite src addr false data hw) s = .next t ∧ t.answer = ⟨0, 0⟩ ∧ OnlyRegs s t h.fields ∧
      ∀ f ∈ h.fields, t.get f = (match f.acc with
        | .rw => bits (data.toNat % 2 ^ 32) f.lo f.w
        | .w1c => ((s.get f - (s.get f &&& bits (data.toNat % 2 ^ 32) f.lo f.w)) % 2 ^ f.w) ||| bits hw.toNat f.lo f.w
        | .w1s => (s.get f ||| bits (data.toNat % 2 ^ 32) f.lo f.w) % 2 ^ f.w
        | _ => s.get f)

/-- O6. The two halves of a 64-bit register without a row of its own (R7): the lower half is held and changes nothing else; the upper half commits both, the
lower being the held one or, with none held, the current one, and empties the latch. The two halves of a read of a 64-bit register without an effect
of its own (R8): the lower half is answered and latches the upper one; the upper half is the latched one, which empties the latch, and the live one
where none is latched. The model's own readings and choices that it rests on: assumptions 9, 41, 166. Commands that this statement shows to complete
with their own effect: writeLowerHalf, writeUpperHalf, readLowerHalf, readUpperHalf. -/
def Obligations.HalfAccesses : Prop :=
  ((∀ (s : State) (src : SrcId) (addr : NocAddr) (data : BitVec 32) (h : Hit),
    s.nocUp = true → addr.toNat % 8 = 0 → istoreAt addr.toNat = none → regFind addr.toNat = some h → h.width = 64 → h.rem = 0 →
    exec (.writeLowerHalf src addr data) s =
      .next { s with stage := SMap.set s.stage none addr.toNat (some data.toNat), answer := ⟨0, 0⟩ }) ∧
  (∀ (s : State) (src : SrcId) (addr : NocAddr) (data : BitVec 32) (h : Hit),
    s.nocUp = true → addr.toNat % 8 = 4 → istoreAt addr.toNat = none → regFind addr.toNat = some h → h.width = 64 → h.rem = 4 →
    h.name ∉ ownWrite → s.blockRefusal src (addr.toNat - 4) = 0 → (h.fields.map Fld.key).Nodup →
    ∃ t, exec (.writeUpperHalf src addr data) s = .next t ∧
      t = { s with regs := t.regs, stage := SMap.set s.stage none (addr.toNat - 4) none, answer := ⟨0, 0⟩ } ∧ RegsKept s t h.fields ∧
      ∀ f ∈ h.fields, f.acc = .rw → t.get f =
        bits ((SMap.get s.stage none (addr.toNat - 4)).getD (s.liveWord (addr.toNat - 4) h true % 2 ^ 32) + data.toNat * 2 ^ 32) f.lo f.w)) ∧
  ((∀ (s : State) (src : SrcId) (addr : NocAddr) (h : Hit),
    s.nocUp = true → addr.toNat % 8 = 0 → istoreAt addr.toNat = none → regFind addr.toNat = some h → h.width = 64 → h.rem = 0 →
    h.name ∉ ownRead → (∀ f ∈ h.fields, f.acc ≠ .rs ∧ f.acc ≠ .rc) → src ≠ 161 → s.readRefusal src addr.toNat = 0 →
    exec (.readLowerHalf src addr) s = .next { s with
      half := SMap.set s.half none addr.toNat (some (s.word (h.fields.filter (fun f => f.acc ≠ .wo)) / 2 ^ 32))
      answer := ⟨0, s.word (h.fields.filter (fun f => f.acc ≠ .wo)) % 2 ^ 32⟩ }) ∧
  (∀ (s : State) (src : SrcId) (addr : NocAddr) (h : Hit),
    s.nocUp = true → addr.toNat % 8 = 4 → istoreAt addr.toNat = none → regFind addr.toNat = some h → h.width = 64 → h.rem = 4 →
    h.name ∉ ownRead → (∀ f ∈ h.fields, f.acc ≠ .rs) → src ≠ 161 → s.readRefusal src addr.toNat = 0 →
    (∀ v, SMap.get s.half none (addr.toNat - 4) = some v → exec (.readUpperHalf src addr) s = .next { s with
      half := SMap.set s.half none (addr.toNat - 4) none
      answer := ⟨0, v⟩ }) ∧
    (SMap.get s.half none (addr.toNat - 4) = none → exec (.readUpperHalf src addr) s = .next { s with
      answer := ⟨0, s.word (h.fields.filter (fun f => f.acc ≠ .wo)) / 2 ^ 32⟩ })))

/-- O7. A debug read of any address changes nothing but the answer and the count of free values (R16); of a 32-bit register without other state behind it, it
answers the fields. RC_READ of a 32-bit register without an effect of its own (R15): the answer is the word, each RC field is cleared to the bits that
hardware sets in the same cycle, and every other field stays. The model's own readings and choices that it rests on: assumptions 2, 41. Commands that
this statement shows to complete with their own effect: debugRead, rcRead. -/
def Obligations.DebugAndClearingReads : Prop :=
  ((∀ (s : State) (addr : NocAddr) (wide : Bool),
    ∃ t, exec (.debugRead addr wide) s = .next t ∧ t = { s with answer := t.answer, free := t.free }) ∧
  (∀ (s : State) (addr : NocAddr) (h : Hit),
    s.nocUp = true → addr.toNat % 4 = 0 → istoreAt addr.toNat = none → regFind addr.toNat = some h → h.width = 32 → h.rem = 0 →
    h.name ∉ ownRead → (∀ f ∈ h.fields, f.acc ≠ .rs) → s.readRefusal 161 addr.toNat = 0 →
    exec (.debugRead addr false) s = .next { s with answer := ⟨0, s.word (h.fields.filter (fun f => f.acc ≠ .wo)) % 2 ^ 32⟩ })) ∧
  (∀ (s : State) (src : SrcId) (addr : NocAddr) (hw : Word64) (h : Hit),
    s.nocUp = true → addr.toNat % 4 = 0 → istoreAt addr.toNat = none → regFind addr.toNat = some h → h.width = 32 → h.rem = 0 →
    h.name ∉ ownRead → (∀ f ∈ h.fields, f.acc ≠ .rs) → src ≠ 161 → s.readRefusal src addr.toNat = 0 → (h.fields.map Fld.key).Nodup →
    ∃ t, exec (.rcRead src addr hw) s = .next t ∧
      t = { s with regs := t.regs, half := SMap.set s.half none addr.toNat none, answer := t.answer } ∧
      t.answer = ⟨0, s.word (h.fields.filter (fun f => f.acc ≠ .wo)) % 2 ^ 32⟩ ∧ RegsKept s t h.fields ∧
      ∀ f ∈ h.fields, t.get f = if f.acc = .rc then bits hw.toNat f.lo f.w else s.get f)

/-- O8. A mode request that passes every check of R42 (R41, R43, R45): its transition starts with the cause and target of R45, in LOAD and RUN each port 0
begins its drain (R360), the result stays open until it completes, and the write is answered 0x0000. A LOAD request is armed and leaves the mode
running. A refused mode request posts the code of its first failing check, in the order of R42, and changes nothing else: 0x1204 for a source that may
not ask, 0x1201 during a transition, 0x1203 for a wrong CONFIRM. The model's own readings and choices that it rests on: assumptions 42, 43, 44, 45,
174. Commands that this statement shows to complete with their own effect: modeReqStandby, modeReqBoot, modeReqLoad, modeReqSafe. -/
def Obligations.ModeRequests : Prop :=
  (∀ (s : State) (src : SrcId), s.modeSrcOk src = true → s.get R.DEV_MODE_BUSY = 0 → s.mode.trans = none →
    (∀ cause target : Nat, ∀ i : Instr,
      (i = .modeReqStandby src 0xA5C3 ∧ cause = 0x0D ∧ target = 1 ∧ (s.mode0 = 2 ∨ s.mode0 = 4 ∨ s.mode0 = 5) ∧
          (s.get R.DBG_SC_CTRL_ATTACH = 0 ∨ s.dbgLevel ≠ 2)) ∨
      (i = .modeReqBoot src 0xA5C3 ∧ target = 2 ∧ ((cause = 0x0E ∧ (s.mode0 = 4 ∨ s.mode0 = 5)) ∨ (cause = 0x0F ∧ s.mode0 = 3)) ∧
          bit (s.get R.PWR_STATUS_GOOD) 4 = 1 ∧ bit (s.get R.PWR_STATUS_GOOD) 5 = 1) ∨
      (i = .modeReqSafe src 0xA5C3 ∧ cause = 0x10 ∧ target = 5 ∧ s.mode0 = 4) →
      ∃ t, exec i s = .next t ∧ t.answer = ⟨0, 0⟩ ∧ t.mode = { s.mode with trans := some ⟨cause, target, 0⟩, request := some target } ∧
        t.get R.DEV_MODE_BUSY = 1 ∧ t.get R.DEV_MODE_RESULT_VALID = 0 ∧ t.get R.DEV_MODE_RESULT_STALE = 1 ∧ t.fab = s.fab ∧ t.ld = s.ld ∧ t.pt = s.pt ∧
        ((s.mode0 = 3 ∨ s.mode0 = 4) → ∀ b, b < 64 → t.p0 b ≠ p0OPEN ∧ t.p0 b ≠ p0STALLED) ∧
        (s.mode0 ≠ 3 → s.mode0 ≠ 4 → t = { s with regs := t.regs, answer := t.answer, mode := t.mode } ∧
          RegsKept s t [R.DEV_MODE_BUSY, R.DEV_MODE_RESULT_VALID, R.DEV_MODE_RESULT_STALE])) ∧
    ((s.mode0 = 2 ∨ s.mode0 = 4 ∨ s.mode0 = 5) → s.get R.LD_STATUS_STATE = 0 → bit (s.get R.PWR_STATUS_GOOD) 4 = 1 →
      bit (s.get R.PWR_STATUS_GOOD) 5 = 1 → s.mode.armed = false → bits s.mode.straps 0 2 ≠ 0 →
      ∃ t, exec (.modeReqLoad src 0xA5C3) s = .next t ∧
        t = { s with regs := t.regs, answer := ⟨0, 0⟩, mode := { s.mode with armed := true } } ∧
        t.get R.DEV_MODE_RESULT_VALID = 0 ∧ t.get R.DEV_MODE_RESULT_STALE = 1 ∧
        RegsKept s t [R.DEV_MODE_RESULT_VALID, R.DEV_MODE_RESULT_STALE])) ∧
  (∀ (s : State) (src : SrcId) (confirm : BitVec 16) (target : Nat) (i : Instr), s.mode0 ≠ 0 →
    (i = .modeReqStandby src confirm ∧ target = 1) ∨ (i = .modeReqBoot src confirm ∧ target = 2) ∨
      (i = .modeReqLoad src confirm ∧ target = 3) ∨ (i = .modeReqSafe src confirm ∧ target = 5) →
    ∀ c : Nat,
      (s.modeSrcOk src = false ∧ c = 0x1204) ∨
      (s.modeSrcOk src = true ∧ s.get R.DEV_MODE_BUSY ≠ 0 ∧ c = 0x1201) ∨
      (s.modeSrcOk src = true ∧ s.get R.DEV_MODE_BUSY = 0 ∧ confirm ≠ 0xA5C3 ∧ c = 0x1203) →
      ∃ t, exec i s = .next t ∧ Posted s t R.DEV_MODE_RESULT_STATUS c ∧ t.get R.DEV_MODE_RESULT_TARGET = target ∧
        t.get R.DEV_MODE_RESULT_WAKE = 0 ∧ t.answer = ⟨0, 0⟩ ∧
        OnlyRegs s t (R.DEV_MODE_RESULT_TARGET :: R.DEV_MODE_RESULT_WAKE :: resFlds R.DEV_MODE_RESULT_STATUS))

/-- O9. The wake compare and the wake pin (R44, R45): a write of DEV_WAKE that is not refused takes its three fields and posts 0x0000; one that would change
an armed compare posts 0x1208; the compare fires once, disarms and, in a mode other than STANDBY, logs the wake; in STANDBY with VCC_NOC and VCC_SRAM
good a firing compare, a falling WAKE_L and a select of the slave serial port start the transition to BOOT with cause 0x03; in another mode a falling
WAKE_L does nothing. Pins and temperature (R48, R676, R704, R705, R707, R708): what each event sets, and the transition that it starts where R45 lists
its cause. A transition to BOOT, LOAD, RUN or SAFE that no other trigger waits behind completes, once each port that it drains is ASLEEP, with
DEV_MODE as R39 and R45 say: MODE its target, BUSY 0, CAUSE and STATUS those of the transition. The model's own readings and choices that it rests on:
assumptions 1, 42, 43, 44, 46, 51, 53, 174. Commands that this statement shows to complete with their own effect: vbattLost, wakeLFalling,
tamperAsserted, thermalShutdown, thermHotChange, insertLDeasserted, insertLDeassertIdle, insertLAsserted, modeTransitionComplete, devWakeWrite,
devWakeFire, cmcFwAuthFail, ssSelect. -/
def Obligations.WakesPinsAndTransitions : Prop :=
  ((∀ (s : State) (src : SrcId) (data : Word64), s.mode0 ≠ 0 →
    (s.get R.DEV_WAKE_ARM = 0 ∨ bit data.toNat 48 = 0 ∨
      (bits data.toNat 0 48 = s.get R.DEV_WAKE_TARGET ∧ bits data.toNat 49 15 = s.get R.DEV_WAKE_WRAPS)) →
    ∃ t, exec (.devWakeWrite src data) s = .next t ∧ t.get R.DEV_WAKE_TARGET = bits data.toNat 0 48 ∧
      t.get R.DEV_WAKE_ARM = bit data.toNat 48 ∧ t.get R.DEV_WAKE_WRAPS = bits data.toNat 49 15 ∧ Posted s t R.DEV_MODE_RESULT_STATUS 0 ∧
      t.get R.DEV_MODE_RESULT_WAKE = 1) ∧
  (∀ (s : State) (src : SrcId) (data : Word64), s.mode0 ≠ 0 → s.get R.DEV_WAKE_ARM ≠ 0 → bit data.toNat 48 = 1 →
    (bits data.toNat 0 48 ≠ s.get R.DEV_WAKE_TARGET ∨ bits data.toNat 49 15 ≠ s.get R.DEV_WAKE_WRAPS) →
    ∃ t, exec (.devWakeWrite src data) s = .next t ∧ Posted s t R.DEV_MODE_RESULT_STATUS 0x1208 ∧ t.get R.DEV_MODE_RESULT_WAKE = 1 ∧
      OnlyRegs (s.commit R.DEV_WAKE_ARM.addr) t (R.DEV_MODE_RESULT_TARGET :: R.DEV_MODE_RESULT_WAKE :: resFlds R.DEV_MODE_RESULT_STATUS)) ∧
  (∀ s : State, s.get R.DEV_WAKE_ARM ≠ 0 → SMap.get s.tp.heldTime none 77 = none → (s.get R.DEV_WAKE_WRAPS : Int) ≤ s.mode.wakeC → s.get R.DEV_WAKE_TARGET ≤ s.now48 →
    2 ≤ s.mode0 →
    exec .devWakeFire s = .next { s.set R.DEV_WAKE_ARM 0 with mode := { s.mode with wakeLog := s.mode.wakeLog ++ [s.now32] } }) ∧
  (∀ s : State, s.mode0 ≠ 1 → s.mode.trans = none → exec .wakeLFalling s = .next s) ∧
  (∀ s : State, s.mode0 = 1 → bit (s.get R.PWR_STATUS_GOOD) 4 = 1 → bit (s.get R.PWR_STATUS_GOOD) 5 = 1 → s.mode.trans = none →
    ∀ i : Instr, (i = .wakeLFalling ∨ i = .ssSelect true ∨ i = .ssSelect false ∨ (i = .devWakeFire ∧ s.get R.DEV_WAKE_ARM ≠ 0 ∧ SMap.get s.tp.heldTime none 77 = none ∧
        (s.get R.DEV_WAKE_WRAPS : Int) ≤ s.mode.wakeC ∧ s.get R.DEV_WAKE_TARGET ≤ s.now48)) →
      ∃ t, exec i s = .next t ∧ t = { s with regs := t.regs, mode := { s.mode with trans := some ⟨3, 2, 0⟩ } } ∧
        t.get R.DEV_MODE_BUSY = 1 ∧ (i = .devWakeFire → t.get R.DEV_WAKE_ARM = 0) ∧ RegsKept s t [R.DEV_MODE_BUSY, R.DEV_WAKE_ARM])) ∧
  ((∀ s : State, ∃ t, exec .vbattLost s = .next t ∧ t.sec.ramKey = ⟨0, 0⟩ ∧ t.sec.vbattLost = true ∧
    t.sec.waiting = s.sec.waiting ++ [0x1032] ∧ t.get R.SEC_STATUS_VBATT_LOST = 1 ∧ t.mode = s.mode ∧ t.fab = s.fab) ∧
  (∀ (s : State) (held : Bool), ∃ t, exec (.tamperAsserted held) s = .next t ∧ t.sec.ramKey = ⟨0, 0⟩ ∧ t.sec.tamperSeen = true ∧
    t.pins.tamperL = !held ∧ t.dbgLevel = 0 ∧
    ((s.mode0 = 3 ∨ s.mode0 = 4) → s.mode.trans = none → t.mode.trans = some ⟨0x0A, 5, 0x1210⟩) ∧
    (s.mode0 = 1 → s.mode.trans = none → t.mode = s.mode ∧ t.sec.waiting = s.sec.waiting ++ [0x1030, 0x1031])) ∧
  (∀ (s : State) (sensor : Fin 72) (reading : Int), (s.mode0 = 2 ∨ s.mode0 = 3 ∨ s.mode0 = 4) → s.mode.trans = none →
    s.sensorOn sensor = true → s.hm.faulty.contains sensor.val = false →
    (16 * s.get R.PWR_CTRL_THERM_SHUT : Nat) ≤ reading →
    ∃ t, exec (.thermalShutdown sensor reading) s = .next t ∧ t.get R.PWR_EVT_SHUT = 1 ∧ t.get R.DEV_MODE_BUSY = 1 ∧
      t.mode = { s.mode with trans := some ⟨0x0B, 5, 0x1211⟩ }) ∧
  (∀ (s : State) (hottest : Int), s.mode0 ≠ 0 → s.pins.thermL = true → (16 * s.get R.PWR_CTRL_THERM_HOT : Nat) ≤ hottest →
    ∃ t, exec (.thermHotChange hottest) s = .next t ∧ t.pins = { s.pins with thermL := false } ∧ t.get R.PWR_EVT_HOT = 1 ∧ t.mode = s.mode) ∧
  (∀ (s : State) (hottest : Int), s.mode0 ≠ 0 → s.pins.thermL = false → hottest < (16 * s.get R.PWR_CTRL_THERM_HOT : Nat) - 48 →
    exec (.thermHotChange hottest) s = .next { s with pins := { s.pins with thermL := true } }) ∧
  (∀ s : State, exec .insertLAsserted s = .next { s with pins := { s.pins with insertL := false }, mode := { s.mode with quiet := false } }) ∧
  (∀ s : State, s.mode0 = 2 → s.mode.trans = none →
    ∃ t, exec .cmcFwAuthFail s = .next t ∧ t.get R.DEV_MODE_BUSY = 1 ∧
      t = { s with regs := t.regs, mode := { s.mode with trans := some ⟨0x12, 5, 0x1214⟩ } }) ∧
  (∀ s : State, s.pins.insertL = false → (s.mode0 = 3 ∨ s.mode0 = 4) →
    ∃ t, exec .insertLDeasserted s = .next t ∧ t.get R.PWR_EVT_REMOVAL = 1 ∧ t.pins.insertL = true) ∧
  (∀ s : State, s.pins.insertL = false → (s.mode0 = 1 ∨ s.mode0 = 2 ∨ s.mode0 = 5) →
    ∃ t, exec .insertLDeassertIdle s = .next t ∧ t.get R.PWR_EVT_REMOVAL = 1 ∧ t.pins.insertL = true)) ∧
  (∀ (s : State) (t : Trans), s.mode.trans = some t → 2 ≤ t.target → t.target ≤ 5 → t.cause ≠ 0x0C → t.cause < 256 → t.status < 65536 →
    s.mode.displaced = [] → s.transDrains t = false →
    ∃ u, exec .modeTransitionComplete s = .next u ∧ u.mode0 = t.target ∧ u.get R.DEV_MODE_BUSY = 0 ∧ u.get R.DEV_MODE_CAUSE = t.cause ∧
      u.get R.DEV_MODE_STATUS = t.status)

/-- O10. Rails that come and go (R693, R696, R701): GOOD and the power log follow the rail, 0x1120 or 0x1121 is offered to the event rings and nothing else
changes; loss of VCC_NOC or VCC_SRAM also starts cause 0x11, loss of VCC_AON or VCC_AUX leads to OFF at once, and VCC_NOC and VCC_SRAM coming good
within the window after POR release start cause 0x02. Loss of a fabric rail takes each bough connected to it to OFF with 0x1126, loss of a serial rail
takes the host link down and every lane to OFF (R696): each as the loss of the rail followed by that of its users, in ascending order. The model's own
readings and choices that it rests on: assumptions 42, 49, 50, 51, 52. Commands that this statement shows to complete with their own effect:
porRelease, coreRailsGoodBoot, railGood, railLostAonAux, railLostNocSram, railLostFabric, railLostSerial, railLostVcco. -/
def Obligations.SupplyRails : Prop :=
  ((∀ (s : State) (r : Fin 18), s.mode0 ≠ 0 → bit (s.get R.PWR_STATUS_GOOD) r = 0 →
    ∃ t, exec (.railGood r) s = .next t ∧ t.get R.PWR_STATUS_GOOD = (s.get R.PWR_STATUS_GOOD + 2 ^ r.val) % 2 ^ 18 ∧
      t.get R.PWR_EVT_RAIL_GOOD = 1 ∧ OnlyRegsEv s t [R.PWR_STATUS_GOOD, R.PWR_EVT_RAIL_GOOD, R.IO_STATUS_VCCO_OK]) ∧
  (∀ (s : State) (bank : Fin 8), s.mode0 ≠ 0 → bit (s.get R.PWR_STATUS_GOOD) (10 + bank.val) = 1 →
    ∃ t, exec (.railLostVcco bank) s = .next t ∧
      t.get R.PWR_STATUS_GOOD = (s.get R.PWR_STATUS_GOOD - 2 ^ (10 + bank.val)) % 2 ^ 18 ∧ t.get R.PWR_LOG_LAST_LOST = 10 + bank.val ∧
      t.get R.PWR_EVT_RAIL_LOST = 1 ∧ t.get R.PWR_LOG_TIME = s.now32 ∧
      OnlyRegsEv s t [R.PWR_STATUS_GOOD, R.PWR_LOG_LAST_LOST, R.PWR_EVT_RAIL_LOST, R.PWR_LOG_TIME, R.IO_STATUS_VCCO_OK]) ∧
  (∀ (s : State) (sram : Bool), 2 ≤ s.mode0 → s.mode0 ≤ 5 → s.mode.trans = none →
    bit (s.get R.PWR_STATUS_GOOD) (if sram then 5 else 4) = 1 →
    ∃ t, exec (.railLostNocSram sram) s = .next t ∧ t.get R.PWR_LOG_LAST_LOST = (if sram then 5 else 4) ∧ t.get R.DEV_MODE_BUSY = 1 ∧
      t.mode = { s.mode with trans := some ⟨0x11, 1, 0x1213⟩, bootWindow := false }) ∧
  (∀ (s : State) (aux : Bool), s.mode0 ≠ 0 →
    ∃ t, exec (.railLostAonAux aux) s = .next t ∧ t.mode0 = 0 ∧ t.sec.efKey = s.sec.efKey ∧ t.sec.ramKey = s.sec.ramKey ∧
      t.policy = s.policy ∧ t.dict.store = s.dict.store ∧ t.dbgLevel = 0 ∧ t.mode.trans = none ∧ t.pending = s.pending) ∧
  (∀ s : State, s.mode0 = 1 → s.mode.bootWindow = true → s.mode.trans = none →
    bit (s.get R.PWR_STATUS_GOOD) 4 = 0 → bit (s.get R.PWR_STATUS_GOOD) 5 = 0 →
    ∃ t, exec .coreRailsGoodBoot s = .next t ∧ t.get R.PWR_STATUS_GOOD = (s.get R.PWR_STATUS_GOOD + 16 + 32) % 2 ^ 18 ∧
      t.mode = { s.mode with trans := some ⟨2, 2, 0⟩ } ∧ t.get R.DEV_MODE_BUSY = 1) ∧
  (∀ (s : State) (straps : BitVec 16), s.mode0 = 0 →
    ∃ t, exec (.porRelease false straps) s = .next t ∧ t.mode0 = 1 ∧ t.get R.DEV_MODE_CAUSE = 1 ∧ t.mode.straps = straps.toNat ∧
      t.get R.TPLL_CFG_N = Config.trefN (bits straps.toNat 2 3) ∧ t.sec.efKey = s.sec.efKey ∧ t.sec.ramKey = s.sec.ramKey ∧
      t.fab.frames = [] ∧ t.seqs = [])) ∧
  ((∀ (s : State) (point : Fin 3), s.mode0 ≠ 0 → bit (s.get R.PWR_STATUS_GOOD) (point.val + 1) = 1 →
    exec (.railLostFabric point) s = .next ((List.range 64).foldl (fun (t : State) b =>
      if t.get (R.OP_STATUS_RAIL b) = point.val + 1 then t.boughRailLost b else t) (s.railDown (point.val + 1)))) ∧
  (∀ (s : State) (b : Nat), s.opChange b = none →
    s.boughRailLost b = ((s.boughOff b).set R.PWR_EVT_FAB_OFF 1).raise 0x1126 b 0) ∧
  (∀ (s : State) (b : Nat), b < 64 → (s.boughRailLost b).get R.PWR_EVT_FAB_OFF = 1 ∧ (s.boughRailLost b).get (R.OP_STATUS_RAIL b) = 0 ∧
    (s.boughRailLost b).get (R.OP_STATUS_STATE b) = 0) ∧
  (∀ (s : State) (high : Bool), s.mode0 ≠ 0 → bit (s.get R.PWR_STATUS_GOOD) (if high then 7 else 6) = 1 →
    exec (.railLostSerial high) s = .next ((List.range 48).foldl (fun (t : State) n =>
      if t.get (R.LN_STAT_STATE n) = 0 then t else t.laneDown n 0) (s.railDown (if high then 7 else 6)).hlDown)))

/-- O11. Where branches, blocks and slices stand (R28, R129, R162): column c holds an M branch where c mod 10 = 4, an A branch where c mod 10 = 9, and an L
branch otherwise; block k = 32m + 4·row + j stands in M column m of row `row`, at position 4·row + j of its column; A branch a = 4·row + (column -
9)/10, and slice k of it is slice 8a + k of the bough. -/
def Obligations.BranchesBlocksAndSlices : Prop :=
  (∀ col, col < 40 → (branchType col = 1 ↔ col % 10 = 4) ∧ (branchType col = 2 ↔ col % 10 = 9) ∧ (branchType col = 0 ↔ col % 10 ≠ 4 ∧ col % 10 ≠ 9)) ∧
  (∀ m row j, m < 4 → row < 8 → j < 4 → bmCol (32 * m + 4 * row + j) = 10 * m + 4 ∧ bmRow (32 * m + 4 * row + j) = row ∧ (32 * m + 4 * row + j) % 4 = j ∧ (32 * m + 4 * row + j) % 32 = 4 * row + j) ∧
  (∀ k, k < 128 → ∃ m row j, m < 4 ∧ row < 8 ∧ j < 4 ∧ k = 32 * m + 4 * row + j) ∧
  (∀ a, a < 32 → a = 4 * slRow a + (slCol a - 9) / 10 ∧ slRow a < 8 ∧ slCol a ∈ [9, 19, 29, 39]) ∧
  (∀ (s : State) (b a k : Nat), a < 32 → k < 8 → s.sliceWord b (8 * a + k) = bits (s.af b (slRow a) (slCol a) 4) (256 * k) 256)

/-- O12. The data input of each flip-flop (R62): 0b00 LA for FA and LB for FB, 0b01 SUM, 0b10 the leaf's bypass input XA or XB, 0b11 LB for FA and LA for FB. -/
def Obligations.FlipFlopDataInputs : Prop :=
  ∀ (s : State) (b row col t k : Nat),
    (bits (s.leafWord b row col t k) (ffBase 0) 2 = 0 → s.ffData b row col t k 0 = s.node b (.la row col t k)) ∧
    (bits (s.leafWord b row col t k) (ffBase 0) 2 = 1 → s.ffData b row col t k 0 = s.node b (.sum row col t k)) ∧
    (bits (s.leafWord b row col t k) (ffBase 0) 2 = 2 → s.ffData b row col t k 0 = s.node b (.tsel row col t (8 * k + 6))) ∧
    (bits (s.leafWord b row col t k) (ffBase 0) 2 = 3 → s.ffData b row col t k 0 = s.node b (.lb row col t k)) ∧
    (bits (s.leafWord b row col t k) (ffBase 1) 2 = 0 → s.ffData b row col t k 1 = s.node b (.lb row col t k)) ∧
    (bits (s.leafWord b row col t k) (ffBase 1) 2 = 1 → s.ffData b row col t k 1 = s.node b (.sum row col t k)) ∧
    (bits (s.leafWord b row col t k) (ffBase 1) 2 = 2 → s.ffData b row col t k 1 = s.node b (.tsel row col t (8 * k + 7))) ∧
    (bits (s.leafWord b row col t k) (ffBase 1) 2 = 3 → s.ffData b row col t k 1 = s.node b (.la row col t k))

/-- O13. Bough clock edges (R64, R65, R102, R106, R266, R326, R330): an edge of a global line advances its count, and a bough line that it drives gives an edge
where the count falls on its divider and at no other; an edge of TRG_CLK pulses or inverts the trigger registers with a firing that came 5.0 ns before
and lets the others fall, an edge of MARK_CLK takes the mark inputs, and a bough that does not run keeps its registers; at an edge a flip-flop takes
INIT at its first edge after release, SRVAL while its set/reset line is active, its own value while its enable is inactive, and its data input
otherwise. Block memory (R146, R148, R158): a pending write-back is written and no longer pending, the clear of BM_CNT leaves the increments of its
own cycle, BM_INJECT takes its fields unless its pattern or symbol is refused, and BM_ERR_POP pops the bough's oldest log entry. SL_RES_P of a slice
in use (R182): the read answers the fields of P, and an ordinary one takes a snapshot of the whole slot for the reads that follow, which a debug read
does not; a slice not in use reads 0. The model's own readings and choices that it rests on: assumptions 12, 16, 17, 18, 23, 24, 169, 176. Commands
that this statement shows to complete with their own effect: bmWriteback, bmCntClr, bmInject, bmErrPop, slResPRead, boughClockEdge. -/
def Obligations.FabricClockEdgesAndMemories : Prop :=
  ((∀ (s : State) (globals : BitVec 32) (resets : List (Nat × Bool)) (late : List Nat) (g : Nat) (pre : State), g = s.liveGlobals globals.toNat → pre = s.settled.countEdges g →
    ∃ t, exec (.boughClockEdge globals resets late) s = .next t ∧ t.answer = s.answer ∧ t.fab.frames = s.fab.frames ∧
    (∀ n : Fin 32, SMap.get t.clk.phase 0 n = if bit globals.toNat n = 1 ∧ s.gclLive n = true then (SMap.get s.clk.phase 0 n + 1) % 8 else SMap.get s.clk.phase 0 n) ∧
    ∀ b : BoughId, (s.running b = false → t.bough b = s.bough b) ∧ (s.running b = true →
      (bit (pre.liveLines b g) (s.trgClk b) = 1 → (t.bough b).trig = (((s.bough b).trig &&& s.trgToggle b) ^^^ s.trigDue b) % 2 ^ 16 ∧
        (t.bough b).trigPend = ((s.bough b).trigPend.filter (fun p => p.second || decide (s.tp.tick < p.tick + 4))).map (fun p => if p.tick + 4 ≤ s.tp.tick then { p with second := false } else p)) ∧
      (bit (pre.liveLines b g) (s.trgClk b) = 0 → (t.bough b).trig = (s.bough b).trig ∧ (t.bough b).trigPend = (s.bough b).trigPend) ∧
      (bit (pre.liveLines b g) (s.markClk b) = 1 → (t.bough b).mark = (List.range 4).foldl (fun a j => a + pre.selVal b 0 0 (bits (s.af b 0 40 1) (12 * j) 12) * 2 ^ j) 0) ∧
      (bit (pre.liveLines b g) (s.markClk b) = 0 → (t.bough b).mark = (s.bough b).mark) ∧
      (t.bough b).relLines = (s.bough b).relLines - ((s.bough b).relLines &&& pre.liveLines b g))) ∧
  (∀ (s : State) (b : BoughId) (n : Fin 17) (g : Nat), SMap.get s.clk.lineSw none (17 * b.val + n.val) = none →
    bit (s.liveLines b g) n = ofFlag (s.running b && s.has (lineRun b n) && decide (bit g (s.get (lineSrc b n)) = 1) && decide (s.phase (s.get (lineSrc b n)) % 2 ^ s.get (lineDact b n) = 0))) ∧
  (∀ (s : State) (globals : BitVec 32) (resets : List (Nat × Bool)) (late : List Nat), s.liveGlobals globals.toNat = 0 → (∀ b : BoughId, s.ffsHeld b = false) →
    exec (.boughClockEdge globals resets late) s = .next s) ∧
  (∀ s : State, (∀ b : BoughId, s.ffsHeld b = true → s.ffHot b = []) → s.settled = s) ∧
  (∀ (s : State) (b row col t k ab : Nat) (w o : Nat), w = s.leafWord b row col t k → o = ffBase ab →
    s.ffNext b row col t k ab true = bit w (o + 9) ∧
    (s.ctrlLine b row col t (bits w (o + 5) 2) 66 = 1 → s.ffNext b row col t k ab false = bit w (o + 8)) ∧
    (s.ctrlLine b row col t (bits w (o + 5) 2) 66 ≠ 1 → bits w (o + 3) 2 ≠ 0 → s.ctrlLine b row col t (bits w (o + 3) 2) 64 = 0 → s.ffNext b row col t k ab false = s.ff b row col t k ab) ∧
    (s.ctrlLine b row col t (bits w (o + 5) 2) 66 ≠ 1 → (bits w (o + 3) 2 = 0 ∨ s.ctrlLine b row col t (bits w (o + 3) 2) 64 ≠ 0) →
      s.ffNext b row col t k ab false = s.ffData b row col t k ab) ∧
    (∀ q edge release v, (v ∈ s.ffLoose b row col t k ab 0 q edge release → v = q ∨ v = bit w (o + 8)) ∧
      (v ∈ s.ffLoose b row col t k ab 1 q edge release → v = q ∨ v = bit w (o + 8) ∨ v = s.ffSample b row col t k ab) ∧
      (s.srAsync b row col t k ab = false → s.ffLoose b row col t k ab 0 q edge release = [q] ∧ s.ffLoose b row col t k ab 1 q edge release = [q])))) ∧
  ((∀ (s : State) (b : BoughId) (k : Fin 128) (portB : Bool) (kt row v : Nat), s.running b = true →
    (s.bmPort b k (ofFlag portB)).wb = some (kt, row, v) →
    exec (.bmWriteback b k portB) s = .next
      ((s.setBmPort b k (ofFlag portB) { s.bmPort b k (ofFlag portB) with wb := none }).setBmData b kt row v)) ∧
  (∀ (s : State) (b : BoughId) (corr unc : BitVec 8), ∃ t, exec (.bmCntClr b corr unc) s = .next t ∧
    t.get (R.BM_CNT_CORR b) = corr.toNat ∧ t.get (R.BM_CNT_UNC b) = unc.toNat ∧ t.answer = ⟨0, 0⟩ ∧
    OnlyRegs s t [R.BM_CNT_CORR b, R.BM_CNT_UNC b]) ∧
  (∀ (s : State) (b : BoughId) (data : BitVec 32),
    (bit data.toNat 21 = 0 ∨ (bits data.toNat 8 6 ≤ 35 ∧ bits data.toNat 16 4 ≠ 0)) →
    ∃ t, exec (.bmInject b data) s = .next t ∧ t.answer = ⟨0, 0⟩ ∧
      t.get (R.BM_INJECT_BLOCK b) = bits data.toNat (R.BM_INJECT_BLOCK b).lo (R.BM_INJECT_BLOCK b).w ∧
      t.get (R.BM_INJECT_SYMBOL b) = bits data.toNat 8 6 ∧ t.get (R.BM_INJECT_PATTERN b) = bits data.toNat 16 4 ∧
      t.get (R.BM_INJECT_ARM b) = bit data.toNat 21) ∧
  (∀ (s : State) (b : BoughId) (data : BitVec 32), bit data.toNat 21 = 1 → (35 < bits data.toNat 8 6 ∨ bits data.toNat 16 4 = 0) →
    exec (.bmInject b data) s = .next { s with answer := ⟨0, 0⟩ }) ∧
  (∀ (s : State) (b : BoughId), s.queue (bmErrPop b) = [] →
    exec (.bmErrPop b) s = .next { s with answer := ⟨0, 0⟩, half := SMap.set s.half none (bmErrPop b) (some 0) }) ∧
  (∀ (s : State) (b : BoughId) (w : Nat) (l : List Nat), s.queue (bmErrPop b) = w :: l →
    ∃ t, exec (.bmErrPop b) s = .next t ∧ t.answer = ⟨0, w + SMap.get s.popOvf 0 (bmErrPop b) * 2 ^ 49⟩ ∧ t.queue (bmErrPop b) = l ∧
      (∀ a, a ≠ bmErrPop b → t.queue a = s.queue a) ∧ t.regs = s.regs ∧ t.fab = s.fab)) ∧
  ((∀ (s : State) (b : BoughId) (i : Fin 256), s.sliceDark b i = false →
    exec (.slResPRead b i false) s = .next { s.setSlice b i { s.slice b i with
        snap := some (s.word (slResPFields b i), some (s.word (slResSFields b i))) } with
      answer := ⟨0, s.word (slResPFields b i)⟩ } ∧
    exec (.slResPRead b i true) s = .next { s with answer := ⟨0, s.word (slResPFields b i)⟩ }) ∧
  (∀ (s : State) (b : BoughId) (i : Fin 256) (debug : Bool), s.sliceDark b i = true →
    exec (.slResPRead b i debug) s = .next { s with answer := ⟨0, 0⟩ }))

/-- O14. Requests for operating points that pass the checks of R269 (R271 to R274): a change to another point waits for its rail slot with BUSY set; a change
to REST or OFF begins the drain of port 0, is done once that is ASLEEP and posts 0x0000, and the return from REST is done at once. The further steps
of a change (R270 to R275): the oldest waiting bough moves its rail when fewer than eight others did within 2 µs; a load's change ends once its
regulator is locked, a raised point too, and posts 0x0000; a change whose regulator does not lock waits for a slot to return to the former rail, or
leaves its rail where it came from OFF, and ends with 0x0618; a reduction that waited for a change in progress starts after it. The regulator at the
end of a window with the time PLL locked (R119, R120, R123): RATIO is shown as a new measurement; above 1.004 the trim rises by one step where it is
not at +16, below 0.996 it falls by one where it is not at -16, and otherwise it stays, LOCKED is set and the trim is saved. The model's own readings
and choices that it rests on: assumptions 36, 37, 38, 39, 54, 170, 173. Commands that this statement shows to complete with their own effect:
regulatorWindow, autoDownDeferredStart, opReqRaise, opReqLower, opReqRest, opReqReturnFromRest, opReqOff, opReqFromOff, opRailSlotGrant,
opChangeComplete, opLockTimeoutRevert. -/
def Obligations.OperatingPointsAndRegulators : Prop :=
  (∀ (s : State) (src : SrcId) (b : BoughId), s.srcOk src = true → s.get (R.OP_STATUS_BUSY b) = 0 → s.mode0 = 4 → s.partOf b ≠ none →
    (s.bough b).run ≠ .loading → (s.bough b).run ≠ .frozen →
    (∀ target : Fin 8, 1 ≤ s.opState b → s.opState b < target.val → target.val ≤ 3 → bit (s.get R.PWR_STATUS_GOOD) target = 1 →
      ∃ t, exec (.opReqRaise src b target) s = .next t ∧ t.get (R.OP_STATUS_BUSY b) = 1 ∧ t.get (R.OP_STATUS_TARGET b) = target ∧
        t.get (R.OP_STATUS_STEP b) = 2 ∧ t.opChange b = some ⟨s.opState b, target, false, false, false, false⟩ ∧
        t.clk.opQueue = s.clk.opQueue ++ [b.val] ∧ t.get (R.OP_RESULT_STALE b) = 1 ∧ t.get (R.OP_STATUS_STATE b) = s.opState b ∧
        t.answer = ⟨0, 0⟩) ∧
    (∀ target : Fin 8, s.opState b = 0 → 1 ≤ target.val → target.val ≤ 3 → bit (s.get R.PWR_STATUS_GOOD) target = 1 →
      ∃ t, exec (.opReqFromOff src b target) s = .next t ∧ t.get (R.OP_STATUS_BUSY b) = 1 ∧ t.get (R.OP_STATUS_TARGET b) = target ∧
        t.get (R.OP_STATUS_STEP b) = 2 ∧ t.opChange b = some ⟨0, target, false, false, false, false⟩ ∧
        t.clk.opQueue = s.clk.opQueue ++ [b.val] ∧ t.get (R.OP_RESULT_STALE b) = 1) ∧
    (∀ target : Fin 8, 1 ≤ target.val → target.val < s.opState b → s.opState b ≤ 3 → bit (s.get R.PWR_STATUS_GOOD) target = 1 →
      ∃ t, exec (.opReqLower src b target) s = .next t ∧ t.get (R.OP_STATUS_STEP b) = 4 ∧ (∃ l, t.clk.opQueue = l ++ [b.val]) ∧
        t.answer = ⟨0, 0⟩) ∧
    (1 ≤ s.opState b → s.opState b ≤ 3 → (s.p0 b = p0OPEN ∨ s.p0 b = p0STALLED) →
      ∃ t, exec (.opReqRest src b) s = .next t ∧ t.get (R.OP_STATUS_BUSY b) = 1 ∧ t.get (R.OP_STATUS_TARGET b) = 4 ∧ t.get (R.OP_STATUS_STEP b) = 1 ∧
        t.get (R.OP_STATUS_STATE b) = s.opState b ∧ t.p0 b = p0DRAINING ∧ t.opChange b = some ⟨s.opState b, 4, false, false, false, false⟩ ∧
        t.get (R.OP_RESULT_VALID b) = 0 ∧ t.answer = ⟨0, 0⟩) ∧
    (1 ≤ s.opState b → s.opState b ≤ 3 → s.p0 b = p0ASLEEP →
      ∃ t, exec (.opReqRest src b) s = .next t ∧ (t.bough b).run = .rest ∧ (t.bough b).keepOp = s.opState b ∧ t.get (R.OP_STATUS_STATE b) = 4 ∧ t.get (R.OP_STATUS_TARGET b) = 4 ∧
        t.get (R.OP_RESULT_STATUS b) = 0 ∧ t.get (R.OP_RESULT_TARGET b) = 4 ∧ t.get (R.OP_RESULT_VALID b) = 1) ∧
    (s.opState b = 4 → 1 ≤ (s.bough b).keepOp → (s.bough b).keepOp ≤ 3 → bit (s.get R.PWR_STATUS_GOOD) (s.bough b).keepOp = 1 →
      ∃ t, exec (.opReqReturnFromRest src b) s = .next t ∧ (t.bough b).run = .running ∧ t.get (R.OP_STATUS_STATE b) = (s.bough b).keepOp ∧ t.get (R.OP_RESULT_STATUS b) = 0 ∧
        t.get (R.OP_RESULT_TARGET b) = (s.bough b).keepOp ∧ t.get (R.OP_RESULT_VALID b) = 1) ∧
    (s.opState b ≠ 0 → (s.p0 b = p0OPEN ∨ s.p0 b = p0STALLED) →
      ∃ t, exec (.opReqOff src b) s = .next t ∧ t.get (R.OP_STATUS_BUSY b) = 1 ∧ t.get (R.OP_STATUS_TARGET b) = 0 ∧ t.p0 b = p0DRAINING ∧
        t.opChange b = some ⟨s.opState b, 0, false, false, false, false⟩ ∧ t.get (R.OP_RESULT_VALID b) = 0 ∧ t.answer = ⟨0, 0⟩) ∧
    (s.opState b ≠ 0 → s.p0 b = p0ASLEEP →
      ∃ t, exec (.opReqOff src b) s = .next t ∧ t.get (R.OP_STATUS_STATE b) = 0 ∧ t.get (R.OP_STATUS_TARGET b) = 0 ∧
        t.get (R.OP_STATUS_RAIL b) = 0 ∧ t.get (R.DR_STATUS_OP b) = 0 ∧ t.get (R.OP_RESULT_STATUS b) = 0 ∧ t.get (R.OP_RESULT_VALID b) = 1)) ∧
  ((∀ (s : State) (b : Nat) (rest : List Nat) (c : OpChange), b < 64 → s.clk.opQueue = b :: rest → (s.bough b).run ≠ .frozen →
    s.opChange b = some c → c.target < 4 → c.former < 4 →
    (s.clk.slotTimes.filter (fun (x : Int) => decide (s.nowFull - 2000 * 65536 < x))).length < 8 →
    ∃ t, exec .opRailSlotGrant s = .next t ∧ t.clk.opQueue = rest ∧ t.opChange b = some { c with granted := true } ∧
      t.get (R.OP_STATUS_RAIL b) = (if c.back then c.former else c.target) ∧ t.get (R.DR_STATUS_OP b) = (if c.back then c.former else c.target) ∧ t.get (R.DR_STATUS_LOCKED b) = 0) ∧
  (∀ (s : State) (b : BoughId) (c : OpChange), s.opChange b = some c → c.granted = true → s.get (R.DR_STATUS_LOCKED b) ≠ 0 → c.byLoad = true →
    c.back = false → (s.bough b).run ≠ .frozen → c.target < 8 →
    ∃ t, exec (.opChangeComplete b) s = .next t ∧ t.get (R.OP_STATUS_STATE b) = c.target ∧ t.get (R.OP_STATUS_BUSY b) = 0 ∧ t.opChange b = none) ∧
  (∀ (s : State) (b : BoughId) (c : OpChange), s.opChange b = some c → c.granted = true → s.get (R.DR_STATUS_LOCKED b) ≠ 0 → c.byLoad = false →
    c.auto = false → c.back = false → (s.bough b).run ≠ .frozen → c.target < 8 →
    ∃ t, exec (.opChangeComplete b) s = .next t ∧ t.get (R.OP_STATUS_STATE b) = c.target ∧ t.get (R.OP_STATUS_BUSY b) = 0 ∧ t.get (R.OP_RESULT_STATUS b) = 0 ∧ t.get (R.OP_RESULT_TARGET b) = c.target ∧
      t.get (R.OP_RESULT_VALID b) = 1 ∧ t.get (R.OP_RESULT_STALE b) = 0) ∧
  (∀ (s : State) (b : BoughId) (c : OpChange), s.opChange b = some c → c.granted = true → (s.bough b).run ≠ .frozen → c.byLoad = false →
    c.former ≤ c.target →
    (c.back = false → c.former ≠ 0 → s.get (R.DR_STATUS_LOCKED b) = 0 →
      ∃ t, exec (.opLockTimeoutRevert b) s = .next t ∧ t.opChange b = some { c with back := true, granted := false } ∧
        t.clk.opQueue = s.clk.opQueue ++ [b.val] ∧ t.get (R.OP_STATUS_STEP b) = 2 ∧ t.get (R.OP_STATUS_BUSY b) = s.get (R.OP_STATUS_BUSY b)) ∧
    ((c.back = true ∨ (c.former = 0 ∧ s.get (R.DR_STATUS_LOCKED b) = 0)) →
      ∃ t, exec (.opLockTimeoutRevert b) s = .next t ∧ t.get (R.OP_STATUS_BUSY b) = 0 ∧ t.opChange b = none ∧ t.get (R.OP_RESULT_STATUS b) = 0x0618 ∧
        (c.back = false → t.get (R.OP_STATUS_RAIL b) = 0))) ∧
  (∀ (s : State) (b : BoughId), SMap.get s.clk.autoWait 0 b ≠ 0 → s.get (R.OP_STATUS_BUSY b) = 0 → SMap.get s.clk.autoWait 0 b < s.opState b →
    s.opState b ≤ 3 → s.mode0 = 4 → s.running b = true →
    ∃ t, exec (.autoDownDeferredStart b) s = .next t ∧ t.get (R.OP_STATUS_STEP b) = 4 ∧ ∃ l, t.clk.opQueue = l ++ [b.val])) ∧
  (∀ (s : State) (b : BoughId) (ratio : BitVec 16) (temp : Int), s.mode0 ≠ 5 → s.get (R.DR_STATUS_OP b) ≠ 0 → s.get R.CK_STATUS_TPLL_LOCK ≠ 0 →
    -16 ≤ s.trim b → s.trim b ≤ 16 →
    (0x8083 < ratio.toNat → s.trim b < 16 → ∃ t, exec (.regulatorWindow b ratio temp) s = .next t ∧
      t.get (R.DR_MEAS_RATIO b) = ratio.toNat ∧ t.get (R.DR_STATUS_HOLD b) = 0 ∧ t.trim b = s.trim b + 1) ∧
    (ratio.toNat < 0x7F7D → -16 < s.trim b → ∃ t, exec (.regulatorWindow b ratio temp) s = .next t ∧
      t.get (R.DR_MEAS_RATIO b) = ratio.toNat ∧ t.get (R.DR_STATUS_HOLD b) = 0 ∧ t.trim b = s.trim b - 1) ∧
    (0x7F7D ≤ ratio.toNat → ratio.toNat ≤ 0x8083 → ∃ t, exec (.regulatorWindow b ratio temp) s = .next t ∧
      t.get (R.DR_MEAS_RATIO b) = ratio.toNat ∧ t.get (R.DR_STATUS_LOCKED b) = 1 ∧ t.trim b = s.trim b))

/-- O15. Events of a sequencer (R207, R208, R209): one that finds RUN sets its pending bit and nothing else, one that finds IDLE starts RUN at its entry, one
that finds FAULT or its bit already set counts as lost; a preempting event is taken at a boundary that is not held off, as the entry of the lowest
such channel with the loop stack empty and the two younger instructions cancelled. A fetch (R203, R205, R206, R212): the word at PC enters with its
address; PC goes on by one, back to the start of a loop body whose end it is, or after the second delay slot to the target of a taken branch; a
corrected word counts in IFIX. What stage D finds wrong whatever the class, an address above 2,047, an uncorrectable word or a reserved class (R222,
R224, R241), stands with the word, and the cycle in which it reaches stage D faults with its code and address (R215). The model's own readings and
choices that it rests on: assumptions 25, 26, 27, 29, 177. Commands that this statement shows to complete with their own effect: sqEventArrival,
sqEventTaken, seqFetch, seqMem, seqMac, seqLop, seqSop, seqBr, seqRepeat, seqSetag, seqSetmode, seqWait, seqEnd, seqSig. -/
def Obligations.SequencerEventsAndFetch : Prop :=
  ((∀ (s : State) (b : BoughId) (a : SeqId) (ch kind : Fin 4), s.sqEnabled b a = true → s.sqKind b a ch = kind.val →
    s.sqChanOk b a ch = true → (kind.val = 2 → s.sqEvsel b a ch ≠ 0) → (s.bough b).run = .running → s.swapWaits b = false →
    ((s.sqState b a = sqRUN ∨ s.sqState b a = sqHALT) → bit (s.get (R.SQ_STATUS_PEND b a)) ch = 0 →
      exec (.sqEventArrival b a ch kind) s = .next (s.set (R.SQ_STATUS_PEND b a) (s.get (R.SQ_STATUS_PEND b a) + 2 ^ ch.val))) ∧
    (s.sqState b a = sqFAULT ∨ bit (s.get (R.SQ_STATUS_PEND b a)) ch = 1 →
      exec (.sqEventArrival b a ch kind) s =
        .next (s.set (R.SQ_CNT_EVLOST b a) (min (2 ^ 16 - 1) (s.get (R.SQ_CNT_EVLOST b a) + 1)))) ∧
    (s.sqState b a = sqIDLE → s.get (R.SQ_STATUS_PEND b a) = 0 → (s.seq b a).wq = [] →
      ∃ t, exec (.sqEventArrival b a ch kind) s = .next t ∧ t.sqState b a = sqRUN ∧ (t.seq b a).pc = s.sqEntry b a ch ∧
        (t.seq b a).cur = none ∧ (t.seq b a).loops = [] ∧ t.get (R.SQ_STATUS_PEND b a) = 0)) ∧
  (∀ (s : State) (b : BoughId) (a : SeqId) (held k : Nat), s.sqLive b a = true → s.sqState b a = sqRUN → (s.seq b a).free = true → (s.seq b a).stuck = false →
    (s.seq b a).stopPend = false → (s.seq b a).haltPend = 0 → s.sqPending b a (fun k => s.sqPreempt b a k) = some k →
    ∃ t, exec (.sqEventTaken b a held) s = .next t ∧ t.sqState b a = sqRUN ∧ (t.seq b a).pc = s.sqEntry b a k ∧
      (t.seq b a).cur = none ∧ (t.seq b a).loops = [] ∧ (t.seq b a).slots = 0 ∧
      t.get (R.SQ_STATUS_PEND b a) = (s.get (R.SQ_STATUS_PEND b a) - 2 ^ k) % 16)) ∧
  (∀ (s : State) (b : BoughId) (a : SeqId), s.sqLive b a = true → s.sqState b a = sqRUN →
    (∀ (upset : Fin 3) (w pc : Nat), (s.seq b a).cur = none → pc = (s.seq b a).pc → w = s.iword b a pc →
      ∃ t c, exec (.seqFetch b a upset) s = .next t ∧ (t.seq b a).cur = some c ∧ c.word = w ∧ c.addr = min pc 2047 ∧
        (c.slot = true ↔ (s.seq b a).slots ≠ 0) ∧ (c.inLoop = true ↔ (s.seq b a).loops ≠ []) ∧ c.stalled = false ∧ t.sqState b a = sqRUN ∧
        c.bad = (if 2048 ≤ pc then 0x0808 else if upset = 2 then 0x0806
          else if 9 ≤ bits w 60 4 ∨ (bits w 60 4 = 8 ∧ 3 ≤ bits w 56 4) then 0x0801 else 0) ∧
        (t.seq b a).slots = (s.seq b a).slots - 1 ∧
        ((s.seq b a).slots ≠ 1 → (s.seq b a).loops.all (fun l => decide (l.stop ≠ pc)) = true →
          (t.seq b a).pc = pc + 1 ∧ (t.seq b a).loops = (s.seq b a).loops) ∧
        (∀ l rest, (s.seq b a).loops = l :: rest → (s.seq b a).slots ≠ 1 → l.stop = pc → 1 < l.count →
          (t.seq b a).pc = l.start ∧ (t.seq b a).loops = { l with count := l.count - 1 } :: rest) ∧
        (∀ tgt, (s.seq b a).target = some tgt → (s.seq b a).slots = 1 → (t.seq b a).pc = tgt) ∧
        (upset = 1 → pc < 2048 → t.get (R.SQ_CNT_IFIX b a) = min (2 ^ 16 - 1) (s.get (R.SQ_CNT_IFIX b a) + 1)) ∧
        (upset ≠ 1 → t.get (R.SQ_CNT_IFIX b a) = s.get (R.SQ_CNT_IFIX b a))) ∧
    (∀ (c : SeqInstr) (upset : Fin 3) (near : Bool) (i : Instr), (s.seq b a).cur = some c → c.bad ≠ 0 → c.bad < 2 ^ 16 → c.addr < 2048 → c.stalled = false →
      i ∈ [.seqFetch b a upset, .seqMem b (a, near), .seqMac b (a, near), .seqLop b (a, near), .seqSop b a, .seqBr b a, .seqRepeat b a, .seqSetag b a,
        .seqSetmode b a, .seqWait b a, .seqEnd b a, .seqSig b a] →
      ∃ t, exec i s = .next t ∧ t.sqState b a = sqFAULT ∧ t.get (R.SQ_FAULT_CODE b a) = c.bad ∧
        t.get (R.SQ_FAULT_PC b a) = c.addr ∧ t.get (resValid (R.SQ_FAULT_CODE b a)) = 1 ∧ (t.seq b a).cur = none))

/-- O16. SQ_CMD and the instruction store (R214, R215, R218): each command posts one result with its CMD, STOP only when IDLE is reached; the refusals of R218
and R214 change nothing else. The model's own readings and choices that it rests on: assumptions 9, 28. Commands that this statement shows to complete
with their own effect: sqCmdEvent, sqCmdStop, sqStopTaken, sqCmdClear, sqCmdClrcnt, sqIstoreWrite. -/
def Obligations.SequencerCommands : Prop :=
  (∀ (s : State) (b : BoughId) (a : SeqId) (ch : Fin 4), s.sqEnabled b a = true → s.sqKind b a ch = 3 → s.sqChanOk b a ch = true → (s.bough b).run = .running →
    s.swapWaits b = false → s.sqState b a = sqRUN → bit (s.get (R.SQ_STATUS_PEND b a)) ch = 0 →
    ∃ t, exec (.sqCmdEvent b a ch) s = .next t ∧ t.answer = ⟨0, 0⟩ ∧ Posted s t (R.SQ_CMD_RESULT_STATUS b a) 0 ∧
      t.get (R.SQ_CMD_RESULT_CMD b a) = 1 ∧ t.get (R.SQ_STATUS_PEND b a) = (s.get (R.SQ_STATUS_PEND b a) + 2 ^ ch.val) % 16 ∧
      OnlyRegs s t (R.SQ_STATUS_PEND b a :: R.SQ_CMD_RESULT_CMD b a :: resFlds (R.SQ_CMD_RESULT_STATUS b a))) ∧
  (∀ (s : State) (b : BoughId) (a : SeqId), s.sqState b a ≠ sqIDLE → s.sqState b a ≠ sqFAULT →
    ∃ t, exec (.sqCmdStop b a) s = .next t ∧ t.answer = ⟨0, 0⟩ ∧ t.seq b a = { s.seq b a with stopPend := true } ∧
      t.get (resValid (R.SQ_CMD_RESULT_STATUS b a)) = 0 ∧ t.get (resStale (R.SQ_CMD_RESULT_STATUS b a)) = 1) ∧
  (∀ (s : State) (b : BoughId) (a : SeqId) (held : Nat), s.sqLive b a = true → (s.seq b a).stopPend = true → (s.seq b a).haltPend = 0 →
    (s.sqState b a = sqWAIT ∨ (s.sqState b a = sqRUN ∧ (s.seq b a).free = true ∧ (s.seq b a).stuck = false)) →
    ∃ t, exec (.sqStopTaken b a held) s = .next t ∧ (t.sqState b a = sqIDLE ∨ t.sqState b a = sqRUN) ∧ (t.seq b a).stopPend = false ∧
      t.get (R.SQ_CMD_RESULT_CMD b a) = 2 ∧ t.get (R.SQ_CMD_RESULT_STATUS b a) = 0 ∧
      t.get (resValid (R.SQ_CMD_RESULT_STATUS b a)) = 1 ∧ t.get (resStale (R.SQ_CMD_RESULT_STATUS b a)) = 0) ∧
  (∀ (s : State) (b : BoughId) (a : SeqId), s.sqState b a = sqFAULT →
    ∃ t, exec (.sqCmdClear b a) s = .next t ∧ t.answer = ⟨0, 0⟩ ∧ (t.sqState b a = sqIDLE ∨ t.sqState b a = sqRUN) ∧
      t.get (R.SQ_CMD_RESULT_CMD b a) = 3 ∧ t.get (R.SQ_CMD_RESULT_STATUS b a) = 0 ∧ t.get (resValid (R.SQ_CMD_RESULT_STATUS b a)) = 1) ∧
  (∀ (s : State) (b : BoughId) (a : SeqId) (stall lost fix : Bool),
    ∃ t, exec (.sqCmdClrcnt b a stall lost fix) s = .next t ∧ t.get (R.SQ_CNT_STALLS b a) = ofFlag stall ∧
      t.get (R.SQ_CNT_EVLOST b a) = ofFlag lost ∧ t.get (R.SQ_CNT_IFIX b a) = ofFlag fix ∧ t.get (R.SQ_CMD_RESULT_CMD b a) = 4 ∧
      Posted s t (R.SQ_CMD_RESULT_STATUS b a) 0 ∧ t.answer = ⟨0, 0⟩ ∧
      OnlyRegs s t ([R.SQ_CNT_STALLS b a, R.SQ_CNT_EVLOST b a, R.SQ_CNT_IFIX b a, R.SQ_CMD_RESULT_CMD b a] ++
        resFlds (R.SQ_CMD_RESULT_STATUS b a))) ∧
  (∀ (s : State) (b : BoughId) (a : SeqId) (w : Fin 2048) (data : Word64),
    ((s.sqState b a = sqIDLE ∨ s.sqState b a = sqFAULT) →
      ∃ t, exec (.sqIstoreWrite b a w data) s = .next t ∧ t = { s.commit (Config.rp b 3 + 0x100000 + 0x4000 * a.val + 8 * w.val) with istore := t.istore, answer := ⟨0, 0⟩ } ∧
        t.iword b a w = data.toNat ∧ ∀ (b' a' w' : Nat), b' < 64 → a' < 32 → w' < 2048 → (b', a', w') ≠ (b.val, a.val, w.val) →
          t.iword b' a' w' = s.iword b' a' w') ∧
    (s.sqState b a ≠ sqIDLE → s.sqState b a ≠ sqFAULT →
      exec (.sqIstoreWrite b a w data) s = .next { s.commit (Config.rp b 3 + 0x100000 + 0x4000 * a.val + 8 * w.val) with answer := ⟨0x0812, 0⟩ })) ∧
  (∀ (s : State) (b : BoughId) (a : SeqId) (i : Instr) (cmd code : Nat),
    (i = .sqCmdStop b a ∧ cmd = 2 ∧ code = 0x0810 ∧ (s.sqState b a = sqIDLE ∨ s.sqState b a = sqFAULT)) ∨
    (i = .sqCmdClear b a ∧ cmd = 3 ∧ code = 0x0810 ∧ s.sqState b a ≠ sqFAULT) ∨
    (∃ ch, i = .sqCmdEvent b a ch ∧ cmd = 1 ∧ code = 0x0813 ∧ s.sqEnabled b a = false) ∨
    (∃ ch, i = .sqCmdEvent b a ch ∧ cmd = 1 ∧ code = 0x0811 ∧ s.sqEnabled b a = true ∧ s.sqKind b a ch ≠ 3) →
    ∃ t, exec i s = .next t ∧ t.get (R.SQ_CMD_RESULT_CMD b a) = cmd ∧ Posted s t (R.SQ_CMD_RESULT_STATUS b a) code ∧ t.answer = ⟨0, 0⟩ ∧
      OnlyRegs s t (R.SQ_CMD_RESULT_CMD b a :: resFlds (R.SQ_CMD_RESULT_STATUS b a)))

/-- O17. Scalar, branch and loop instructions (R203 to R206, R235 to R238): a legal SOP leaves its value for S_DST; a branch opens two delay slots and a taken
one names its target; REPEAT pushes its loop, or skips the body where the count is 0; SETAG writes the fields that WMASK selects. Each then retires.
Mode and control instructions (R211, R239 to R241): SETMODE writes its field in each lane of LMASK and leaves the other lanes; WAIT with nothing
pending holds in WAIT with its mask; END enters IDLE; SIG sets its bit of SQ_SIG. The model's own readings and choices that it rests on: assumptions
25, 26, 28, 177. Commands that this statement shows to complete with their own effect: seqSop, seqBr, seqRepeat, seqSetag, seqSetmode, seqWait,
seqEnd, seqSig. -/
def Obligations.ScalarControlAndModeInstructions : Prop :=
  ((∀ (s : State) (b : BoughId) (a : SeqId) (c : SeqInstr), s.sqReady b a 3 = some c → c.bad = 0 → bits c.word 56 4 ≤ 11 → bits c.word 32 14 = 0 →
    (bit c.word 46 = 1 ∧ bits c.word 47 3 = 0 ∨ bit c.word 46 = 0 ∧ bits c.word 0 32 = 0) → (bits c.word 56 4 = 0 → bits c.word 50 3 = 0) →
    ∃ t, exec (.seqSop b a) s = .next t ∧ (t.seq b a).cur = none ∧
      (t.seq b a).wq = [.setS (bits c.word 53 3) (sopValue (bits c.word 56 4) (((s.stageA b a).seq b a).sreg (bits c.word 50 3))
        (if bit c.word 46 = 1 then bits c.word 0 32 else ((s.stageA b a).seq b a).sreg (bits c.word 47 3)))] :: ((s.stageA b a).seq b a).wq) ∧
  (∀ (s : State) (b : BoughId) (a : SeqId) (c : SeqInstr) (u : State) (tgt : Nat), s.sqReady b a 4 = some c → c.bad = 0 → u = s.stageA b a →
    bits c.word 56 4 ≤ 8 → bits c.word 11 37 = 0 → (bit c.word 51 = 1 ∧ bits c.word 0 11 = 0 ∨ bit c.word 51 = 0 ∧ bits c.word 48 3 = 0) →
    ((bits c.word 56 4 = 0 ∨ 7 ≤ bits c.word 56 4) → bits c.word 52 4 = 0) → (bits c.word 56 4 ≤ 4 → bits c.word 52 4 ≤ 7) →
    c.slot = false → c.nearEnd = false → tgt = (if bit c.word 51 = 1 then (u.seq b a).sreg (bits c.word 48 3) % 2048 else bits c.word 0 11) →
    ((u.seq b a).loops = [] ∨ ∃ l rest, (u.seq b a).loops = l :: rest ∧ l.start ≤ tgt ∧ tgt ≤ l.stop) →
    ∃ t, exec (.seqBr b a) s = .next t ∧ (t.seq b a).cur = none ∧ (t.seq b a).slots = 2 ∧
      (u.branchTaken b a (bits c.word 56 4) (bits c.word 52 4) → (t.seq b a).target = some tgt) ∧
      (¬ u.branchTaken b a (bits c.word 56 4) (bits c.word 52 4) → (t.seq b a).target = none)) ∧
  (∀ (s : State) (b : BoughId) (a : SeqId) (c : SeqInstr) (n : Nat), s.sqReady b a 5 = some c → c.bad = 0 → bits c.word 11 28 = 0 →
    (bit c.word 59 = 1 ∧ bits c.word 39 17 = 0 ∧ n = (s.seq b a).sreg (bits c.word 56 3) ∨
      bit c.word 59 = 0 ∧ bits c.word 56 3 = 0 ∧ n = bits c.word 39 17) →
    n ≤ 65536 → c.slot = false → c.addr + 1 ≤ bits c.word 0 11 →
    ((s.seq b a).loops = [] ∨ ∃ l rest, (s.seq b a).loops = l :: rest ∧ bits c.word 0 11 ≤ l.stop) →
    (0 < n → (s.seq b a).loops.length < 4 →
      ∃ t, exec (.seqRepeat b a) s = .next t ∧ (t.seq b a).cur = none ∧
        (t.seq b a).loops = ⟨c.addr + 1, bits c.word 0 11, n⟩ :: ((s.stageA b a).seq b a).loops) ∧
    (n = 0 → ∃ t, exec (.seqRepeat b a) s = .next t ∧ (t.seq b a).cur = none ∧ (t.seq b a).pc = bits c.word 0 11 + 1)) ∧
  (∀ (s : State) (b : BoughId) (a : SeqId) (c : SeqInstr) (x len : Nat) (g : AddrGen), s.sqReady b a 6 = some c → c.bad = 0 → bits c.word 47 2 = 0 →
    x = ((s.stageA b a).seq b a).sreg (bits c.word 49 3) → g = ((s.stageA b a).seq b a).ag (bits c.word 58 2) →
    (bit c.word 52 = 1 ∧ bits c.word 0 47 = 0 ∧ len = x ∨
      bit c.word 52 = 0 ∧ bits c.word 49 3 = 0 ∧ len = bits c.word 22 12 ∧ (bit c.word 53 = 0 → bits c.word 0 11 = 0) ∧
      (bit c.word 54 = 0 → bits c.word 11 11 = 0) ∧ (bit c.word 55 = 0 → bits c.word 22 12 = 0) ∧ (bit c.word 56 = 0 → bits c.word 34 12 = 0) ∧
      (bit c.word 57 = 0 → bit c.word 46 = 0)) →
    (bit c.word 55 = 1 → len ≤ 2048) →
    ∃ t, exec (.seqSetag b a) s = .next t ∧ (t.seq b a).cur = none ∧ (t.seq b a).setag = some (bits c.word 58 2, ⟨
      if bit c.word 53 = 1 then (if bit c.word 52 = 1 then x % 2048 else bits c.word 0 11) else g.base,
      if bit c.word 54 = 1 then (if bit c.word 52 = 1 then x % 2048 else bits c.word 11 11) else g.ptr,
      if bit c.word 55 = 1 then len else g.len,
      if bit c.word 56 = 1 then (if bit c.word 52 = 1 then x % 4096 else bits c.word 34 12) else g.stride,
      if bit c.word 57 = 1 then decide ((if bit c.word 52 = 1 then x else bit c.word 46) % 2 = 1) else g.circ⟩, decide (bit c.word 54 = 1)))) ∧
  ((∀ (s : State) (b : BoughId) (a : SeqId) (c : SeqInstr) (new : Nat → LaneMode), s.sqReady b a 7 = some c → c.bad = 0 → bits c.word 56 4 ≤ 11 → bits c.word 24 19 = 0 →
    (bit c.word 55 = 1 ∧ bits c.word 0 24 = 0 ∨ bit c.word 55 = 0 ∧ bits c.word 51 4 = 0) →
    (∀ l < 8, bit (bits c.word 43 8) l = 1 →
      modeField (((s.stageA b a).seq b a).lmode l) (bits c.word 56 4)
        (if bit c.word 55 = 1 then ((s.stageA b a).seq b a).vreg l (bits c.word 51 4) else bits c.word 0 24) = some (new l) ∧
      ((new l).dual = false ∨ (new l).rshift ≤ 16 ∧ (bits c.word 56 4 ≠ 0 ∨ inQuad ((s.stageA b a).abranchWord b a) l = false))) →
    ∃ t, exec (.seqSetmode b a) s = .next t ∧ (t.seq b a).cur = none ∧
      ∀ l < 8, (t.seq b a).lmode l = if bit (bits c.word 43 8) l = 1 then new l else ((s.stageA b a).seq b a).lmode l) ∧
  (∀ (s : State) (b : BoughId) (a : SeqId) (c : SeqInstr), s.sqReady b a 8 = some c → c.bad = 0 → bits c.word 56 4 = 0 → bits c.word 4 52 = 0 → c.slot = false →
    (s.stageA b a).get (R.SQ_STATUS_PEND b a) = 0 →
    ∃ t, exec (.seqWait b a) s = .next t ∧ t.sqState b a = sqWAIT ∧ (t.seq b a).waitMask = bits c.word 0 4 ∧ (t.seq b a).cur = none) ∧
  (∀ (s : State) (b : BoughId) (a : SeqId) (c : SeqInstr), s.sqReady b a 8 = some c → c.bad = 0 → bits c.word 56 4 = 1 → bits c.word 0 56 = 0 → c.slot = false →
    ∃ t, exec (.seqEnd b a) s = .next t ∧ (t.seq b a).stopPend = false ∧ (t.sqState b a = sqIDLE ∨ t.sqState b a = sqRUN) ∧
      (((s.stageA b a).seq b a).wq = [] → (s.stageA b a).get (R.SQ_STATUS_PEND b a) = 0 → t.sqState b a = sqIDLE)) ∧
  (∀ (s : State) (b : BoughId) (a : SeqId) (c : SeqInstr), s.sqReady b a 8 = some c → c.bad = 0 → bits c.word 56 4 = 2 → bits c.word 2 54 = 0 →
    ∃ t, exec (.seqSig b a) s = .next t ∧ (t.seq b a).cur = none ∧
      t.get (R.SQ_SIG_SIG b a) = ((s.stageA b a).get (R.SQ_SIG_SIG b a) ||| 2 ^ bits c.word 0 2) % 16))

/-- O18. Memory and lane instructions (R194, R225, R228 to R234): a legal MEM, MAC or LOP word without slots retires, a LOP with the value of R234 for each
lane of V_DST, a MAC with one accumulation for each lane and the flags of its word; a word with a usable store slot retires too, with the generator's
post-modify; a store of LANE_LO in a raw store packs the low 18 bits of the lanes; a stalled word goes on when READY rises, its cycles counted. The
lane functions are 24-bit two's-complement arithmetic (R234): the plain sums wrap, ADDS, SUBS, ABS and NEG clamp, the shifts take the low five bits of
SB and MIN, MAX and SLT compare as signed; the scalar functions wrap at 32 bits (R235). The model's own readings and choices that it rests on:
assumptions 25, 29, 177. Commands that this statement shows to complete with their own effect: seqMem, seqMac, seqLop, seqStallRelease. -/
def Obligations.MemoryAndLaneInstructions : Prop :=
  ((∀ (s : State) (b : BoughId) (a : SeqId) (near : Bool) (c : SeqInstr), s.sqReady b a 0 = some c → c.bad = 0 → bits c.word 0 60 = 0 →
    ∃ t, exec (.seqMem b (a, near)) s = .next t ∧ (t.seq b a).cur = none ∧ (t.seq b a).wq.head? = some []) ∧
  (∀ (s : State) (b : BoughId) (a : SeqId) (near : Bool) (c : SeqInstr), s.sqReady b a 2 = some c → c.bad = 0 → bits c.word 0 26 = 0 → bits c.word 55 5 ≤ 16 →
    bits c.word 46 5 < 16 → bits c.word 41 5 < 16 → (bits c.word 55 5 ≠ 0 ∧ bits c.word 55 5 ≠ 13 ∧ bits c.word 55 5 ≠ 14) → bits c.word 26 15 = 0 →
    ∃ t ws, exec (.seqLop b (a, near)) s = .next t ∧ (t.seq b a).cur = none ∧ (t.seq b a).wq.head? = some ws ∧
      ∀ l < 8, ws[l]? = some (.setV l (bits c.word 51 4) (lopValue (bits c.word 55 5)
        (((s.stageA b a).seq b a).vreg l (bits c.word 46 5)) (((s.stageA b a).seq b a).vreg l (bits c.word 41 5))))) ∧
  (∀ (s : State) (b : BoughId) (a : SeqId) (near : Bool) (c : SeqInstr), s.sqReady b a 1 = some c → c.bad = 0 → bits c.word 0 26 = 0 →
    bits c.word 47 5 < 16 → bits c.word 42 5 < 16 → bits c.word 37 5 ≤ 16 → bits c.word 32 5 = 16 → bits c.word 26 6 ≤ 32 →
    bit c.word 54 = 0 → bit c.word 53 = 0 → (bit c.word 55 = 1 → bit c.word 56 = 1) →
    ((List.range 8).all (fun l => !((s.seq b a).lmode l).dual) = true) →
    ∃ t lanes, exec (.seqMac b (a, near)) s = .next t ∧ (t.seq b a).cur = none ∧
      (t.seq b a).wq.head? = some [.mac lanes (bits c.word 26 6) (decide (bit c.word 55 = 1)) false (decide (bit c.word 52 = 1))] ∧ lanes.length = 8 ∧
      ∀ l < 8, ∀ m, lanes[l]? = some m → inQuad (s.abranchWord b a) l = false →
        m.op.a = ((s.stageA b a).seq b a).vreg l (bits c.word 47 5) ∧ m.op.b = ((s.stageA b a).seq b a).vreg l (bits c.word 42 5)) ∧
  (∀ (b a i row mask : Nat) (t : SlotWord) (f : Nat → Nat) (r : SlotRun), r.trap = false → t.kind = 2 → t.form = 0 →
    bits (r.st.blockWord b (opBlock a row)) 1 2 ≠ 1 → b < 64 → row < 2048 → a < 32 →
    (slotAccess b a i false t row f mask false r).st.bmData b (opBlock a row) (row / 4) =
      (List.range 8).foldl (fun acc l => acc + f l % 2 ^ 18 * 2 ^ (18 * l)) 0) ∧
  (∀ (s : State) (b : BoughId) (a : SeqId) (near : Bool) (c : SeqInstr), s.sqReady b a 0 = some c → c.bad = 0 → bits c.word 13 47 = 0 → bits c.word 11 2 = 2 → bits c.word 5 3 ≤ 1 →
    bit c.word 0 = 0 → s.blockUsed b (opBlock a ((s.seq b a).ag (bits c.word 9 2)).ptr) = true →
    bit (s.blockWord b (opBlock a ((s.seq b a).ag (bits c.word 9 2)).ptr)) 27 = 1 → s.bmReady b (opBlock a ((s.seq b a).ag (bits c.word 9 2)).ptr) = true →
    ∃ t, exec (.seqMem b (a, near)) s = .next t ∧ (t.seq b a).cur = none ∧ (t.seq b a).wq.head? = some [] ∧
      ((s.seq b a).setag = none → bit c.word 8 = 1 → (t.seq b a).ag (bits c.word 9 2) = agNext ((s.seq b a).ag (bits c.word 9 2)))) ∧
  (∀ (s : State) (b : BoughId) (a : SeqId) (near : Bool) (c : SeqInstr) (cycles : Nat) (u : State) (i : Instr), (s.seq b a).cur = some c → c.stalled = true →
    s.sqLive b a = true → s.sqState b a = sqRUN →
    (bits c.word 60 4 = 0 ∧ i = .seqMem b (a, near) ∨ bits c.word 60 4 = 1 ∧ i = .seqMac b (a, near) ∨ bits c.word 60 4 = 2 ∧ i = .seqLop b (a, near)) →
    u = (s.setSeq b a { s.seq b a with cur := some { c with stalled := false } }).bump (R.SQ_CNT_STALLS b a) cycles →
    ∃ t, exec (.seqStallRelease b (a, near) cycles) s = .next t ∧ exec i u = .next t)) ∧
  (∀ (x y : Nat), x < 2 ^ 24 → y < 2 ^ 24 →
    (∀ op : Nat, op ≤ 16 → lopValue op x y < 2 ^ 24) ∧
    lopValue 1 x y = (x + y) % 2 ^ 24 ∧ (lopValue 2 x y + y) % 2 ^ 24 = x ∧
    signed 24 (lopValue 3 x y) = max (-2 ^ 23) (min (2 ^ 23 - 1) (signed 24 x + signed 24 y)) ∧
    signed 24 (lopValue 4 x y) = max (-2 ^ 23) (min (2 ^ 23 - 1) (signed 24 x - signed 24 y)) ∧
    (24 ≤ y % 32 → lopValue 8 x y = 0 ∧ lopValue 10 x y = 0 ∧ lopValue 9 x y = if 2 ^ 23 ≤ x then 2 ^ 24 - 1 else 0) ∧
    signed 24 (lopValue 11 x y) = min (signed 24 x) (signed 24 y) ∧ signed 24 (lopValue 12 x y) = max (signed 24 x) (signed 24 y) ∧
    signed 24 (lopValue 13 x y) = min (2 ^ 23 - 1) (max (signed 24 x) (-signed 24 x)) ∧
    signed 24 (lopValue 14 x y) = min (2 ^ 23 - 1) (-signed 24 x) ∧
    (lopValue 15 x y = 1 ↔ signed 24 x < signed 24 y) ∧ (lopValue 16 x y = 1 ↔ x = y) ∧
    (∀ u v : Nat, u < 2 ^ 32 → v < 2 ^ 32 → sopValue 1 u v = (u + v) % 2 ^ 32 ∧ (sopValue 2 u v + v) % 2 ^ 32 = u ∧
      (sopValue 9 u v = 1 ↔ signed 32 u < signed 32 v) ∧ (sopValue 10 u v = 1 ↔ u < v)))

/-- O19. Clock monitors (R246, R249 to R251, R276): a window inside its limits passes and, after enough passes, qualifies; one outside them, a loss of the
measured clock and a loss of FOSC clear the qualification and add a trip; a loss of the reference shows REF_LOSS until its next edge; a write that
R276 refuses answers 0x060C and changes nothing else, and any other takes its fields and starts the passes again. The model's own readings and choices
that it rests on: assumptions 30, 33, 62, 171. Commands that this statement shows to complete with their own effect: foscMonWindow, foscLoss,
cmcClockSwitch, monWindowEnd, monLossTrip, monRefLoss, monCfgWrite. -/
def Obligations.ClockMonitors : Prop :=
  (∀ (s : State) (count : Nat), s.get R.CK_STATUS_FOSC_ON ≠ 0 →
    (14000 ≤ count → count ≤ 19000 → ∃ t, exec (.foscMonWindow count) s = .next t ∧ t.clk.monfPasses = min (s.clk.monfPasses + 1) 4 ∧
      (3 ≤ s.clk.monfPasses → t.get R.CK_STATUS_FOSC_QUAL = 1) ∧ (s.clk.monfPasses < 3 → t.get R.CK_STATUS_FOSC_QUAL = s.get R.CK_STATUS_FOSC_QUAL) ∧
      OnlyRegs { s with clk := t.clk } t [R.CK_STATUS_FOSC_QUAL]) ∧
    (∀ i : Instr, (i = .foscLoss ∨ i = .foscMonWindow count ∧ (count < 14000 ∨ 19000 < count)) →
      ∃ t, exec i s = .next t ∧ t.get R.CK_STATUS_FOSC_QUAL = 0 ∧ t.clk.monfPasses = 0 ∧ t.clk.trips = min (2 ^ 32 - 1) (s.clk.trips + 1))) ∧
  (∀ s : State, ∃ t, exec .cmcClockSwitch s = .next t ∧ t.get R.CK_STATUS_CMC_FOSC = (if s.get R.CK_STATUS_FOSC_QUAL = 0 then 0 else 1) ∧
    OnlyRegs s t [R.CK_STATUS_CMC_FOSC]) ∧
  (∀ (s : State) (m : Fin 16) (count : Nat), s.get (R.MON_CFG_EN m) ≠ 0 → count < 2 ^ 24 →
    (s.get (R.MON_STAT_EXP m) ≤ count + s.get (R.MON_CFG_TOL m) → count ≤ s.get (R.MON_STAT_EXP m) + s.get (R.MON_CFG_TOL m) →
      ∃ t, exec (.monWindowEnd m count) s = .next t ∧ t.get (R.MON_STAT_LAST m) = count ∧ t.get (R.MON_STAT_TRIPPED m) = 0 ∧
        t.get (R.MON_STAT_REF_LOSS m) = 0 ∧ SMap.get t.clk.monPasses 0 m = min (2 ^ 24 - 1) (SMap.get s.clk.monPasses 0 m + 1) ∧
        (s.get (R.MON_CFG_QUALN m) ≤ min (2 ^ 24 - 1) (SMap.get s.clk.monPasses 0 m + 1) → t.get (R.MON_STAT_QUAL m) = 1) ∧
        OnlyRegs { s with clk := t.clk } t [R.MON_STAT_LAST m, R.MON_STAT_TRIPPED m, R.MON_STAT_REF_LOSS m, R.MON_STAT_QUAL m]) ∧
    (∀ i : Instr, (i = .monLossTrip m ∨ i = .monWindowEnd m count ∧
        (count + s.get (R.MON_CFG_TOL m) < s.get (R.MON_STAT_EXP m) ∨ s.get (R.MON_STAT_EXP m) + s.get (R.MON_CFG_TOL m) < count)) →
      ∃ t, exec i s = .next t ∧ t.get (R.MON_STAT_TRIPPED m) = 1 ∧ t.get (R.MON_STAT_QUAL m) = 0 ∧ SMap.get t.clk.monPasses 0 m = 0 ∧
        t.clk.trips = min (2 ^ 32 - 1) (s.clk.trips + 1)) ∧
    (∃ t, exec (.monRefLoss (m, false)) s = .next t ∧ t.get (R.MON_STAT_REF_LOSS m) = 1 ∧ t.get (R.MON_STAT_QUAL m) = 0 ∧ t.clk = s.clk) ∧
    exec (.monRefLoss (m, true)) s = .next (s.set (R.MON_STAT_REF_LOSS m) 0)) ∧
  (∀ (s : State) (src : SrcId) (m : Fin 16) (data : Word64),
    (bits data.toNat 0 7 ≠ bits data.toNat 7 7 ∧ bits data.toNat (R.MON_CFG_QUALN m).lo (R.MON_CFG_QUALN m).w ≠ 0 ∧
      bits data.toNat (R.MON_CFG_LOSS m).lo (R.MON_CFG_LOSS m).w ≠ 0 ∧ 256 ≤ bits data.toNat (R.MON_CFG_WIN m).lo (R.MON_CFG_WIN m).w ∧
      bits data.toNat (R.MON_CFG_TOL m).lo (R.MON_CFG_TOL m).w ≤ s.get (R.MON_STAT_EXP m) ∧ ckidOk (bits data.toNat 0 7) = true ∧
      ckidOk (bits data.toNat 7 7) = true →
      ∃ t, exec (.monCfgWrite src m false data) s = .next t ∧ t.answer = ⟨0, 0⟩ ∧ t.get (R.MON_CFG_MEAS m) = bits data.toNat 0 7 ∧
        t.get (R.MON_CFG_REF m) = bits data.toNat 7 7 ∧ t.get (R.MON_STAT_QUAL m) = 0 ∧ SMap.get t.clk.monPasses 0 m = 0 ∧
        t.get (R.MON_CFG_EN m) = bits data.toNat (R.MON_CFG_EN m).lo 1) ∧
    (bits data.toNat 0 7 = bits data.toNat 7 7 → exec (.monCfgWrite src m false data) s = .next { s.commit (R.MON_CFG_MEAS m).addr with answer := ⟨0x060C, 0⟩ }))

/-- O20. Clock muxes (R253 to R259, R262): a write that passes its checks and names another input starts a switch toward it; each refusal answers its code and
changes nothing else; a switch whose new clock gives no edge holds the output low; a switch that ends, forced or not, makes its input the active one;
a failed active input starts a switch to the best eligible one, and with none the mux defers with ACT = 3; a deferred mux takes an input that becomes
eligible; a mux with REVERT goes back to SEL's input. The model's own readings and choices that it rests on: assumptions 33, 34, 171, 172. Commands
that this statement shows to complete with their own effect: muxSelWrite, muxSwitchComplete, muxForcedSwitch, muxSwitchStall, muxInputFailed,
muxDeferredSwitch, muxRevert. -/
def Obligations.ClockMuxes : Prop :=
  (∀ (s : State) (src : SrcId) (mux : Fin 49) (data : BitVec 32), ((mux.val ≠ 14 ∧ mux.val ≠ 15) ∨ src = 65) →
    (mux.val = 48 → s.srcTp src = true) → muxCkidOk mux (bits data.toNat 0 7) = true → (bits data.toNat 7 7 = 0x7F ∨ muxCkidOk mux (bits data.toNat 7 7) = true) →
    (bits data.toNat 27 2 = 0 ∧ (bit data.toNat 18 = 0 ∨ s.get (R.MON_STAT_QUAL (bits data.toNat 14 4)) ≠ 0) ∨
      bits data.toNat 27 2 = 1 ∧ bits data.toNat 7 7 ≠ 0x7F ∧ (bit data.toNat 23 = 0 ∨ s.get (R.MON_STAT_QUAL (bits data.toNat 19 4)) ≠ 0) ∨
      bits data.toNat 27 2 = 2 ∧ (bit data.toNat 24 = 1 ∨ mux.val = 48) ∧ s.get R.CK_STATUS_FOSC_QUAL ≠ 0) →
    (s.get (muxF mux).act ≠ 0 ∨ bits data.toNat 0 7 = s.get (muxF mux).pri) →
    (s.get (muxF mux).act ≠ 1 ∨ bits data.toNat 7 7 = s.get (muxF mux).alt) →
    bits data.toNat 27 2 ≠ s.get (muxF mux).sel → bits data.toNat 27 2 ≠ s.get (muxF mux).act → s.tp.failed = [] →
    ∃ t, exec (.muxSelWrite src mux data) s = .next t ∧ t.answer = ⟨0, 0⟩ ∧ t.muxTarget mux = bits data.toNat 27 2 + 1 ∧
      t.get (muxF mux).sel = bits data.toNat 27 2 ∧ t.get (muxF mux).pri = bits data.toNat 0 7 ∧ t.get (muxF mux).alt = bits data.toNat 7 7 ∧
      t.get (muxF mux).act = s.get (muxF mux).act) ∧
  (∀ (s : State) (src : SrcId) (mux : Fin 49) (data : BitVec 32) (code : Nat),
    ((mux.val = 14 ∨ mux.val = 15) ∧ src ≠ 65 ∧ code = 0x060F) ∨
    (mux.val = 48 ∧ s.srcTp src = false ∧ code = 0x0306) ∨
    ((mux.val ≠ 14 ∧ mux.val ≠ 15 ∨ src = 65) ∧ (mux.val = 48 → s.srcTp src = true) ∧ (muxCkidOk mux (bits data.toNat 0 7) = false ∨ bits data.toNat 27 2 = 3) ∧ code = 0x0602) ∨
    ((mux.val ≠ 14 ∧ mux.val ≠ 15 ∨ src = 65) ∧ (mux.val = 48 → s.srcTp src = true) ∧ muxCkidOk mux (bits data.toNat 0 7) = true ∧ bits data.toNat 7 7 = 0x7F ∧ bits data.toNat 27 2 = 0 ∧
      bits data.toNat 0 7 ≠ 0x7F ∧ s.get (muxF mux).act = 0 ∧ bits data.toNat 0 7 ≠ s.get (muxF mux).pri ∧ code = 0x0604) →
    exec (.muxSelWrite src mux data) s = .next { s with answer := ⟨code, 0⟩ }) ∧
  (∀ (s : State) (mux : Fin 52) (i : Nat) (c : Instr), s.muxTarget mux = i + 1 → i < 3 →
    (c = .muxSwitchComplete mux ∨ c = .muxForcedSwitch mux ∧ mux.val ≠ 49) →
    ∃ t, exec c s = .next t ∧ t.muxTarget mux = 0 ∧ (mux.val < 49 → t.get (muxF mux).act = i ∧ t.get (muxF mux).deferred = 0)) ∧
  (∀ s : State, s.get R.CK_STATUS_CMC_FOSC ≠ 0 → s.get R.CK_STATUS_FOSC_QUAL = 0 →
    ∃ t, exec (.muxForcedSwitch 49) s = .next t ∧ t.get R.CK_STATUS_CMC_FOSC = 0) ∧
  (∀ (s : State) (mux : Fin 52), s.muxTarget mux ≠ 0 → exec (.muxSwitchStall mux) s = .next ((s.setMuxLow mux true).ckEvt 0x0605 mux 0)) ∧
  (∀ (s : State) (mux : Fin 49), s.get (muxF mux).auto ≠ 0 → s.muxTarget mux = 0 → s.muxFailed mux (s.get (muxF mux).act) = true →
    (∀ i, s.muxChoice mux = some i → ∃ t, exec (.muxInputFailed mux) s = .next t ∧ t.muxTarget mux = i + 1 ∧ t.regs = s.regs) ∧
    (s.muxChoice mux = none → ∃ t, exec (.muxInputFailed mux) s = .next t ∧ t.muxTarget mux = 0 ∧ t.get (muxF mux).act = 3 ∧
      t.get (muxF mux).deferred = 1)) ∧
  (∀ (s : State) (mux : Fin 49) (i : Nat), s.get (muxF mux).deferred ≠ 0 → s.muxChoice mux = some i → i < 3 →
    ∃ t, exec (.muxDeferredSwitch mux) s = .next t ∧ t.get (muxF mux).act = i ∧ t.get (muxF mux).deferred = 0) ∧
  (∀ (s : State) (mux : Fin 49), s.get (muxF mux).revert ≠ 0 → s.get (muxF mux).deferred = 0 → s.get (muxF mux).act ≠ s.get (muxF mux).sel →
    s.muxTarget mux = 0 → s.muxEligible mux (s.get (muxF mux).sel) = true →
    exec (.muxRevert mux) s = .next (s.setMuxSw mux (s.get (muxF mux).sel + 1)))

/-- O21. Crown PLLs, clock lines and CLKOUT (R260 to R265, R268, R277): a write in range takes its fields, one out of range answers its code and changes
nothing else; LOCK rises only with a reference in range and falls with 0x0615; a line measured more than 1% above FNOM shows OVERF; a bough line that
runs gets, now or at the end of its divided period, the smallest divider at or above its request that keeps its limit. The model's own readings and
choices that it rests on: assumptions 31, 32, 35, 171, 175. Commands that this statement shows to complete with their own effect: cpCfgWrite, pllLock,
pllLockTimeout, pllLockLost, gclFnomWrite, gclFreqMeasure, bckWrite, clkoutWrite. -/
def Obligations.PllsAndClockLines : Prop :=
  (∀ (s : State) (src : SrcId) (p : Fin 16) (data : Word64), (p.val < 14 ∨ src = 65) →
    1 ≤ bits data.toNat 0 6 → 1 ≤ bits data.toNat 6 6 → 16 ≤ bits data.toNat 12 10 → bits data.toNat 12 10 ≤ 640 → s.get (R.CP_OUT_O p) = 0 →
    s.get (R.CP_CFG_EN p) = 0 →
    ∃ t, exec (.cpCfgWrite src p false data) s = .next t ∧ t.answer = ⟨0, 0⟩ ∧ t.get (R.CP_CFG_M p) = bits data.toNat 0 6 ∧
      t.get (R.CP_CFG_M_FB p) = bits data.toNat 6 6 ∧ t.get (R.CP_CFG_N p) = bits data.toNat 12 10 ∧ t.get (R.CP_CFG_EN p) = bit data.toNat 22) ∧
  (∀ (s : State) (src : SrcId) (p : Fin 16) (data : Word64), (p.val < 14 ∨ src = 65) →
    (∀ i < 4, bits data.toNat (8 * i) 8 = 0 ∨ 4 ≤ bits data.toNat (8 * i) 8) → s.get (R.CP_CFG_EN p) = 0 →
    ∃ t, exec (.cpCfgWrite src p true data) s = .next t ∧ t.answer = ⟨0, 0⟩ ∧ t.get (R.CP_OUT_O p) = data.toNat % 2 ^ 32 ∧
      OnlyRegs (s.commit ((R.CP_CFG_M p).addr + 8)) t [R.CP_OUT_O p]) ∧
  (∀ (s : State) (src : SrcId) (p : Fin 16) (data : Word64), (p.val < 14 ∨ src = 65) → (bits data.toNat 12 10 < 16 ∨ 640 < bits data.toNat 12 10) →
    exec (.cpCfgWrite src p false data) s = .next { s.commit (R.CP_CFG_M p).addr with answer := ⟨0x0603, 0⟩ }) ∧
  (∀ (s : State) (src : SrcId) (p : Fin 16) (out : Bool) (data : Word64), 14 ≤ p.val → src ≠ 65 →
    exec (.cpCfgWrite src p out data) s = .next { s.commit ((R.CP_CFG_M p).addr + (if out then 8 else 0)) with answer := ⟨0x060F, 0⟩ }) ∧
  (∀ (s : State) (p : Fin 16) (refKhz : Nat), s.get (R.CP_CFG_EN p) ≠ 0 → s.get (R.CP_MUX_ACT p) ≠ 3 → s.pllCanLock p refKhz = true →
    ∃ t, exec (.pllLock p refKhz) s = .next t ∧ bit (t.get R.CK_STATUS_CP_LOCK) p = 1 ∧
      (∀ p' : Fin 16, p' ≠ p → bit (t.get R.CK_STATUS_CP_LOCK) p' = bit (s.get R.CK_STATUS_CP_LOCK) p') ∧ OnlyRegs s t [R.CK_STATUS_CP_LOCK]) ∧
  (∀ (s : State) (p : Fin 16), s.get (R.CP_CFG_EN p) ≠ 0 → bit (s.get R.CK_STATUS_CP_LOCK) p = 0 →
    exec (.pllLockTimeout p) s = .next (s.ckEvt 0x0615 p 0)) ∧
  (∀ (s : State) (p : Fin 16), bit (s.get R.CK_STATUS_CP_LOCK) p = 1 →
    ∃ t, exec (.pllLockLost p) s = .next t ∧ bit (t.get R.CK_STATUS_CP_LOCK) p = 0 ∧
      (∀ p' : Fin 16, p' ≠ p → bit (t.get R.CK_STATUS_CP_LOCK) p' = bit (s.get R.CK_STATUS_CP_LOCK) p')) ∧
  (∀ (s : State) (src : SrcId) (g : Fin 32) (data : BitVec 32), bits data.toNat 0 21 ≤ 1600000 →
    ∃ t, exec (.gclFnomWrite src g data) s = .next t ∧ t.answer = ⟨0, 0⟩ ∧ t.get (R.GCL_CFG_FNOM g) = bits data.toNat 0 21 ∧
      t.get (R.GCL_CFG_ON g) = bit data.toNat 22 ∧ t.get (R.GCL_CFG_OVERF g) = 0) ∧
  (∀ (s : State) (src : SrcId) (g : Fin 32) (data : BitVec 32), 1600000 < bits data.toNat 0 21 →
    exec (.gclFnomWrite src g data) s = .next { s with answer := ⟨0x0603, 0⟩ }) ∧
  (∀ (s : State) (g : Fin 32) (khz : Nat), s.get R.CK_STATUS_TPLL_LOCK ≠ 0 → s.get (R.GCL_CFG_FNOM g) * 101 < khz * 100 →
    ∃ t, exec (.gclFreqMeasure g khz) s = .next t ∧ t.get (R.GCL_CFG_OVERF g) = 1 ∧ SMap.get t.clk.gclEff 0 g = (khz * 101 + 99) / 100) ∧
  (∀ (s : State) (src : SrcId) (b : BoughId) (n : Fin 17) (data : BitVec 32),
    ∃ t, exec (.bckWrite src b n data) s = .next t ∧ t.answer = ⟨0, 0⟩ ∧ t.get (lineSrc b n) = bits data.toNat 0 5 ∧
      t.get (lineOn b n) = bit data.toNat 5 ∧ t.get (lineDreq b n) = bits data.toNat 6 2 ∧
      (s.running b = true → t.get (lineRun b n) ≠ 0 → s.opChange b = none →
        ∀ k, k = (if SMap.get t.clk.dactNext 0 (17 * b + n) = 0 then t.get (lineDact b n) else SMap.get t.clk.dactNext 0 (17 * b + n) - 1) →
          bits data.toNat 6 2 ≤ k ∧ s.gclFreq (bits data.toNat 0 5) ≤ s.lineLimit b n (s.point b) * 2 ^ k)) ∧
  (∀ (s : State) (src : SrcId) (o : Fin 2) (data : Word64), 1 ≤ bits data.toNat 32 17 → bits data.toNat 32 17 ≤ 65536 →
    ckidOk (bits data.toNat 0 7) = true →
    ∃ t, exec (.clkoutWrite src o data) s = .next t ∧ t.answer = ⟨0, 0⟩ ∧ t.get (R.CLKOUT_SRC o) = bits data.toNat 0 7 ∧
      t.get (R.CLKOUT_EN o) = bit data.toNat 7 ∧ t.get (R.CLKOUT_DIV o) = bits data.toNat 32 17 ∧
      (bits data.toNat 0 7 ≠ s.get (R.CLKOUT_SRC o) → t.muxTarget (50 + o) = 1)) ∧
  (∀ (s : State) (src : SrcId) (o : Fin 2) (data : Word64), (bits data.toNat 32 17 = 0 ∨ 65536 < bits data.toNat 32 17) →
    exec (.clkoutWrite src o data) s = .next { s.commit (R.CLKOUT_EN o).addr with answer := ⟨0x060A, 0⟩ })

/-- O22. One tick of the time plane with no adjustment due and no slew (R281, R282, R293): the accumulator and its dither remainder together advance by exactly
INC_BASE and the servo's increment, whatever was left over before; WRAPS counts the passes of 2^64. -/
def Obligations.TickLosesNoFraction : Prop :=
  ∀ s : State, s.tp.slew = none → (∀ e ∈ s.tp.adj, s.tp.tick + 1 < e.1) → s.tp.acc < 2 ^ 64 → s.tp.da < 2 ^ 16 →
    s.timeTick.tp.tick = s.tp.tick + 1 ∧ s.timeTick.tp.da < 2 ^ 16 ∧ s.timeTick.tp.acc < 2 ^ 64 ∧ s.timeTick.tp.adj = s.tp.adj ∧
    (s.timeTick.tp.acc * 2 ^ 16 + s.timeTick.tp.da : Int) =
      (s.tp.acc * 2 ^ 16 + s.tp.da + s.get R.TP_INC_BASE_BASE * 2 ^ 16 + s.tp.dincSrv) % 2 ^ 80 ∧
    (0 ≤ s.tp.dincSrv → s.tp.dincSrv < 2 ^ 40 →
      s.timeTick.tp.wraps = if 2 ^ 80 ≤ (s.tp.acc * 2 ^ 16 + s.tp.da + s.get R.TP_INC_BASE_BASE * 2 ^ 16 + s.tp.dincSrv : Int)
        then (s.tp.wraps + 1) % 2 ^ 16 else s.tp.wraps)

/-- O23. The commands that a tick of the time clock carries (R44, R281, R290, R293, R295, R296, R315, R538, R588, R590): each is the tick itself where the next
tick does what it names: the time plane, the captures that wait, the timeline, the timers and the watchdog, and the wake compare move; an adjustment
accepted earlier acts at its tick and posts its result. Writes of TP_INC_BASE, TP_STEP and TP_SLEW (R283, R290, R295, R296): one that is accepted
waits for its tick 64 after the next with its result open; one that is refused posts its code and changes nothing else. Either way a half of the
register that a source staged is dropped (R7). The model's own readings and choices that it rests on: assumptions 56, 57, 59, 62. Commands that this
statement shows to complete with their own effect: devWakeFire, timeWrap, halfPeriod, tpIncBaseWrite, adjApply, tpStepWrite, stepApply, tpSlewStart,
tpSlewAbort, slewEnd, tlSlotFire, tmFire, wdgExpiry, timeClockTick. -/
def Obligations.TicksAndTimeAdjustments : Prop :=
  ((∀ s : State, s.mode0 ≠ 0 → ∀ i : Instr,
    (i = .timeClockTick) ∨ (i = .timeWrap ∧ s.timeTick.tp.wraps ≠ s.tp.wraps) ∨
    (i = .halfPeriod ∧ s.timeTick.tp.acc / 2 ^ 63 ≠ s.tp.acc / 2 ^ 63 ∧ s.timeTick.tp.wraps = s.tp.wraps) ∨
    (i = .adjApply ∧ ∃ e ∈ s.tp.adj, e.1 ≤ s.tp.tick + 1) ∨
    (i = .stepApply ∧ ∃ e ∈ s.tp.adj, e.1 ≤ s.tp.tick + 1 ∧ e.2.isStep = true) ∨
    (i = .slewEnd ∧ s.tp.slew ≠ none ∧ s.timeTick.tp.slew = none) ∨
    (i = .tlSlotFire ∧ ∃ k ∈ s.armedSlots, notEarlier (s.timeTick.time48 72) (s.pendingT k / 65536) = true) ∨
    (∃ n, i = .tmFire n ∧ s.timeTick.tmDue n = true) ∨
    (i = .devWakeFire ∧ s.wakeDue = false ∧ s.timeTick.wakeDue = true) ∨
    (i = .wdgExpiry ∧ s.timeTick.tp.acc / 2 ^ 32 / 1000 ≠ s.tp.acc / 2 ^ 32 / 1000 ∧ s.wdgCounts = true ∧ s.get R.WDG_STAT_COUNT ≤ 1) →
    exec i s = .next ((s.timeTick.capTick.timelineTick s).siteTick s).wakeTick) ∧
  (∀ s : State, s.mode0 = 0 → exec .timeClockTick s = .next s) ∧
  (∀ (s : State) (n v : Nat), s.tp.adj = [(n, .base v)] → n ≤ s.tp.tick + 1 → s.tp.slew = none → v < 2 ^ 64 →
    s.timeTick.get R.TP_INC_BASE_BASE = v ∧ s.timeTick.get R.TP_ADJ_RESULT_KIND = 1 ∧ s.timeTick.get R.TP_ADJ_RESULT_STATUS = 0 ∧
      s.timeTick.get R.TP_ADJ_RESULT_VALID = 1 ∧ s.timeTick.tp.adj = []) ∧
  (∀ (s : State) (n : Nat) (d : Int), s.tp.adj = [(n, .step d false)] → n ≤ s.tp.tick + 1 → s.tp.slew = none → s.tp.dincSrv = 0 → s.tp.da = 0 →
    s.timeTick.tp.acc = (((s.tp.acc : Int) + s.get R.TP_INC_BASE_BASE + d * 2 ^ 16) % 2 ^ 64).toNat ∧ s.timeTick.get R.TP_STATUS_STEP_BUSY = 0 ∧
      s.timeTick.get R.TP_ADJ_RESULT_KIND = 2 ∧ s.timeTick.get R.TP_EVT_STEP = 1)) ∧
  ((∀ (s u : State) (src : SrcId) (data : Word64) (i : Instr) (a : Adj),
    (i = .tpIncBaseWrite src data ∧ u = s.commit R.TP_INC_BASE_BASE.addr ∧ 0x100000000 ≤ data.toNat ∧ data.toNat ≤ 0x180000000 ∧ a = .base data.toNat) ∨
    (i = .tpStepWrite src data ∧ u = s.commit R.TP_STEP_DELTA.addr ∧ data.toNat % 2 ^ 48 ≠ 2 ^ 47 ∧ s.stepWaits = false ∧ s.slewRuns = false ∧ a = .step (signed 48 data.toNat) false) ∨
    (i = .tpSlewStart src data ∧ u = s.commit R.TP_SLEW_DELTA.addr ∧ data.toNat % 2 ^ 48 ≠ 2 ^ 47 ∧ bits data.toNat 48 15 ≠ 0 ∧ s.stepWaits = false ∧ s.slewRuns = false ∧
      a = .slew (signed 48 data.toNat) (bits data.toNat 48 15)) ∨
    (i = .tpSlewAbort src data ∧ u = s.commit R.TP_SLEW_DELTA.addr ∧ data.toNat % 2 ^ 63 = 0 ∧ s.slewRuns = true ∧ a = .abort) →
    ∃ t, exec i s = .next t ∧ t = { u with regs := t.regs, answer := ⟨0, 0⟩, tp := { s.tp with adj := s.tp.adj ++ [(s.tp.tick + 65, a)] } } ∧
      t.get R.TP_ADJ_RESULT_VALID = 0 ∧ t.get R.TP_ADJ_RESULT_STALE = 1 ∧ (a.isStep = true → t.get R.TP_STATUS_STEP_BUSY = 1) ∧
      RegsKept s t [R.TP_ADJ_RESULT_VALID, R.TP_ADJ_RESULT_STALE, R.TP_STATUS_STEP_BUSY]) ∧
  (∀ (s : State) (src : SrcId) (data : Word64) (i : Instr) (kind code addr : Nat),
    (i = .tpIncBaseWrite src data ∧ addr = R.TP_INC_BASE_BASE.addr ∧ (data.toNat < 0x100000000 ∨ 0x180000000 < data.toNat) ∧ kind = 1 ∧ code = 0x0301) ∨
    (i = .tpStepWrite src data ∧ addr = R.TP_STEP_DELTA.addr ∧ data.toNat % 2 ^ 48 = 2 ^ 47 ∧ kind = 2 ∧ code = 0x0302) ∨
    (i = .tpStepWrite src data ∧ addr = R.TP_STEP_DELTA.addr ∧ data.toNat % 2 ^ 48 ≠ 2 ^ 47 ∧ (s.stepWaits = true ∨ s.slewRuns = true) ∧ kind = 2 ∧ code = 0x0304) ∨
    (i = .tpSlewStart src data ∧ addr = R.TP_SLEW_DELTA.addr ∧ data.toNat % 2 ^ 48 = 2 ^ 47 ∧ kind = 3 ∧ code = 0x0302) ∨
    (i = .tpSlewStart src data ∧ addr = R.TP_SLEW_DELTA.addr ∧ data.toNat % 2 ^ 48 ≠ 2 ^ 47 ∧ bits data.toNat 48 15 = 0 ∧ kind = 3 ∧ code = 0x0303) ∨
    (i = .tpSlewStart src data ∧ addr = R.TP_SLEW_DELTA.addr ∧ data.toNat % 2 ^ 48 ≠ 2 ^ 47 ∧ bits data.toNat 48 15 ≠ 0 ∧ (s.stepWaits = true ∨ s.slewRuns = true) ∧ kind = 3 ∧ code = 0x0304) ∨
    (i = .tpSlewAbort src data ∧ addr = R.TP_SLEW_DELTA.addr ∧ data.toNat % 2 ^ 63 ≠ 0 ∧ kind = 4 ∧ code = 0x030D) ∨
    (i = .tpSlewAbort src data ∧ addr = R.TP_SLEW_DELTA.addr ∧ data.toNat % 2 ^ 63 = 0 ∧ s.slewRuns = false ∧ kind = 4 ∧ code = 0) →
    ∃ t, exec i s = .next t ∧ Posted s t R.TP_ADJ_RESULT_STATUS code ∧ t.get R.TP_ADJ_RESULT_KIND = kind ∧ t.answer = ⟨0, 0⟩ ∧
      OnlyRegs (s.commit addr) t (R.TP_ADJ_RESULT_KIND :: resFlds R.TP_ADJ_RESULT_STATUS)))

/-- O24. The time PLL and the distribution of time (R284 to R287, R291, R292): its mux is written only by a source of R284; a failed reference and one that
requalifies are kept apart; new settings and a loss of lock hold the PLL; lock ends the hold; the 16th failure of a consumer's check in a row sets
TIME_BAD, and from the first on it counts by its own increment, which a value that passes at the last such consumer clears. The model's own readings
and choices that it rests on: assumptions 55, 62, 179. Commands that this statement shows to complete with their own effect: muxSelWrite,
tpllMuxWrite, tpllRefLoss, tpllRefRequalify, tpllCfgWrite, tpllLock, tpllHold, distCalibrated, distCheckFail. -/
def Obligations.TimePllAndDistribution : Prop :=
  (∀ (s : State) (src : SrcId) (data : BitVec 32),
    (s.srcTp src = true → ∃ t, exec (.tpllMuxWrite src data) s = .next t ∧ exec (.muxSelWrite src 48 data) s = .next t) ∧
    (∀ i : Instr, i = .tpllMuxWrite src data ∨ i = .muxSelWrite src 48 data → s.srcTp src = false → exec i s = .next { s with answer := ⟨0x0306, 0⟩ })) ∧
  (∀ s : State, s.get R.TPLL_MUX_ACT < 3 → ∃ t, exec .tpllRefLoss s = .next t ∧ t.tp.failed.contains (s.get R.TPLL_MUX_ACT) = true) ∧
  (∀ (s : State) (i : Fin 3), (i.val = 0 → s.get R.TPLL_MUX_GPRI_EN = 0) → (i.val = 1 → s.get R.TPLL_MUX_GALT_EN = 0) →
    ∃ t, exec (.tpllRefRequalify i) s = .next t ∧ t.tp.failed.contains i.val = false ∧ t = { s with tp := { s.tp with failed := t.tp.failed } }) ∧
  (∀ (s : State) (src : SrcId) (data : Word64), 1 ≤ bits data.toNat 0 6 → 16 ≤ bits data.toNat 6 10 → bits data.toNat 6 10 ≤ 640 →
    s.get R.TP_STATUS_HELD = 0 →
    ∃ t, exec (.tpllCfgWrite src data) s = .next t ∧ t.answer = ⟨0, 0⟩ ∧ t.get R.TPLL_CFG_M = bits data.toNat 0 6 ∧
      t.get R.TPLL_CFG_N = bits data.toNat 6 10 ∧ t.get R.TPLL_CFG_FRAC = bits data.toNat 16 24 ∧ t.get R.TP_STATUS_TPLL_LOCK = 0 ∧
      t.get R.HO_STAT_MODEL_VALID = 0) ∧
  (∀ (s : State) (src : SrcId) (data : Word64), (bits data.toNat 0 6 = 0 ∨ bits data.toNat 6 10 < 16 ∨ 640 < bits data.toNat 6 10) →
    exec (.tpllCfgWrite src data) s = .next { s.commit R.TPLL_CFG_M.addr with answer := ⟨0x030C, 0⟩ }) ∧
  (∀ (s : State) (refHz : Nat), s.get R.TPLL_MUX_ACT ≠ 3 → s.get R.TP_STATUS_TPLL_LOCK = 0 → s.tpllFits refHz = true →
    ∃ t, exec (.tpllLock refHz) s = .next t ∧ t.get R.TP_STATUS_TPLL_LOCK = 1 ∧ t.get R.CK_STATUS_TPLL_LOCK = 1 ∧ t.get R.TP_STATUS_HELD = 0 ∧ t.get R.HO_STAT_REF_LOST = 0 ∧
      t.get R.TP_EVT_TPLL = 1) ∧
  (∀ s : State, s.get R.TP_STATUS_TPLL_LOCK ≠ 0 → s.get R.TP_STATUS_HELD = 0 →
    ∃ t, exec .tpllHold s = .next t ∧ t.get R.TP_STATUS_TPLL_LOCK = 0 ∧ t.get R.CK_STATUS_TPLL_LOCK = 0 ∧ t.get R.TP_STATUS_HELD = 1 ∧ t.get R.HO_STAT_REF_LOST = 1 ∧ t.get R.HO_PRED_REMAIN = 0 ∧
      t.get R.TP_STATUS_DIST_OK = 0 ∧ t.get R.TP_EVT_TPLL = 1) ∧
  (∀ s : State, s.get R.TP_STATUS_TPLL_LOCK ≠ 0 →
    ∃ t, exec .distCalibrated s = .next t ∧ t.get R.TP_STATUS_DIST_OK = 1 ∧ OnlyRegs s t [R.TP_STATUS_DIST_OK]) ∧
  (∀ (s : State) (c : Fin 79), SMap.get s.tp.distRun 0 c = 15 →
    ∃ t, exec (.distCheckFail c false) s = .next t ∧ t.get R.TP_STATUS_TIME_BAD = 1 ∧ t.tp.badConsumers = s.tp.badConsumers ++ [c.val] ∧
      t.get R.TL_STATUS_BAD = (if s.tp.badConsumers.contains 72 || decide (c.val = 72) then 1 else 0) ∧
      t.get R.TP_EVT_DIST = 1) ∧
  (∀ (s : State) (c : Fin 79), SMap.get s.tp.distRun 0 c < 15 →
    ∃ t, exec (.distCheckFail c false) s = .next t ∧ SMap.get t.tp.distRun 0 c = SMap.get s.tp.distRun 0 c + 1 ∧
      t.tp.badConsumers = s.tp.badConsumers ∧
      (SMap.get s.tp.heldTime none c = none → SMap.get t.tp.heldTime none c = some (s.tp.wide * 2 ^ 64 + s.tp.acc, s.get R.TP_INC_INC)) ∧ OnlyRegs { s with tp := t.tp } t [R.TP_STATUS_DIST_ERR]) ∧
  (∀ (s : State) (c : Fin 79), s.tp.badConsumers = [c.val] →
    ∃ t, exec (.distCheckFail c true) s = .next t ∧ t.get R.TP_STATUS_TIME_BAD = 0 ∧ t.tp.badConsumers = [] ∧ t.get R.TL_STATUS_BAD = 0 ∧
      SMap.get t.tp.heldTime none c = none)

/-- O25. The servo (R298 to R303): a phase measurement in LOCKED makes one new output, due 64 ticks after the next and never beyond the limit of SRV_LIM, a
frequency measurement too; a phase of 2^31 ns is refused; a measurement that stays away leads from ACQUIRE to FREERUN and from LOCKED to HOLDOVER, or
HOLDOVER_OUT where its budget is spent; HOLD, RELEASE and RESET act as R301 says; settings in range are taken; each refusal posts its code and changes
nothing else. The model's own readings and choices that it rests on: assumptions 56, 58, 60, 62. Commands that this statement shows to complete with
their own effect: srvOffsWr, srvPhaseMeasurement, srvFreqMeasurement, srvMissTimeout, srvCmdHold, srvCmdRelease, srvCmdReset, srvSettingsWrite. -/
def Obligations.ServoMeasurementsAndCommands : Prop :=
  (∀ (s : State) (src : SrcId) (data : Word64) (psrc : Fin 4) (theta : BitVec 48) (th : Int) (i : Instr),
    (i = .srvOffsWr src data ∧ s.srcTp src = true ∧ s.get R.SRV_CTRL_PSRC = 1 ∧ data.toNat % 2 ^ 48 ≠ 2 ^ 47 ∧ th = signed 48 data.toNat) ∨
    (i = .srvPhaseMeasurement psrc theta ∧ psrc.val ≠ 0 ∧ s.get R.SRV_CTRL_PSRC = psrc.val ∧ theta.toNat ≠ 2 ^ 47 ∧ th = signed 48 theta.toNat) →
    s.get R.SRV_CTRL_EN ≠ 0 → s.srvState = 2 → s.tp.wasHoldover = false →
    ∃ t v, exec i s = .next t ∧ t.get R.SRV_THETA_THETA = encode2 48 th ∧ t.tp.thetaLast = th ∧ t.tp.adj = s.tp.adj ++ [(s.tp.tick + 65, .dinc v)] ∧
      -s.srvLim ≤ v ∧ v ≤ s.srvLim ∧ t.get R.SRV_STAT_NACC = min (2 ^ 32 - 1) (s.get R.SRV_STAT_NACC + 1)) ∧
  (∀ (s : State) (ferr : BitVec 32), s.get R.SRV_CTRL_EN ≠ 0 → s.get R.SRV_CTRL_FSRC ≠ 0 → s.srvState = 2 → (∀ p, s.tp.phaseNow = some p → p.held = false) →
    ∃ t v, exec (.srvFreqMeasurement ferr) s = .next t ∧ t.tp.adj = s.tp.adj ++ [(s.tp.tick + 65, .dinc v)] ∧ -s.srvLim ≤ v ∧ v ≤ s.srvLim ∧
      t.get R.SRV_STAT_NACC = min (2 ^ 32 - 1) (s.get R.SRV_STAT_NACC + 1)) ∧
  (∀ s : State, (s.srvState = 1 → ∃ t, exec .srvMissTimeout s = .next t ∧ t.srvState = 0 ∧ t.get R.TP_EVT_SRV = 1) ∧
    (s.srvState = 2 → ∃ t, exec .srvMissTimeout s = .next t ∧ t.get R.TP_EVT_SRV = 1 ∧ t.tp.tau = 0 ∧
      t.srvState = (if f64.lt s.eEntry (f64.ofInt (s.get R.HO_CTRL_BUDGET)) then 3 else 4))) ∧
  (∀ (s : State) (psrc : Fin 4), psrc.val ≠ 0 → s.get R.SRV_CTRL_PSRC = psrc.val →
    (psrc.val = 1 → ∃ t, exec (.srvPhaseMeasurement psrc (2 ^ 47)) s = .next t ∧ Posted s t R.SRV_RESULT_STATUS 0x0302 ∧ t.get R.SRV_RESULT_SRC = 1) ∧
    (psrc.val ≠ 1 → exec (.srvPhaseMeasurement psrc (2 ^ 47)) s = .next { s with answer := ⟨0x0302, 0⟩ })) ∧
  (∀ (s : State) (src : SrcId), s.srcTp src = true →
    (s.srvState = 2 → ∃ t, exec (.srvCmdHold src) s = .next t ∧ t.srvState = (if f64.lt s.eEntry (f64.ofInt (s.get R.HO_CTRL_BUDGET)) then 3 else 4) ∧ t.get R.SRV_STAT_FORCED = 1 ∧ t.get R.SRV_RESULT_SRC = 2 ∧
      t.get R.SRV_RESULT_STATUS = 0 ∧ t.answer = ⟨0, 0⟩) ∧
    (s.get R.SRV_STAT_FORCED ≠ 0 → ∃ t, exec (.srvCmdRelease src) s = .next t ∧ t.get R.SRV_STAT_FORCED = 0 ∧ Posted s t R.SRV_RESULT_STATUS 0 ∧
      OnlyRegs s t (R.SRV_STAT_FORCED :: R.SRV_RESULT_SRC :: resFlds R.SRV_RESULT_STATUS)) ∧
    (∃ t, exec (.srvCmdReset src) s = .next t ∧ t.srvState = 0 ∧ t.get R.SRV_INTEG_INTEG = 0 ∧ t.get R.SRV_STAT_FORCED = 0 ∧ t.tp.pLast = 0 ∧
      t.tp.adj = s.tp.adj ++ [(s.tp.tick + 65, .dinc 0)] ∧ t.get R.SRV_RESULT_STATUS = 0) ∧
    (∀ data : Word64, bits data.toNat 16 16 ≠ 0 → ∃ t, exec (.srvSettingsWrite src 0 data) s = .next t ∧ t.get R.SRV_CTRL_EN = bit data.toNat 0 ∧
      t.get R.SRV_CTRL_PSRC = bits data.toNat 1 2 ∧ t.get R.SRV_CTRL_MISS_TO = bits data.toNat 16 16 ∧ (bit data.toNat 0 = 0 → t.srvState = 0) ∧
      t.get R.SRV_RESULT_SRC = 3 ∧ t.get R.SRV_RESULT_STATUS = 0) ∧
    (∀ data : Word64, ∃ t, exec (.srvSettingsWrite src 1 data) s = .next t ∧ t.get R.SRV_GAIN_KP_M = bits data.toNat 0 16 ∧
      t.get R.SRV_GAIN_KI_M = bits data.toNat 21 16 ∧ t.get R.SRV_GAIN_KF_M = bits data.toNat 42 16 ∧ t.get R.SRV_RESULT_STATUS = 0) ∧
    (∀ data : Word64, 1 ≤ bits data.toNat 0 18 → bits data.toNat 0 18 ≤ 200000 → bits data.toNat 24 24 ≠ 0 → bits data.toNat 48 12 ≠ 0 → bits data.toNat 60 4 ≠ 0 →
      ∃ t, exec (.srvSettingsWrite src 2 data) s = .next t ∧ t.get R.SRV_LIM_FREQ_LIM = bits data.toNat 0 18 ∧ t.get R.SRV_LIM_LOCK_N = bits data.toNat 60 4 ∧
        t.get R.SRV_RESULT_STATUS = 0)) ∧
  (∀ (s u : State) (src : SrcId) (data : Word64) (reg : Fin 4) (i : Instr) (kind code : Nat),
    (i = .srvOffsWr src data ∧ u = s.commit R.SRV_OFFS_WR_THETA.addr ∧ kind = 1 ∧ s.srcTp src = false ∧ code = 0x0306) ∨
    (i = .srvOffsWr src data ∧ u = s.commit R.SRV_OFFS_WR_THETA.addr ∧ kind = 1 ∧ s.srcTp src = true ∧ s.get R.SRV_CTRL_PSRC ≠ 1 ∧ code = 0x0307) ∨
    (i = .srvOffsWr src data ∧ u = s.commit R.SRV_OFFS_WR_THETA.addr ∧ kind = 1 ∧ s.srcTp src = true ∧ s.get R.SRV_CTRL_PSRC = 1 ∧ data.toNat % 2 ^ 48 = 2 ^ 47 ∧ code = 0x0302) ∨
    ((i = .srvCmdHold src ∨ i = .srvCmdRelease src ∨ i = .srvCmdReset src) ∧ u = s ∧ kind = 2 ∧ s.srcTp src = false ∧ code = 0x0306) ∨
    (i = .srvCmdHold src ∧ u = s ∧ kind = 2 ∧ s.srcTp src = true ∧ s.srvState ≠ 2 ∧ code = 0x030B) ∨
    (i = .srvCmdRelease src ∧ u = s ∧ kind = 2 ∧ s.srcTp src = true ∧ s.get R.SRV_STAT_FORCED = 0 ∧ code = 0x030B) ∨
    (i = .srvSettingsWrite src reg data ∧ u = s.commit ([R.SRV_CTRL_EN.addr, R.SRV_GAIN_KP_M.addr, R.SRV_LIM_FREQ_LIM.addr, R.SRV_INTEG_INTEG.addr].getD reg.val 0) ∧ kind = 3 ∧ s.srcTp src = false ∧ code = 0x0306) ∨
    (i = .srvSettingsWrite src 2 data ∧ u = s.commit R.SRV_LIM_FREQ_LIM.addr ∧ kind = 3 ∧ s.srcTp src = true ∧ (bits data.toNat 0 18 = 0 ∨ 200000 < bits data.toNat 0 18) ∧ code = 0x0305) ∨
    (i = .srvSettingsWrite src 3 data ∧ u = s.commit R.SRV_INTEG_INTEG.addr ∧ kind = 3 ∧ s.srcTp src = true ∧ s.get R.SRV_CTRL_EN ≠ 0 ∧ code = 0x030B) →
    ∃ t, exec i s = .next t ∧ Posted s t R.SRV_RESULT_STATUS code ∧ t.get R.SRV_RESULT_SRC = kind ∧ t.answer = ⟨0, 0⟩ ∧
      OnlyRegs u t (R.SRV_RESULT_SRC :: resFlds R.SRV_RESULT_STATUS))

/-- O26. Detectors (R304, R305): an edge inside the window is seen and EXPECT goes on by one period, one outside it counts in OUTL; a window that passes counts
in MISS; a gate of the frequency detector posts its rounded and clamped result. The holdover estimator (R306 to R311): samples and predictions, the
steering that holdover takes, the clear of the model, and the temperature that it reads. The model's own readings and choices that it rests on:
assumptions 60, 61, 62, 63, 178. Commands that this statement shows to complete with their own effect: ppsEdge, ppsMiss, ppsCfgWrite, fdGateEnd,
hoSample, hoSteerUpdate, hoPredict, modelClr, hoTempPoll, hoTempWr, hoTempTimeout. -/
def Obligations.DetectorsAndHoldover : Prop :=
  ((∀ (s : State) (i : Fin 2) (time : BitVec 48) (falling : Bool) (th : Int), s.get (R.PPS_CFG_EN i) ≠ 0 →
    (falling = true ↔ s.get (R.PPS_CFG_EDGE i) ≠ 0) →
    th = signed 48 (encode2 48 ((s.get (R.PPS_EXP_EXPECT i) : Int) - time.toNat + signed 40 (s.get (R.PPS_DLY_DLY i)))) →
    (th.natAbs ≤ s.get (R.PPS_CFG_WIN i) * 65536 → ∃ t, exec (.ppsEdge i time falling) s = .next t ∧ t.get (R.PPS_STAT_SEEN i) = 1 ∧
      t.get (R.PPS_EXP_EXPECT i) = (s.get (R.PPS_EXP_EXPECT i) + s.get (R.PPS_CFG_PERIOD i) * 65536) % 2 ^ 48) ∧
    (s.get (R.PPS_CFG_WIN i) * 65536 < th.natAbs → ∃ t, exec (.ppsEdge i time falling) s = .next t ∧
      t.get (R.PPS_STAT_OUTL i) = min (2 ^ 16 - 1) (s.get (R.PPS_STAT_OUTL i) + 1) ∧ t.get (R.PPS_EXP_EXPECT i) = s.get (R.PPS_EXP_EXPECT i) ∧
      t.get (if i.val = 0 then R.TP_EVT_PPS_0 else R.TP_EVT_PPS_1) = 1)) ∧
  (∀ (s : State) (i : Fin 2), s.get (R.PPS_CFG_EN i) ≠ 0 →
    0 < signed 48 (encode2 48 ((s.now48 : Int) - (s.get (R.PPS_EXP_EXPECT i) + signed 40 (s.get (R.PPS_DLY_DLY i)) + s.get (R.PPS_CFG_WIN i) * 65536))) →
    ∃ t, exec (.ppsMiss i) s = .next t ∧ t.get (R.PPS_STAT_MISS i) = min (2 ^ 16 - 1) (s.get (R.PPS_STAT_MISS i) + 1) ∧ t.get (R.PPS_STAT_SEEN i) = 0 ∧
      t.get (R.PPS_EXP_EXPECT i) = (s.get (R.PPS_EXP_EXPECT i) + s.get (R.PPS_CFG_PERIOD i) * 65536) % 2 ^ 48) ∧
  (∀ (s : State) (src : SrcId) (i : Fin 2) (data : Word64),
    (bits data.toNat 8 24 ≠ 0 → 1000000 ≤ bits data.toNat 32 31 → bits data.toNat 32 31 ≤ 2000000000 →
      ∃ t, exec (.ppsCfgWrite src i 0 data) s = .next t ∧ t.answer = ⟨0, 0⟩ ∧ t.get (R.PPS_CFG_EN i) = bit data.toNat 0 ∧
        t.get (R.PPS_CFG_WIN i) = bits data.toNat 8 24 ∧ t.get (R.PPS_CFG_PERIOD i) = bits data.toNat 32 31) ∧
    ((bits data.toNat 8 24 = 0 ∨ bits data.toNat 32 31 < 1000000 ∨ 2000000000 < bits data.toNat 32 31) →
      exec (.ppsCfgWrite src i 0 data) s = .next { s.commit (R.PPS_CFG_EN i).addr with answer := ⟨0x0308, 0⟩ }) ∧
    (∃ t, exec (.ppsCfgWrite src i 1 data) s = .next t ∧ t.answer = ⟨0, 0⟩ ∧ t.get (R.PPS_DLY_DLY i) = bits data.toNat 0 40 ∧ OnlyRegs (s.commit ((R.PPS_CFG_EN i).addr + 8)) t [R.PPS_DLY_DLY i]) ∧
    (∃ t, exec (.ppsCfgWrite src i 2 data) s = .next t ∧ t.answer = ⟨0, 0⟩ ∧ t.get (R.PPS_EXP_EXPECT i) = bits data.toNat 0 48 ∧ OnlyRegs (s.commit ((R.PPS_CFG_EN i).addr + 16)) t [R.PPS_EXP_EXPECT i])) ∧
  (∀ (s : State) (periods span : Nat), s.tp.fdDrop = false → s.get R.FD_CFG_EN ≠ 0 → (s.get R.FD_CFG_SRC < 2 ∨ s.mode0 = 4 ∨ s.mode0 = 5) → 2 ≤ periods →
    ∃ t, exec (.fdGateEnd periods span) s = .next t ∧ t.get R.FD_RES_VALID = 1 ∧
      t.get R.FD_RES_FERR = encode2 32 (max (-2147483648) (min 2147483647
        (roundNear (65536000000000 * (periods : Int) - (span * s.get R.FD_CFG_FREQ_HZ : Nat)) periods))))) ∧
  ((∀ s : State, s.get R.HO_CTRL_LEARN_EN ≠ 0 → s.tp.cur.kept = true → s.tp.cur.ticks ≠ 0 →
    ∃ t, exec .hoSample s = .next t ∧ t.tp.ho.nsamp = s.tp.ho.nsamp + 1 ∧ t.tp.cur = ⟨0, 0, 0, true⟩ ∧
      (64 ≤ s.tp.ho.nsamp + 1 → t.get R.HO_STAT_MODEL_VALID = 1)) ∧
  (∀ s : State, s.get R.HO_CTRL_LEARN_EN ≠ 0 → s.tp.cur.kept = false →
    ∃ t, exec .hoSample s = .next t ∧ t.tp.ho = s.tp.ho ∧ t.tp.cur = ⟨0, 0, 0, true⟩ ∧ RegsKept s t [R.HO_STAT_LEARN]) ∧
  (∀ s : State, s.inHoldover = true →
    (s.get R.HO_STAT_MODEL_VALID = 0 → ∃ t, exec .hoSteerUpdate s = .next t ∧
      t = { s with tp := { s.tp with adj := s.tp.adj ++ [(s.tp.tick + 65, .dinc (s.integ + s.tp.pLast))] } }) ∧
    (∃ t v, exec .hoSteerUpdate s = .next t ∧ t = { s with free := t.free, tp := { s.tp with adj := s.tp.adj ++ [(s.tp.tick + 65, .dinc v)] } })) ∧
  (∀ s : State, ∃ t, exec .hoPredict s = .next t ∧ t.get R.HO_STAT_REF_LOST = (if s.get R.TP_STATUS_HELD = 0 then 0 else 1) ∧ t.get R.HO_PRED_VALID = 1 ∧
    (s.get R.TP_STATUS_HELD ≠ 0 → t.get R.HO_PRED_REMAIN = 0) ∧ (s.inHoldover = true → t.tp.tau = s.tp.tau + 1 ∧ t.get R.HO_EACC_TAU = (s.tp.tau + 1) % 2 ^ 32)) ∧
  (∀ (s : State) (src : SrcId), ∃ t, exec (.modelClr src) s = .next t ∧ t.answer = ⟨0, 0⟩ ∧ t.tp.ho.nsamp = 0 ∧ t.get R.HO_STAT_MODEL_VALID = 0 ∧
    t.get R.HO_STAT_TMIN = 0 ∧ t.get R.HO_STAT_TMAX = 0 ∧ t.get R.TP_EVT_MODEL = 1) ∧
  (∀ (s : State) (v : BitVec 16), s.get R.HO_TEMP_SRC = 1 → s.mode0 = 4 → s.get (R.SP_CFG_MODE (s.get R.HO_TEMP_SP)) = 3 →
    ∃ t, exec (.hoTempPoll (some v)) s = .next t ∧ t.get R.HO_STAT_TEMP_NOW = v.toNat ∧ t.get R.HO_STAT_TEMP_OK = 1 ∧ t.tp.pollFails = 0) ∧
  (∀ s : State, s.get R.HO_TEMP_SRC = 1 → ∃ t, exec (.hoTempPoll none) s = .next t ∧ t.tp.pollFails = min (s.tp.pollFails + 1) 3 ∧
    (2 ≤ s.tp.pollFails → t.get R.HO_STAT_TEMP_OK = 0) ∧ (s.tp.pollFails < 2 → t.regs = s.regs)) ∧
  (∀ (s : State) (src : SrcId) (data : BitVec 16), (s.get R.HO_TEMP_SRC = 2 →
      ∃ t, exec (.hoTempWr src data) s = .next t ∧ t.get R.HO_STAT_TEMP_NOW = data.toNat ∧ t.get R.HO_STAT_TEMP_OK = 1 ∧ t.answer = ⟨0, 0⟩) ∧
    (s.get R.HO_TEMP_SRC ≠ 2 → exec (.hoTempWr src data) s = .next { s with answer := ⟨0, 0⟩ })) ∧
  (∀ s : State, s.get R.HO_TEMP_SRC = 2 → ∃ t, exec .hoTempTimeout s = .next t ∧ t.get R.HO_STAT_TEMP_OK = 0 ∧ OnlyRegs s t [R.HO_STAT_TEMP_OK]))

/-- O27. TL_CMD (R316 to R319, R334): an ARM that passes its checks arms the slot at its target, now plus TARGET where REL is set, and posts 0x0000; the first
failing check posts its code and nothing else changes; a DISARM leaves the slot able to fire for 64 more ticks; CLRSTAT clears the slot's counts. Each
write drops a half of TL_CMD that a source staged (R7). A firing is booked in STAT and LAST. Trigger lines and capture units (R326, R331 to R335):
TRG_SW pends its lines on a bough whose trigger registers are clocked, and is lost on any other; CU_CFG is taken unless its source or mode is refused;
an edge of the chosen kind stores its stamp with the unit's delay taken off, counted, in every unit that has the input, and one nearer than 2.5 ns to
the last is merged. Registers that pop (R8, R22): with nothing waiting a read answers 0; otherwise it answers the oldest entry, which leaves its
queue, and holds its upper half. The model's own readings and choices that it rests on: assumptions 12, 64, 66, 67, 68, 69, 180. Commands that this
statement shows to complete with their own effect: tlArm, tlDisarm, tlClrstat, trgSw, tlLogPop, cuEnable, cuEdge, cuPop, nocErrPop, hlErrPop,
ptSwapPop. -/
def Obligations.TimelineTriggersAndPops : Prop :=
  ((∀ (s u : State) (src : SrcId) (slot : Fin 256) (rel : Bool), u = s.commit R.TL_CMD_SLOT.addr → (u.armCheck src slot rel).1 = 0 →
    (s.get (R.TL_SLOT_CTRL_PERIODIC slot) = 0 ∨ s.get (R.TL_SLOT_CTRL_FOREVER slot) ≠ 0 ∨ s.get (R.TL_SLOT_CTRL_COUNT slot) ≠ 0) →
    ∃ t, exec (.tlArm src slot rel) s = .next t ∧ t.armed slot = true ∧ t.answer = ⟨0, 0⟩ ∧
      t.get (R.TL_SLOT_TARGET_TARGET slot) = (if rel then (u.timeTick.time48 72 + s.get (R.TL_SLOT_TARGET_TARGET slot)) % 2 ^ 48
        else s.get (R.TL_SLOT_TARGET_TARGET slot) % 2 ^ 48) ∧
      t.pendingT slot = t.get (R.TL_SLOT_TARGET_TARGET slot) * 65536 ∧ t.get (R.TL_SLOT_STAT_DONE slot) = 0 ∧ t.get R.TL_CMD_RESULT_OP = 1 ∧
      t.get R.TL_CMD_RESULT_SLOT = slot.val ∧ Posted s t R.TL_CMD_RESULT_STATUS 0) ∧
  (∀ (s u : State) (src : SrcId) (slot : Fin 256) (rel : Bool) (code : Nat), u = s.commit R.TL_CMD_SLOT.addr → (u.armCheck src slot rel).1 = code → code ≠ 0 →
    ∃ t, exec (.tlArm src slot rel) s = .next t ∧ Posted s t R.TL_CMD_RESULT_STATUS code ∧ t.answer = ⟨0, 0⟩ ∧
      OnlyRegs u t (R.TL_CMD_RESULT_SLOT :: R.TL_CMD_RESULT_OP :: resFlds R.TL_CMD_RESULT_STATUS)) ∧
  (∀ (s : State) (src : SrcId) (slot : Nat) (rel : Bool), (s.mode0 ≠ 4 → (s.armCheck src slot rel).1 = 0x0387) ∧
    (s.mode0 = 4 → s.armed slot = true → (s.armCheck src slot rel).1 = 0x0384)) ∧
  (∀ (s : State) (src : SrcId) (slot : Fin 256), s.armed slot = true → SMap.get s.tl.cut 0 slot = 0 →
    ∃ t, exec (.tlDisarm src slot) s = .next t ∧ SMap.get t.tl.cut 0 slot = s.tp.tick + 65 ∧ t.armed slot = true ∧ Posted s t R.TL_CMD_RESULT_STATUS 0 ∧
      t.get R.TL_CMD_RESULT_OP = 2) ∧
  (∀ (s : State) (src : SrcId) (slot : Fin 256),
    ∃ t, exec (.tlClrstat src slot) s = .next t ∧ t.slotStat slot = 0 ∧ t.slotLast slot = 0 ∧ Posted s t R.TL_CMD_RESULT_STATUS 0 ∧
      t.get R.TL_CMD_RESULT_OP = 3) ∧
  (∀ (s : State) (slot status : Nat) (lost passed : Bool), slot < 256 → status < 2 ^ 16 →
    (fireBook s slot status lost passed).get (R.TL_SLOT_STAT_DONE slot) = min (2 ^ 16 - 1) (s.get (R.TL_SLOT_STAT_DONE slot) + 1) ∧
    (fireBook s slot status lost passed).get (R.TL_SLOT_STAT_LAST_STATUS slot) = status ∧
    (fireBook s slot status lost passed).get (R.TL_SLOT_LAST_TIME slot) = s.time48 72)) ∧
  ((∀ (s : State) (src : SrcId) (b : BoughId) (mask : BitVec 16), (s.trgRuns b = true →
      ∃ t late, exec (.trgSw src b mask) s = .next t ∧ (t.bough b).trigPend = (s.bough b).trigPend ++ (maskList mask.toNat 16).map (fun k => ⟨k, s.tp.tick, late⟩) ∧
        (s.gclOfTime (s.get (R.BCK_SRC b (s.trgClk b))) = true → late = false) ∧ t.answer = ⟨0, 0⟩ ∧ t.regs = s.regs) ∧
    (s.trgRuns b = false → exec (.trgSw src b mask) s = .next { s with answer := ⟨0, 0⟩ })) ∧
  (∀ (s : State) (src : SrcId) (u : Fin 32) (data : Word64) (level : Bool), (bits data.toNat 0 10 < 0x122 ∨ (0x200 ≤ bits data.toNat 0 10 ∧ bits data.toNat 0 10 < 0x300)) →
    bits data.toNat 11 2 ≠ 3 → s.mode0 = 4 →
    ∃ t, exec (.cuEnable src u data level) s = .next t ∧ t.answer = ⟨0, 0⟩ ∧ t.get (R.CU_CFG_EN u) = 1 ∧ t.get (R.CU_CFG_SRC u) = bits data.toNat 0 10 ∧
      t.get (R.CU_CFG_EDGE u) = bits data.toNat 11 2 ∧ t.get (R.CU_CFG_DLY u) = bits data.toNat 16 40 ∧
      SMap.get t.tl.inLevel 0 (bits data.toNat 0 10) = ofFlag level) ∧
  (∀ (s : State) (src : SrcId) (u : Fin 32) (data : Word64) (level : Bool) (code : Nat),
    ((0x122 ≤ bits data.toNat 0 10 ∧ bits data.toNat 0 10 < 0x200 ∨ 0x300 ≤ bits data.toNat 0 10 ∨ bits data.toNat 11 2 = 3) ∧ code = 0x0389) ∨
    ((bits data.toNat 0 10 < 0x122 ∨ 0x200 ≤ bits data.toNat 0 10 ∧ bits data.toNat 0 10 < 0x300) ∧ bits data.toNat 11 2 ≠ 3 ∧ s.mode0 ≠ 4 ∧ code = 0x0387) →
    ∃ t, exec (.cuEnable src u data level) s = .next t ∧ t.answer = ⟨code, 0⟩ ∧ t.regs = s.regs) ∧
  (∀ (s : State) (u : Fin 32) (time : BitVec 48) (wraps : BitVec 8) (rising : Bool), s.get (R.CU_CFG_EN u) ≠ 0 →
    (s.get (R.CU_CFG_SRC u) < 0x200 ∨ s.capLevel (s.get (R.CU_CFG_SRC u)) = ofFlag rising) →
    SMap.get s.tl.unitLevel 0 u ≠ ofFlag rising → (s.get (R.CU_CFG_EDGE u) = 0 ∧ rising = true ∨ s.get (R.CU_CFG_EDGE u) = 1 ∧ rising = false ∨ 2 ≤ s.get (R.CU_CFG_EDGE u)) →
    (s.cuNear u (wraps.toNat * 2 ^ 48 + time.toNat) = false → (s.queue (cuPopAddr u)).length < 16 → SMap.get s.popOvf 0 (cuPopAddr u) = 0 →
      ∃ t, exec (.cuEdge u time wraps rising) s = .next t ∧ t.get (R.CU_STAT_COUNT u) = min (2 ^ 32 - 1) (s.get (R.CU_STAT_COUNT u) + 1) ∧
        t.queue (cuPopAddr u) = s.queue (cuPopAddr u) ++ [encode2 56 (((wraps.toNat * 2 ^ 48 + time.toNat : Nat) : Int) - signed 40 (s.get (R.CU_CFG_DLY u))) +
          2 ^ 56 + ofFlag (!rising) * 2 ^ 57 + ofFlag (s.timeBad 72 || s.timeBad 73) * 2 ^ 59]) ∧
    (∀ last tick, SMap.get s.tl.lastEdge none u = some (last, tick) → (wraps.toNat * 2 ^ 48 + time.toNat + 2 ^ 56 - last) % 2 ^ 56 < 163840 → s.tp.tick < tick + 2 ^ 32 →
      ∃ t, exec (.cuEdge u time wraps rising) s = .next t ∧ t.get (R.CU_STAT_MERGED u) = min (2 ^ 16 - 1) (s.get (R.CU_STAT_MERGED u) + 1) ∧
        t.queue (cuPopAddr u) = s.queue (cuPopAddr u)))) ∧
  (∀ (s : State) (i : Instr) (addr : Nat),
    (i = .tlLogPop ∧ addr = tlLogAddr) ∨ (∃ u, i = .cuPop u ∧ addr = cuPopAddr u.val) ∨ (∃ b, i = .nocErrPop b ∧ addr = nocErrAddr b.val) ∨
    (i = .hlErrPop ∧ addr = hlErrAddr) ∨ (i = .ptSwapPop ∧ addr = ptSwapAddr) →
    (s.queue addr = [] → exec i s = .next { s with answer := ⟨0, 0⟩, half := SMap.set s.half none addr (some 0) }) ∧
    (∀ w l, s.queue addr = w :: l → exec i s = .next { s with
      answer := ⟨0, w⟩
      pops := SMap.set s.pops [] addr l
      half := SMap.set s.half none addr (some (w / 2 ^ 32)) }))

/-- O28. Requests and responses of the network (R340, R341, R343 to R346, R350, R352, R354, R363): a request with a free tag is taken up and the network runs
until nothing more moves. Where the network is quiet, a malformed request is answered 0x0203 by its router, one to a port of that router without a
block 0x0201, and one to that router's open bough port waits in the bridge, with the epoch of the router; a response of a port of the requester's
router whose request is outstanding reaches the requester and frees the tag, and one without counts as late. A request that stays unanswered ends with
0x0207. A packet leaves a buffer only with credits for its every flit, in class 1 past a dateline, in class 0 after the turn, and a response before a
request until eight responses went in a row. Accesses to the granary (R376 to R379): a write of a whole row stores the four words under the symbol
code and answers 0x0000; a read of a row without an error answers its words; the error log pops its oldest entry with OVF after a drop. The model's
own readings and choices that it rests on: assumptions 8, 12, 70, 71, 73, 77. Commands that this statement shows to complete with their own effect:
nocRequest, nocResponse, nocRspTimeout, granaryAccess, grErrPop. -/
def Obligations.NocAndGranaryAccesses : Prop :=
  ((∀ (s : State) (src : SrcId) (tag : Fin 64) (wr : Bool) (waddr : BitVec 42) (last : BitVec 6) (data : List (BitVec 32)) (up : Option NocUpset) (q : NocReq),
    s.nocUp = true → src.val % 4 ≠ 0 → s.outstanding src tag = none →
    q = ⟨s.noc.next, src, tag, waddr.toNat, last.toNat, wr, 0, data.map (fun d => d.toNat)⟩ →
    exec (.nocRequest src tag wr waddr last data up) s = .next
      ({ s with noc := { s.noc with next := s.noc.next + 1, outst := s.noc.outst ++ [q] } }.queuePkt ⟨.req q, 0, false, up⟩).nocRun ∧
    (s.nocQuiet → up = none →
      (last.toNat < waddr.toNat % 64 → exec (.nocRequest src tag wr waddr last data up) s = .next
        ({ s with noc := { s.noc with next := s.noc.next + 1, outst := s.noc.outst ++ [q] } }.respond q (4 * (src.val / 4) + 3) 0x0203 [])) ∧
      (waddr.toNat % 64 ≤ last.toNat → q.node = src.val / 4 → s.nocEnt q.node (s.get (R.NOC_STATUS_EPOCH q.node)) q.node = 0 →
        (q.port ≠ 0 → blockAt q.node q.port = false → ∃ t, exec (.nocRequest src tag wr waddr last data up) s = .next t ∧
          t.noc.rsps = s.noc.rsps ++ [q.answer (4 * q.node + 3) 0x0201 []] ∧ t.noc.outst = s.noc.outst ++ [q] ∧ t.nocQuiet ∧ t.regs = s.regs) ∧
        (q.port = 0 → s.p0 q.node = p0OPEN → s.nocOn q.node = true → s.reqInFlits q.node + q.flits ≤ 8 →
          ∃ t, exec (.nocRequest src tag wr waddr last data up) s = .next t ∧ t.bufOf q.node = s.bufOf q.node ++ [{ q with epoch := s.get (R.NOC_STATUS_EPOCH q.node) }] ∧
            t.noc.outst = s.noc.outst ++ [q] ∧ t.noc.rsps = s.noc.rsps ∧ t.nocQuiet ∧ t.regs = s.regs)))) ∧
  (∀ (s : State) (dest : SrcId) (tag : Fin 64) (up : Option NocUpset) (r : NocRsp), s.nocUp = true →
    s.noc.rsps.find? (fun r => decide (r.dest = dest.val) && decide (r.tag = tag.val)) = some r →
    exec (.nocResponse dest tag up) s = .next ({ s with noc := { s.noc with rsps := s.noc.rsps.erase r } }.queuePkt ⟨.rsp r, 0, false, up⟩).nocRun ∧
    (s.nocQuiet → up = none → r.resp / 4 = dest.val / 4 → r.flits ≤ 4 → dest.val % 4 ≠ 0 → s.nocEnt (dest.val / 4) (s.get (R.NOC_STATUS_EPOCH (dest.val / 4))) (dest.val / 4) = 0 →
      (s.noc.outst.any (fun q => decide (q.id = r.id)) = true → s.noc.catching = [] → dest.val ∉ [33, 61, 93, 97, 161] →
        ∃ t, exec (.nocResponse dest tag up) s = .next t ∧ t.answer = ⟨r.status, joinWords r.data⟩ ∧ t.noc.rsps = s.noc.rsps.erase r ∧
          t.noc.outst = s.noc.outst.filter (fun q => decide (q.id ≠ r.id)) ∧ t.nocQuiet) ∧
      (s.noc.outst.any (fun q => decide (q.id = r.id)) = false →
        ∃ t, exec (.nocResponse dest tag up) s = .next t ∧ t.noc.rsps = s.noc.rsps.erase r ∧ t.noc.outst = s.noc.outst ∧ t.nocQuiet ∧
          t.get (R.NOC_CNT_LATE (dest.val / 4)) = min (2 ^ 16 - 1) (s.get (R.NOC_CNT_LATE (dest.val / 4)) + 1)))) ∧
  (∀ (s : State) (src : SrcId) (tag : Fin 64) (q : NocReq), s.outstanding src tag = some q → s.rspArrived q = false →
    (src.val = 65 → s.nocQuiet → ∃ t, exec (.nocRspTimeout src tag) s = .next t ∧ t.answer = ⟨0x0207, joinWords (q.answer 67 0x0207 []).data⟩ ∧
      t.noc.outst = s.noc.outst.filter (fun x => decide (x.id ≠ q.id)) ∧
      t.get (R.NOC_CNT_TIMEOUT 16) = min (2 ^ 16 - 1) (s.get (R.NOC_CNT_TIMEOUT 16) + 1)) ∧
    (src.val % 4 = 0 → s.p0 (src.val / 4) ≤ p0DRAINING → s.noc.dropping.contains (src.val / 4) = false →
      s.rspInFlits (src.val / 4) + (q.answer 3 0x0207 []).flits ≤ 8 →
      ∃ t r, exec (.nocRspTimeout src tag) s = .next t ∧ t.rspInOf (src.val / 4) = s.rspInOf (src.val / 4) ++ [r] ∧ r.status = 0x0207 ∧ r.tag = q.tag ∧
        t.noc.outst = s.noc.outst.filter (fun x => decide (x.id ≠ q.id)))) ∧
  (∀ (s : State) (m : NocMove), m ∈ s.nocReady → m.pkt.flits ≤ s.nocCred (4 * m.out + m.pkt.vc m.cls)) ∧
  (∀ (s : State) (bid r dir : Nat) (p : NocPkt), bufRouter bid = some r → s.nocEnt r p.epoch p.node = dir → 1 ≤ dir → dir ≤ 4 →
    ∃ c, s.nocNext bid p = some (8 * r + 3 + dir, c) ∧
      ((dir = 1 ∧ r % 8 = 7 ∨ dir = 2 ∧ r % 8 = 0 ∨ dir = 3 ∧ r / 8 = 7 ∨ dir = 4 ∧ r / 8 = 0) → c = 1) ∧
      (¬(dir = 1 ∧ r % 8 = 7 ∨ dir = 2 ∧ r % 8 = 0 ∨ dir = 3 ∧ r / 8 = 7 ∨ dir = 4 ∧ r / 8 = 0) → bid < 512 → bid % 8 < 6 → 3 ≤ dir → c = 0)) ∧
  (∀ (s : State) (o : Nat) (ms : List NocMove) (m : NocMove), s.nocPick o ms = some m →
    (∃ x ∈ ms, x.pkt.kind = 1) → (SMap.get s.noc.inRow 0 o < 8 → m.pkt.kind = 1) ∧ (8 ≤ SMap.get s.noc.inRow 0 o → (∃ x ∈ ms, x.pkt.kind = 0) → m.pkt.kind = 0))) ∧
  ((∀ (s : State) (g : Fin 64) (testWait counted : Bool) (q : NocReq) (l : List (NocReq × Bool)) (base : Nat), s.nocQuiet → s.grQueue g = (q, counted) :: l →
    base = (s.grBank (g.val / 8) (q.addr % 2 ^ 36)).2 → base % 16 = 0 → q.words = 4 → q.src < 256 →
    (∀ d0 d1 d2 d3, q.wr = true → q.data = [d0, d1, d2, d3] → s.get (R.GR_INJECT_ARM (g.val / 8)) = 0 →
      ∃ t r, exec (.granaryAccess g testWait) s = .next t ∧ t.grQueue g = l ∧ t.grRow g (s.grIx g (base / 16)) = symEncode (joinWords [d0, d1, d2, d3]) ∧
        t.noc.rsps = s.noc.rsps ++ [r] ∧ r.id = q.id ∧ r.status = 0) ∧
    (∀ v, q.wr = false → v = s.grRow g (s.grIx g (base / 16)) → (symDecode v).kind = 0 →
      ∃ t r, exec (.granaryAccess g testWait) s = .next t ∧ t.grQueue g = l ∧ t.gr.rows = s.gr.rows ∧ t.noc.rsps = s.noc.rsps ++ [r] ∧ r.id = q.id ∧
        r.status = 0 ∧ r.data = [bits v 0 32, bits v 32 32, bits v 64 32, bits v 96 32])) ∧
  (∀ (s : State) (k : Fin 8), (s.queue (grErrAddr k) = [] → exec (.grErrPop k) s = .next { s with
      answer := ⟨0, 0⟩
      half := SMap.set s.half none (grErrAddr k) (some 0) }) ∧
    (∀ w l, s.queue (grErrAddr k) = w :: l → ∃ t, exec (.grErrPop k) s = .next t ∧ t.answer = ⟨0, w + SMap.get s.popOvf 0 (grErrAddr k) * 2 ^ 38⟩ ∧
      t.queue (grErrAddr k) = l ∧ SMap.get t.popOvf 0 (grErrAddr k) = 0 ∧ t.regs = s.regs ∧ t.gr = s.gr)))

/-- O29. The bridge of a bough (R356 to R360): the fabric takes requests and responses flit by flit, the table holding a request from its first flit on and a
taken response freeing its tag; a response of the fabric that matches goes to its requester with its last flit, one that matches nothing counts as
late; a request of the fabric is injected with its last flit, and one that names an outstanding tag is answered 0x0204; the timeouts and the drain
answer what the fabric leaves. The model's own readings and choices that it rests on: assumptions 70, 72, 74. Commands that this statement shows to
complete with their own effect: bridgeReqOut, bridgeRspOut, portAccTimeout, bridgeRspTimeout, drainStart, drainTimeout, drainComplete, bridgeReqIn,
bridgeRspIn. -/
def Obligations.BoughBridge : Prop :=
  (∀ (s : State) (b : BoughId) (q : NocReq) (l : List NocReq) (k : Nat), s.nocQuiet → s.bufOf b = q :: l → k = SMap.get s.noc.reqTaken 0 b → s.bridgeClocked b = true →
    s.p0 b < p0ASLEEP → (k = 0 → (s.tableOf b).length < 64) →
    ∃ t, exec (.bridgeReqIn b) s = .next t ∧ t.out = [q.flit b k] ∧ t.tableOf b = (if k = 0 then s.tableOf b ++ [q] else s.tableOf b) ∧
      t.bufOf b = (if k + 1 = q.flits then l else q :: l) ∧ SMap.get t.noc.reqTaken 0 b = (if k + 1 = q.flits then 0 else k + 1) ∧
      t.p0 b = (if s.p0 b = p0STALLED then p0OPEN else s.p0 b)) ∧
  (∀ (s : State) (b : BoughId) (r : NocRsp) (l : List NocRsp) (k : Nat), s.nocQuiet → s.rspInOf b = r :: l → k = SMap.get s.noc.rspTaken 0 b → s.bridgeClocked b = true →
    ∃ t, exec (.bridgeRspIn b) s = .next t ∧ t.out = [r.flit b k] ∧ t.rspInOf b = (if k + 1 = r.flits then l else r :: l) ∧
      SMap.get t.noc.rspTaken 0 b = (if k + 1 = r.flits then 0 else k + 1) ∧ t.noc.dropping.contains b.val = false ∧
      t.noc.outst = (if k + 1 = r.flits then s.noc.outst.filter (fun q => decide (q.id ≠ r.id)) else s.noc.outst)) ∧
  (∀ (s : State) (b : BoughId) (dest : SrcId) (tag : Fin 64) (status : BitVec 16) (fidx : Fin 4) (last : Bool) (payload : BitVec 512), s.nocUp = true →
    s.bridgeClocked b = true → s.p0 b < p0ASLEEP → s.rspOutFlits b < 8 →
    (∀ q, (s.tableOf b).find? (fun q => decide (q.src = dest.val) && decide (q.tag = tag.val)) = some q → SMap.get s.noc.partRsp none b = none → fidx.val = 0 → last = true →
      q.rspFlits = 1 → ∃ t, exec (.bridgeRspOut b dest tag status (fidx, last) payload) s = .next t ∧ t.tableOf b = (s.tableOf b).erase q ∧
        t.noc.rsps = s.noc.rsps ++ [q.answer (4 * b.val) status.toNat (rangeOf q.waddr q.last (payloadWords payload))] ∧ t.regs = s.regs) ∧
    (∀ q, (s.tableOf b).find? (fun q => decide (q.src = dest.val) && decide (q.tag = tag.val)) = some q → SMap.get s.noc.partRsp none b = none → fidx.val = 0 → last = false →
      1 < q.rspFlits → ∃ t, exec (.bridgeRspOut b dest tag status (fidx, last) payload) s = .next t ∧ t.tableOf b = s.tableOf b ∧ t.noc.rsps = s.noc.rsps ∧
        SMap.get t.noc.partRsp none b = some ⟨tag, false, 0, 0, dest, status.toNat, payloadWords payload, false, none⟩) ∧
    ((s.tableOf b).find? (fun q => decide (q.src = dest.val) && decide (q.tag = tag.val)) = none → SMap.get s.noc.partRsp none b = none →
      ∃ t, exec (.bridgeRspOut b dest tag status (fidx, last) payload) s = .next t ∧ t.tableOf b = s.tableOf b ∧ t.noc.rsps = s.noc.rsps ∧
        t.get (R.NOC_CNT_LATE b) = min (2 ^ 16 - 1) (s.get (R.NOC_CNT_LATE b) + 1))) ∧
  (∀ (s : State) (b : BoughId) (tag : Fin 64) (wr : Bool) (waddr : BitVec 42) (last : BitVec 6) (payload : BitVec 512) (up : Option NocUpset) (q : NocReq), s.nocQuiet →
    s.bridgeClocked b = true → s.nocOn b = true → s.p0 b < p0ASLEEP → SMap.get s.noc.partReq none b = none →
    q = ⟨s.noc.next, 4 * b.val, tag, waddr.toNat, last.toNat, wr, 0, if wr then rangeOf waddr.toNat last.toNat (payloadWords payload) else []⟩ →
    (1 < q.flits → ∃ t, exec (.bridgeReqOut b tag wr waddr last (payload, up)) s = .next t ∧ t.noc.outst = s.noc.outst ∧
      SMap.get t.noc.partReq none b = some ⟨tag, wr, waddr.toNat, last.toNat, 0, 0, payloadWords payload, false, up⟩) ∧
    (q.flits ≤ 1 → s.outstanding (4 * b.val) tag = none → s.p0 b ≠ p0DRAINING → exec (.bridgeReqOut b tag wr waddr last (payload, up)) s = .next
      ({ s with noc := { s.noc with next := s.noc.next + 1, outst := s.noc.outst ++ [q], partReq := SMap.set s.noc.partReq none b none } }.queuePkt ⟨.req q, 0, false, up⟩).nocRun) ∧
    (q.flits ≤ 1 → s.outstanding (4 * b.val) tag ≠ none → s.noc.dropping.contains b.val = false → s.rspInFlits b + q.rspFlits ≤ 8 →
      ∃ t r, exec (.bridgeReqOut b tag wr waddr last (payload, up)) s = .next t ∧ t.rspInOf b = s.rspInOf b ++ [r] ∧ r.status = 0x0204 ∧ t.noc.outst = s.noc.outst)) ∧
  (∀ (s : State) (b : BoughId) (q : NocReq), s.nocUp = true → s.noc.inj = [] → s.noc.bufs = [(32 * b.val, [⟨.req q, 0, false, none⟩])] → s.nocOn b = true → s.p0 b = p0OPEN →
    8 < s.reqInFlits b + q.flits →
    ∃ t, exec (.portAccTimeout b) s = .next t ∧ t.noc.bufs = [] ∧ t.bufOf b = s.bufOf b ∧ t.p0 b = p0STALLED ∧ t.noc.rsps = s.noc.rsps ++ [q.answer (4 * b.val + 3) 0x0208 []]) ∧
  (∀ (s : State) (b : BoughId), s.nocQuiet → s.rspInOf b ≠ [] →
    ∃ t, exec (.bridgeRspTimeout b) s = .next t ∧ t.rspInOf b = [] ∧ t.noc.dropping.contains b.val = true ∧ (∀ r ∈ s.rspInOf b, ∀ q ∈ t.noc.outst, q.id ≠ r.id)) ∧
  (∀ (s : State) (b : BoughId), (s.p0 b = p0OPEN ∨ s.p0 b = p0STALLED) →
    ∃ t, exec (.drainStart b) s = .next t ∧ t.p0 b = p0DRAINING ∧ t.noc.timedOut.contains b.val = false ∧ t.bufOf b = s.bufOf b) ∧
  (∀ (s : State) (b : BoughId), s.nocQuiet → s.p0 b = p0DRAINING →
    (s.p0Empty b = false → ∃ t, exec (.drainTimeout b) s = .next t ∧ t.bufOf b = [] ∧ t.tableOf b = [] ∧ t.rspInOf b = [] ∧ t.noc.timedOut.contains b.val = true ∧
      t.noc.rsps = s.noc.rsps ++ (s.p0Pending b).map (fun q => q.answer (4 * b.val + 3) 0x0205 []) ∧ (∀ q ∈ t.noc.outst, q.src ≠ 4 * b.val)) ∧
    ((s.p0Empty b = true ∨ s.noc.timedOut.contains b.val = true) → SMap.get s.pt.falling 0 b = 0 →
      (s.opChange b = none → ∃ t, exec (.drainComplete b) s = .next t ∧ t.p0 b = p0ASLEEP ∧ t.noc.timedOut.contains b.val = false) ∧
      (∀ c, s.opChange b = some c → c.target = 4 → (s.bough b).run ≠ .frozen → ∃ t, exec (.drainComplete b) s = .next t ∧ t.p0 b = p0ASLEEP ∧ (t.bough b).run = .rest ∧
        t.opChange b = none ∧ t.get (R.OP_STATUS_STATE b) = 4 ∧ t.get (R.OP_STATUS_BUSY b) = 0 ∧ t.get (R.OP_RESULT_STATUS b) = 0 ∧ t.get (R.OP_RESULT_VALID b) = 1)))

/-- O30. Routing tables and epochs (R364, R366 to R368): a legal change starts in every router at once and ends with CUR inverted; a table write is refused in
the running epoch or with an entry above 4; the clear of the counts clears all five. The model's own readings and choices that it rests on: assumption
71. Commands that this statement shows to complete with their own effect: epochGo, epochChangeComplete, nocTblWrite, nocCntClr. -/
def Obligations.NocTablesAndEpochs : Prop :=
  (∀ (s : State) (src : SrcId), s.srcTp src = true → s.get R.NOC_EPOCH_BUSY = 0 →
    (s.get R.NOC_EPOCH_CUR ≤ 1 → s.tableBreach (1 - s.get R.NOC_EPOCH_CUR) = none → ∃ t, exec (.epochGo src) s = .next t ∧ t.get R.NOC_EPOCH_BUSY = 1 ∧
      (∀ r < 64, t.get (R.NOC_STATUS_EPOCH r) = 1 - s.get R.NOC_EPOCH_CUR ∧ t.get (R.NOC_STATUS_CHANGING r) = 1 ∧
        t.get (R.NOC_STATUS_OLDCNT r) = s.inFlight r (s.get R.NOC_EPOCH_CUR) % 2 ^ (R.NOC_STATUS_OLDCNT r).w) ∧ t.get R.NOC_EPOCH_RESULT_STALE = 1 ∧
      t.get R.NOC_EPOCH_RESULT_VALID = 0 ∧ t.answer = ⟨0, 0⟩) ∧
    (∀ r d, s.tableBreach (1 - s.get R.NOC_EPOCH_CUR) = some (r, d) → ∃ t, exec (.epochGo src) s = .next t ∧ Posted s t R.NOC_EPOCH_RESULT_STATUS 0x0211 ∧
      t.get R.NOC_EPOCH_RESULT_ROUTER = r % 64 ∧ t.get R.NOC_EPOCH_RESULT_DEST = d % 64 ∧
      OnlyRegs s t (R.NOC_EPOCH_RESULT_ROUTER :: R.NOC_EPOCH_RESULT_DEST :: resFlds R.NOC_EPOCH_RESULT_STATUS))) ∧
  (∀ (s : State) (src : SrcId) (code : Nat), (s.srcTp src = false ∧ code = 0x020D ∨ s.srcTp src = true ∧ s.get R.NOC_EPOCH_BUSY ≠ 0 ∧ code = 0x0210) →
    ∃ t, exec (.epochGo src) s = .next t ∧ Posted s t R.NOC_EPOCH_RESULT_STATUS code ∧
      OnlyRegs s t (R.NOC_EPOCH_RESULT_ROUTER :: R.NOC_EPOCH_RESULT_DEST :: resFlds R.NOC_EPOCH_RESULT_STATUS)) ∧
  (∀ s : State, s.get R.NOC_EPOCH_BUSY ≠ 0 → s.get R.NOC_EPOCH_OLD_OLD = 0 →
    ∃ t, exec .epochChangeComplete s = .next t ∧ t.get R.NOC_EPOCH_BUSY = 0 ∧ t.get R.NOC_EPOCH_CUR = 1 - s.get R.NOC_EPOCH_CUR ∧
      (∀ r < 64, t.get (R.NOC_STATUS_CHANGING r) = 0) ∧ t.get R.NOC_EPOCH_RESULT_STATUS = 0 ∧ t.get R.NOC_EPOCH_RESULT_VALID = 1) ∧
  (∀ (s : State) (src : SrcId) (b : BoughId) (bank : Fin 2) (w : Fin 4) (data : Word64),
    (s.srcTp src = true → s.get (R.NOC_STATUS_EPOCH b) ≠ bank.val → (∀ j < 16, bits data.toNat (4 * j) 4 ≤ 4) →
      ∃ t, exec (.nocTblWrite src b bank w data) s = .next t ∧ t.get (R.NOC_TBL_ENT b bank w) = data.toNat ∧ t.answer = ⟨0, 0⟩ ∧
        OnlyRegs (s.commit (R.NOC_TBL_ENT b bank w).addr) t [R.NOC_TBL_ENT b bank w]) ∧
    (∀ code : Nat, (s.srcTp src = false ∧ code = 0x020D ∨ s.srcTp src = true ∧ s.get (R.NOC_STATUS_EPOCH b) = bank.val ∧ code = 0x0212 ∨
        s.srcTp src = true ∧ s.get (R.NOC_STATUS_EPOCH b) ≠ bank.val ∧ (∃ j < 16, 4 < bits data.toNat (4 * j) 4) ∧ code = 0x0211) →
      exec (.nocTblWrite src b bank w data) s = .next { s.commit (R.NOC_TBL_ENT b bank w).addr with answer := ⟨code, 0⟩ })) ∧
  (∀ (s : State) (src : SrcId) (b : BoughId), (s.srcTp src = true → ∃ t, exec (.nocCntClr src b) s = .next t ∧ t.answer = ⟨0, 0⟩ ∧
      (∀ f ∈ [R.NOC_CNT_ASLEEP b, R.NOC_CNT_TIMEOUT b, R.NOC_CNT_LATE b, R.NOC_CNT_HDR_UNC b, R.NOC_CNT_POISON b], t.get f = 0) ∧
      OnlyRegs s t [R.NOC_CNT_ASLEEP b, R.NOC_CNT_TIMEOUT b, R.NOC_CNT_LATE b, R.NOC_CNT_HDR_UNC b, R.NOC_CNT_POISON b]) ∧
    (s.srcTp src = false → exec (.nocCntClr src b) s = .next { s with answer := ⟨0x020D, 0⟩ }))

/-- O31. Granary commands (R374, R380 to R388): a power command changes the bank's state now or when its queue is empty, a bank that wakes from OFF is cleared;
a repair takes a free spare and its row when it ends; the clears clear; the background test goes on by one region; every command from a source that
may not give it posts 0x0909. The model's own readings and choices that it rests on: assumptions 75, 76, 78. Commands that this statement shows to
complete with their own effect: grPwrOn, grPwrRet, grPwrOff, gbPowerChangeComplete, bankClearComplete, grRepair, repairComplete, grConfClr, grCntClr,
grBtNow, btRegionTest, grIntlvWrite, grInject. -/
def Obligations.GranaryCommands : Prop :=
  (∀ (s : State) (src : SrcId) (g : Fin 64) (i : Instr) (op goal : Nat), s.srcTp src = true →
    (i = .grPwrOn src g ∧ op = 1 ∧ goal = 2 ∨ i = .grPwrRet src g ∧ op = 2 ∧ goal = 3 ∨ i = .grPwrOff src g ∧ op = 3 ∧ goal = 0) →
    SMap.get s.gr.pwr 0 g = 0 → s.grPwrOf g ≠ 1 →
    (s.grPwrOf g ≠ goal → s.grPwrOf g ≠ 0 → ∃ t, exec i s = .next t ∧ SMap.get t.gr.pwr 0 g = goal + 1 ∧ t.answer = ⟨0, 0⟩ ∧ t.grPwrOf g = s.grPwrOf g ∧
      t.get (R.GR_CMD_RESULT_VALID (g.val / 8)) = 0 ∧ t.get (R.GR_CMD_RESULT_STALE (g.val / 8)) = 1) ∧
    (s.grPwrOf g = goal → ∃ t, exec i s = .next t ∧ Posted s t (R.GR_CMD_RESULT_STATUS (g.val / 8)) 0 ∧ t.get (R.GR_CMD_RESULT_OP (g.val / 8)) = op ∧
      t.get (R.GR_CMD_RESULT_BANK (g.val / 8)) = g.val % 8 ∧
      OnlyRegs s t (R.GR_CMD_RESULT_OP (g.val / 8) :: R.GR_CMD_RESULT_BANK (g.val / 8) :: resFlds (R.GR_CMD_RESULT_STATUS (g.val / 8)))) ∧
    (s.grPwrOf g = 0 → goal = 2 → ∃ t, exec i s = .next t ∧ t.grPwrOf g = 1 ∧ (∀ ix < 33280, t.grRow g ix = 0))) ∧
  (∀ (s : State) (g : Fin 64) (goal : Nat), SMap.get s.gr.pwr 0 g = goal + 1 → goal < 4 → s.grQueue g = [] → (∀ r, s.repairOf (g.val / 8) = some r → r.bank ≠ g.val) →
    s.get (R.GB_STATUS_BT_ACTIVE (g.val / 8) (g.val % 8)) = 0 →
    ∃ t, exec (.gbPowerChangeComplete g) s = .next t ∧ t.grPwrOf g = goal ∧ SMap.get t.gr.pwr 0 g = 0 ∧ t.get (R.GR_CMD_RESULT_STATUS (g.val / 8)) = 0 ∧
      t.get (R.GR_CMD_RESULT_VALID (g.val / 8)) = 1 ∧ (goal = 0 → ∀ ix < 33280, t.grRow g ix = 0) ∧ (goal ≠ 0 → t.gr.rows = s.gr.rows)) ∧
  (∀ (s : State) (g : Fin 64), s.grPwrOf g = 1 → ∃ t, exec (.bankClearComplete g) s = .next t ∧ t.grPwrOf g = 2 ∧ (∀ ix < 33280, t.grRow g ix = 0) ∧
    t.get (R.GR_CMD_RESULT_STATUS (g.val / 8)) = 0 ∧ t.get (R.GR_CMD_RESULT_OP (g.val / 8)) = 1) ∧
  (∀ (s : State) (src : SrcId) (g : Fin 64) (row : Fin 512), s.srcTp src = true →
    (∀ sp, s.freeSpare g = some sp → s.grPwrOf g = 2 → s.repairOf (g.val / 8) = none → ∃ t, exec (.grRepair src g row) s = .next t ∧
      t.repairOf (g.val / 8) = some ⟨g, row, sp, true⟩ ∧ t.get (R.GB_STATUS_REPAIRING (g.val / 8) (g.val % 8)) = 1 ∧
      t.get (R.GR_CMD_RESULT_STALE (g.val / 8)) = 1) ∧
    (s.freeSpare g = none → ∃ t, exec (.grRepair src g row) s = .next t ∧ Posted s t (R.GR_CMD_RESULT_STATUS (g.val / 8)) 0x0904)) ∧
  (∀ (s : State) (k : Fin 8) (r : GrRepair), s.repairOf k = some r → r.bank / 8 = k.val → r.spare < 8 → r.row < 512 →
    ∃ t, exec (.repairComplete k) s = .next t ∧ t.repairOf k = none ∧ t.get (R.GB_SPARE_USED k (r.bank % 8) r.spare) = 1 ∧
      t.get (R.GB_SPARE_ROW k (r.bank % 8) r.spare) = r.row ∧ t.get (R.GB_STATUS_REPAIRING k (r.bank % 8)) = 0) ∧
  (∀ (s : State) (src : SrcId) (g : Fin 64), s.srcTp src = true →
    (∃ t, exec (.grConfClr src g) s = .next t ∧ (∀ i < 256, t.get (R.GB_CONF_COUNT (g.val / 8) (g.val % 8) i) = 0) ∧
      Posted s t (R.GR_CMD_RESULT_STATUS (g.val / 8)) 0 ∧ t.gr = s.gr) ∧
    (∃ t, exec (.grCntClr src g) s = .next t ∧ t.get (R.GB_CNT_CORR (g.val / 8) (g.val % 8)) = 0 ∧ t.get (R.GB_CNT_UNC (g.val / 8) (g.val % 8)) = 0 ∧
      Posted s t (R.GR_CMD_RESULT_STATUS (g.val / 8)) 0 ∧ t.get (R.GR_CMD_RESULT_OP (g.val / 8)) = 6)) ∧
  (∀ (s : State) (src : SrcId) (k : Fin 8) (m g r : Nat), s.srcTp src = true → s.btRegion k = some (m, g, r) → s.gr.btAsked.contains k.val = false →
    ∃ t, exec (.grBtNow src k) s = .next t ∧ t.gr.btAsked.contains k.val = true ∧ t.get (R.GB_STATUS_BT_ACTIVE k (g % 8)) = 1 ∧
      t.get (R.GR_CMD_RESULT_STALE k) = 1) ∧
  (∀ (s : State) (k : Fin 8) (m g r : Nat), s.btRegion k = some (m, g, r) → (s.gr.btAsked.contains k.val = true ∨ s.get (R.GR_CTRL_BT_EN k) ≠ 0) →
    ∃ t, exec (.btRegionTest k none) s = .next t ∧ SMap.get t.gr.btNext 0 k = (m + 1) % 16640 ∧ t.gr.btAsked.contains k.val = false ∧
      (∀ j < 8, t.get (R.GB_STATUS_BT_ACTIVE k j) = 0) ∧ (s.gr.btAsked.contains k.val = true → t.get (R.GR_CMD_RESULT_STATUS k) = 0 ∧ t.get (R.GR_CMD_RESULT_OP k) = 7)) ∧
  (∀ (s : State) (src : SrcId) (k : Fin 8) (data : BitVec 32),
    (s.srcTp src = true → bits data.toNat 16 16 ≠ 0 → (bit data.toNat 0 = s.get (R.GR_CTRL_INTLV k) ∨ ∀ j < 8, s.grPwrOf (8 * k.val + j) = 0) →
      ∃ t, exec (.grIntlvWrite src k data) s = .next t ∧ t.answer = ⟨0, 0⟩ ∧ t.get (R.GR_CTRL_INTLV k) = bit data.toNat 0 ∧
        t.get (R.GR_CTRL_BT_INTERVAL k) = bits data.toNat 16 16) ∧
    (s.srcTp src = true → bits data.toNat 16 16 = 0 → exec (.grIntlvWrite src k data) s = .next { s with answer := ⟨0x0905, 0⟩ }) ∧
    (s.srcTp src = true → (bit data.toNat 21 = 0 ∨ bits data.toNat 8 6 ≤ 35 ∧ bits data.toNat 16 4 ≠ 0) → ∃ t, exec (.grInject src k data) s = .next t ∧ t.answer = ⟨0, 0⟩ ∧
      t.get (R.GR_INJECT_ARM k) = bit data.toNat 21 ∧ t.get (R.GR_INJECT_SYMBOL k) = bits data.toNat 8 6 ∧ t.get (R.GR_INJECT_PATTERN k) = bits data.toNat 16 4) ∧
    (s.srcTp src = false → exec (.grIntlvWrite src k data) s = .next { s with answer := ⟨0x0909, 0⟩ } ∧ exec (.grInject src k data) s = .next { s with answer := ⟨0x0909, 0⟩ }))

/-- O32. Lane bring-up (R396, R399, R400, R424): each event moves a lane from the state that R399 names to the next, a timeout and a loss to the state that
follows with its code, adaptation goes on in VGA and DFE while traffic runs, and a quad PLL that loses lock takes its lanes to IDLE. The model's own
readings and choices that it rests on: assumptions 62, 79. Commands that this statement shows to complete with their own effect: qpllLock,
qpllLockLost, lnRestart, laneLeaveOff, laneDetectPulse, laneAdapted, laneTrainTimeout, laneLocked, laneLockTimeout, laneActive, laneCapsTimeout,
laneLockLost, laneSignalLost, laneFailExpiry. -/
def Obligations.LaneBringUp : Prop :=
  (∀ (s : State) (n : LaneId), s.lnState n = lnIDLE →
    (s.get (R.LN_CFG_TX_EN n) ≠ 0 → s.lnPllOk n = true → s.lnMode n ≠ 0 → s.lnRuns n = true →
      (s.laneSettle n).lnState n = if s.get (R.LN_CFG_DET_EN n) = 0 then lnTRAIN else lnDETECT) ∧
    (s.get (R.LN_CFG_TX_EN n) = 0 → s.laneSettle n = s)) ∧
  (∀ (s : State) (n : LaneId),
    (s.lnState n = lnOFF → s.lnMode n ≠ 0 → s.lnPllOk n = true → (hostLane n = true → s.hostQuads = true) → exec (.laneLeaveOff n) s = .next ((s.set (R.LN_STAT_STATE n) lnIDLE).laneSettle n)) ∧
    (s.lnState n = lnFAIL → exec (.laneFailExpiry n) s = .next ((s.set (R.LN_STAT_STATE n) lnIDLE).laneSettle n)) ∧
    (∀ found : Bool, s.lnState n = lnDETECT → ∃ t, exec (.laneDetectPulse n found) s = .next t ∧ t.lnState n = (if found then lnTRAIN else lnDETECT) ∧
      t.get (R.LN_STAT_RXPRES n) = ofFlag found ∧ t.out = [.lane n.val 0]) ∧
    (∀ (ctle : Fin 16) (vga : Fin 64) (dfe : BitVec 48), s.lnState n = lnTRAIN → ∃ t, exec (.laneAdapted n ctle vga dfe) s = .next t ∧ t.lnState n = lnLOCK ∧
      t.get (R.LN_STAT_ADAPTED n) = 1 ∧ (t.lane n).training = false ∧
      (s.get (R.LN_CFG_EQ_AUTO n) ≠ 0 → (t.lane n).adCtle = ctle.val ∧ (t.lane n).adVga = vga.val) ∧
      (s.get (R.LN_CFG_EQ_AUTO n) = 0 → t.get (R.LN_EQ_RX_DFE n) = 0)) ∧
    (∀ (ctle : Fin 16) (vga : Fin 64) (dfe : BitVec 48), s.get (R.LN_CFG_EQ_AUTO n) ≠ 0 → (s.lnState n = lnLOCK ∨ s.lnState n = lnCAPS ∨ s.lnState n = lnACTIVE) →
      ∃ t, exec (.laneAdapted n ctle vga dfe) s = .next t ∧ t.lnState n = s.lnState n ∧ (t.lane n).adVga = vga.val ∧ (t.lane n).adCtle = (s.lane n).adCtle ∧
        OnlyRegs { s with lanes := t.lanes } t [R.LN_EQ_RX_DFE n]) ∧
    (∀ (i : Instr) (code : Nat), (i = .laneTrainTimeout n ∧ s.lnState n = lnTRAIN ∧ code = 0x0A11 ∨ i = .laneLockTimeout n ∧ s.lnState n = lnLOCK ∧ code = 0x0A12 ∨
        i = .laneCapsTimeout n ∧ s.lnState n = lnCAPS ∧ 40 ≤ n.val ∧ s.get (R.ST_CFG_USE (n.val / 4)) = 2 ∧ code = 0x0A13) →
      ∃ t, exec i s = .next t ∧ t.lnState n = lnFAIL ∧ t.get (R.LN_STAT_LAST_FAIL n) = code ∧
        t.get (R.LN_STAT_FAILS n) = min (2 ^ 8 - 1) (s.get (R.LN_STAT_FAILS n) + 1)) ∧
    (s.lnState n = lnLOCK → ∃ t, exec (.laneLocked n) s = .next t ∧ t.lnState n = (if s.lnMode n = 2 then lnACTIVE else lnCAPS) ∧
      t.get (R.LN_STAT_CDR_LOCK n) = 1 ∧ (s.lnMode n ≠ 2 → t.get (R.LN_STAT_BLK_LOCK n) = 1)) ∧
    (s.lnState n = lnCAPS → s.capsDone n = true → ∃ t, exec (.laneActive n) s = .next t ∧ t.lnState n = lnACTIVE) ∧
    (s.lnState n = lnACTIVE → (∃ t, exec (.laneLockLost n) s = .next t ∧ t.lnState n = lnLOCK ∧ t.get (R.LN_STAT_CDR_LOCK n) = 0 ∧ t.get (R.LN_STAT_BLK_LOCK n) = 0) ∧
      (∃ t, exec (.laneSignalLost n) s = .next t ∧ (t.lnState n = lnIDLE ∨ t.lnState n = lnDETECT ∨ t.lnState n = lnTRAIN) ∧ t.get (R.LN_STAT_SIGDET n) = 0 ∧
        (s.get (R.LN_CFG_TX_EN n) = 0 → t.lnState n = lnIDLE)))) ∧
  (∀ (s : State) (q : Fin 12) (j : Fin 2), (s.get (R.QD_PLL_EN q j) ≠ 0 → s.get (R.QD_PLL_LOCK q j) = 0 → s.mode0 = 4 →
      ∃ t, exec (.qpllLock q j) s = .next t ∧ t.get (R.QD_PLL_LOCK q j) = 1) ∧
    (s.get (R.QD_PLL_LOCK q j) ≠ 0 → ∃ t, exec (.qpllLockLost q j) s = .next t ∧ t.get (R.QD_PLL_LOCK q j) = 0 ∧ ∀ n ∈ s.quadUsers q j, t.lnState n = lnIDLE)) ∧
  (∀ (s : State) (src : SrcId) (n : LaneId), s.srcOk src = true →
    ∃ t, exec (.lnRestart src n) s = .next t ∧ t.get (R.LN_RESULT_CMD n) = 1 ∧ t.get (R.LN_RESULT_STATUS n) = 0 ∧ t.get (R.LN_RESULT_VALID n) = 1 ∧ t.answer = ⟨0, 0⟩ ∧
      (s.lnMode n = 0 → t.lnState n = lnOFF) ∧ t.get (R.LN_PRBS_BITS_LOCK n) = 0)

/-- O33. Quad PLLs, lane settings, PRBS and eye scans (R393 to R398, R401, R403 to R409): writes in range are taken and each refusal answers its code and
changes nothing else; each command posts one result with its CMD; a read of LN_PRBS_BITS or LN_EYE_RES1 keeps the other word of its result. The
model's own readings and choices that it rests on: assumptions 80, 81, 82, 83, 84. Commands that this statement shows to complete with their own
effect: qdPllWrite, lnCfgWrite, lnEqTxWrite, linkTrainingTapRequest, lnPrbsClr, lnInjOne, prbsCheckerLock, prbsCheckerLost, lnPrbsBitsRead, eyePoint,
eyeMargin, eyeAbort, eyeScanComplete, lnEyeRes1Read. -/
def Obligations.LaneSettingsAndTests : Prop :=
  (∀ (s : State) (src : SrcId) (q : Fin 12) (j : Fin 2) (data : Word64) (refKhz : Nat) (u : State),
    u = (match refQuad q (bits data.toNat 0 2) with | some rq => { s with lref := SMap.set s.lref 156250 rq refKhz } | none => s).commit (Config.qdBase q + 0x800 + 8 * j.val) →
    (s.srcOk src = true → u.quadLegal q data.toNat = true → s.quadUsers q j = [] →
      ∃ t, exec (.qdPllWrite src q j data refKhz) s = .next t ∧ t.answer = ⟨0, 0⟩ ∧ t.get (R.QD_PLL_EN q j) = bit data.toNat 2 ∧
        t.get (R.QD_PLL_M q j) = bits data.toNat 8 3 ∧ t.get (R.QD_PLL_N q j) = bits data.toNat 16 8 ∧ t.get (R.QD_PLL_FRAC q j) = bits data.toNat 24 24) ∧
    (s.srcOk src = true → u.quadLegal q data.toNat = false → exec (.qdPllWrite src q j data refKhz) s = .next { u with answer := ⟨0x0A02, 0⟩ }) ∧
    (s.srcOk src = false → exec (.qdPllWrite src q j data refKhz) s = .next { u with answer := ⟨0x0A01, 0⟩ })) ∧
  (∀ (s : State) (src : SrcId) (n : LaneId) (data : Word64),
    (s.lnCfgRefusal src n data.toNat = none → ∃ t, exec (.lnCfgWrite src n data) s = .next t ∧ t.answer = ⟨0, 0⟩ ∧
      ∀ f ∈ lnCfgFields n, t.get f = bits data.toNat f.lo f.w) ∧
    (∀ c, s.lnCfgRefusal src n data.toNat = some c → exec (.lnCfgWrite src n data) s = .next { s.commit (R.LN_CFG_MODE n).addr with answer := ⟨c, 0⟩ })) ∧
  (∀ (s : State) (src : SrcId) (n : LaneId) (data : BitVec 32),
    (s.srcOk src = true → (s.lane n).training = false → tapsOk n data.toNat = true → ∃ t, exec (.lnEqTxWrite src n data) s = .next t ∧ t.answer = ⟨0, 0⟩ ∧
      t.get (R.LN_EQ_TX_MAIN n) = bits data.toNat 11 7 ∧ t.get (R.LN_EQ_TX_PRE1 n) = bits data.toNat 5 6 ∧ t.get (R.LN_EQ_TX_POST1 n) = bits data.toNat 18 6) ∧
    (∀ code : Nat, (s.srcOk src = false ∧ code = 0x0A01 ∨ s.srcOk src = true ∧ (s.lane n).training = true ∧ code = 0x0A04 ∨
        s.srcOk src = true ∧ (s.lane n).training = false ∧ tapsOk n data.toNat = false ∧ code = 0x0A06) →
      exec (.lnEqTxWrite src n data) s = .next { s with answer := ⟨code, 0⟩ })) ∧
  (∀ (s : State) (n : LaneId) (taps : BitVec 24), s.lnMode n = 1 → s.lnState n = lnTRAIN → n.val < 40 →
    ∃ t, exec (.linkTrainingTapRequest n taps) s = .next t ∧ (t.lane n).training = true ∧ t.out = [.lane n.val (if tapsOk n taps.toNat then 1 else 2)] ∧
      (tapsOk n taps.toNat = true → t.get (R.LN_EQ_TX_MAIN n) = bits taps.toNat 11 7) ∧ (tapsOk n taps.toNat = false → t.regs = s.regs)) ∧
  (∀ (s : State) (src : SrcId) (n : LaneId), s.srcOk src = true →
    (∃ t, exec (.lnPrbsClr src n) s = .next t ∧ t.get (R.LN_PRBS_BITS_BITS n) = 0 ∧ t.get (R.LN_PRBS_ERR_ERR n) = 0 ∧ t.get (R.LN_PRBS_ERR_LOSTCNT n) = 0 ∧
      Posted s t (R.LN_RESULT_STATUS n) 0 ∧ t.get (R.LN_RESULT_CMD n) = 2) ∧
    (s.get (R.LN_PRBS_CFG_GEN n) ≠ 0 → s.get (R.LN_CFG_LOOP n) ≠ 3 → ∃ t, exec (.lnInjOne src n) s = .next t ∧ Posted s t (R.LN_RESULT_STATUS n) 0 ∧
      t.get (R.LN_RESULT_CMD n) = 3 ∧ t.out = [.lane n.val (s.genWord n true).1]) ∧
    (∀ (i : Instr) (cmd : Nat), (i = .eyePoint src n ∧ cmd = 4 ∨ i = .eyeMargin src n ∧ cmd = 5) →
      (s.lnState n = lnACTIVE → (s.lane n).scan = none → s.eyeCfgOk n = true → ∃ t, exec i s = .next t ∧ t.answer = ⟨0, 0⟩ ∧
        (t.lane n).scan = some ⟨cmd, s.get (R.LN_EYE_CFG_LOG2BITS n), s.get (R.LN_EYE_CFG_ERRLIM n)⟩ ∧ t.get (R.LN_RESULT_VALID n) = 0 ∧
        t.get (R.LN_EYE_RES1_VALID n) = 0 ∧ t.get (R.LN_EYE_RES1_STALE n) = 1) ∧
      (∀ code, (s.lnState n ≠ lnACTIVE ∧ code = 0x0A09 ∨ s.lnState n = lnACTIVE ∧ (s.lane n).scan ≠ none ∧ code = 0x0A0A) →
        ∃ t, exec i s = .next t ∧ Posted s t (R.LN_RESULT_STATUS n) code ∧ t.get (R.LN_RESULT_CMD n) = cmd ∧
          OnlyRegs s t (R.LN_RESULT_CMD n :: resFlds (R.LN_RESULT_STATUS n)))) ∧
    (∀ points, (s.lane n).scan = none → ∃ t, exec (.eyeAbort src n points) s = .next t ∧ Posted s t (R.LN_RESULT_STATUS n) 0 ∧ t.get (R.LN_RESULT_CMD n) = 6)) ∧
  (∀ (s : State) (src : SrcId) (n : LaneId) (points : List (Nat × Nat)) (e : EyeScan) (i : Instr) (code : Nat), (s.lane n).scan = some e → e.cmd < 16 →
    (i = .eyeAbort src n points ∧ s.srcOk src = true ∧ code = 0x0A0B ∨ i = .eyeScanComplete n points ∧ e.complete points = true ∧ code = 0) →
    ∃ t, exec i s = .next t ∧ (t.lane n).scan = none ∧ t.get (R.LN_RESULT_STATUS n) = code ∧ t.get (R.LN_RESULT_CMD n) = e.cmd ∧ t.get (R.LN_RESULT_VALID n) = 1 ∧
      t.get (R.LN_EYE_RES1_VALID n) = 1 ∧ t.get (R.LN_EYE_RES0_UI n) = ((points.getLast?).getD (0, 0)).1 % 2 ^ 48) ∧
  (∀ (s : State) (n : LaneId) (rx : List Bool),
    (s.get (R.LN_PRBS_BITS_LOCK n) = 0 → exec (.prbsCheckerLock n rx) s = .next (s.chkFeed n rx)) ∧
    (s.get (R.LN_PRBS_BITS_LOCK n) ≠ 0 → exec (.prbsCheckerLost n rx) s = .next (s.chkFeed n rx)) ∧
    (s.get (R.LN_PRBS_BITS_LOCK n) ≠ 0 → ∀ b, (s.chkBit n b).get (R.LN_PRBS_BITS_BITS n) = min (2 ^ 48 - 1) (s.get (R.LN_PRBS_BITS_BITS n) + 1))) ∧
  (∀ (s : State) (n : LaneId),
    exec (.lnPrbsBitsRead n) s = .next { s.setLane n { s.lane n with errSnap := s.word [R.LN_PRBS_ERR_ERR n, R.LN_PRBS_ERR_LOSTCNT n] } with
      answer := ⟨0, s.word [R.LN_PRBS_BITS_BITS n, R.LN_PRBS_BITS_LOCK n]⟩ } ∧
    ∃ t, exec (.lnEyeRes1Read n) s = .next t ∧ (t.lane n).eyeSnap = s.word [R.LN_EYE_RES0_UI n, R.LN_EYE_RES0_ERRS n] ∧ t.regs = s.regs ∧
      t.answer = ⟨0, s.word [R.LN_EYE_RES1_LEFT n, R.LN_EYE_RES1_RIGHT n, R.LN_EYE_RES1_TOP n, R.LN_EYE_RES1_BOTTOM n, R.LN_EYE_RES1_KIND n,
        R.LN_EYE_RES1_SEQ n, R.LN_EYE_RES1_VALID n, R.LN_EYE_RES1_STALE n]⟩)

/-- O34. Lane links, converter links and their stream engines (R411 to R422): the third equal CAPS set that matches ends the exchange with the partner's values
shown; a bad payload, an overflow and an error of a converter link count and bring what R415 and R418 say; the first SYSREF aligns; the receive ring
and the transmit FIFO move by whole chunks. The model's own readings and choices that it rests on: assumptions 85, 86, 87, 181. Commands that this
statement shows to complete with their own effect: llCapsRx, llMarkerRx, llElasticOverflow, jsCfgWrite, jesdSysref, jesdSysrefTimeout, jesdIlasRx,
jesdResync, stRxChunk, stRxChunkWritten, stRxRdWrite, stTxWrite, stMarkPosRead, stTxSend, jesdCrc12Fail, jsyncIChange. -/
def Obligations.StreamsAndLinks : Prop :=
  (∀ (s : State) (q : Fin 2) (content : List (BitVec 8)) (ack : Bool) (skew : Nat) (c : List Nat), s.get (R.ST_CFG_USE (10 + q.val)) = 2 → content.length = 24 →
    c = content.map (fun x => x.toNat) → (s.stLanes q).any (fun n => decide (s.lnState n = lnCAPS)) = true →
    (skew ≤ 16 → (s.stream q).capsLast = c.take 10 → 2 ≤ (s.stream q).capsSame → c.getD 0 0 = 1 →
      rateMatched (s.get (R.LL_CFG_F (10 + q.val))) (s.get (R.LL_CFG_TOL (10 + q.val))) (c.getD 4 0) = true →
      rateMatched (c.getD 3 0) (s.get (R.LL_CFG_TOL (10 + q.val))) (c.getD 4 0) = true →
      ∃ t, exec (.llCapsRx q content ack skew) s = .next t ∧ (t.stream q).ackSent = true ∧ (t.stream q).ackSeen = ((s.stream q).ackSeen || ack) ∧
        t.get (R.LL_STAT_LANES (10 + q.val)) = min (s.get (R.LL_CFG_LANES (10 + q.val))) (c.getD 2 0) % 8 ∧ t.get (R.LL_STAT_PSTEP (10 + q.val)) = c.getD 1 0) ∧
    (16 < skew → ∃ t, exec (.llCapsRx q content ack skew) s = .next t ∧ ∀ i < 4, s.lnState (4 * (10 + q.val) + i) = lnCAPS → t.lnState (4 * (10 + q.val) + i) = lnFAIL)) ∧
  (∀ (s : State) (n : LaneId) (payload : List (BitVec 8)) (crc : BitVec 32), 40 ≤ n.val → s.get (R.ST_CFG_USE (n.val / 4)) = 2 → s.lnState n = lnACTIVE →
    ∃ t, exec (.llMarkerRx n payload crc) s = .next t ∧ (t.stream (n.val / 4 - 10)).discard = false ∧
      (crc32 (payload.map (fun x => x.toNat)) = crc.toNat → t.regs = s.regs) ∧
      (crc32 (payload.map (fun x => x.toNat)) ≠ crc.toNat → t.get (R.ST_CNT_CRC (n.val / 4)) = min (2 ^ 8 - 1) (s.get (R.ST_CNT_CRC (n.val / 4)) + 1))) ∧
  (∀ (s : State) (q : Fin 2), s.get (R.ST_CFG_USE (10 + q.val)) = 2 → s.get (R.LL_STAT_UP (10 + q.val)) ≠ 0 →
    ∃ t, exec (.llElasticOverflow q) s = .next t ∧ (t.stream q).discard = true ∧ t.get (R.ST_CNT_OVFL (10 + q.val)) = min (2 ^ 8 - 1) (s.get (R.ST_CNT_OVFL (10 + q.val)) + 1)) ∧
  (∀ (s : State) (src : SrcId) (q : Fin 2) (data : Word64),
    (s.srcOk src = true → s.jsLegal q data.toNat = true → ∃ t, exec (.jsCfgWrite src q data) s = .next t ∧ t.answer = ⟨0, 0⟩ ∧
      t.get (R.JS_CFG_EN (10 + q.val)) = bit data.toNat 0 ∧ t.get (R.JS_CFG_F (10 + q.val)) = bits data.toNat 5 8 ∧ t.get (R.JS_CFG_RBD (10 + q.val)) = bits data.toNat 19 13 ∧
      (s.get (R.JS_CFG_EN (10 + q.val)) = 0 → bit data.toNat 0 = 1 → (t.stream q).aligned = false)) ∧
    (s.srcOk src = true → s.jsLegal q data.toNat = false → exec (.jsCfgWrite src q data) s = .next { s.commit (R.JS_CFG_EN (10 + q.val)).addr with answer := ⟨0x0A30, 0⟩ }) ∧
    (s.srcOk src = false → exec (.jsCfgWrite src q data) s = .next { s.commit (R.JS_CFG_EN (10 + q.val)).addr with answer := ⟨0x0A01, 0⟩ })) ∧
  (∀ (s : State) (q : Fin 2) (g : Nat), s.jsGov q = some g →
    (∀ (onPhase : Bool) (chunk : BitVec 32) (octet : Fin 64) (time : BitVec 48), (∃ f, (s.stream q).sysrefDue.head? = some f ∧ f + 4 ≤ s.tp.tick) → (s.stream q).aligned = false →
      ∃ t, exec (.jesdSysref q onPhase chunk octet time) s = .next t ∧ (t.stream q).aligned = true ∧ (t.stream q).sysrefDue = (s.stream q).sysrefDue.tail ∧
        (s.get (R.JS_CFG_DIR g) = 0 → t.get (R.ST_MARK_POS_CHUNK (10 + q.val)) = chunk.toNat ∧ t.get (R.ST_MARK_TIME_TIME (10 + q.val)) = time.toNat ∧
          t.get (R.ST_MARK_FLAGS_VALID (10 + q.val)) = 1)) ∧
    ((s.stream q).aligned = false → (s.stream q).timeoutRaised = false → (s.stLanes q).any (fun n => decide (s.lnState n = lnCAPS)) = true →
      ∃ t, exec (.jesdSysrefTimeout q) s = .next t ∧ (t.stream q).timeoutRaised = true ∧ (t.stream q).aligned = false) ∧
    (∀ lanes f k : Nat, s.get (R.JS_CFG_VER g) = 0 → s.get (R.JS_CFG_DIR g) = 0 →
      (lanes = 2 ^ s.get (R.JS_CFG_LCODE g) ∧ f = s.get (R.JS_CFG_F g) ∧ k = s.get (R.JS_CFG_KE g) → exec (.jesdIlasRx q lanes f k) s = .next ((s.setStream q { s.stream q with ilas := true }).jsyncRelease q)) ∧
      (lanes ≠ 2 ^ s.get (R.JS_CFG_LCODE g) → exec (.jesdIlasRx q lanes f k) s = .next (s.capsFail q 0x0A31))) ∧
    (∀ errors : Nat, s.get (R.JS_CFG_VER g) = 0 → s.get (R.JS_CFG_DIR g) = 0 → 4 ≤ errors → ∃ t, exec (.jesdResync q errors) s = .next t ∧ (t.stream q).jsyncO = false ∧ (t.stream q).ilas = false ∧
      t.get (R.ST_CNT_CRC (10 + q.val)) = min (2 ^ 8 - 1) (s.get (R.ST_CNT_CRC (10 + q.val)) + 1)) ∧
    (s.get (R.JS_CFG_VER g) ≠ 0 → s.get (R.JS_CFG_DIR g) = 0 → ∃ t, exec (.jesdCrc12Fail q) s = .next t ∧
      t.get (R.ST_CNT_CRC (10 + q.val)) = min (2 ^ 8 - 1) (s.get (R.ST_CNT_CRC (10 + q.val)) + 1) ∧ OnlyRegs s t [R.ST_CNT_CRC (10 + q.val)])) ∧
  (∀ (s : State) (q : Fin 2) (level : Bool), exec (.jsyncIChange q level) s = .next (s.setStream q { s.stream q with jsyncI := level })) ∧
  (∀ (s : State) (q : Fin 2) (data : List (BitVec 32)) (up : Option NocUpset) (u : State), s.stReceives q = true → data.length = 16 →
    u = s.setStream q { s.stream q with rx := (s.stream q).rx ++ [data.map (fun d => d.toNat)] } →
    exec (.stRxChunk q (data, up)) s = .next (if (s.stream q).busy = true then u else (u.stNext q up).nocRun)) ∧
  (∀ (s : State) (q : Fin 2) (up : Option NocUpset) (r : NocRsp) (c : List Nat) (d : Nat), s.nocUp = true → d = (if q.val = 0 then 61 else 93) →
    s.noc.rsps.find? (fun r => decide (r.dest = d) && true) = some r →
    exec (.stRxChunkWritten (q, up)) s = .next ({ s with noc := { s.noc with rsps := s.noc.rsps.erase r } }.queuePkt ⟨.rsp r, 0, false, up⟩).nocRun ∧
    (s.nocQuiet → up = none → r.resp / 4 = d / 4 → r.flits ≤ 4 → s.nocEnt (d / 4) (s.get (R.NOC_STATUS_EPOCH (d / 4))) (d / 4) = 0 → s.noc.catching = [] →
      s.noc.outst.any (fun x => decide (x.id = r.id)) = true → (s.stream q).busy = true → (s.stream q).rx = [c] → r.status = 0 →
      ∃ t, exec (.stRxChunkWritten (q, up)) s = .next t ∧ (t.stream q).rx = [] ∧ (t.stream q).busy = false ∧
        t.get (R.ST_RX_WR_WR (10 + q.val)) = (s.get (R.ST_RX_WR_WR (10 + q.val)) + 1) % 2 ^ 32)) ∧
  (∀ (s : State) (src : SrcId) (q : Fin 2) (data : BitVec 32), s.srcOk src = true →
    ((s.get (R.ST_RX_WR_WR (10 + q.val)) + 2 ^ 32 - data.toNat) % 2 ^ 32 < 2 ^ 31 → ∃ t, exec (.stRxRdWrite src q data) s = .next t ∧ t.answer = ⟨0, 0⟩ ∧
      t.get (R.ST_RX_RD_RD (10 + q.val)) = data.toNat ∧ OnlyRegs s t [R.ST_RX_RD_RD (10 + q.val)]) ∧
    (2 ^ 31 ≤ (s.get (R.ST_RX_WR_WR (10 + q.val)) + 2 ^ 32 - data.toNat) % 2 ^ 32 → exec (.stRxRdWrite src q data) s = .next { s with answer := ⟨0x0A22, 0⟩ })) ∧
  (∀ (s : State) (q : Fin 2) (waddr : BitVec 12) (last : BitVec 6) (data : List (BitVec 32)) (n : Nat), n = last.toNat + 1 - waddr.toNat % 64 →
    (waddr.toNat % 16 = 0 → n % 16 = 0 → n ≠ 0 → data.length = n → (s.stream q).tx.length + 4 * n ≤ 16384 →
      ∃ t, exec (.stTxWrite q waddr last data) s = .next t ∧ t.answer = ⟨0, 0⟩ ∧ t.regs = s.regs ∧
        (t.stream q).tx = (s.stream q).tx ++ (data.map (fun x => x.toNat)).flatMap (toBytes 4)) ∧
    (waddr.toNat % 16 ≠ 0 → exec (.stTxWrite q waddr last data) s = .next { s with answer := ⟨0x0A21, 0⟩ })) ∧
  (∀ (s : State) (q : Fin 2), s.mode0 = 4 → s.get (R.ST_CFG_USE (10 + q.val)) = 2 → s.get (R.LL_STAT_UP (10 + q.val)) ≠ 0 →
    ∃ t, exec (.stTxSend q) s = .next t ∧ t.regs = s.regs ∧
      (64 ≤ (s.stream q).tx.length → (t.stream q).tx = (s.stream q).tx.drop 64 ∧ t.out.head? = some (.stream q.val ((s.stream q).tx.take 64))) ∧
      ((s.stream q).tx.length < 64 → (t.stream q).tx = (s.stream q).tx ∧ t.out.head? = some (.stream q.val []))) ∧
  (∀ (s : State) (q : Fin 2), ∃ t, exec (.stMarkPosRead q) s = .next t ∧ (t.stream q).markSnap = s.get (R.ST_MARK_TIME_TIME (10 + q.val)) ∧
    (t.stream q).markFlags = s.word [R.ST_MARK_FLAGS_VALID (10 + q.val), R.ST_MARK_FLAGS_STALE (10 + q.val)] ∧ t.regs = s.regs ∧
    t.answer.data = s.word [R.ST_MARK_POS_CHUNK (10 + q.val), R.ST_MARK_POS_OCTET (10 + q.val), R.ST_MARK_POS_SEQ (10 + q.val)])

/-- O35. Port and channel settings (R427, R433, R449, R451, R452, R455, R456): a write that passes its checks is taken; each refused write answers its code and
changes nothing else. The model's own readings and choices that it rests on: assumptions 91, 92, 93. Commands that this statement shows to complete
with their own effect: peCfgWrite, chCfgWrite, chQbvCtrlWrite, gateBankWrite, loftChWrite, peTodWrite. -/
def Obligations.PortSettings : Prop :=
  (∀ (s : State) (src : SrcId) (k : Fin 8) (data : Word64),
    (s.peRefusal src k data.toNat = none → ∃ t, exec (.peCfgWrite src k data) s = .next t ∧ t.answer = ⟨0, 0⟩ ∧ t.get (R.PE_CFG_CFG k) = bits data.toNat 0 3 ∧
      t.get (R.PE_CFG_REF k) = bit data.toNat 3 ∧ t.get (R.PE_CFG_RCV_DIV k) = bits data.toNat 8 10 ∧ t.get (R.PE_CFG_HAIRPIN k) = bits data.toNat 18 3 ∧
      t.get (R.PE_CFG_HP_EN k) = bit data.toNat 21) ∧
    (∀ code, s.peRefusal src k data.toNat = some code → exec (.peCfgWrite src k data) s = .next { s.commit (R.PE_CFG_CFG k).addr with answer := ⟨code, 0⟩ }) ∧
    (s.srcOk src = false → s.peRefusal src k data.toNat = some 0x0401) ∧
    (s.srcOk src = true → bits data.toNat 0 3 = 7 → s.peRefusal src k data.toNat = some 0x0402) ∧
    (∀ c : Fin 4, s.srcOk src = true → bits data.toNat 0 3 ≠ 7 → bits data.toNat 0 3 ≠ s.peCfg k → s.get (R.CH_CFG_EN (4 * k + c)) ≠ 0 →
      s.peRefusal src k data.toNat = some 0x0403)) ∧
  (∀ (s : State) (src : SrcId) (ch : Fin 32) (data : Word64), s.srcOk src = true → s.chExists ch = true → bits data.toNat 4 2 ≠ 3 →
    64 ≤ bits data.toNat 16 14 → bits data.toNat 16 14 ≤ 9600 → fecOk (s.peCfg (ch / 4)) (bits data.toNat 0 2) = true →
    (s.get (R.CH_CFG_EN ch) = 0 ∨ s.get (R.CH_CFG_FEC ch) = bits data.toNat 0 2 →
      ∃ t, exec (.chCfgWrite src ch data) s = .next t ∧ t.answer = ⟨0, 0⟩ ∧ t.get (R.CH_CFG_FEC ch) = bits data.toNat 0 2 ∧ t.get (R.CH_CFG_EN ch) = bit data.toNat 2 ∧
        t.get (R.CH_CFG_CORR_EN ch) = bit data.toNat 3 ∧ t.get (R.CH_CFG_END ch) = bits data.toNat 4 2 ∧ t.get (R.CH_CFG_MTU ch) = bits data.toNat 16 14 ∧
        OnlyRegs (s.commit (R.CH_CFG_EN ch).addr) t [R.CH_CFG_FEC ch, R.CH_CFG_EN ch, R.CH_CFG_CORR_EN ch, R.CH_CFG_END ch, R.CH_CFG_MTU ch]) ∧
    (s.get (R.CH_CFG_EN ch) ≠ 0 → s.get (R.CH_CFG_FEC ch) ≠ bits data.toNat 0 2 → exec (.chCfgWrite src ch data) s = .next { s.commit (R.CH_CFG_EN ch).addr with answer := ⟨0x0403, 0⟩ })) ∧
  (∀ (s : State) (src : SrcId) (ch : Fin 32) (data : Word64),
    (s.srcOk src = false → exec (.chCfgWrite src ch data) s = .next { s.commit (R.CH_CFG_EN ch).addr with answer := ⟨0x0401, 0⟩ }) ∧
    (s.srcOk src = true → (s.chExists ch = false ∨ bits data.toNat 0 2 = 3 ∨ bits data.toNat 4 2 = 3 ∨ bits data.toNat 16 14 < 64 ∨ 9600 < bits data.toNat 16 14) →
      exec (.chCfgWrite src ch data) s = .next { s.commit (R.CH_CFG_EN ch).addr with answer := ⟨0x0404, 0⟩ })) ∧
  (∀ (s : State) (src : SrcId) (ch : Fin 32) (data : Word64), s.srcOk src = true →
    ((bits data.toNat 32 18 < bits data.toNat 0 18 ∨ 131072 < bits data.toNat 32 18 ∨ bits data.toNat 32 18 = 0) →
      exec (.loftChWrite src ch data) s = .next { s.commit (R.LOFT_CH_MIN ch).addr with answer := ⟨0x040A, 0⟩ }) ∧
    (bits data.toNat 0 18 ≤ bits data.toNat 32 18 → 0 < bits data.toNat 32 18 → bits data.toNat 32 18 ≤ 131072 →
      (List.range 32).foldl (fun a c => a + (if c = ch.val then bits data.toNat 0 18 else s.get (R.LOFT_CH_MIN c))) 0 ≤ 131072 →
      ∃ t, exec (.loftChWrite src ch data) s = .next t ∧ t.answer = ⟨0, 0⟩ ∧ t.get (R.LOFT_CH_MIN ch) = bits data.toNat 0 18 ∧ t.get (R.LOFT_CH_CAP ch) = bits data.toNat 32 18 ∧
        OnlyRegs (s.commit (R.LOFT_CH_MIN ch).addr) t [R.LOFT_CH_MIN ch, R.LOFT_CH_CAP ch])) ∧
  (∀ (s : State) (src : SrcId) (data : Word64), s.srcOk src = true →
    (exec (.peTodWrite src true data) s = .next { s.commit (R.PE_TOD_W0.addr + 8) with answer := ⟨0, 0⟩, todS := some data.toNat }) ∧
    (999999999 < bits data.toNat 0 30 → exec (.peTodWrite src false data) s = .next { s.commit R.PE_TOD_W0.addr with answer := ⟨0x040F, 0⟩ }) ∧
    (bits data.toNat 0 30 ≤ 999999999 → ∃ t, exec (.peTodWrite src false data) s = .next t ∧ t.answer = ⟨0, 0⟩ ∧ t.get R.PE_TOD_BASE_NS = bits data.toNat 0 30 ∧
      t.get R.PE_TOD_W0 = bits data.toNat 32 16 ∧ t.todS = none ∧ t.todPrev = some (s.nowWide, s.tod) ∧
      t.get R.PE_TOD_S_BASE_S = (match s.todS with | some secs => secs % 2 ^ 48 | none => s.get R.PE_TOD_S_BASE_S % 2 ^ 48) ∧
      RegsKept s t [R.PE_TOD_BASE_NS, R.PE_TOD_W0, R.PE_TOD_S_BASE_S])) ∧
  (∀ (s : State) (src : SrcId) (ch : Fin 32) (data : BitVec 32), s.srcOk src = true → s.chExists ch = true →
    ((256 < bits data.toNat 8 9 ∨ 256 < bits data.toNat 17 9) → exec (.chQbvCtrlWrite src ch data) s = .next { s with answer := ⟨0x040C, 0⟩ }) ∧
    (bits data.toNat 8 9 ≤ 256 → bits data.toNat 17 9 ≤ 256 → (s.chan ch).gate = none →
      ∃ t, exec (.chQbvCtrlWrite src ch data) s = .next t ∧ t.answer = ⟨0, 0⟩ ∧ t.get (R.CH_QBV_CTRL_EN ch) = bit data.toNat 0 ∧ t.get (R.CH_QBV_CTRL_NEXT ch) = bit data.toNat 1 ∧
        t.get (R.CH_QBV_CTRL_LEN_0 ch) = bits data.toNat 8 9 ∧ t.get (R.CH_QBV_CTRL_LEN_1 ch) = bits data.toNat 17 9 ∧ (t.chan ch).gate = none) ∧
    (∀ g, bits data.toNat 8 9 = s.get (R.CH_QBV_CTRL_LEN_0 ch) → bits data.toNat 17 9 = s.get (R.CH_QBV_CTRL_LEN_1 ch) → bits data.toNat 8 9 ≤ 256 → bits data.toNat 17 9 ≤ 256 →
      (s.chan ch).gate = some g → bit data.toNat 0 = 0 →
      ∃ t, exec (.chQbvCtrlWrite src ch data) s = .next t ∧ (t.chan ch).gate = none ∧ t.get (R.CH_QBV_CTRL_RUNNING ch) = 0)) ∧
  (∀ (s : State) (src : SrcId) (ch : Fin 32) (bank : Fin 2) (e : Fin 256) (data : Word64), s.srcOk src = true → s.chExists ch = true →
    (∀ g, (s.chan ch).gate = some g → g.bank = bank.val → exec (.gateBankWrite src ch bank (some e) data) s = .next { s with answer := ⟨0x040B, 0⟩ }) ∧
    ((s.chan ch).gate = none → bits data.toNat 8 24 ≠ 0 → ∃ t, exec (.gateBankWrite src ch bank (some e) data) s = .next t ∧ t.answer = ⟨0, 0⟩ ∧
      t.get (R.CH_GCL_GATES ch bank e) = bits data.toNat 0 8 ∧ t.get (R.CH_GCL_INTERVAL ch bank e) = bits data.toNat 8 24 ∧
      OnlyRegs s t [R.CH_GCL_GATES ch bank e, R.CH_GCL_INTERVAL ch bank e]) ∧
    ((s.chan ch).gate = none → bits data.toNat 8 24 = 0 → exec (.gateBankWrite src ch bank (some e) data) s = .next { s with answer := ⟨0x040C, 0⟩ }) ∧
    ((s.chan ch).gate = none → 100 * 2 ^ 32 ≤ data.toNat → data.toNat < 2 ^ 63 → ∃ t, exec (.gateBankWrite src ch bank none data) s = .next t ∧ t.answer = ⟨0, 0⟩ ∧
      t.get (R.CH_QBV_CYCLE_CYCLE ch bank) = data.toNat ∧ OnlyRegs (s.commit (R.CH_QBV_CYCLE_CYCLE ch bank).addr) t [R.CH_QBV_CYCLE_CYCLE ch bank]))

/-- O36. The loft's commands and its window of handles (R432, R433, R438, R439, R441, R446, R458): each command posts its result under its OP; an allocation
takes cells, a release and a flush return them, an enqueue moves a held frame to a transmit queue, a pop moves a received frame to HELD and answers
its descriptor. The model's own readings and choices that it rests on: assumptions 88, 91. Commands that this statement shows to complete with their
own effect: chRxqPop, loftAlloc, loftRelease, loftFlush, chTxqEnq, chTxtsPop, loftFreeRead. -/
def Obligations.LoftAndQueues : Prop :=
  (∀ (s w : State) (src : SrcId) (ch : Fin 32) (len : BitVec 14), w = s.commit R.LOFT_CMD_OP.addr →
    (s.mode0 = 4 → s.chExists ch = true → 14 ≤ len.toNat → len.toNat ≤ 9596 →
      (∀ c cs u, w.takeCells ch ((len.toNat + 255) / 256) = (some (c :: cs), u) → c < 2 ^ 17 →
        ∃ t, exec (.loftAlloc src ch len) s = .next t ∧ t.loftFrame c = ⟨c :: cs, false, ch, 0, 0⟩ ∧ t.get (R.LOFT_RESULT_STATUS src) = 0 ∧ t.get (R.LOFT_RESULT_HANDLE src) = c ∧
          t.get (R.LOFT_RESULT_OP src) = 1 ∧ t.get (R.LOFT_RESULT_VALID src) = 1 ∧ t.answer = ⟨0, 0⟩) ∧
      (∀ u, w.takeCells ch ((len.toNat + 255) / 256) = (none, u) → exec (.loftAlloc src ch len) s = .next (w.loftPost src 1 0 0x0406))) ∧
    (∀ code, (s.mode0 ≠ 4 ∧ code = 0x0409 ∨ s.mode0 = 4 ∧ s.chExists ch = false ∧ code = 0x0404 ∨
        s.mode0 = 4 ∧ s.chExists ch = true ∧ (len.toNat < 14 ∨ 9596 < len.toNat) ∧ code = 0x0405) →
      ∃ t, exec (.loftAlloc src ch len) s = .next t ∧ t.get (R.LOFT_RESULT_STATUS src) = code ∧ t.get (R.LOFT_RESULT_OP src) = 1 ∧ t.loft = s.loft)) ∧
  (∀ (s : State) (src : SrcId) (handle : BitVec 17),
    (s.heldHead handle.toNat = true → ∃ t, exec (.loftRelease src handle) s = .next t ∧ t.loftFrame handle.toNat = Frame.none ∧ t.get (R.LOFT_RESULT_STATUS src) = 0 ∧
      t.get (R.LOFT_RESULT_OP src) = 2 ∧ t.get (R.LOFT_RESULT_HANDLE src) = handle.toNat) ∧
    (s.heldHead handle.toNat = false → ∃ t, exec (.loftRelease src handle) s = .next t ∧ t.get (R.LOFT_RESULT_STATUS src) = 0x0407 ∧ t.get (R.LOFT_RESULT_OP src) = 2 ∧
      t.loft = s.loft ∧ t.chans = s.chans)) ∧
  (∀ (s : State) (src : SrcId) (ch : Fin 32),
    (s.chExists ch = true → ∃ t, exec (.loftFlush src ch) s = .next t ∧ (t.chan ch).tx = [] ∧ (∀ e ∈ (s.chan ch).tx, t.loftFrame e.handle = Frame.none) ∧
      t.get (R.LOFT_RESULT_STATUS src) = 0 ∧ t.get (R.LOFT_RESULT_OP src) = 3) ∧
    (s.chExists ch = false → ∃ t, exec (.loftFlush src ch) s = .next t ∧ t.get (R.LOFT_RESULT_STATUS src) = 0x0404 ∧ t.loft = s.loft ∧ t.chans = s.chans)) ∧
  (∀ (s : State) (src : SrcId) (ch : Fin 32) (data : Word64), s.chExists ch = true →
    (s.heldHead (bits data.toNat 0 17) = true → bits data.toNat 17 14 ≤ 256 * (s.loftFrame (bits data.toNat 0 17)).cells.length → 14 ≤ bits data.toNat 17 14 →
      bits data.toNat 17 14 ≤ 9596 → bits data.toNat 34 3 < 4 → s.get (R.CH_CFG_EN ch) ≠ 0 → s.mode0 = 4 →
      ∃ t, exec (.chTxqEnq src ch data) s = .next t ∧ (t.loftFrame (bits data.toNat 0 17)).queued = true ∧ t.get (R.LOFT_RESULT_STATUS src) = 0 ∧ t.get (R.LOFT_RESULT_OP src) = 4 ∧
        (t.chan ch).tx = (s.chan ch).tx ++ [⟨bits data.toNat 0 17, bits data.toNat 17 14, bits data.toNat 31 3, bits data.toNat 34 3, decide (bit data.toNat 37 = 1), bits data.toNat 48 16⟩]) ∧
    (s.heldHead (bits data.toNat 0 17) = false → s.mode0 = 4 → exec (.chTxqEnq src ch data) s = .next ((s.commit (R.CH_TXQ_ENQ_LEN ch).addr).loftPost src 4 (bits data.toNat 0 17) 0x0407)) ∧
    (s.mode0 ≠ 4 → exec (.chTxqEnq src ch data) s = .next ((s.commit (R.CH_TXQ_ENQ_LEN ch).addr).loftPost src 4 (bits data.toNat 0 17) 0x0409))) ∧
  (∀ (s : State) (ch : Fin 32) (q : Fin 8),
    ((s.chan ch).rx.find? (fun e => decide (e.1 = q.val)) = none →
      exec (.chRxqPop ch q) s = .next { s with answer := ⟨0, 0⟩, half := SMap.set s.half none (R.CH_RXQ_POP_HANDLE ch q).addr (some 0) }) ∧
    (∀ e, (s.chan ch).rx.find? (fun e => decide (e.1 = q.val)) = some e →
      ∃ t, exec (.chRxqPop ch q) s = .next t ∧ t.answer = ⟨0, (s.loftFrame e.2).desc⟩ ∧ e ∉ (t.chan ch).rx ∧
        t.loftFrame e.2 = { s.loftFrame e.2 with queued := false } ∧ t.get (R.CH_RXQ_TS_TIME ch q) = bits (s.loftFrame e.2).ts 0 48)) ∧
  (∀ (s : State) (ch : Fin 32), (s.queue (R.CH_TXTS_POP_ID ch).addr = [] →
      exec (.chTxtsPop ch) s = .next { s with answer := ⟨0, 0⟩, half := SMap.set s.half none (R.CH_TXTS_POP_ID ch).addr (some 0) }) ∧
    (∀ w l, s.queue (R.CH_TXTS_POP_ID ch).addr = w :: l → ∃ t, exec (.chTxtsPop ch) s = .next t ∧ t.answer = ⟨0, bits w 0 64⟩ ∧ t.queue (R.CH_TXTS_POP_ID ch).addr = l ∧
      t.get (R.CH_TXTS_FRAC_FRAC ch) = bits w 64 16 ∧ (l.length < 64 → t.get (R.CH_STAT_TXTS_Q ch) = l.length))) ∧
  (∀ s : State, exec .loftFreeRead s = .next ((s.sets [(R.LOFT_BOOK_HELD, s.loftTaken (fun f => !f.queued)), (R.LOFT_BOOK_QUEUED, s.loftTaken (fun f => f.queued))]).reply 0 s.loftFree))

/-- O37. Frames (R428, R429, R431, R435, R442, R443, R446, R451, R453, R454): a link comes up and goes down with its lanes; a frame that a running channel
accepts enters the loft and its receive queue with its stamp, and one that it refuses is counted; a transmission takes the head frame of the highest
queue whose gate admits it, and its end frees the frame. The model's own readings and choices that it rests on: assumptions 88, 89, 90, 92. Commands
that this statement shows to complete with their own effect: channelLinkUp, channelLinkDown, rxFrame, txFrameStart, txFrameEnd, gateChange,
gateDiscard. -/
def Obligations.FramesAndGates : Prop :=
  (∀ (s : State) (ch : Fin 32), (s.mode0 = 4 → s.devClk 14 = true → s.chExists ch = true →
      ((s.chLanes ch).all (fun n => decide (s.lnState n = lnACTIVE)) = true ∨ s.hpActive (ch.val / 4) = true) →
      ∃ t, exec (.channelLinkUp ch) s = .next t ∧ t.get (R.CH_STAT_LINK ch) = 1) ∧
    (s.hpActive (ch / 4) = false → (s.chExists ch = false ∨ (s.chLanes ch).all (fun n => decide (s.lnState n = lnACTIVE)) = false) →
      ∃ t, exec (.channelLinkDown ch) s = .next t ∧ t.get (R.CH_STAT_LINK ch) = 0 ∧ OnlyRegs s t [R.CH_STAT_LINK ch, R.PE_STATUS_LINK (ch / 4)])) ∧
  (∀ (s u : State) (ch : Fin 32) (bytes : List (BitVec 8)) (time : BitVec 48) (ofs : Fin 1088) (corr unc : Nat),
    u = (s.bump (R.CH_CNT_FEC_CORR ch) corr).bump (R.CH_CNT_FEC_UNC ch) unc → s.mode0 = 4 → s.devClk 14 = true → s.chExists ch = true → s.get (R.CH_CFG_EN ch) ≠ 0 → s.get (R.CH_STAT_LINK ch) ≠ 0 →
    (∀ v, u.takeCells ch ((bytes.length - 4 + 255) / 256) = (none, v) → exec (.rxFrame ch bytes time ofs corr unc) s = .next (u.rxDropLoft ch)) ∧
    (∀ cells v body, u.takeCells ch ((bytes.length - 4 + 255) / 256) = (some cells, v) →
      body = (bytes.map (fun x => x.toNat)).take (bytes.length - 4) →
      (crc32 body ≠ ofBytes ((bytes.map (fun x => x.toNat)).drop (bytes.length - 4)) ∨ unc ≠ 0 →
        exec (.rxFrame ch bytes time ofs corr unc) s = .next (u.bump (R.CH_CNT_RX_DROP_FCS ch) 1)) ∧
      (crc32 body = ofBytes ((bytes.map (fun x => x.toNat)).drop (bytes.length - 4)) → unc = 0 → (bytes.length < 64 ∨ s.get (R.CH_CFG_MTU ch) < bytes.length) →
        exec (.rxFrame ch bytes time ofs corr unc) s = .next (u.bump (R.CH_CNT_RX_DROP_LEN ch) 1)) ∧
      (crc32 body = ofBytes ((bytes.map (fun x => x.toNat)).drop (bytes.length - 4)) → unc = 0 → 64 ≤ bytes.length → bytes.length ≤ s.get (R.CH_CFG_MTU ch) →
        isEcpri body = false →
        ∃ t, exec (.rxFrame ch bytes time ofs corr unc) s = .next t ∧ (t.chan ch).rx = (s.chan ch).rx ++ [(s.rxQueue ch body, cells.headD 0)] ∧
          t.get (R.CH_CNT_RX_FRAMES ch) = min (2 ^ 32 - 1) (s.get (R.CH_CNT_RX_FRAMES ch) + 1) ∧ (t.loftFrame (cells.headD 0)).cells = cells ∧
          (t.loftFrame (cells.headD 0)).queued = true ∧ (t.loftFrame (cells.headD 0)).ch = ch.val ∧
          t.loft.mem = (v.writeFrame ⟨cells, true, ch, 0, 0⟩ 0 body).loft.mem))) ∧
  (∀ (s : State) (ch : Fin 32) (bytes : List (BitVec 8)) (time : BitVec 48) (ofs : Fin 1088) (corr unc : Nat),
    (s.mode0 ≠ 4 ∨ s.devClk 14 = false ∨ s.chExists ch = false ∨ s.get (R.CH_CFG_EN ch) = 0 ∨ s.get (R.CH_STAT_LINK ch) = 0) → exec (.rxFrame ch bytes time ofs corr unc) s = .next s) ∧
  (∀ (s : State) (ch : Fin 32) (time : BitVec 48) (e : TxEnt), s.mode0 = 4 → s.devClk 14 = true → s.chExists ch = true → s.get (R.CH_CFG_EN ch) ≠ 0 → s.get (R.CH_STAT_LINK ch) ≠ 0 → (s.chan ch).send = none →
    (s.chan ch).tx.find? (fun y => decide (y.queue = 7)) = some e → s.gateAdmits ch 7 e.len (s.widen time.toNat) = true → e.tsMode < 2 → e.gen = false → 60 ≤ e.len →
    ∃ t d, exec (.txFrameStart ch time 0 0) s = .next t ∧ (t.chan ch).send = some d ∧ d.ent = e ∧ d.stamp = s.txStamp ch (s.widen time.toNat) ∧
      d.bytes = s.frameBytes e.handle e.len ++ toBytes 4 (crc32 (s.frameBytes e.handle e.len)) ∧ t.out = [.frame ch d.bytes] ∧
      (t.chan ch).tx = (s.chan ch).tx.filter (fun y => decide (y.handle ≠ e.handle)) ∧ t.loft = s.loft) ∧
  (∀ (s : State) (ch : Fin 32), ((s.chan ch).send = none → exec (.txFrameEnd ch) s = .next s) ∧
    (∀ d, (s.chan ch).send = some d → s.hpActive (ch / 4) = false →
      ∃ t, exec (.txFrameEnd ch) s = .next t ∧ (t.chan ch).send = none ∧ t.loftFrame d.ent.handle = Frame.none ∧
        t.get (R.CH_CNT_TX_FRAMES ch) = min (2 ^ 32 - 1) (s.get (R.CH_CNT_TX_FRAMES ch) + 1) ∧
        (d.ent.tsMode = 1 → (s.queue (R.CH_TXTS_POP_ID ch).addr).length < 32 → (t.queue (R.CH_TXTS_POP_ID ch).addr).length = (s.queue (R.CH_TXTS_POP_ID ch).addr).length + 1))) ∧
  (∀ (s : State) (ch : Fin 32), ((s.chan ch).gate = none → exec (.gateChange ch) s = .next s) ∧
    (∀ g, (s.chan ch).gate = some g → ∃ t g', exec (.gateChange ch) s = .next t ∧ (t.chan ch).gate = some g' ∧ g'.bank = g.bank ∧ g'.start = g.start ∧
      g'.cycle = (s.gatePos ch g (s.timeWide (64 + ch.val / 4))).cycle ∧ g'.entry = (s.gatePos ch g (s.timeWide (64 + ch.val / 4))).entry ∧ t.regs = s.regs ∧ t.loft = s.loft)) ∧
  (∀ (s : State) (ch : Fin 32) (q : Fin 8) (g : GateRun) (h : Nat × Nat), (s.chan ch).gate = some g → (s.chan ch).heads.find? (fun h => decide (h.1 = q.val)) = some h →
    (g.due.contains h = false → exec (.gateDiscard ch q) s = .next s) ∧
    (g.due.contains h = true → ∃ t, exec (.gateDiscard ch q) s = .next t ∧ t.loftFrame h.2 = Frame.none ∧ (∀ e ∈ (t.chan ch).tx, e.handle ≠ h.2) ∧
      t.get (R.CH_CNT_TX_GATE_DISCARD ch) = min (2 ^ 8 - 1) (s.get (R.CH_CNT_TX_GATE_DISCARD ch) + 1)))

/-- O38. Event rings and MSI-X (R473 to R479, R485): a record waits in its FIFO until it is written at TAIL with its phase; EV_HEAD moves only toward TAIL; a
ring's message waits for its count or its age, a masked vector pends, and unmasking sends the pending message; enabling a ring starts its indices at
0. The model's own readings and choices that it rests on: assumptions 94, 98, 100. Commands that this statement shows to complete with their own
effect: eventRecordWrite, evHeadWrite, evRingEnable, msixSend, msixUnmask, hlMsixSend. -/
def Obligations.EventRingsAndMessages : Prop :=
  (∀ (s : State) (n : Fin 4) (r : EvRec) (l : List EvRec), (s.ring n).fifo = r :: l →
    (s.hlMaster = true → s.get (R.EV_CFG_EN n) ≠ 0 → s.ringHost n < 2 ^ s.get (R.EV_CFG_LOG2 n) →
      ∃ t, exec (.eventRecordWrite n) s = .next t ∧ (t.ring n).fifo = l ∧ (t.ring n).unsignalled = (s.ring n).unsignalled + 1 ∧
        t.get (R.EV_TAIL_TAIL n) = (s.get (R.EV_TAIL_TAIL n) + 1) % 2 ^ 32 ∧
        t.out = [.tlp (.write (s.get (R.EV_BASE_BASE n) + 64 * (s.get (R.EV_TAIL_TAIL n) % 2 ^ s.get (R.EV_CFG_LOG2 n)))
          (recBytes r (s.get (R.EV_TAIL_TAIL n)) (1 - s.get (R.EV_TAIL_TAIL n) / 2 ^ s.get (R.EV_CFG_LOG2 n) % 2)))]) ∧
    ((s.hlMaster = false ∨ s.get (R.EV_CFG_EN n) = 0 ∨ 2 ^ s.get (R.EV_CFG_LOG2 n) ≤ s.ringHost n) → exec (.eventRecordWrite n) s = .next s)) ∧
  (∀ (s : State) (src : SrcId) (n : Fin 4) (data : BitVec 32),
    (s.srcOk src = false → exec (.evHeadWrite src n data) s = .next { s with answer := ⟨0x0B01, 0⟩ }) ∧
    (s.srcOk src = true → (s.get (R.EV_TAIL_TAIL n) + 2 ^ 32 - data.toNat) % 2 ^ 32 ≤ s.ringHost n →
      ∃ t, exec (.evHeadWrite src n data) s = .next t ∧ t.get (R.EV_HEAD_HEAD n) = data.toNat ∧ t.answer = ⟨0, 0⟩ ∧
        OnlyRegs s t [R.EV_HEAD_HEAD n, R.EV_STAT_FULL n, R.EV_STAT_FIFO n]) ∧
    (s.srcOk src = true → s.ringHost n < (s.get (R.EV_TAIL_TAIL n) + 2 ^ 32 - data.toNat) % 2 ^ 32 →
      ∃ t, exec (.evHeadWrite src n data) s = .next t ∧ t.answer = ⟨0x0B06, 0⟩ ∧ t.get (R.EV_HEAD_HEAD n) = s.get (R.EV_HEAD_HEAD n) ∧
        t.get (R.EV_STAT_BADHEAD n) = min (2 ^ 16 - 1) (s.get (R.EV_STAT_BADHEAD n) + 1))) ∧
  (∀ (s : State) (n : Fin 4), s.hlMaster = true → s.ringDue n = true →
    (s.msixMasked (s.get (R.EV_CFG_VEC n)) = false → ∃ t, exec (.msixSend n) s = .next t ∧ (t.ring n).unsignalled = 0 ∧ t.out = [.tlp (.msix (s.get (R.EV_CFG_VEC n)))] ∧ t.regs = s.regs) ∧
    (s.msixMasked (s.get (R.EV_CFG_VEC n)) = true → bit s.hl.msixPend (s.get (R.EV_CFG_VEC n)) = 0 →
      ∃ t, exec (.msixSend n) s = .next t ∧ (t.ring n).unsignalled = 0 ∧ t.out = [] ∧ t.hl.msixPend = s.hl.msixPend + 2 ^ s.get (R.EV_CFG_VEC n) ∧ t.regs = s.regs)) ∧
  (∀ (s : State) (vec : Fin 64), ∃ t, exec (.msixUnmask vec) s = .next t ∧ t.msixMasked vec = false ∧ t.regs = s.regs ∧
    (s.hlMaster = true → bit s.hl.msixPend vec = 1 → t.out = [.tlp (.msix vec)] ∧ t.hl.msixPend + 2 ^ vec.val = s.hl.msixPend) ∧
    (bit s.hl.msixPend vec = 0 → t.hl.msixPend = s.hl.msixPend ∧ t.out = s.out)) ∧
  (∀ (s : State) (src : SrcId) (vec : Fin 64),
    (src.val ≠ 97 → exec (.hlMsixSend src vec) s = .next { s with answer := ⟨0x0B01, 0⟩ }) ∧
    (src.val = 97 → s.hlMaster = true → s.msixMasked vec = false → exec (.hlMsixSend src vec) s = .next { s with out := [.tlp (.msix vec)], answer := ⟨0, 0⟩ }) ∧
    (src.val = 97 → s.hlMaster = false → s.msixMasked vec = false → exec (.hlMsixSend src vec) s = .next { s with answer := ⟨0, 0⟩ }) ∧
    (src.val = 97 → s.msixMasked vec = true → ∃ t, exec (.hlMsixSend src vec) s = .next t ∧ t.answer = ⟨0, 0⟩ ∧ t.regs = s.regs ∧
      t.hl.msixPend = (if bit s.hl.msixPend vec = 1 then s.hl.msixPend else s.hl.msixPend + 2 ^ vec.val))) ∧
  (∀ (s : State) (src : SrcId) (n : Fin 4) (w : Nat),
    w = s.word [R.EV_CFG_LOG2 n, R.EV_CFG_VEC n, R.EV_CFG_IM_CNT n, R.EV_CFG_IM_US n, R.EV_CFG_TYPEMASK n, R.EV_CFG_BLOCKS n] →
    (s.srcOk src = true → s.get (R.EV_CFG_EN n) = 0 → 4 ≤ bits (w + 1) 1 5 → bits (w + 1) 1 5 ≤ 16 → bits (w + 1) 12 8 ≠ 0 →
      ∃ t, exec (.evRingEnable src n) s = .next t ∧ t.get (R.EV_CFG_EN n) = 1 ∧ t.get (R.EV_HEAD_HEAD n) = 0 ∧ t.get (R.EV_TAIL_TAIL n) = 0 ∧ (t.ring n).unsignalled = 0 ∧
        t.get R.HL_CFG_RESULT_OFFSET = 0x108 + 0x40 * n.val ∧ t.answer = ⟨0, 0⟩ ∧ t.get R.HL_CFG_RESULT_STATUS = 0) ∧
    (s.srcOk src = false → ∃ t, exec (.evRingEnable src n) s = .next t ∧ Posted s t R.HL_CFG_RESULT_STATUS 0x0B01 ∧
      OnlyRegs (s.commit (R.EV_CFG_EN n).addr) t (R.HL_CFG_RESULT_OFFSET :: resFlds R.HL_CFG_RESULT_STATUS)))

/-- O39. DMA engines and the registers that post in HL_CFG_RESULT (R466 to R469, R485): an engine that is enabled starts at indices 0 and IDLE; it fetches the
descriptor at CI while one waits, and ends it with its status, CI one on and DONE one on; a fault halts the engine with its code. The model's own
readings and choices that it rests on: assumptions 96, 97. Commands that this statement shows to complete with their own effect: dmaPiWrite,
dmaEnable, dmaDisable, dmaDescriptorStart, dmaDescriptorComplete, dmaDescriptorFail, hlCfgWrite. -/
def Obligations.DmaEngines : Prop :=
  (∀ (s : State) (src : SrcId) (e : Fin 4) (w : Nat), w = s.word [R.DMA_CFG_LOG2 e, R.DMA_CFG_RING e] → s.srcOk src = true →
    (4 ≤ bits w 1 4 → bits w 1 4 ≤ 12 → s.get (R.DMA_CFG_EN e) = 0 → ∃ t, exec (.dmaEnable src e) s = .next t ∧ t.get (R.DMA_CFG_EN e) = 1 ∧ t.get (R.DMA_PI_PI e) = 0 ∧
      t.get (R.DMA_CI_CI e) = 0 ∧ t.get (R.DMA_STAT_STATE e) = dmaIDLE ∧ t.get R.HL_CFG_RESULT_STATUS = 0 ∧ t.get R.HL_CFG_RESULT_VALID = 1) ∧
    (4 ≤ bits w 1 4 → bits w 1 4 ≤ 12 → bits w 1 4 = s.get (R.DMA_CFG_LOG2 e) → s.dmaJob e = none → ∃ t, exec (.dmaDisable src e) s = .next t ∧ t.get (R.DMA_CFG_EN e) = 0 ∧
      t.get (R.DMA_STAT_STATE e) = dmaOFF ∧ t.get R.HL_CFG_RESULT_STATUS = 0)) ∧
  (∀ (s : State) (src : SrcId) (e : Fin 4) (data : BitVec 32),
    (s.srcOk src = true → (data.toNat + 2 ^ 32 - s.get (R.DMA_CI_CI e)) % 2 ^ 32 ≤ 2 ^ s.get (R.DMA_CFG_LOG2 e) →
      ∃ t, exec (.dmaPiWrite src e data) s = .next t ∧ t.get (R.DMA_PI_PI e) = data.toNat ∧ t.answer = ⟨0, 0⟩ ∧ OnlyRegs s t [R.DMA_PI_PI e]) ∧
    (s.srcOk src = true → 2 ^ s.get (R.DMA_CFG_LOG2 e) < (data.toNat + 2 ^ 32 - s.get (R.DMA_CI_CI e)) % 2 ^ 32 →
      exec (.dmaPiWrite src e data) s = .next { s with answer := ⟨0x0B07, 0⟩ }) ∧
    (s.srcOk src = false → exec (.dmaPiWrite src e data) s = .next { s with answer := ⟨0x0B01, 0⟩ })) ∧
  (∀ (s : State) (e : Fin 4) (desc : BitVec 256),
    (s.hlMaster = true → s.get (R.DMA_CFG_EN e) ≠ 0 → s.dmaJob e = none → (s.get (R.DMA_STAT_STATE e) = dmaIDLE ∨ s.get (R.DMA_STAT_STATE e) = dmaRUN) →
      s.dmaWaiting e (s.get (R.DMA_PI_PI e)) ≠ 0 →
      ∃ t, exec (.dmaDescriptorStart e desc) s = .next t ∧ t.get (R.DMA_STAT_STATE e) = dmaRUN ∧
        t.dmaJob e = some ⟨bits desc.toNat 0 64, bits desc.toNat 64 64, bits desc.toNat 128 32, bits desc.toNat 160 32, bits desc.toNat 192 64, s.get (R.DMA_CI_CI e)⟩ ∧
        t.out = [.tlp (.read (s.get (R.DMA_BASE_BASE e) + 32 * (s.get (R.DMA_CI_CI e) % 2 ^ s.get (R.DMA_CFG_LOG2 e))) 32)]) ∧
    ((s.hlMaster = false ∨ s.get (R.DMA_CFG_EN e) = 0 ∨ s.dmaJob e ≠ none ∨ s.dmaWaiting e (s.get (R.DMA_PI_PI e)) = 0) → exec (.dmaDescriptorStart e desc) s = .next s)) ∧
  (∀ (s : State) (e : Fin 4) (data : List (BitVec 32)) (up : Option NocUpset) (j : DmaJob), s.dmaJob e = some j → s.hlMaster = true → s.nocUp = true →
    (j.fault = none → (s.dmaRun j (data.map (fun (d : BitVec 32) => d.toNat)) (j.len / 4) false up).2.1 = 0 → s.get (R.DMA_CFG_EN e) ≠ 0 →
      ∃ t, exec (.dmaDescriptorComplete e (data, up)) s = .next t ∧ t = (s.dmaRun j (data.map (fun (d : BitVec 32) => d.toNat)) (j.len / 4) false up).1.dmaEnd e j 0 j.len ∧ t.dmaJob e = none) ∧
    (∀ (c : Nat) (hostFailed : Bool), j.fault = some c →
      ∃ t, exec (.dmaDescriptorFail e (data, up) hostFailed) s = .next t ∧ t.dmaJob e = none ∧ t.get (R.DMA_CI_CI e) = (j.index + 1) % 2 ^ 32 ∧
        t.get (R.DMA_STAT_DONE e) = min (2 ^ 32 - 1) (s.get (R.DMA_STAT_DONE e) + 1) ∧ t.get (R.DMA_STAT_HALT_CODE e) = c ∧
        t.get (R.DMA_STAT_STATE e) = (if s.get (R.DMA_CFG_EN e) ≠ 0 then dmaHALTED else dmaOFF)) ∧
    (∀ hostFailed : Bool, j.host % 4 ≠ 0 → exec (.dmaDescriptorFail e (data, up) hostFailed) s = .next (s.dmaEnd e j 0x0B10 0))) ∧
  (∀ (s : State) (src : SrcId) (off : BitVec 12) (data : Word64),
    (s.srcOk src = false → ∃ t, exec (.hlCfgWrite src off data) s = .next t ∧ Posted s t R.HL_CFG_RESULT_STATUS 0x0B01 ∧ t.get R.HL_CFG_RESULT_OFFSET = off.toNat ∧ t.answer = ⟨0, 0⟩ ∧
      OnlyRegs (s.commit (0x21000000000 + off.toNat)) t (R.HL_CFG_RESULT_OFFSET :: resFlds R.HL_CFG_RESULT_STATUS)) ∧
    (∀ a : Fin 16, s.srcOk src = true → off.toNat = 0x40 + 8 * a.val → ∃ t, exec (.hlCfgWrite src off data) s = .next t ∧ Posted s t R.HL_CFG_RESULT_STATUS 0 ∧
      t.get (R.HL_APT_BASE a) = bits data.toNat 0 20 ∧ OnlyRegs (s.commit (0x21000000000 + off.toNat)) t (R.HL_APT_BASE a :: R.HL_CFG_RESULT_OFFSET :: resFlds R.HL_CFG_RESULT_STATUS)) ∧
    (∀ n : Fin 4, s.srcOk src = true → off.toNat = 0x100 + 0x40 * n.val →
      (data.toNat % 4096 ≠ 0 → ∃ t, exec (.hlCfgWrite src off data) s = .next t ∧ Posted s t R.HL_CFG_RESULT_STATUS 0x0B02 ∧ t.get (R.EV_BASE_BASE n) = s.get (R.EV_BASE_BASE n)) ∧
      (data.toNat % 4096 = 0 → s.get (R.EV_CFG_EN n) = 0 → ∃ t, exec (.hlCfgWrite src off data) s = .next t ∧ Posted s t R.HL_CFG_RESULT_STATUS 0 ∧
        t.get (R.EV_BASE_BASE n) = data.toNat)))

/-- O40. The host's side of the link (R460 to R465, R480, R484): it comes up with a rate and a width within the strap and raises 0x0B31; losing it halts the
engines, stops the rings and clears what the host wrote; the configuration header and the BARs answer only while it is up, and memory accesses only
where memory space is enabled. The model's own readings and choices that it rests on: assumptions 94, 95, 99. Commands that this statement shows to
complete with their own effect: barAccess, hostConfigRequest, hostLinkLoss, hostLinkUp. -/
def Obligations.HostLinkAccesses : Prop :=
  (∀ (s : State) (rate : Fin 6) (w : Fin 4),
    (s.hlEn = true → s.devClk 14 = true → s.inMode [mOFF, mSTANDBY] = false → s.get R.HL_STATUS_UP = 0 → s.mode.quiet = false → rate ≠ 0 → w.val ≤ s.hlWidth →
      ∃ t, exec (.hostLinkUp rate w) s = .next t ∧ t.get R.HL_STATUS_UP = 1 ∧ t.get R.HL_STATUS_RATE = rate.val ∧ t.get R.HL_STATUS_WIDTH = 2 ^ w.val ∧ t.pins.perstL = true) ∧
    ((s.hlEn = false ∨ s.get R.HL_STATUS_UP ≠ 0 ∨ rate = 0 ∨ s.hlWidth < w.val) → exec (.hostLinkUp rate w) s = .next s)) ∧
  (∀ (s : State) (kind : Fin 4), s.inMode [mOFF, mSTANDBY] = false → s.get R.HL_STATUS_UP ≠ 0 →
    ∃ t, exec (.hostLinkLoss kind) s = .next t ∧ t.get R.HL_STATUS_BME = 0 ∧ t.hl.memEn = false ∧ t.hl.msixPend = 0 ∧ t.hl.bars = [] ∧ t.hl.bar0 = 0 ∧ t.hl.bar2 = 0 ∧
      (∀ n : Fin 4, (t.ring n).fifo = [] ∧ t.get (R.EV_CFG_EN n) = 0) ∧
      (∀ e : Fin 4, s.get (R.DMA_STAT_STATE e) ≠ dmaOFF → t.get (R.DMA_STAT_STATE e) = dmaHALTED ∧ t.get (R.DMA_STAT_HALT_CODE e) = 0x0B13 ∧ t.dmaJob e = none) ∧
      (kind ≠ 3 → t.get R.HL_STATUS_UP = 0 ∧ t.get R.HL_STATUS_RATE = 0 ∧ t.get R.HL_STATUS_WIDTH = 0)) ∧
  (∀ (s : State) (dw : BitVec 10) (data : BitVec 32),
    (s.get R.HL_STATUS_UP = 0 → ∀ wr, exec (.hostConfigRequest wr dw data) s = .next s) ∧
    (s.get R.HL_STATUS_UP ≠ 0 → dw.toNat = 0 → exec (.hostConfigRequest false dw data) s = .next { s with out := [.tlp (.completion 0 [0x3C, 0x1F, 0x48, 0x90])] }) ∧
    (s.get R.HL_STATUS_UP ≠ 0 → dw.toNat = 1 → ∃ t, exec (.hostConfigRequest true dw data) s = .next t ∧ t.get R.HL_STATUS_BME = bit data.toNat 2 ∧
      t.hl.memEn = decide (bit data.toNat 1 = 1) ∧ t.out = [.tlp (.completion 0 [])]) ∧
    (s.get R.HL_STATUS_UP ≠ 0 → dw.toNat = 4 → exec (.hostConfigRequest true dw data) s = .next { s with
      hl := { s.hl with bar0 := data.toNat / 2 ^ 20 }
      out := [.tlp (.completion 0 [])] })) ∧
  (∀ (s : State) (bar : Fin 2) (off : BitVec 28) (words : Nat) (be : Bool) (data : List (BitVec 32)) (up : Option NocUpset),
    (s.get R.HL_STATUS_UP = 0 → ∀ wr, exec (.barAccess bar off wr words be (data, up)) s = .next s) ∧
    (s.get R.HL_STATUS_UP ≠ 0 → (bar.val ≠ 0 ∨ off.toNat < 0x100000) →
      (s.hl.memEn = false → exec (.barAccess bar off true words be (data, up)) s = .next s ∧
        exec (.barAccess bar off false words be (data, up)) s = .next { s with out := [.tlp (.completion 1 [])] }) ∧
      (s.hl.memEn = true → words ≠ 0 → ∃ t, exec (.barAccess bar off true words true (data, up)) s = .next t ∧ t.regs = s.regs ∧ t.out = s.out ∧
        ((s.queue hlErrAddr).length < 16 → (t.queue hlErrAddr).length = (s.queue hlErrAddr).length + 1)) ∧
      (s.hl.memEn = true → bar.val = 0 → 0x2000 ≤ off.toNat → off.toNat < 0x2400 → off.toNat % 4 = 0 →
        exec (.barAccess bar off false 1 be (data, up)) s = .next { s with out := [.tlp (.completion 0 (toBytes 4 (s.msixWord ((off.toNat - 0x2000) / 4))))] }) ∧
      (s.hl.memEn = true → bar.val = 0 → 0x50000 ≤ off.toNat → off.toNat % 4 = 0 →
        exec (.barAccess bar off false 1 be (data, up)) s = .next { s with out := [.tlp (.completion 1 [])] }) ∧
      (∀ wr a (x : State × List (Nat × Nat × Option (Nat × List Nat))), s.hl.memEn = true → s.nocUp = true → words ≠ 0 → (wr = true → be = false) → (wr = false → s.hl.bars.any (fun j => j.wr) = false) →
        s.barAt bar.val (off.toNat / 4 * 4) = .noc a → barParts a words ≤ ((List.range 64).filter (fun t => (s.outstanding 33 t).isNone)).length →
        x = s.barIssue wr up (words + 1) a words (((data.map (fun (d : BitVec 32) => d.toNat)) ++ List.replicate words 0).take words) →
        exec (.barAccess bar off wr words be (data, up)) s = .next ({ x.1 with hl := { x.1.hl with bars := x.1.hl.bars ++ [⟨wr, x.2⟩] } } : State).nocRun)))

/-- O41. Streams (R488 to R497, R506, R511): a header that passes its checks is held and one that fails is refused with its code; a descriptor is accepted or
turned away by its first failing check; a whole block is checked and written in order; a second source beside a running stream posts 0x0140. Pushed
bytes start a stream of their source, join it, or are refused. The model's own readings and choices that it rests on: assumptions 101, 103, 109, 168.
Commands that this statement shows to complete with their own effect: streamHeader, streamAccept, blockAccept, pushWrite, pushRefusalTimeout. -/
def Obligations.LoaderStreams : Prop :=
  (∀ (s : State) (src : Fin 7) (bytes : List (BitVec 8)) (u : State), u = s.ldTake (bytes.map (fun b => b.toNat)) →
    (s.ldState = ldIDLE → exec (.streamHeader src bytes) s = .next s) ∧
    (s.ldState ≠ ldIDLE → s.get R.LD_STATUS_SRC ≠ src.val → ∃ t, exec (.streamHeader src bytes) s = .next t ∧ Posted s t R.LD_RESULT_STATUS 0x0140 ∧
      OnlyRegs s t (R.LD_RESULT_OP :: R.LD_RESULT_PART :: resFlds R.LD_RESULT_STATUS)) ∧
    (s.ldState = ldHEADER → s.get R.LD_STATUS_SRC = src.val → s.ld.hdr = [] → s.ld.img = none → s.ld.seedFor = none →
      (u.ld.buf.length < 64 → exec (.streamHeader src bytes) s = .next u) ∧
      (64 ≤ u.ld.buf.length → u.hdrRefusal src (u.ld.buf.take 64) = none → ∃ t, exec (.streamHeader src bytes) s = .next t ∧ t.ld.hdr = u.ld.buf.take 64 ∧
        t.ld.buf = u.ld.buf.drop 64 ∧ t.get R.LD_STATUS_KIND = leField (u.ld.buf.take 64) 13 1 % 4 ∧ t.get R.LD_STATUS_PART = leField (u.ld.buf.take 64) 16 4 % 32 ∧
        OnlyRegs { u with ld := t.ld } t [R.LD_STATUS_KIND, R.LD_STATUS_PART]) ∧
      (∀ code, 64 ≤ u.ld.buf.length → u.hdrRefusal src (u.ld.buf.take 64) = some code → s.ld.waitSeeds = [] → code < 2 ^ 16 →
        ∃ t, exec (.streamHeader src bytes) s = .next t ∧ t.get R.LD_RESULT_STATUS = code ∧ t.get R.LD_STATUS_STATE = ldIDLE ∧ t.ld.hdr = [] ∧ t.ld.buf = [] ∧
          (src.val = srcPUSH ∨ src.val = srcSERIAL → t.ld.discard = some (src.val, code))))) ∧
  (∀ (s : State) (h : List Nat), (h.take 4 ≠ [0x59, 0x4C, 0x34, 0x38] ∨ leField h 60 4 ≠ crc32 (h.take 60)) → ∀ src, s.hdrRefusal src h = some 0x0101) ∧
  (∀ (s : State) (src : Fin 7) (bytes : List (BitVec 8)) (u : State) (q code : Nat), u = s.ldTake (bytes.map (fun b => b.toNat)) → s.ldState = ldSEED →
    s.get R.LD_STATUS_SRC = src.val → s.ld.hdr = [] → s.ld.img = none → s.ld.seedFor = some q → 64 ≤ u.ld.buf.length → u.hdrRefusal src (u.ld.buf.take 64) = some code →
    exec (.streamHeader src bytes) s = .next (u.seedFail q 0x0148)) ∧
  (∀ (s : State) (src : Fin 7) (bytes : List (BitVec 8)) (u : State) (n : Nat), u = s.ldTake (bytes.map (fun b => b.toNat)) → n = leField s.ld.hdr 24 4 →
    s.ldState ≠ ldIDLE → s.get R.LD_STATUS_SRC = src.val → s.ld.img = none →
    (u.ld.buf.length < n → exec (.streamAccept src bytes) s = .next u) ∧
    (s.ld.hdr ≠ [] → n ≤ u.ld.buf.length →
      (∀ code, u.descRefusal u.ld.hdr (u.ld.buf.take n) = some code → exec (.streamAccept src bytes) s = .next (u.ldTurnAway code)) ∧
      (s.ld.seedFor = none → leField s.ld.hdr 13 1 = 1 → ∃ t, exec (.streamAccept src bytes) s = .next t ∧
        (u.descRefusal u.ld.hdr (u.ld.buf.take n) = none → t.ld.img = some (u.ldImage u.ld.hdr (u.ld.buf.take n)) ∧ t.ld.next = 0 ∧ t.ld.buf = u.ld.buf.drop n ∧
          t.get R.LD_PROG_BLOCKS = 0 ∧ t.get R.LD_PROG_NBLOCKS = (u.ldImage u.ld.hdr (u.ld.buf.take n)).nblocks % 2 ^ 32 ∧ t.get R.LD_CTRL_SAFE_OPEN = 0)))) ∧
  (∀ (s : State) (src : Fin 7) (bytes : List (BitVec 8)), (s.ldState = ldIDLE ∨ s.get R.LD_STATUS_SRC ≠ src.val ∨ s.ld.img ≠ none) →
    exec (.streamAccept src bytes) s = .next s) ∧
  (∀ (s : State) (src : Fin 7) (bytes : List (BitVec 8)), (s.ld.img = none → exec (.blockAccept src bytes) s = .next s) ∧
    (∀ i, s.ld.img = some i → s.get R.LD_STATUS_SRC ≠ src.val → ∃ t, exec (.blockAccept src bytes) s = .next t ∧ Posted s t R.LD_RESULT_STATUS 0x0140 ∧
      OnlyRegs s t (R.LD_RESULT_OP :: R.LD_RESULT_PART :: resFlds R.LD_RESULT_STATUS)) ∧
    (∀ i u, s.ld.img = some i → s.get R.LD_STATUS_SRC = src.val → (s.ldState = ldBLOCKS ∨ s.ldState = ldSEED) → u = s.ldTake (bytes.map (fun b => b.toNat)) →
      (s.get R.LD_STATUS_SRC ≠ srcPULL ∨ u.ld.taken ≤ 65536 * u.ld.limit) →
      ((u.ld.buf.length < 65536 ∨ s.refilling = true) → exec (.blockAccept src bytes) s = .next u) ∧
      (s.refilling = false → 65536 ≤ u.ld.buf.length → exec (.blockAccept src bytes) s = .next ((u.setLd { u.ld with buf := u.ld.buf.drop 65536 }).ldBlock i (u.ld.buf.take 65536)))) ∧
    (∀ i, s.ld.img = some i → s.get R.LD_STATUS_SRC = src.val → (s.ldState = ldBLOCKS ∨ s.ldState = ldSEED) → src.val = srcPULL → s.refilling = false → 65536 * s.ld.limit < s.ld.taken + bytes.length →
      exec (.blockAccept src bytes) s = .next ((s.ldTake (bytes.map (fun b => b.toNat))).ldStop 0x0108)) ∧
    (∀ i blk, (Config.sha384 blk ≠ s.ld.expect ∨ Config.gcmOpen i.keyVal (i.salt * 2 ^ 32 + beNum (toBytes 4 s.ld.next)) (toBytes 4 s.ld.next ++ toBytes 8 i.imageId) blk = none) →
      s.ldBlock i blk = s.ldStop 0x0107)) ∧
  (∀ (s : State) (src : SrcId) (bytes : List (BitVec 8)),
    (s.srcOk src = false → exec (.pushWrite src bytes) s = .next { s with answer := ⟨0x010E, 0⟩ }) ∧
    (s.srcOk src = true → s.ld.discard = none →
      ((s.mode0 = mSTANDBY ∨ s.mode0 = mOFF) → exec (.pushWrite src bytes) s = .next { s with answer := ⟨0x0104, 0⟩ }) ∧
      (s.mode0 ≠ mSTANDBY → s.mode0 ≠ mOFF → s.ldState = ldIDLE → ∃ t, exec (.pushWrite src bytes) s = .next t ∧ t.answer = ⟨0, 0⟩ ∧ t.ldState = ldHEADER ∧
        t.get R.LD_STATUS_SRC = srcPUSH ∧ t.get R.LD_STATUS_OWNER = src.val ∧ t.ld.buf = bytes.map (fun b => b.toNat) ∧ t.ld.img = none) ∧
      (s.mode0 ≠ mSTANDBY → s.mode0 ≠ mOFF → s.ldState ≠ ldIDLE → s.get R.LD_STATUS_SRC = srcPUSH → s.get R.LD_STATUS_OWNER = src.val → s.ldState = ldRELEASE →
        exec (.pushWrite src bytes) s = .next { s with answer := ⟨0x0140, 0⟩ }) ∧
      (s.mode0 ≠ mSTANDBY → s.mode0 ≠ mOFF → s.ldState ≠ ldIDLE → s.get R.LD_STATUS_SRC = srcPUSH → s.get R.LD_STATUS_OWNER = src.val → s.ldState ≠ ldRELEASE →
        s.ld.buf.length + bytes.length ≤ 262144 → exec (.pushWrite src bytes) s = .next { s.ldTake (bytes.map (fun b => b.toNat)) with answer := ⟨0, 0⟩ }) ∧
      (s.mode0 ≠ mSTANDBY → s.mode0 ≠ mOFF → s.ldState ≠ ldIDLE → (s.get R.LD_STATUS_SRC ≠ srcPUSH ∨ s.get R.LD_STATUS_OWNER ≠ src.val) →
        exec (.pushWrite src bytes) s = .next { s with answer := ⟨0x0140, 0⟩ }))) ∧
  (∀ (s : State) (x : Nat × Nat), s.ld.discard = some x → x.1 = 2 → exec .pushRefusalTimeout s = .next { s with ld := { s.ld with discard := none } })

/-- O42. The loader's commands (R488, R506, R508, R512): FLASH and PULL start a stream of their source from an aligned address while the loader rests; each
refusal posts its code; ABORT ends a running load with 0x010F and takes a full load's mode to BOOT; CLRERR takes a partition from ERROR to EMPTY; a
pop of LD_ERR_POP shows the record's place. The model's own readings and choices that it rests on: assumptions 109, 112. Commands that this statement
shows to complete with their own effect: ldFlash, ldPull, ldAbort, ldClrerr, ldErrPop, ssDeselect. -/
def Obligations.LoaderCommands : Prop :=
  (∀ (s : State) (src : SrcId) (addr : BitVec 44), s.srcOk src = true →
    (s.ldState = ldIDLE → addr.toNat % 65536 = 0 → addr.toNat < 2 ^ 32 → ∃ t, exec (.ldFlash src addr) s = .next t ∧ t.ldState = ldHEADER ∧ t.get R.LD_STATUS_SRC = srcFLASH ∧
      t.ld.start = addr.toNat ∧ t.ld.op = 1 ∧ t.get R.LD_RESULT_VALID = 0 ∧ t.get R.LD_RESULT_STALE = 1 ∧ t.answer = ⟨0, 0⟩ ∧ t.ld.buf = []) ∧
    (∀ code, (s.ldState ≠ ldIDLE ∧ code = 0x0140 ∨ s.ldState = ldIDLE ∧ (addr.toNat % 65536 ≠ 0 ∨ 2 ^ 32 ≤ addr.toNat) ∧ code = 0x0146) →
      ∃ t, exec (.ldFlash src addr) s = .next t ∧ Posted s t R.LD_RESULT_STATUS code ∧ t.get R.LD_RESULT_OP = 1 ∧ t.answer = ⟨0, 0⟩ ∧
        OnlyRegs s.ldCommit t (R.LD_ARG_ADDR :: R.LD_RESULT_OP :: R.LD_RESULT_PART :: resFlds R.LD_RESULT_STATUS))) ∧
  (∀ (s : State) (src : SrcId) (addr : BitVec 44) (limit : BitVec 16), s.srcOk src = true →
    (s.ldState = ldIDLE → addr.toNat % 4 = 0 → limit.toNat ≠ 0 → ∃ t, exec (.ldPull src addr limit) s = .next t ∧ t.ldState = ldHEADER ∧ t.get R.LD_STATUS_SRC = srcPULL ∧
      t.ld.start = addr.toNat ∧ t.ld.limit = limit.toNat ∧ t.ld.op = 2 ∧ t.answer = ⟨0, 0⟩) ∧
    (∀ code, (s.ldState ≠ ldIDLE ∧ code = 0x0140 ∨ s.ldState = ldIDLE ∧ (addr.toNat % 4 ≠ 0 ∨ limit.toNat = 0) ∧ code = 0x0146) →
      ∃ t, exec (.ldPull src addr limit) s = .next t ∧ Posted s t R.LD_RESULT_STATUS code ∧ t.get R.LD_RESULT_OP = 2)) ∧
  (∀ (s : State) (src : SrcId) (addr : BitVec 44), s.srcOk src = false →
    ∃ t, exec (.ldFlash src addr) s = .next t ∧ Posted s t R.LD_RESULT_STATUS 0x010E ∧ OnlyRegs s.ldCommit t (R.LD_RESULT_OP :: R.LD_RESULT_PART :: resFlds R.LD_RESULT_STATUS)) ∧
  (∀ (s : State) (src : SrcId), s.srcOk src = true →
    (s.ldState = ldIDLE → ∃ t, exec (.ldAbort src) s = .next t ∧ Posted s t R.LD_RESULT_STATUS 0 ∧ t.get R.LD_RESULT_OP = 3 ∧
      OnlyRegs (s.commit R.LD_CMD_OP.addr) t (R.LD_RESULT_OP :: R.LD_RESULT_PART :: resFlds R.LD_RESULT_STATUS)) ∧
    (∀ i, s.ldState ≠ ldIDLE → s.ld.img = some i → s.mode0 = mLOAD → s.mode.trans = none → ∃ t, exec (.ldAbort src) s = .next t ∧ t.ldState = ldIDLE ∧
      t.mode.trans = some ⟨0x0F, mBOOT, 0⟩ ∧ t.get R.LD_RESULT_OP = 3 ∧ t.get R.LD_RESULT_STATUS = 0 ∧ t.ld.img = none)) ∧
  (∀ (s : State) (src : SrcId) (part : Fin 32), s.srcOk src = true →
    (part ≠ 0 → s.ptState part = 3 → ∃ t, exec (.ldClrerr src part) s = .next t ∧ t.ptState part = 0 ∧ t.get R.LD_RESULT_STATUS = 0 ∧ t.get R.LD_RESULT_OP = 4 ∧
      t.get R.LD_RESULT_PART = part.val ∧ t.answer = ⟨0, 0⟩) ∧
    ((part = 0 ∨ s.ptState part ≠ 3) → ∃ t, exec (.ldClrerr src part) s = .next t ∧ Posted s t R.LD_RESULT_STATUS 0x0146 ∧ t.get R.LD_RESULT_OP = 4 ∧
      OnlyRegs (s.commit R.LD_CMD_OP.addr) t (R.LD_RESULT_OP :: R.LD_RESULT_PART :: resFlds R.LD_RESULT_STATUS))) ∧
  (∀ (s : State), (s.ld.locs = [] → s.queue ldErrAddr = [] → exec .ldErrPop s = .next { s with answer := ⟨0, 0⟩, half := SMap.set s.half none ldErrAddr (some 0) }) ∧
    (∀ l ls w ws, s.ld.locs = l :: ls → s.queue ldErrAddr = w :: ws → ∃ t, exec .ldErrPop s = .next t ∧ t.answer = ⟨0, w⟩ ∧ t.queue ldErrAddr = ws ∧ t.ld.locs = ls ∧
      t.get R.LD_ERR_LOC_B = bits l 0 6 ∧ t.get R.LD_ERR_LOC_ROW = bits l 6 3 ∧ t.get R.LD_ERR_LOC_COL = bits l 9 6 ∧ t.get R.LD_ERR_LOC_INDEX = bits l 15 4 ∧
      t.get R.LD_ERR_LOC_BITOFS = bits l 25 12)) ∧
  (∀ (s r : State), r = { s with dict := { s.dict with serial := none }, pins := { s.pins with ssRdy := false } } →
    (s.ldState ≠ ldIDLE → s.get R.LD_STATUS_SRC = srcSERIAL → s.ld.ended = false → exec .ssDeselect s = .next (r.ldStop 0x0108)) ∧
    (s.ldState ≠ ldIDLE → s.get R.LD_STATUS_SRC = srcSERIAL → s.ld.ended = true → exec .ssDeselect s = .next r) ∧
    (s.ldState = ldIDLE → s.ld.discard = none → exec .ssDeselect s = .next r))

/-- O43. How a load goes on and ends (R504, R506, R522, R524, R527): clearing leaves every partition EMPTY on plane 0 and opens the blocks; a release sets
CFG_DONE and posts the load's result; a data timeout ends an unfinished stream with 0x0108, a PLL timeout a load that is not ready with 0x0145; a dark
load clears its partition once it has drained and a shadow load ends with its plane LOADED. The model's own readings and choices that it rests on:
assumptions 107, 108, 112, 113. Commands that this statement shows to complete with their own effect: loadDataTimeout, loadClearComplete,
loadPllTimeout, loadRelease, darkLoadDrained, darkLoadRelease, shadowLoadComplete. -/
def Obligations.LoadCompletion : Prop :=
  (∀ (s : State), ((s.ldState = ldRELEASE ∨ s.ldState = ldCLEAR) → exec .loadDataTimeout s = .next s) ∧
    (s.ldState = ldHEADER → s.ld.img = none → s.ld.seedFor = none → s.ld.waitSeeds = [] →
      ∃ t, exec .loadDataTimeout s = .next t ∧ t.get R.LD_RESULT_STATUS = 0x0108 ∧ t.ldState = ldIDLE ∧ t.ld.buf = []) ∧
    (s.ldState = ldIDLE → s.mode.armed = true → ∃ t, exec .loadDataTimeout s = .next t ∧ t.mode.armed = false ∧ t.mode.request = none ∧ t.get R.DEV_MODE_RESULT_STATUS = 0x0108 ∧
      t.get R.DEV_MODE_RESULT_TARGET = mLOAD)) ∧
  (∀ (s : State) (i : LdImage), s.ld.img = some i →
    (s.mode0 = mLOAD → s.mode.trans = none → s.ldState = ldCLEAR → ∃ t, exec .loadClearComplete s = .next t ∧ t.ldState = ldBLOCKS ∧
      (∀ q : Fin 32, t.ptState q = 0 ∧ t.get (R.PT_STAT_PLANE q) = 0 ∧ t.get (R.PT_STAT_SHADOW q) = 0 ∧ t.get (R.PT_STAT_ACT q) = 0) ∧ ∀ b : BoughId, (t.bough b).plane = 0) ∧
    ((s.mode0 ≠ mLOAD ∨ s.mode.trans ≠ none ∨ s.ldState ≠ ldCLEAR) → exec .loadClearComplete s = .next s)) ∧
  (∀ (s : State), (s.mode0 = mLOAD → s.ldState = ldRELEASE → s.mode.trans = none → s.releaseReady = true →
      ∃ t, exec .loadRelease s = .next t ∧ t.get R.LD_STATUS_CFG_DONE = 1 ∧ (s.ld.failed = [] → t.get R.LD_RESULT_STATUS = 0) ∧
        (∀ e l, s.ld.failed = e :: l → t.get R.LD_RESULT_STATUS = e.2 % 2 ^ 16)) ∧
    ((s.mode0 ≠ mLOAD ∨ s.ldState ≠ ldRELEASE ∨ s.releaseReady = false) → exec .loadRelease s = .next s)) ∧
  (∀ (s : State), (s.mode0 = mLOAD → s.ldState = ldRELEASE → s.releaseReady = false → s.ld.crownSeed = 0xFFFFFFFF → s.ld.failed = [] → s.mode.trans = none →
      ∃ t, exec .loadPllTimeout s = .next t ∧ t.mode.trans = some ⟨0x08, mSAFE, 0⟩ ∧ t.get R.LD_RESULT_STATUS = 0x0145 ∧ t.get R.LD_STATUS_CFG_ERR = 1 ∧ t.ldState = ldIDLE) ∧
    (s.mode0 = mLOAD → s.ldState = ldRELEASE → s.releaseReady = true → exec .loadPllTimeout s = .next s)) ∧
  (∀ (s : State) (i : LdImage), s.ld.img = some i → i.kind = 2 → i.part < 32 → s.mode0 = mRUN →
    (s.ldState = ldCLEAR → s.ld.seedFor = none → s.swapOf i.part = none → (∃ b ∈ s.partBoughs i.part, s.p0 b ≠ p0ASLEEP) → exec .darkLoadDrained s = .next s) ∧
    (s.ldState = ldCLEAR → s.ld.seedFor = none → s.swapOf i.part = none → (∀ b ∈ s.partBoughs i.part, s.p0 b = p0ASLEEP) → ∃ t, exec .darkLoadDrained s = .next t ∧ t.ldState = ldBLOCKS ∧ t.get (R.PT_STAT_PLANE i.part) = 0 ∧
      t.get (R.PT_STAT_SHADOW i.part) = 0 ∧ SMap.get t.pt.keysel 0 i.part = i.keysel) ∧
    (s.ldState ≠ ldCLEAR → exec .darkLoadDrained s = .next s) ∧
    (s.ldState = ldRELEASE → s.darkReady i.part = true → ∃ t, exec .darkLoadRelease s = .next t ∧ t.ptState i.part = (if s.ld.seedFor = none then 1 else 2) ∧ t.get (R.PT_STAT_ACT i.part) = 0 ∧
      t.get R.LD_RESULT_PART = i.part) ∧
    (s.ldState = ldRELEASE → s.darkReady i.part = false → exec .darkLoadRelease s = .next s)) ∧
  (∀ (s : State) (i : LdImage), s.ld.img = some i → i.kind = 3 → i.part < 32 → s.ldState = ldRELEASE →
    ∃ u, exec .shadowLoadComplete s = .next u ∧ u.get (R.PT_STAT_ACT i.part) = 0 ∧
      ((∀ b ∈ s.partBoughs i.part, s.planeBreach (1 - s.get (R.PT_STAT_PLANE i.part)) b = none ∧ s.keepBreach b = none) →
        (i.cstage = 0 ∨ s.ld.slots ≠ [] → u.get (R.PT_STAT_SHADOW i.part) = 2 ∧ u.get R.LD_RESULT_STATUS = 0) ∧
        (i.cstage ≠ 0 → s.ld.slots = [] → u.get (R.PT_STAT_SHADOW i.part) = 3)) ∧
      ((∃ b ∈ s.partBoughs i.part, s.planeBreach (1 - s.get (R.PT_STAT_PLANE i.part)) b ≠ none ∨ s.keepBreach b ≠ none) → u.get (R.PT_STAT_SHADOW i.part) = 3)) ∧
  (∀ (s : State), (s.ld.img = none → exec .darkLoadDrained s = .next s ∧ exec .shadowLoadComplete s = .next s) ∧
    (s.ldState ≠ ldRELEASE → exec .shadowLoadComplete s = .next s))

/-- O44. Partitions, swaps and readback (R528 to R542): a swap freezes each bough on its other plane, releases it, and when the last one is released the swap
is counted and its code raised; a block whose contents the stage does not hold is ready at once. A capture marks the latches of its boughs stale until
it posts their time. A readback read is refused, or answers a latch or frame word. The model's own readings and choices that it rests on: assumptions
114, 116, 117, 118, 120. Commands that this statement shows to complete with their own effect: swapFreeze, swapRelease, swapRefillBlock, rbCapture,
rbCapPost, readbackRead. -/
def Obligations.SwapsAndReadback : Prop :=
  (∀ (s : State) (q : Nat), (s.mode0 ≠ mRUN → s.swapRefusal q = 0x0116) ∧ (s.mode0 = mRUN → s.swapRefusal 0 = 0x0113) ∧
    (s.mode0 = mRUN → q ≠ 0 → q < 32 → s.swapRefusal q = 0 → (s.swapFire q).2 = 0 ∧ (s.swapFire q).1.swapOf q = some ⟨s.partBoughs q, [], [], s.tp.tick⟩ ∧
      (s.swapFire q).1.get (R.PT_STAT_ACT q) = 3 ∧ (s.swapFire q).1.get (R.PT_STAT_LAST_STATUS q) = 0)) ∧
  (∀ (s : State) (b : BoughId) (q : Nat) (x : Swap), s.partOf b = some q → s.swapOf q = some x →
    (s.tp.tick < x.tick + 4 → exec (.swapFreeze b) s = .next s) ∧
    (b.val ∈ x.freeze → x.tick + 4 ≤ s.tp.tick → ∃ t, exec (.swapFreeze b) s = .next t ∧ (t.bough b).run = .frozen ∧ t.get (R.PT_STAT_PLANE q) = (t.bough b).plane % 2 ∧
      t.swapOf q = some { x with freeze := x.freeze.filter (fun k => decide (k ≠ b.val)), frozen := x.frozen ++ [b.val] }) ∧
    (b.val ∉ x.freeze → exec (.swapFreeze b) s = .next s) ∧
    (b.val ∉ x.frozen → exec (.swapRelease b) s = .next s) ∧
    (b.val ∈ x.frozen → (x.freeze ≠ [] ∨ x.frozen.filter (fun k => decide (k ≠ b.val)) ≠ []) → ∃ t y, exec (.swapRelease b) s = .next t ∧ t.swapOf q = some y ∧
      y.freeze = x.freeze ∧ y.frozen = x.frozen.filter (fun k => decide (k ≠ b.val)) ∧ t.get (R.PT_STAT_SHADOW q) = (s.swapOpen b).get (R.PT_STAT_SHADOW q)) ∧
    (x.freeze = [] → x.frozen = [b.val] → s.mode0 = mSAFE → s.ld.img = none →
      ∃ t, exec (.swapRelease b) s = .next t ∧ t.get (R.PT_STAT_SWAPS q) = min (2 ^ 16 - 1) (s.get (R.PT_STAT_SWAPS q) + 1) ∧ (t.bough b).run = .stopped ∧
        (t.get (R.PT_STAT_SHADOW q) = 2 ∨ t.get (R.PT_STAT_SHADOW q) = 4))) ∧
  (∀ (s : State) (q : Fin 32) (x : Swap), s.swapOf q = some x → x.freeze = [] → x.frozen = [] →
    (x.refill = [] → exec (.swapRefillBlock q) s = .next s) ∧
    (∀ b k rest, x.refill = (b, k) :: rest → rest ≠ [] → SMap.get s.pt.stage [] (2 * q.val + s.get (R.PT_STAT_PLANE q)) = [] →
      exec (.swapRefillBlock q) s = .next ((s.blockReady b k).setSwap q (some { x with refill := rest })))) ∧
  (∀ (s : State) (q : Fin 32), s.swapOf q = none → exec (.swapRefillBlock q) s = .next s) ∧
  (∀ (s : State) (src : SrcId), (s.srcOk src = true → ∃ t, exec (.rbCapture src) s = .next t ∧ Posted s t R.RB_RESULT_STATUS 0 ∧ t.answer = ⟨0, 0⟩ ∧
      (∀ b : BoughId, bit (s.get R.RB_MASK_BOUGHS) b = 1 → t.get (R.RB_CAP_VALID b) = 0 ∧ t.get (R.RB_CAP_STALE b) = 1 ∧
        SMap.get t.pt.capPend none b = some ⟨s.nowFull + 5 * 65536, s.tp.tick, false⟩) ∧
      (∀ b : BoughId, bit (s.get R.RB_MASK_BOUGHS) b = 0 → t.get (R.RB_CAP_VALID b) = s.get (R.RB_CAP_VALID b)) ∧ t.fab = s.fab) ∧
    (s.srcOk src = false → ∃ t, exec (.rbCapture src) s = .next t ∧ Posted s t R.RB_RESULT_STATUS 0x010E ∧ OnlyRegs s t (resFlds R.RB_RESULT_STATUS))) ∧
  (∀ (s : State) (b : BoughId) (held : Bool), (SMap.get s.pt.capPend none b = none → exec (.rbCapPost b held) s = .next s) ∧
    (∀ c, SMap.get s.pt.capPend none b = some c → c.taken = false → exec (.rbCapPost b held) s = .next s) ∧
    (∀ c, SMap.get s.pt.capPend none b = some c → c.taken = true → ∃ t, exec (.rbCapPost b held) s = .next t ∧ t.fab = s.fab ∧ t.pt.capLatch = s.pt.capLatch ∧ t.get (R.RB_CAP_VALID b) = 1 ∧ t.get (R.RB_CAP_STALE b) = 0 ∧
      t.get (R.RB_CAP_TIME b) = (c.time / 65536 % 2 ^ 32).toNat ∧ t.get (R.RB_CAP_SEQ b) = (s.get (R.RB_CAP_SEQ b) + 1) % 2 ^ 16 ∧ t.get (R.RB_CAP_HELD b) = ofFlag (held || !s.running b))) ∧
  (∀ (s : State) (src : SrcId) (w : Fin 3072), (s.readbackRefusal src (s.get R.RB_SEL_B) ≠ 0 → ∀ frame,
      exec (.readbackRead src frame w) s = .next { s with answer := ⟨s.readbackRefusal src (s.get R.RB_SEL_B), 0⟩ }) ∧
    (s.readbackRefusal src (s.get R.RB_SEL_B) = 0 →
      exec (.readbackRead src false w) s = .next { s with answer := ⟨0, s.latchWord (s.get R.RB_SEL_B) w⟩ } ∧
      (129 ≤ w.val → exec (.readbackRead src true w) s = .next { s with answer := ⟨0x0203, 0⟩ }) ∧
      (w.val < 128 → frameExists (s.get R.RB_SEL_ROW) (s.get R.RB_SEL_COL) (s.get R.RB_SEL_INDEX) = true → s.planeWritten (s.get R.RB_SEL_PLANE) (s.get R.RB_SEL_B) = false →
        exec (.readbackRead src true w) s = .next { s with answer :=
          ⟨0, bits (s.frame (s.get R.RB_SEL_PLANE) (s.get R.RB_SEL_B) (s.get R.RB_SEL_ROW) (s.get R.RB_SEL_COL) (s.get R.RB_SEL_INDEX)) (32 * w.val) 32⟩ }) ∧
      (w.val < 129 → frameExists (s.get R.RB_SEL_ROW) (s.get R.RB_SEL_COL) (s.get R.RB_SEL_INDEX) = false →
        exec (.readbackRead src true w) s = .next { s with answer := ⟨0x0125, 0⟩ }) ∧
      (w.val < 129 → frameExists (s.get R.RB_SEL_ROW) (s.get R.RB_SEL_COL) (s.get R.RB_SEL_INDEX) = true → s.planeWritten (s.get R.RB_SEL_PLANE) (s.get R.RB_SEL_B) = true →
        exec (.readbackRead src true w) s = .next { s with answer := ⟨0x0126, 0⟩ })))

/-- O45. The gleaner's walk and repairs (R548 to R557): a branch whose signature reads as its golden one is passed over; one that differs while its partition
is excluded is deferred; a single wrong bit is put right and counted; a pass that is over is counted; a repair without a source fails its frames,
which are counted as they leave. The gleaner's settings, watch and commands (R559, R560, R562): the settings are the majority of three copies, a
minority copy is counted and rewritten, and the rest of a tick changes nothing; GL_CTRL takes effect only with its confirmation; CLR_CNT clears the
counts and SCAN_NOW starts the enabled walkers over; GL_LOG_POP answers the oldest entry with its time. The model's own readings and choices that it
rests on: assumptions 105, 121, 122, 123, 124. Commands that this statement shows to complete with their own effect: gleanerBranchCheck,
gleanerPassComplete, gleanerRepairStart, gleanerRepairComplete, gleanerDeferredHandle, watchWalkerTick, glCtrlWrite, glClrCnt, glScanNow, glLogPop. -/
def Obligations.GleanerWalkAndSettings : Prop :=
  ((∀ (s : State) (q : Fin 4) (map : List (BitVec 8)) (sig : Fin 3), (s.glDue q = none → (s.walkOn q = false ∨ s.walkNext q = none) → ∀ ups, exec (.gleanerBranchCheck q ups sig map) s = .next s) ∧
    (∀ f ups, s.glDue q = some f → exec (.gleanerBranchCheck q ups sig map) s = .next (s.glDeferred q f (map.map (fun x => x.toNat)))) ∧
    (∀ p b pl row col, s.glDue q = none → s.walkOn q = true → s.walkNext q = some (p, b, pl, row, col) → sig.val ≠ 2 →
      (s.branchSig pl b row col = s.golden pl b row col → exec (.gleanerBranchCheck q [] sig map) s = .next (State.glShow { s with gl := { s.gl with pos := SMap.set s.gl.pos 0 q (p + 1) } })) ∧
      (s.branchSig pl b row col ≠ s.golden pl b row col → s.glExcluded (glPart s b) = true → (SMap.get s.gl.defer [] q).length < 16 →
        ∃ t, exec (.gleanerBranchCheck q [] sig map) s = .next t ∧ SMap.get t.gl.defer [] q = SMap.get s.gl.defer [] q ++ [⟨glPart s b, pl, b, row, col, 0⟩] ∧ t.fab = s.fab) ∧
      (s.branchSig pl b row col ≠ s.golden pl b row col → s.glExcluded (glPart s b) = false →
        exec (.gleanerBranchCheck q [] sig map) s = .next ((State.glDiffers { s with gl := { s.gl with pos := SMap.set s.gl.pos 0 q (p + 1) } }
          ⟨glPart s b, pl, b, row, col, 0⟩ false (map.map (fun x => x.toNat))).glShow)))) ∧
  (∀ (s : State) (f : GlFrame) (i : Nat), frameDecode (s.frame f.plane f.b f.row f.col f.idx) (s.frameChecks f.plane f.b f.row f.col f.idx) = .single i →
    (s.glFrame f).2 = false ∧ (s.glFrame f).1.get R.GL_CNT_CORR = min (2 ^ 16 - 1) (s.get R.GL_CNT_CORR + 1) ∧ (s.glFrame f).1.fab = ((s.frameFlip f.plane f.b f.row f.col f.idx i).frameFollows f.plane f.b).fab) ∧
  (∀ (s : State) (q : Fin 4) (map : List (BitVec 8)), ((s.walkOn q = false ∨ ∀ f ∈ SMap.get s.gl.defer [] q, s.glExcluded f.part = true) → exec (.gleanerDeferredHandle q map) s = .next s) ∧
    (∀ pre f rest, SMap.get s.gl.defer [] q = pre ++ f :: rest → (∀ e ∈ pre, s.glExcluded e.part = true) → s.walkOn q = true → s.glExcluded f.part = false →
      s.walked f.b f.plane = false → ∃ t, exec (.gleanerDeferredHandle q map) s = .next t ∧ SMap.get t.gl.defer [] q = pre ++ rest ∧ t.fab = s.fab)) ∧
  (∀ (s : State) (q : Fin 4), (s.walkOn q = true → s.walkNext q = none → SMap.get s.gl.pos 0 q ≠ 0 →
      ∃ t, exec (.gleanerPassComplete q) s = .next t ∧ t.get (R.GL_PASS_PASSES q) = min (2 ^ 32 - 1) (s.get (R.GL_PASS_PASSES q) + 1) ∧ SMap.get t.gl.pos 0 q = 0 ∧
        SMap.get t.gl.began 0 q = s.nowFull ∧ t.get (R.GL_PASS_LAST_US q) = min ((s.nowFull - SMap.get s.gl.began 0 q) / 65536000).toNat 65535) ∧
    ((s.walkOn q = false ∨ s.walkNext q ≠ none) → exec (.gleanerPassComplete q) s = .next s)) ∧
  (∀ (s : State) (blocks : List (List (BitVec 8))) (st : BitVec 16), (s.gl.list = [] → exec (.gleanerRepairStart blocks st) s = .next s) ∧
    (∀ f l, s.gl.list = f :: l →
      ((s.mode0 ≠ mRUN ∨ s.ldState ≠ ldIDLE ∨ bit s.glSet 1 = 0 ∨ s.glExcluded f.part = true ∨ s.gl.fixed ≠ [] ∨ s.gl.lost ≠ []) → exec (.gleanerRepairStart blocks st) s = .next s) ∧
      (∀ code, s.mode0 = mRUN → s.ldState = ldIDLE → bit s.glSet 1 = 1 → s.glExcluded f.part = false → s.gl.fixed = [] → s.gl.lost = [] →
        (SMap.get s.pt.repair none (2 * f.part + f.plane) = none ∧ code = 0 ∨
          (∃ src, SMap.get s.pt.repair none (2 * f.part + f.plane) = some src ∧ src.version < s.sec.rb) ∧ code = 0x0106) →
        ∃ t, exec (.gleanerRepairStart blocks st) s = .next t ∧ t.fab = s.fab ∧
          t.gl.list = s.gl.list.filter (fun e => !(decide (e.part = f.part) && decide (e.plane = f.plane))) ∧
          t.gl.lost = (s.gl.list.filter (fun e => decide (e.part = f.part) && decide (e.plane = f.plane))).map (fun e => (e, code))))) ∧
  (∀ (s : State), (s.gl.lost = [] → s.gl.fixed = [] → exec .gleanerRepairComplete s = .next s) ∧
    (∀ e rest, s.gl.lost = e :: rest → ∃ t, exec .gleanerRepairComplete s = .next t ∧ t.gl.lost = rest ∧ t.get R.GL_CNT_FAILED = min (2 ^ 8 - 1) (s.get R.GL_CNT_FAILED + 1)) ∧
    (∀ f, s.gl.lost = [] → s.gl.fixed = [f] → s.branchSig f.plane f.b f.row f.col = s.golden f.plane f.b f.row f.col →
      ∃ t, exec .gleanerRepairComplete s = .next t ∧ t.gl.fixed = [] ∧ t.get R.GL_CNT_REPAIRED = min (2 ^ 16 - 1) (s.get R.GL_CNT_REPAIRED + 1) ∧ t.fab = s.fab))) ∧
  ((∀ (s : State) (flips : Option (Fin 3 × BitVec 36)) (stuck : Bool) (stalled : BitVec 4), s.inMode [mBOOT, mLOAD, mRUN, mSAFE] = false →
    exec (.watchWalkerTick flips stuck stalled) s = .next s) ∧
  (∀ (s : State) (c : Fin 3) (x : BitVec 36) (v : Nat), s.inMode [mBOOT, mLOAD, mRUN, mSAFE] = true → v < 2 ^ 36 → (∀ k : Fin 3, s.glCopy k = v) → x ≠ 0 →
    ∃ t, exec (.watchWalkerTick (some (c, x)) false 0) s = .next t ∧ (∀ k : Fin 3, t.glCopy k = v) ∧ t.glSet = v ∧
      t.get R.GL_SET_DISAGREE = min (2 ^ 16 - 1) (s.get R.GL_SET_DISAGREE + 1) ∧ t.get R.GL_SET_COPY = c.val ∧ t.get R.GL_CTRL_EN = bit v 0) ∧
  (∀ (s : State) (v : Nat), v < 2 ^ 36 → (∀ k : Fin 3, s.glCopy k = v) → s.inMode [mBOOT, mLOAD, mRUN, mSAFE] = true →
    exec (.watchWalkerTick none false 0) s = .next s.glShow) ∧
  (∀ (s : State) (src : SrcId) (data : BitVec 32),
    (s.srcOk src = true → bits data.toNat 16 16 = 0xA5C3 → ∃ t, exec (.glCtrlWrite src data) s = .next t ∧ t.get R.GL_CTRL_EN = bit data.toNat 0 ∧
      t.get R.GL_CTRL_REPAIR_EN = bit data.toNat 1 ∧ t.get R.GL_CTRL_QMASK = bits data.toNat 4 4 ∧ t.get R.GL_CMD_RESULT_STATUS = 0 ∧ t.get R.GL_CMD_RESULT_OP = 15 ∧ t.answer = ⟨0, 0⟩) ∧
    (∀ code, (s.srcOk src = false ∧ code = 0x0C01 ∨ s.srcOk src = true ∧ bits data.toNat 16 16 ≠ 0xA5C3 ∧ code = 0x0C02) →
      ∃ t, exec (.glCtrlWrite src data) s = .next t ∧ Posted s t R.GL_CMD_RESULT_STATUS code ∧ t.get R.GL_CMD_RESULT_OP = 15 ∧ t.gl = s.gl ∧ t.answer = ⟨0, 0⟩)) ∧
  (∀ (s : State) (src : SrcId), (s.srcOk src = true → ∃ t, exec (.glClrCnt src) s = .next t ∧ t.get R.GL_CNT_CORR = 0 ∧ t.get R.GL_CNT_UNC = 0 ∧ t.get R.GL_CNT_REPAIRED = 0 ∧
      t.get R.GL_CNT_ESS = 0 ∧ t.get R.GL_CNT_FAILED = 0 ∧ Posted s t R.GL_CMD_RESULT_STATUS 0 ∧ t.get R.GL_CMD_RESULT_OP = 1 ∧ t.gl = s.gl) ∧
    (s.srcOk src = true → s.inMode [mRUN, mSAFE] = true → bit s.glSet 0 = 1 → ∃ t, exec (.glScanNow src) s = .next t ∧ Posted s t R.GL_CMD_RESULT_STATUS 0 ∧
      t.get R.GL_CMD_RESULT_OP = 2 ∧ ∀ q : Fin 4, SMap.get t.gl.pos 0 q = if bit s.glSet (4 + q.val) = 1 then 0 else SMap.get s.gl.pos 0 q) ∧
    (s.srcOk src = true → (s.inMode [mRUN, mSAFE] = false ∨ bit s.glSet 0 = 0) → ∃ t, exec (.glScanNow src) s = .next t ∧ Posted s t R.GL_CMD_RESULT_STATUS 0x0C04 ∧ t.gl = s.gl) ∧
    (s.srcOk src = false → ∀ i, (i = .glClrCnt src ∨ i = .glScanNow src) → ∃ t, exec i s = .next t ∧ Posted s t R.GL_CMD_RESULT_STATUS 0x0C01 ∧ t.gl = s.gl)) ∧
  (∀ (s : State), (s.gl.times = [] → s.queue glLogAddr = [] → exec .glLogPop s = .next { s with answer := ⟨0, 0⟩, half := SMap.set s.half none glLogAddr (some 0) }) ∧
    (∀ x l w ws, s.gl.times = x :: l → s.queue glLogAddr = w :: ws → ∃ t, exec .glLogPop s = .next t ∧ t.answer = ⟨0, w⟩ ∧ t.queue glLogAddr = ws ∧ t.gl.times = l ∧
      t.get R.GL_LOG_TIME_TIME = x % 2 ^ 32)))

/-- O46. The site core (R567, R570, R572 to R579, R586): leaving and entering reset, GO, traps and MRET, WFI and wake, FENCE, window loads and stores, SRAM
accesses and the flash copy. A core that does not execute stays as it is. The model's own readings and choices that it rests on: assumptions 125, 126,
128, 131, 132. Commands that this statement shows to complete with their own effect: scResetRelease, scGo, scReset, scFlashBootComplete, scWindowLoad,
scWindowStore, scFence, scWfi, scWake, scSyncTrap, scMret, scSramAccess. -/
def Obligations.SiteCoreExecution : Prop :=
  (∀ s : State, (s.sc.held = false ∨ s.sc.modeHeld = true ∨ s.inMode [mRUN, mSAFE] = false) → exec .scResetRelease s = .next s) ∧
  (∀ s : State, s.sc.held = true → s.sc.modeHeld = false → (s.mode0 = mRUN ∨ s.mode0 = mSAFE) →
    (s.get R.DBG_SC_CTRL_HALTRESET = 0 → (s.get R.SC_BOOT_SRC ≠ 0 ∨ s.get R.SC_CTRL_GO = 0) → exec .scResetRelease s = .next { s with sc := { s.sc with
      held := false
      boot := if s.get R.SC_BOOT_SRC ≠ 0 then 2 else 1
      wrapBase := s.tp.wide } }) ∧
    (s.get R.DBG_SC_CTRL_HALTRESET = 0 → s.get R.SC_BOOT_SRC = 0 → s.get R.SC_CTRL_GO ≠ 0 → s.get R.DBG_SC_STAT_HALTED = 0 →
      exec .scResetRelease s = .next { s with sc := { s.sc with
        held := false
        boot := 0
        pc := 0x10000000 + 2 * s.get R.SC_BOOT_ENTRY
        wrapBase := s.tp.wide } }) ∧
    (s.get R.DBG_SC_CTRL_HALTRESET ≠ 0 → ∃ t, exec .scResetRelease s = .next t ∧ t.sc.held = false ∧ t.get R.DBG_SC_STAT_HALTED = 1 ∧ t.get R.DBG_SC_STAT_CAUSE = 6 ∧
      t.get R.WDG_STAT_FROZEN = 1)) ∧
  (∀ (s : State) (src : SrcId), s.srcOk src = true → s.get R.SC_CTRL_DIV ≠ 0 → s.get R.SC_CTRL_DIV < 4 →
    (∃ t, exec (.scGo src) s = .next t ∧ t.get R.SC_CTRL_GO = 1 ∧ t.answer = ⟨0, 0⟩ ∧
      (s.sc.boot = 1 → s.get R.DBG_SC_STAT_HALTED = 0 → t.sc.boot = 0 ∧ t.sc.pc = 0x10000000 + 2 * s.get R.SC_BOOT_ENTRY) ∧
      ((s.sc.boot ≠ 1 ∨ s.get R.DBG_SC_STAT_HALTED ≠ 0) → t.sc = s.sc)) ∧
    (src.val ≠ 97 → ∃ t, exec (.scReset src) s = .next t ∧ t.sc.held = true ∧ t.sc.sram = s.sc.sram ∧ t.sc.priv = 3 ∧ t.sc.csr = [] ∧ t.get R.SC_CTRL_GO = 0 ∧
      t.get R.SC_STATUS_RCAUSE = 3 ∧ t.get R.SC_STATUS_RESETS = min (2 ^ 8 - 1) (s.get R.SC_STATUS_RESETS + 1) ∧ t.answer = ⟨0, 0⟩) ∧
    (src.val = 97 → exec (.scReset src) s = .next { s with answer := ⟨0x0D01, 0⟩ })) ∧
  (∀ (s : State) (pc tval : BitVec 32) (cause : Fin 16), (s.scRuns = false → exec (.scSyncTrap pc cause tval) s = .next s) ∧
    (s.scRuns = true → ∃ t, exec (.scSyncTrap pc cause tval) s = .next t ∧ t.csr csrMEPC = pc.toNat / 2 * 2 ∧ t.csr csrMCAUSE = cause.val ∧ t.csr csrMTVAL = tval.toNat ∧
      t.sc.pc = s.csr csrMTVEC / 4 * 4 ∧ t.sc.priv = 3 ∧ t.sc.trapnest = min 15 (s.sc.trapnest + 1) ∧ t.sc.resv = false ∧ t.regs = s.regs ∧ t.sc.sheaf = s.sc.sheaf)) ∧
  (∀ (s : State) (pc : BitVec 32), s.scRuns = true →
    (s.sc.priv ≠ 3 → exec (.scMret pc) s = .next (s.scTrap pc.toNat 2 0x30200073)) ∧
    (s.sc.priv = 3 → s.sc.trapnest ≠ 0 → ∃ t, exec (.scMret pc) s = .next t ∧ t.sc.trapnest = s.sc.trapnest - 1 ∧ t.sc.pc = s.csr csrMEPC ∧
      t.sc.priv = (if bits (s.csr csrMSTATUS) 11 2 = 3 then 3 else 0) ∧ t.regs = s.regs) ∧
    (s.sc.priv = 3 → s.sc.trapnest = 0 → s.get R.IC_STAT_DEPTH ≠ 0 → exec (.scMret pc) s = .next s.icExit)) ∧
  (∀ (s : State) (pc : BitVec 32), s.scRuns = true → s.sc.step = false →
    (s.get R.SC_SLEEP_TARGET = 0 → ∃ t, exec (.scWfi pc) s = .next t ∧ t.get R.SC_STATUS_STATE = scIDLE ∧ t.sc.pc = (pc.toNat + 4) % 2 ^ 32 ∧ OnlyRegs { s with sc := t.sc } t [R.SC_STATUS_STATE]) ∧
    (∀ w : Fin 32, s.get R.SC_SLEEP_TARGET = 1 → s.get (R.IC_WAKE_EN w) ≠ 0 → s.attached = false → s.sc.posted = [] →
      ∃ t, exec (.scWfi pc) s = .next t ∧ t.get R.SC_STATUS_STATE = scSLEEP ∧ t.sc.pc = (pc.toNat + 4) % 2 ^ 32) ∧
    (s.get R.SC_SLEEP_TARGET ≠ 0 → (∀ w : Fin 32, s.get (R.IC_WAKE_EN w) = 0) → ∃ t, exec (.scWfi pc) s = .next t ∧ t.get R.SC_STATUS_STATE = scIDLE)) ∧
  (∀ s : State, s.sc.held = false → s.sc.wake = true →
    (s.get R.SC_STATUS_STATE = scSLEEP → ∃ t, exec .scWake s = .next t ∧ t.get R.SC_STATUS_STATE = scRUN ∧ t.get R.DBG_SC_STAT_EMUL = 0 ∧ t.sc.wake = false ∧ t.sc.pc = s.sc.pc) ∧
    (s.get R.SC_STATUS_STATE = scOFF → ∃ t, exec .scWake s = .next t ∧ t.get R.SC_STATUS_STATE = scRUN ∧ t.get R.SC_STATUS_RCAUSE = 5 ∧ t.sc.held = true ∧ t.sc.sram = [])) ∧
  (∀ (s : State) (pc : BitVec 32), s.scRuns = true → (s.sc.posted = [] → exec (.scFence pc) s = .next { s with sc := { s.sc with pc := (pc.toNat + 4) % 2 ^ 32 } }) ∧
    (s.sc.posted ≠ [] → exec (.scFence pc) s = .next { s with sc := { s.sc with pc := pc.toNat, fence := true } })) ∧
  (∀ (s : State) (pc : BitVec 32) (w : Fin 4) (off : BitVec 28) (size : Fin 3) (sign : Bool) (rd : Fin 64) (up : Option NocUpset), s.scRuns = true →
    (off.toNat % 2 ^ size.val ≠ 0 → exec (.scWindowLoad pc w off size sign (rd, up)) s = .next (s.scTrap pc.toNat 4 (0x40000000 + 0x10000000 * w.val + off.toNat))) ∧
    (off.toNat % 2 ^ size.val = 0 → s.freeTag 97 = none → exec (.scWindowLoad pc w off size sign (rd, up)) s = .next s) ∧
    (∀ tag a (q : NocReq) (z : State), off.toNat % 2 ^ size.val = 0 → s.freeTag 97 = some tag → a = s.winBase w * 2 ^ 28 + off.toNat → q = ⟨s.noc.next, 97, tag, a / 4, a / 4 % 64, false, 0, []⟩ →
      z = State.queuePkt { s with sc := { s.sc with pc := pc.toNat }, noc := { s.noc with next := s.noc.next + 1, outst := s.noc.outst ++ [q] } } ⟨.req q, 0, false, up⟩ →
      exec (.scWindowLoad pc w off size sign (rd, up)) s = .next (State.nocRun { z with sc := { z.sc with
        load := some (s.noc.next, rd.val, 2 ^ size.val, sign, 0x40000000 + 0x10000000 * w.val + off.toNat) } }))) ∧
  (∀ (s : State) (pc data : BitVec 32) (w : Fin 4) (off : BitVec 28) (size : Fin 3) (up : Option NocUpset), s.scRuns = true →
    (size.val < 2 → exec (.scWindowStore pc w off size (data, up)) s = .next
      ((s.raise 0x0D0A 0 (0x40000000 + 0x10000000 * w.val + off.toNat)).scTrap pc.toNat 7 (0x40000000 + 0x10000000 * w.val + off.toNat))) ∧
    (size.val = 2 → off.toNat % 4 ≠ 0 → exec (.scWindowStore pc w off size (data, up)) s = .next (s.scTrap pc.toNat 6 (0x40000000 + 0x10000000 * w.val + off.toNat))) ∧
    (size.val = 2 → off.toNat % 4 = 0 → (8 ≤ s.sc.posted.length ∨ s.freeTag 97 = none) → exec (.scWindowStore pc w off size (data, up)) s = .next s) ∧
    (∀ tag a (q : NocReq) (z : State), size.val = 2 → off.toNat % 4 = 0 → s.sc.posted.length < 8 → s.freeTag 97 = some tag → a = s.winBase w * 2 ^ 28 + off.toNat →
      q = ⟨s.noc.next, 97, tag, a / 4, a / 4 % 64, true, 0, [data.toNat]⟩ →
      z = State.queuePkt { s with noc := { s.noc with next := s.noc.next + 1, outst := s.noc.outst ++ [q] } } ⟨.req q, 0, false, up⟩ →
      exec (.scWindowStore pc w off size (data, up)) s = .next (State.nocRun { z with sc := { z.sc with
        posted := z.sc.posted ++ [s.noc.next], winOut := z.sc.winOut ++ [(s.noc.next, w.val, s.winBase w)], pc := (pc.toNat + 4) % 2 ^ 32 } }))) ∧
  (∀ (s u : State) (pc data : BitVec 32) (addr : BitVec 20) (size : Fin 3) (sign : Bool) (rd : Fin 64) (upset : BitVec 144), s.scRuns = true →
    u = s.setSc { s.sc with sram := SMap.set s.sc.sram 0 (addr.toNat / 16) (SMap.get s.sc.sram 0 (addr.toNat / 16) ^^^ upset.toNat) } →
    (addr.toNat % 2 ^ size.val ≠ 0 → exec (.scSramAccess pc addr 0 size sign rd data upset) s = .next (u.scTrap pc.toNat 4 (0x10000000 + addr.toNat)) ∧
      exec (.scSramAccess pc addr 1 size sign rd data upset) s = .next (u.scTrap pc.toNat 6 (0x10000000 + addr.toNat))) ∧
    (addr.toNat % 2 ^ size.val = 0 →
      (∀ v x, u.sramRow (addr.toNat / 16) = (v, some x) → rd.val ≠ 0 → ∃ t, exec (.scSramAccess pc addr 0 size false rd data upset) s = .next t ∧
        t.xreg rd = bits x (8 * (addr.toNat % 16)) (8 * 2 ^ size.val) ∧ t.sc.pc = (pc.toNat + 4) % 2 ^ 32 ∧ t.sc.sram = v.sc.sram) ∧
      (∀ v, u.sramRow (addr.toNat / 16) = (v, none) → exec (.scSramAccess pc addr 0 size sign rd data upset) s = .next ((v.raise 0x0D12 0 0).scTrap pc.toNat 5 (0x10000000 + addr.toNat))) ∧
      (∀ v, u.sramPut (addr.toNat / 16) ((2 ^ (8 * 2 ^ size.val) - 1) * 2 ^ (8 * (addr.toNat % 16)))
          (data.toNat % 2 ^ (8 * 2 ^ size.val) * 2 ^ (8 * (addr.toNat % 16))) = (v, true) →
        exec (.scSramAccess pc addr 1 size sign rd data upset) s = .next (v.setSc { v.sc with pc := (pc.toNat + 4) % 2 ^ 32 })) ∧
      (∀ v, u.sramPut (addr.toNat / 16) ((2 ^ (8 * 2 ^ size.val) - 1) * 2 ^ (8 * (addr.toNat % 16)))
          (data.toNat % 2 ^ (8 * 2 ^ size.val) * 2 ^ (8 * (addr.toNat % 16))) = (v, false) →
        exec (.scSramAccess pc addr 1 size sign rd data upset) s = .next ((v.raise 0x0D12 0 0).scTrap pc.toNat 7 (0x10000000 + addr.toNat))) ∧
      (∀ v x, u.sramRow (addr.toNat / 16) = (v, some x) → exec (.scSramAccess pc addr 2 size sign rd data upset) s = .next v) ∧
      (s.sc.resv = false → rd.val ≠ 0 → ∃ t, exec (.scSramAccess pc addr 4 size sign rd data upset) s = .next t ∧ t.xreg rd = 1 ∧ t.sc.sram = u.sc.sram))) ∧
  (∀ (s : State) (image : List (BitVec 8)), s.ldState ≠ ldIDLE → exec (.scFlashBootComplete image) s = .next s) ∧
  (∀ (s : State) (image : List (BitVec 8)), s.sc.boot = 2 → s.sc.held = false → s.ldState = ldIDLE → ∃ t, exec (.scFlashBootComplete image) s = .next t ∧
    (∀ body, s.siteImage (image.map (fun (b : BitVec 8) => b.toNat)) = .ok body → t.sc.boot = 0 ∧ t.sc.pc = 0x10000000 + leField (image.map (fun (b : BitVec 8) => b.toNat)) 12 4) ∧
    (∀ c, s.siteImage (image.map (fun (b : BitVec 8) => b.toNat)) = .error c → t.get R.SC_STATUS_BOOTERR = c % 2 ^ 16 ∧ (s.get R.SC_CTRL_GO = 0 → t.sc.boot = 1)))

/-- O47. The interrupt controller, timers and watchdog (R580 to R585, R588, R590): a pulse pends a source of rising sense; SETPEND and CLRPEND act on one that
is not a level; the chosen source is claimed and the interrupted context stacked; a spilled frame is refilled; a timer is armed at its target and
disarmed after 64 ticks; a kick reloads COUNT. The model's own readings and choices that it rests on: assumptions 127, 128, 129. Commands that this
statement shows to complete with their own effect: icSourceEvent, icSetpend, icClrpend, icDoorbell, icDeliver, icSheafRefill, tmArm, tmDisarm,
wdgKick. -/
def Obligations.InterruptsAndTimers : Prop :=
  (∀ (s : State) (n : Fin 384) (level : Bool), (icExists n = false ∨ icPulse n = true) → exec (.icSourceEvent n level) s = .next s) ∧
  (∀ (s : State) (n : Fin 384) (level : Bool), icExists n = true → icPulse n = false → s.sc.held = false → s.scState < 2 →
    ∃ t, exec (.icSourceEvent n level) s = .next t ∧ SMap.get t.sc.level 0 n = s.icRaw n level ∧
      (s.get (R.IC_SRC_SENSE n) = 0 → s.get (R.IC_SRC_ACTIVE n) = 0 → t.get (R.IC_SRC_IP n) = (if s.icRaw n level = 1 then 1 else 0)) ∧
      (s.get (R.IC_SRC_SENSE n) = 2 → SMap.get s.sc.level 0 n = 0 → s.icRaw n level = 1 → t.get (R.IC_SRC_IP n) = 1)) ∧
  (∀ (s : State) (src : SrcId) (n : Fin 384), s.srcOk src = true → icExists n = true → s.get (R.IC_SRC_PRIO n) < 16 → s.get (R.IC_SRC_IE n) < 2 →
    2 ≤ s.get (R.IC_SRC_SENSE n) → s.get (R.IC_SRC_SENSE n) < 5 →
    (∃ t, exec (.icSetpend src n) s = .next t ∧ t.get (R.IC_SRC_IP n) = 1 ∧ t.answer = ⟨0, 0⟩ ∧ t.get (R.IC_SRC_PRIO n) = s.get (R.IC_SRC_PRIO n) ∧ t.get (R.IC_SRC_SENSE n) = s.get (R.IC_SRC_SENSE n) ∧
      t.get (R.IC_SRC_IE n) = s.get (R.IC_SRC_IE n)) ∧
    (∃ t, exec (.icClrpend src n) s = .next t ∧ t.get (R.IC_SRC_IP n) = 0 ∧ t.answer = ⟨0, 0⟩ ∧ t.get (R.IC_SRC_PRIO n) = s.get (R.IC_SRC_PRIO n))) ∧
  (∀ (s : State) (src : SrcId) (i : Instr), s.srcOk src = false → (∃ n, i = .icSetpend src n) ∨ (∃ n, i = .icClrpend src n) ∨ (∃ w m, i = .icDoorbell src w m) ∨
      (∃ n p, i = .tmArm src n p) ∨ (∃ n, i = .tmDisarm src n) ∨ (∃ key, i = .wdgKick src key) → exec i s = .next { s with answer := ⟨0x0D01, 0⟩ }) ∧
  (∀ (s : State) (src : SrcId) (w : Fin 4), s.srcOk src = true → exec (.icDoorbell src w 0) s = .next { s with answer := ⟨0, 0⟩ } ∧
    (s.sc.held = false → s.scState < 2 → s.get (R.IC_SRC_SENSE (128 + 32 * w.val)) = 2 → SMap.get s.sc.level 0 (128 + 32 * w.val) = 0 →
      ∃ t, exec (.icDoorbell src w 1) s = .next t ∧ t.get (R.IC_SRC_IP (128 + 32 * w.val)) = 1 ∧ t.answer = ⟨0, 0⟩)) ∧
  (∀ (s : State) (pc : BitVec 32), s.sc.held = false → s.scState ≤ scIDLE → s.get R.DBG_SC_STAT_EMUL = 0 → s.get R.DBG_SC_STAT_HALTED = 0 → s.sc.boot = 0 → s.sc.step = false →
    (s.icBest (s.get R.IC_STAT_LEVEL) = none → exec (.icDeliver pc) s = .next s) ∧
    (∀ n, s.icBest (s.get R.IC_STAT_LEVEL) = some n → n < 384 → s.sc.sheaf.length < 4 → ∃ t, exec (.icDeliver pc) s = .next t ∧ t.get (R.IC_SRC_ACTIVE n) = 1 ∧
      t.get (R.IC_SRC_IP n) = 0 ∧ t.get R.IC_STAT_SRC = n ∧ t.get R.IC_STAT_LEVEL = s.get (R.IC_SRC_PRIO n) % 16 ∧ t.get R.IC_STAT_DEPTH = min (2 ^ 4 - 1) (s.get R.IC_STAT_DEPTH + 1) ∧
      t.sc.sheaf = s.sc.sheaf ++ [(s.icInterrupted pc.toNat).icFrame] ∧ t.sc.load = none ∧ t.sc.fence = false ∧ t.sc.priv = 3 ∧ t.sc.trapnest = 0 ∧ t.csr csrMCAUSE = 0x8000000B)) ∧
  (∀ s : State, ((s.sc.spilled = 0 ∨ 4 ≤ s.sc.sheaf.length ∨ scIDLE < s.scState) → exec .icSheafRefill s = .next s) ∧
    (s.scState ≤ scIDLE → s.sc.spilled ≠ 0 → s.sc.sheaf.length < 4 → ∃ t, exec .icSheafRefill s = .next t ∧ t.sc.sheaf.length = s.sc.sheaf.length + 1 ∧ t.sc.spilled = s.sc.spilled - 1 ∧
      t.get R.IC_SP_ADDR = (s.get R.IC_SP_ADDR + 80) % 2 ^ 32)) ∧
  (∀ (s : State) (src : SrcId) (n : Fin 8) (p : Bool) (vw : Nat), vw = s.timeTick.time48 78 → s.srcOk src = true →
    (s.get (R.TM_CTRL_ARM n) = 0 → (s.mode0 = mRUN ∨ s.mode0 = mSAFE) → (p = true → 100 * 2 ^ 32 ≤ s.get (R.TM_PERIOD_PERIOD n) ∧ s.get (R.TM_PERIOD_PERIOD n) < 2 ^ 63) →
      (s.get (R.TM_TARGET_TARGET n) / 65536 + 2 ^ 32 - vw / 65536) % 2 ^ 32 ≠ 2 ^ 31 → 20 * 65536 ≤ signed 48 (s.get (R.TM_TARGET_TARGET n) + 2 ^ 48 - vw) →
      ∃ t, exec (.tmArm src n p) s = .next t ∧ t.get (R.TM_CTRL_ARM n) = 1 ∧ t.get (R.TM_CTRL_PERIODIC n) = ofFlag p ∧ t.tmPending n = s.get (R.TM_TARGET_TARGET n) * 65536 % 2 ^ 64 ∧
        t.answer = ⟨0, 0⟩) ∧
    (s.get (R.TM_CTRL_ARM n) ≠ 0 → exec (.tmArm src n p) s = .next { s with answer := ⟨0x0D04, 0⟩ }) ∧
    (s.get (R.TM_CTRL_ARM n) = 0 → p = false → signed 48 (s.get (R.TM_TARGET_TARGET n) + 2 ^ 48 - vw) < 20 * 65536 → exec (.tmArm src n p) s = .next { s with answer := ⟨0x0D03, 0⟩ }) ∧
    (s.get (R.TM_CTRL_ARM n) ≠ 0 → ∃ t, exec (.tmDisarm src n) s = .next t ∧ SMap.get t.sc.tmCut 0 n = s.tp.tick + 65 ∧ t.get (R.TM_CTRL_ARM n) = s.get (R.TM_CTRL_ARM n) ∧ t.answer = ⟨0, 0⟩)) ∧
  (∀ (s : State) (src : SrcId) (key : BitVec 16), s.srcOk src = true →
    (key.toNat = 0x4B1C → ∃ t, exec (.wdgKick src key) s = .next t ∧ t.get R.WDG_STAT_COUNT = s.get R.WDG_CTRL_LOAD % 2 ^ 32 ∧ t.answer = ⟨0, 0⟩ ∧
      OnlyRegs s t [R.WDG_STAT_COUNT, R.WDG_STAT_WARN]) ∧
    (key.toNat ≠ 0x4B1C → exec (.wdgKick src key) s = .next { s with answer := ⟨0x0D05, 0⟩ }))

/-- O48. Serial ports and the site event queue (R592 to R597): settings in range are taken while no transaction runs; SP_CMD takes its bytes and opens a
result, which the transaction's end posts; bytes pass through the FIFOs; a pop of SC_EVT_POP takes the oldest event. The model's own readings and
choices that it rests on: assumption 130. Commands that this statement shows to complete with their own effect: spCfgWrite, spCmd, spTransactionDone,
spDataPush, spDataPop, uartRxByte, scEvtPop, uartTxByte. -/
def Obligations.SerialPortsAndSiteEvents : Prop :=
  (∀ (s : State) (src : SrcId) (k : Fin 4) (data : BitVec 32),
    (s.srcOk src = false → ∀ i byte, (i = .spCfgWrite src k data ∨ i = .spCmd src k data ∨ i = .spDataPush src k byte) →
      ∃ t, exec i s = .next t ∧ Posted s t (R.SP_RESULT_STATUS k) 0x0D01 ∧ t.answer = ⟨0, 0⟩ ∧ OnlyRegs s t (resFlds (R.SP_RESULT_STATUS k))) ∧
    (s.srcOk src = true → bits data.toNat 0 2 = 1 → bits data.toNat 3 2 ≠ 3 → 16 ≤ bits data.toNat 16 16 → s.spBusy k = false → s.get (R.SP_CFG_MODE k) ≠ 0 →
      ∃ t, exec (.spCfgWrite src k data) s = .next t ∧ t.get (R.SP_CFG_MODE k) = 1 ∧ t.get (R.SP_CFG_DIV k) = bits data.toNat 16 16 ∧ t.get (R.SP_CFG_PARITY k) = bits data.toNat 3 2 ∧ t.answer = ⟨0, 0⟩) ∧
    (s.srcOk src = true → (bits data.toNat 3 2 = 3 ∨ bits data.toNat 0 2 = 1 ∧ bits data.toNat 16 16 < 16 ∨ bits data.toNat 0 2 = 3 ∧ bits data.toNat 16 16 < 100) →
      ∃ t, exec (.spCfgWrite src k data) s = .next t ∧ Posted s t (R.SP_RESULT_STATUS k) 0x0D02 ∧ OnlyRegs s t (resFlds (R.SP_RESULT_STATUS k)))) ∧
  (∀ (s : State) (src : SrcId) (k : Fin 4) (data : BitVec 32), s.srcOk src = true →
    (s.mode0 = mRUN → bits data.toNat 0 5 ≤ 16 → bits data.toNat 5 5 ≤ 16 → 2 ≤ s.get (R.SP_CFG_MODE k) → s.spBusy k = false → bits data.toNat 0 5 ≤ (s.spTx k).length →
      bits data.toNat 5 5 + (s.spRx k).length ≤ 16 →
      ∃ t, exec (.spCmd src k data) s = .next t ∧ t.spTx k = (s.spTx k).drop (bits data.toNat 0 5) ∧ t.get (R.SP_RESULT_VALID k) = 0 ∧ t.answer = ⟨0, 0⟩ ∧
        SMap.get t.sc.spRun none k = some ⟨(s.spTx k).take (bits data.toNat 0 5), bits data.toNat 5 5, bits data.toNat 10 7, decide (bit data.toNat 17 = 1)⟩) ∧
    (s.mode0 ≠ mRUN → ∃ t, exec (.spCmd src k data) s = .next t ∧ Posted s t (R.SP_RESULT_STATUS k) 0x0D1C)) ∧
  (∀ (s : State) (k : Fin 4) (e : Fin 4) (rx : List (BitVec 8)), (SMap.get s.sc.spRun none k = none → exec (.spTransactionDone k e rx) s = .next s) ∧
    (∀ x, SMap.get s.sc.spRun none k = some x → ∃ t, exec (.spTransactionDone k e rx) s = .next t ∧ SMap.get t.sc.spRun none k = none ∧
      (s.get (R.SP_CFG_MODE k) ≠ 3 → t.out = [.bytes k (x.out ++ List.replicate (x.rlen - x.out.length) 0)] ∧ SMap.get t.sc.csLow false k = x.keep ∧ Posted s t (R.SP_RESULT_STATUS k) 0 ∧ t.spRx k = s.spRx k ++ ((rx.map (fun (b : BitVec 8) => b.toNat)) ++ List.replicate x.rlen 0).take x.rlen) ∧
      (s.get (R.SP_CFG_MODE k) = 3 → Posted s t (R.SP_RESULT_STATUS k) (if e = 0 then 0 else 0x0D17 + e.val) ∧ (e = 0 → t.out = [.bytes k (x.wire true)]) ∧ (e ≠ 0 → t.spRx k = s.spRx k)))) ∧
  (∀ (s : State) (src : SrcId) (k : Fin 4) (byte : BitVec 8), (s.srcOk src = true → (s.spTx k).length < 16 → ∃ t, exec (.spDataPush src k byte) s = .next t ∧
      t.spTx k = s.spTx k ++ [byte.toNat] ∧ t.get (R.SP_RESULT_TXFILL k) = (s.spTx k).length + 1 ∧ t.answer = ⟨0, 0⟩) ∧
    (s.srcOk src = true → 16 ≤ (s.spTx k).length → ∃ t, exec (.spDataPush src k byte) s = .next t ∧ Posted s t (R.SP_RESULT_STATUS k) 0x0D07 ∧ t.sc = s.sc)) ∧
  (∀ (s : State) (k : Fin 4), (s.spRx k = [] → exec (.spDataPop k) s = .next { s with answer := ⟨0, 0⟩ }) ∧
    (∀ w l, s.spRx k = w :: l → ∃ t, exec (.spDataPop k) s = .next t ∧ t.answer = ⟨0, w + 2 ^ 8⟩ ∧ t.spRx k = l)) ∧
  (∀ (s : State) (k : Fin 4) (byte : BitVec 8) (err : Bool), s.get (R.SP_CFG_MODE k) = 1 → s.mode0 = mRUN →
    ((s.spRx k).length < 16 → ∃ t, exec (.uartRxByte k byte err) s = .next t ∧ t.spRx k = s.spRx k ++ [byte.toNat + ofFlag err * 2 ^ 9]) ∧
    (16 ≤ (s.spRx k).length → exec (.uartRxByte k byte err) s = .next (s.raise 0x0D33 0 0)) ∧
    (s.spTx k = [] → exec (.uartTxByte k) s = .next s) ∧
    (∀ w l, s.spTx k = w :: l → ∃ t, exec (.uartTxByte k) s = .next t ∧ t.spTx k = l ∧ t.out = [.bytes k [w]])) ∧
  (∀ (s : State), (s.siteEvts = [] → exec .scEvtPop s = .next { s with answer := ⟨0, 0⟩, half := SMap.set s.half none R.SC_EVT_POP_CODE.addr (some 0) }) ∧
    (∀ w l, s.siteEvts = w :: l → exec .scEvtPop s = .next { s with
      siteEvts := l
      answer := ⟨0, w⟩
      half := SMap.set s.half none R.SC_EVT_POP_CODE.addr (some (w / 2 ^ 32)) }))

/-- O49. Sessions of the dictionary (R607 to R611, R619, R622): a HELLO on the management port opens the lowest free slot of 3 to 15, at once at level 0 and
behind a challenge at a level with a key; a locked level, a level without a key and a HELLO that finds no slot are refused; an AUTH opens the session
only where its proof is right and counts a failure otherwise; timeouts free their slot alone; a message is ignored while the dictionary is closed, and
counted where no room is left. The model's own readings and choices that it rests on: assumptions 3, 136, 137, 138, 140. Commands that this statement
shows to complete with their own effect: agzerHello, agzerAuth, agzerRead, agzerWrite, agzerXferStart, agzerXferData, agzerClose, sessionIdleTimeout,
authTimeout, levelLockoutExpiry. -/
def Obligations.DictionarySessions : Prop :=
  (∀ (s : State) (p : AgPath) (msg : List (BitVec 8)) (c : Instr) (kind : Nat),
    (c = .agzerHello p msg ∧ kind = 0x01 ∨ c = .agzerAuth p msg ∧ kind = 0x03 ∨ c = .agzerRead p msg ∧ kind = 0x10 ∨ c = .agzerWrite p msg ∧ kind = 0x12 ∨
      c = .agzerXferStart p msg ∧ kind = 0x20 ∨ c = .agzerXferData p msg ∧ kind = 0x22 ∨ c = .agzerClose p msg ∧ kind = 0x30) →
    (s.dictOpen = false → exec c s = .next s) ∧
    (s.dictOpen = true → s.romOnly = false → s.nv 0x1010 3 0 ≠ 0 → p.kind ≠ 2 → agKind msg = kind →
      (p.full = true → exec c s = .next { s.mgtUp with dict := { s.mgtUp.dict with mgtDrop := satAdd (2 ^ 32 - 1) s.dict.mgtDrop 1 } }) ∧
      (p.full = false → msg.length < 16 → exec c s = .next { s.mgtUp with out := [.bytes (agSource p).path (agBytes 0x3F 0 0 0x050E [] none)] }))) ∧
  (∀ (s : State) (p : AgPath) (msg : List (BitVec 8)) (m : AgMsg) (i : Nat), p.kind = 0 → p.full = false → s.dictOpen = true → s.romOnly = false → s.nv 0x1010 3 0 ≠ 0 →
    agParse (msg.map (fun (b : BitVec 8) => b.toNat)) = some m → m.kind = 0x01 → m.body.length = 17 → m.tagged = false → m.all = false → m.sid = 0 → m.seq = 0 →
    3 ≤ i → i < 16 → (s.sess i).state = 0 → (∀ j, 3 ≤ j → j < i → (s.sess j).state ≠ 0) →
    (m.body.headD 0 = 0 → ∃ t, exec (.agzerHello p msg) s = .next t ∧ (t.sess i).state = 2 ∧ (t.sess i).level = 0 ∧ (t.sess i).path = 3 ∧ (t.sess i).addr = (agSource p).addr ∧
      (t.sess i).sid % 16 = (1 + i) % 16 ∧ t.out = [.bytes 3 (agBytes 0x04 (t.sess i).sid 0 0 (netBytes 2 (t.sess i).sid ++ [0] ++ netBytes 2 (s.nv 0x1020 3 60)) none)] ∧
      t.answer = s.answer ∧ ∀ j, j ≠ i → t.sess j = s.sess j) ∧
    (∀ level, m.body.headD 0 = level → level = 1 ∨ level = 2 ∨ level = 3 →
      (s.isLocked level = true → exec (.agzerHello p msg) s = .next { s.mgtUp with out := [.bytes 3 (agBytes 0x3F 0 0 0x050B [] none)] }) ∧
      (s.isLocked level = false → s.sessKey level = none → exec (.agzerHello p msg) s = .next { s.mgtUp with out := [.bytes 3 (agBytes 0x3F 0 0 0x0513 [] none)] }) ∧
      (s.isLocked level = false → s.sessKey level ≠ none → ∃ t, exec (.agzerHello p msg) s = .next t ∧ (t.sess i).state = 1 ∧ (t.sess i).level = level ∧ (t.sess i).skey = (s.sessKey level).getD 0 ∧
        (t.sess i).nc = beNum (m.body.drop 1) ∧ (t.sess i).nd < 2 ^ 128 ∧ t.out = [.bytes 3 (agBytes 0x02 (t.sess i).sid 0 0 (netBytes 2 (t.sess i).sid ++ netBytes 16 (t.sess i).nd) none)] ∧
        t.regs = s.regs ∧ t.answer = s.answer ∧ ∀ j, j ≠ i → t.sess j = s.sess j))) ∧
  (∀ (s : State) (p : AgPath) (msg : List (BitVec 8)) (m : AgMsg), p.kind = 0 → p.full = false → s.dictOpen = true → s.romOnly = false → s.nv 0x1010 3 0 ≠ 0 →
    agParse (msg.map (fun (b : BitVec 8) => b.toNat)) = some m →
    (m.kind = 0x01 → m.body.length = 17 → m.body.headD 0 = 0 → m.tagged = false → m.all = false → m.sid = 0 → m.seq = 0 → (∀ j, 3 ≤ j → j < 16 → (s.sess j).state ≠ 0) →
      exec (.agzerHello p msg) s = .next { s.mgtUp with out := [.bytes 3 (agBytes 0x3F 0 0 0x050D [] none)] }) ∧
    (m.kind = 0x03 → m.body.length = 32 → m.tagged = false → m.all = false → m.seq = 0 →
      (s.sessFind (agSource p) m.sid = none → exec (.agzerAuth p msg) s = .next { s.mgtUp with out := [.bytes 3 (agBytes 0x3F m.sid 0 0x0508 [] none)] }) ∧
      (∀ i x, s.sessFind (agSource p) m.sid = some i → x = s.sess i → x.state = 1 → ∃ t, exec (.agzerAuth p msg) s = .next t ∧ t.answer = s.answer ∧
        (∀ j, j ≠ i → t.sess j = s.sess j) ∧
        if beNum m.body = Config.hmac256 x.skey (asciiBytes "AGZA" ++ netBytes 16 x.nd ++ netBytes 16 x.nc ++ [x.level] ++ netBytes 2 x.sid) then
          t.sess i = { x with state := 2, seen := s.nowFull, skey := Config.hmac256 x.skey (asciiBytes "AGZK" ++ netBytes 16 x.nc ++ netBytes 16 x.nd) }
        else t.sess i = x ∧ t.dict.authFails = satAdd (2 ^ 32 - 1) s.dict.authFails 1 ∧ t.out = [.bytes 3 (agBytes 0x3F m.sid 0 0x050A [] none)]))) ∧
  (∀ (s : State) (slot : Fin 16),
    ((s.sess slot).state = 2 → ∃ t, exec (.sessionIdleTimeout slot) s = .next t ∧ t.sess slot = Session.free ∧ (∀ j : Fin 16, j ≠ slot → t.sess j = s.sess j) ∧ t.answer = s.answer) ∧
    ((s.sess slot).state ≠ 2 → exec (.sessionIdleTimeout slot) s = .next s) ∧
    ((s.sess slot).state = 1 → ∃ t, exec (.authTimeout slot) s = .next t ∧ t.sess slot = Session.free ∧ (∀ j : Fin 16, j ≠ slot → t.sess j = s.sess j) ∧ t.regs = s.regs) ∧
    ((s.sess slot).state ≠ 1 → exec (.authTimeout slot) s = .next s)) ∧
  (∀ (s : State) (level : Fin 4), ∃ t, exec (.levelLockoutExpiry level) s = .next t ∧ t.isLocked level = false ∧ (∀ l, l ≠ level.val → t.isLocked l = s.isLocked l) ∧
    t = { s with dict := { s.dict with locked := t.dict.locked } })

/-- O50. Requests of an open session (R612 to R618): the next SEQ executes the request, whose answer carries it and is kept; the same SEQ returns the kept
answer and executes nothing; any other is refused with 0x0507; a message whose tag fails is dropped and counted; CLOSE frees the slot. A WRITE with
ALL of which one item fails its checks writes nothing, and a transfer takes only the piece that continues it. The model's own readings and choices
that it rests on: assumptions 133, 134, 135, 137, 139. Commands that this statement shows to complete with their own effect: agzerRead, agzerWrite,
agzerXferStart, agzerXferData, agzerClose. -/
def Obligations.DictionaryRequests : Prop :=
  (∀ (s : State) (p : AgPath) (msg : List (BitVec 8)) (m : AgMsg) (c : Instr) (i : Nat) (x : Session),
    (c = .agzerRead p msg ∧ m.kind = 0x10 ∨ c = .agzerWrite p msg ∧ m.kind = 0x12 ∨ c = .agzerXferStart p msg ∧ m.kind = 0x20 ∨ c = .agzerXferData p msg ∧ m.kind = 0x22 ∨
      c = .agzerClose p msg ∧ m.kind = 0x30) →
    p.kind = 0 → p.full = false → s.dictOpen = true → s.romOnly = false → s.nv 0x1010 3 0 ≠ 0 → agParse (msg.map (fun (b : BitVec 8) => b.toNat)) = some m →
    s.sessFind (agSource p) m.sid = some i → x = s.sess i → x.state = 2 →
    (x.level = 0 → m.tagged = false → agLayout m = true →
      (m.seq = (x.lastSeq + 1) % 2 ^ 32 → ∃ t r, exec c s = .next t ∧ r = (s.mgtUp.setSess i { x with seen := s.nowFull }).agExec ⟨false, 0⟩ i m ∧ t.answer = s.answer ∧
        t.out = [.bytes 3 (agBytes r.2.1 x.sid m.seq r.2.2.1 r.2.2.2 none)] ∧ (m.kind = 0x30 → t.sess i = Session.free) ∧
        (m.kind ≠ 0x30 → (r.1.sess i).state ≠ 0 → t.sess i = { r.1.sess i with lastSeq := m.seq, stored := agBytes r.2.1 x.sid m.seq r.2.2.1 r.2.2.2 none })) ∧
      (m.seq = x.lastSeq → x.stored ≠ [] → exec c s = .next { s.mgtUp.setSess i { x with seen := s.nowFull } with out := [.bytes 3 x.stored] }) ∧
      (m.seq ≠ x.lastSeq → m.seq ≠ (x.lastSeq + 1) % 2 ^ 32 →
        exec c s = .next { s.mgtUp.setSess i { x with seen := s.nowFull } with out := [.bytes 3 (agBytes 0x3F x.sid m.seq 0x0507 [] none)] })) ∧
    (x.level ≠ 0 → m.tagged = false → ∃ t, exec c s = .next t ∧ t.out = [] ∧ t.answer = s.answer ∧ t.dict = { s.mgtUp.dict with authFails := satAdd (2 ^ 32 - 1) s.dict.authFails 1 })) ∧
  (∀ (s : State) (c : DCtx) (l : List AgItem) (i : AgItem), i ∈ l → s.agCheck c i ≠ 0 →
    s.agWriteAll c true l = (s, l.map (fun j => if s.agCheck c j = 0 then 0x0515 else s.agCheck c j))) ∧
  (∀ (s : State) (c : DCtx) (i offset : Nat) (data : List Nat), (s.sess i).xfer = none → s.xferData c i offset data = (s, .error 0x0509)) ∧
  (∀ (s : State) (c : DCtx) (i offset : Nat) (data : List Nat) (x : Xfer), (s.sess i).xfer = some x →
    (offset ≠ x.moved → s.xferData c i offset data = (s, .error 0x0509)) ∧
    (offset = x.moved → x.write = true → x.total < x.moved + data.length → data ≠ [] → s.xferData c i offset data = (s, .error 0x0505)) ∧
    (offset = x.moved → x.write = true → x.index ≠ 0x4000 → x.index ≠ 0x8015 → data ≠ [] → x.moved + data.length < x.total →
      s.xferData c i offset data = (s.setSess i { s.sess i with xfer := some { x with moved := x.moved + data.length, buf := x.buf ++ data } }, .ok [])))

/-- O51. The management port's answers, the mailbox, the dictionary store and the user table (R606, R619, R620, R626, R628): an ARP request and an echo request
for MGT_IP are answered; the doorbell executes the request in MB_REQ and posts its response; a store write makes every due entry's value non-volatile;
DECLARE takes a table only where every record stands, and each refusal posts its code. The model's own readings and choices that it rests on:
assumptions 8, 139, 140, 141, 142. Commands that this statement shows to complete with their own effect: mgtArpRequest, mgtIcmpEcho, mbDoorbell,
dictStoreWrite, uoDeclare, uoClear. -/
def Obligations.ManagementPortMailboxAndUserTable : Prop :=
  (∀ (s : State) (mac : BitVec 48) (sender target : BitVec 32) (echo : List (BitVec 8)) (full : Bool),
    ((s.dictOpen = false ∨ s.romOnly = true) → exec (.mgtArpRequest mac sender target full) s = .next s ∧ exec (.mgtIcmpEcho mac sender target echo full) s = .next s) ∧
    (s.dictOpen = true → s.romOnly = false →
      (full = true → exec (.mgtArpRequest mac sender target full) s = .next { s.mgtUp with dict := { s.mgtUp.dict with mgtDrop := satAdd (2 ^ 32 - 1) s.dict.mgtDrop 1 } } ∧
        exec (.mgtIcmpEcho mac sender target echo full) s = .next { s.mgtUp with dict := { s.mgtUp.dict with mgtDrop := satAdd (2 ^ 32 - 1) s.dict.mgtDrop 1 } }) ∧
      (full = false → target.toNat = s.nv 0x1010 3 0 → target ≠ 0 →
        (∃ b, exec (.mgtArpRequest mac sender target full) s = .next { s.mgtUp with out := [.bytes 3 b] } ∧ b.take 6 = netBytes 6 mac.toNat ∧ b.drop 22 =
          netBytes 6 (Config.partConst 1) ++ netBytes 4 target.toNat ++ netBytes 6 mac.toNat ++ netBytes 4 sender.toNat) ∧
        (echo.length ≤ 1476 → exec (.mgtIcmpEcho mac sender target echo full) s =
          .next { s.mgtUp with out := [.bytes 3 (netBytes 6 mac.toNat ++ netBytes 4 sender.toNat ++ [0, 0] ++ echo.map (fun (b : BitVec 8) => b.toNat))] })) ∧
      (full = false → target.toNat ≠ s.nv 0x1010 3 0 → exec (.mgtArpRequest mac sender target full) s = .next s.mgtUp ∧ exec (.mgtIcmpEcho mac sender target echo full) s = .next s.mgtUp))) ∧
  (∀ (s : State) (data : BitVec 32), (s.dictOpen = false → exec (.mbDoorbell data) s = .next s) ∧
    (s.dictOpen = true → (bits data.toNat 0 11 = 0 → exec (.mbDoorbell data) s = .next s) ∧
      ((0 < bits data.toNat 0 11 ∧ bits data.toNat 0 11 < 16 ∨ 1472 < bits data.toNat 0 11) →
        ∃ t, exec (.mbDoorbell data) s = .next t ∧ Posted s t R.MB_RESULT_STATUS 0x050E ∧ OnlyRegs s t (resFlds R.MB_RESULT_STATUS)) ∧
      (16 ≤ bits data.toNat 0 11 → bits data.toNat 0 11 ≤ 1472 → ∃ t r, exec (.mbDoorbell data) s = .next t ∧
        r = s.agMessage ⟨0, (0, 0, 0)⟩ ((List.range (bits data.toNat 0 11)).map (fun k => SMap.get s.dict.mbReq 0 k)) ∧ t.dict = { r.1.dict with mbRsp := r.2.getD [] } ∧
        t.get R.MB_STATUS_RLEN = (r.2.getD []).length % 2 ^ R.MB_STATUS_RLEN.w ∧ t.get R.MB_STATUS_DONE = 1 ∧ t.get R.MB_STATUS_BUSY = 0 ∧ t.get R.MB_RESULT_STATUS = 0 ∧
        t.answer = s.answer))) ∧
  (∀ (s : State) (fail : Bool), (s.dict.due = [] → exec (.dictStoreWrite fail) s = .next s) ∧
    (s.dict.due ≠ [] → (∃ t, exec (.dictStoreWrite true) s = .next t ∧ t.dict = s.dict ∧ OnlyRegsEv s t []) ∧
      ∃ t, exec (.dictStoreWrite false) s = .next t ∧ t.dict = { s.dict with store := t.dict.store, due := [] } ∧ (∀ k, k ∈ s.dict.due → SMap.get t.dict.store none k = s.persistNow k) ∧
        ∀ k, k ∉ s.dict.due → SMap.get t.dict.store none k = SMap.get s.dict.store none k)) ∧
  (∀ (s : State) (src : SrcId) (count : BitVec 11),
    (∀ code, ((s.srcOk src = false ∨ src.val = 65) ∧ code = 0x0517 ∨ s.srcOk src = true ∧ src.val ≠ 65 ∧ 1024 < count.toNat ∧ code = 0x0511 ∨
        s.srcOk src = true ∧ src.val ≠ 65 ∧ count.toNat = 0 ∧ code = 0) →
      ∃ t, exec (.uoDeclare src count) s = .next t ∧ Posted s t R.UO_RESULT_STATUS code ∧ t.get R.UO_RESULT_ENTRY = 0 ∧ OnlyRegs s t (R.UO_RESULT_ENTRY :: resFlds R.UO_RESULT_STATUS)) ∧
    (s.srcOk src = true → src.val ≠ 65 → 0 < count.toNat → count.toNat ≤ 1024 → ∀ u code l, s.nocWords 65 (s.get R.UO_BASE_ADDR) (8 * count.toNat) = (u, code, l) →
      ∃ t, exec (.uoDeclare src count) s = .next t ∧ (code ≠ 0 → t.get R.UO_RESULT_STATUS = 0x0516 ∧ t.dict.user = u.dict.user) ∧
        (code = 0 → ∀ recs, recs = (List.range count.toNat).map (fun k => uoRecord ((l.drop (8 * k)).take 8)) →
          (∀ k, uoFirstBad recs = some k → t.get R.UO_RESULT_STATUS = 0x0511 ∧ t.get R.UO_RESULT_ENTRY = k % 2 ^ R.UO_RESULT_ENTRY.w ∧ t.dict.user = u.dict.user) ∧
          (uoFirstBad recs = none → t.get R.UO_RESULT_STATUS = 0 ∧ t.dict.user = recs.filterMap id))) ∧
    (s.srcOk src = true → src.val ≠ 65 → ∃ t, exec (.uoClear src count) s = .next t ∧ t.dict.user = [] ∧ Posted s t R.UO_RESULT_STATUS 0 ∧ t.answer = ⟨0, 0⟩ ∧
      RegsKept s t (R.UO_RESULT_ENTRY :: resFlds R.UO_RESULT_STATUS)) ∧
    (src.val = 65 → ∃ t, exec (.uoClear src count) s = .next t ∧ t.dict.user = s.dict.user ∧ Posted s t R.UO_RESULT_STATUS 0x0517))

/-- O52. IDCODE reads 0x1904833D: version 1, part 0x9048, manufacturer code 0x19E, and 1 in bit 0 (R632). WAKE in STANDBY is the wake of cause 0x03, and in
every other mode it acts as BYPASS (R634); in OFF there is no TAP. Commands that this statement shows to complete with their own effect: tapIdcode,
tapWake, tapBypass. -/
def Obligations.IdcodeAndTapWake : Prop :=
  (∀ s : State, s.mode0 ≠ mOFF → s.mode0 ≤ mSAFE → ∀ v, v = 0x1904833D → bits v 28 4 = 1 ∧ bits v 12 16 = 0x9048 ∧ bits v 1 11 = 0x19E ∧ bit v 0 = 1 ∧
    exec .tapIdcode s = .next { s with out := [.word 40 s.tapIrWord, .word 40 v], tap := { s.tap with ir := 0x02, outcome := 0, pins := none } }) ∧
  (∀ s : State, s.mode0 = mSTANDBY → s.coreRails = true → s.mode.trans = none → ∃ t, exec .tapWake s = .next t ∧ t.mode = { s.mode with trans := some ⟨0x03, mBOOT, 0⟩ } ∧
    t.get R.DEV_MODE_BUSY = 1 ∧ RegsKept s t [R.DEV_MODE_BUSY]) ∧
  (∀ (s : State) (code : BitVec 8), s.mode0 ≠ mOFF → s.mode0 ≠ mSTANDBY → s.mode0 ≤ mSAFE → tapNeed code.toNat = none → ∃ t u, exec .tapWake s = .next t ∧ exec (.tapBypass code) s = .next u ∧
    t.tap.ir = 0xFF ∧ t.tap.ir = u.tap.ir ∧ t.tap.pins = u.tap.pins ∧ t.tap.pins = none ∧ t.out = u.out ∧ t = { s with out := t.out, tap := t.tap })

/-- O53. The test access port (R630 to R635): a load returns the authorization and the last outcome, and an instruction beyond its authorization or mode acts
as BYPASS with its code in TAPSTAT; an accepted one has its scan: the boundary register, the IDCODE, TAPSTAT, the wake, dictionary bytes, or stream
bits; a reset loads IDCODE and frees the pins. While the device is OFF there is no TAP. The model's own readings and choices that it rests on:
assumptions 139, 144, 145, 151. Commands that this statement shows to complete with their own effect: tapReset, tapExtest, tapSamplePreload,
tapIdcode, tapClamp, tapHighz, tapExtestPulse, tapExtestTrain, tapAuthUpdate, dapAccess, tapAgzer, tapCfgIn, tapTapstat, tapWake, tapBypass. -/
def Obligations.TestAccessPort : Prop :=
  (∀ (s : State) (i : Instr) (data cap : BitVec 1146) (code b : BitVec 8) (x : Bool) (bits : List Bool) (w : Word64) (a : NocAddr) (op : BitVec 3) (proof : BitVec 256) (lv : BitVec 2) (up : Option NocUpset),
    s.mode0 = mOFF → i ∈ [.tapReset x, .tapExtest data, .tapSamplePreload cap data, .tapIdcode, .tapClamp, .tapHighz, .tapExtestPulse data, .tapExtestTrain data, .tapBypass code, .tapWake,
      .tapTapstat, .tapAuthUpdate proof lv x, .dapAccess (w, up) a op, .tapAgzer x b, .tapCfgIn bits] → exec i s = .next s) ∧
  (∀ (s : State) (i : Instr) (code : Nat) (data : BitVec 1146), s.mode0 ≠ mOFF →
    (i = .tapExtest data ∧ code = 0 ∨ i = .tapClamp ∧ code = 3 ∨ i = .tapHighz ∧ code = 4 ∨ i = .tapExtestPulse data ∧ code = 5 ∨ i = .tapExtestTrain data ∧ code = 6) →
    (s.dbgLevel < 2 → exec i s = .next { s with out := [.word 40 s.tapIrWord], tap := { s.tap with ir := 0xFF, outcome := 1, tapstat := 0x0E02, pins := none } }) ∧
    (s.dbgLevel = 2 → s.mode0 ≠ mBOOT → s.mode0 ≠ mSAFE →
      exec i s = .next { s with out := [.word 40 s.tapIrWord], tap := { s.tap with ir := 0xFF, outcome := 2, tapstat := 0x0E07, pins := none } }) ∧
    (s.dbgLevel = 2 → (s.mode0 = mBOOT ∨ s.mode0 = mSAFE) →
      exec i s = .next { s with out := [.word 40 s.tapIrWord], tap := { s.tap with ir := code, outcome := 0, pins := some code, boundary := if i = .tapClamp ∨ i = .tapHighz then s.tap.boundary else data.toNat } })) ∧
  (∀ (s : State) (data cap : BitVec 1146), s.inMode [mBOOT, mLOAD, mRUN, mSAFE] = true →
    (s.dbgLevel = 0 → exec (.tapSamplePreload cap data) s = .next { s with out := [.word 40 s.tapIrWord], tap := { s.tap with ir := 0xFF, outcome := 1, tapstat := 0x0E02, pins := none } }) ∧
    (0 < s.dbgLevel → exec (.tapSamplePreload cap data) s =
      .next { s with out := [.word 40 s.tapIrWord, .word 40 cap.toNat], tap := { s.tap with ir := 1, outcome := 0, pins := none, boundary := data.toNat } })) ∧
  (∀ (s : State), s.inMode [mSTANDBY, mBOOT, mLOAD, mRUN, mSAFE] = true →
    exec .tapIdcode s = .next { s with out := [.word 40 s.tapIrWord, .word 40 0x1904833D], tap := { s.tap with ir := 2, outcome := 0, pins := none } }) ∧
  (∀ (s : State), s.inMode [mBOOT, mLOAD, mRUN, mSAFE] = true → exec .tapTapstat s =
    .next { s with out := [.word 40 s.tapIrWord, .word 40 (s.tap.tapstat + s.dbgLevel * 2 ^ 16 + s.get R.DBG_SC_STAT_HALTED * 2 ^ 18)], tap := { s.tap with ir := 0x14, outcome := 0, pins := none } }) ∧
  (∀ (s : State) (code : BitVec 8), s.mode0 ≠ mOFF → tapNeed code.toNat = none →
    exec (.tapBypass code) s = .next { s with out := [.word 40 s.tapIrWord], tap := { s.tap with ir := 0xFF, outcome := 0, pins := none } }) ∧
  (∀ (s : State), (s.mode0 = mSTANDBY → s.coreRails = true → s.mode.trans = none → ∃ t, exec .tapWake s = .next t ∧ t.mode.trans = some ⟨3, mBOOT, 0⟩ ∧ t.get R.DEV_MODE_BUSY = 1 ∧ t.tap.ir = 0x1F ∧
      RegsKept s t [R.DEV_MODE_BUSY]) ∧
    (s.inMode [mBOOT, mLOAD, mRUN, mSAFE] = true →
      exec .tapWake s = .next { s with out := [.word 40 s.tapIrWord], tap := { s.tap with ir := 0xFF, outcome := 2, tapstat := 0x0E07, pins := none } })) ∧
  (∀ (s : State) (trst : Bool), s.mode0 ≠ mOFF → ∃ t, exec (.tapReset trst) s = .next t ∧ t.tap.ir = 2 ∧ t.tap.pins = none ∧ t.regs = s.regs ∧
    (trst = false → t.dbgLevel = s.dbgLevel ∧ t.tap.tapstat = s.tap.tapstat) ∧ (trst = true → t.dbgLevel = 0 ∧ t.tap.tapstat = 0 ∧ t.tap.ending = (s.tap.ending || decide (s.dbgLevel = 2)))) ∧
  (∀ (s : State) (b : BitVec 8) (l : List Nat) (n : Nat), s.inMode [mBOOT, mLOAD, mRUN, mSAFE] = true → l = s.tap.agReq ++ [b.toNat] →
    n = 16 + netField l 6 2 + (if bit (netField l 14 2) 0 = 1 then 16 else 0) →
    (∃ t, exec (.tapAgzer false b) s = .next t ∧ t.tap.agRsp = s.tap.agRsp.drop 1 ∧ t.tap.agReq = s.tap.agReq ∧
      t.out = [.word 40 s.tapIrWord, .word 40 (match s.tap.agRsp with | [] => 0 | r :: _ => 256 + r)] ∧ t.regs = s.regs ∧ t.dict = s.dict) ∧
    (l.length < 16 → ∃ t, exec (.tapAgzer true b) s = .next t ∧ t.tap.agReq = l ∧ t.tap.agRsp = [] ∧ t.regs = s.regs ∧ t.dict = s.dict) ∧
    (∀ (u : State) (r : State × Option (List Nat)), 16 ≤ l.length → l.length = n →
      u = { s with out := [.word 40 s.tapIrWord, .word 40 (match s.tap.agRsp with | [] => 0 | r :: _ => 256 + r)], tap := { s.tap with ir := 0x12, outcome := 0, pins := none, agRsp := s.tap.agRsp.drop 1 } } →
      r = u.agMessage ⟨2, (0, 0, 0)⟩ l → exec (.tapAgzer true b) s = .next { r.1 with tap := { r.1.tap with agReq := [], agRsp := r.2.getD [] } })) ∧
  (∀ (s : State) (l : List Bool), s.inMode [mBOOT, mLOAD, mRUN, mSAFE] = true →
    (s.ldState ≠ ldIDLE → s.get R.LD_STATUS_SRC ≠ srcJTAG → exec (.tapCfgIn l) s = .next { s with out := [.word 40 s.tapIrWord], tap := { s.tap with ir := 0xFF, outcome := 3, tapstat := 0x0140, pins := none } }) ∧
    (s.ldState = ldIDLE → (s.tap.ir = tapCFG → exec (.tapCfgIn l) s = .next s) ∧
      (s.tap.ir ≠ tapCFG → ∃ t, exec (.tapCfgIn l) s = .next t ∧ t.tap.ir = tapCFG ∧ t.ldState = ldHEADER ∧ t.get R.LD_STATUS_SRC = srcJTAG ∧
        t.ld.buf = (bitBytes (l.length + 8) (l.map ofFlag)).1 ∧ t.tap.cfgBits = (bitBytes (l.length + 8) (l.map ofFlag)).2)) ∧
    (s.ldState ≠ ldIDLE → s.get R.LD_STATUS_SRC = srcJTAG → s.tap.ir = tapCFG → ∃ r, r = bitBytes (l.length + 8) (s.tap.cfgBits ++ l.map ofFlag) ∧
      exec (.tapCfgIn l) s = .next ({ s with tap := { s.tap with cfgBits := r.2 } }.ldTake r.1)))

/-- O54. Debug authorization and the debug access port (R636 to R639): a revocation ends the grant; a locked, disabled or wrong attempt leaves the level as it
is, a right proof grants the level; three failures within 60 s lock. A DAP access that is refused shows its code, and one that stands issues a request
and waits for it. The model's own readings and choices that it rests on: assumptions 2, 3, 8, 146, 147. Commands that this statement shows to complete
with their own effect: tapAuthUpdate, tapAuthLockoutExpiry, dapAccess. -/
def Obligations.DebugAuthorizationAndAccess : Prop :=
  (∀ (s : State) (proof : BitVec 256) (level : BitVec 2) (nd : Nat), s.inMode [mBOOT, mLOAD, mRUN, mSAFE] = true → nd = Config.freeNat 31 s.free % 2 ^ 128 →
    (∃ t, exec (.tapAuthUpdate proof level true) s = .next t ∧ t.dbgLevel = 0 ∧ t.tap.ending = (s.tap.ending || decide (s.dbgLevel = 2)) ∧ t.regs = s.regs ∧
      t.out = [.word 40 s.tapIrWord, .word 40 (nd + s.dbgLevel * 2 ^ 128 + ofFlag s.tap.locked * 2 ^ 130)]) ∧
    (s.tap.locked = true → ∃ t, exec (.tapAuthUpdate proof level false) s = .next t ∧ t.dbgLevel = s.dbgLevel ∧ t.tap.tapstat = 0x0E04 ∧ t.tap.authFails = s.tap.authFails ∧ t.regs = s.regs) ∧
    (s.tap.locked = false → (level = 0 ∨ level = 3) → ∃ t, exec (.tapAuthUpdate proof level false) s = .next t ∧ t.dbgLevel = s.dbgLevel ∧ t.tap.tapstat = 0x0E03 ∧
      t.tap.authFails = satAdd (2 ^ 32 - 1) s.tap.authFails 1 ∧ t.tap.locked = decide (2 ≤ (s.tap.fails.filter (fun (x : Int) => decide (s.nowFull - minute < x))).length)) ∧
    (s.tap.locked = false → (level = 1 ∨ level = 2) →
      (s.dbgDisabled level.toNat = true → ∃ t, exec (.tapAuthUpdate proof level false) s = .next t ∧ t.dbgLevel = s.dbgLevel ∧ t.tap.tapstat = 0x0E05 ∧ t.tap.authFails = s.tap.authFails ∧ t.regs = s.regs) ∧
      (s.dbgDisabled level.toNat = false → ∃ t, exec (.tapAuthUpdate proof level false) s = .next t ∧
        if s.dbgProofOk level.toNat nd proof.toNat = true then t.dbgLevel = level.toNat ∧ t.tap.authFails = s.tap.authFails ∧ t.tap.ending = (s.tap.ending || (decide (s.dbgLevel = 2) && decide (level = 1)))
        else t.dbgLevel = s.dbgLevel ∧ t.tap.tapstat = 0x0E03 ∧ t.tap.authFails = satAdd (2 ^ 32 - 1) s.tap.authFails 1))) ∧
  (∀ (s : State), exec .tapAuthLockoutExpiry s = .next { s with tap := { s.tap with locked := false } }) ∧
  (∀ (s : State) (data : Word64) (addr : NocAddr) (op : BitVec 3) (up : Option NocUpset), s.inMode [mBOOT, mLOAD, mRUN, mSAFE] = true →
    (s.dbgLevel = 0 → exec (.dapAccess (data, up) addr op) s = .next { s with out := [.word 40 s.tapIrWord], tap := { s.tap with ir := 0xFF, outcome := 1, tapstat := 0x0E02, pins := none } }) ∧
    (0 < s.dbgLevel → (op = 0 ∨ s.tap.dapWait ≠ none ∨ 4 < op.toNat ∨ (op = 3 ∨ op = 4) ∧ s.dbgLevel ≠ 2 ∨ addr.toNat % (if op = 2 ∨ op = 4 then 8 else 4) ≠ 0) → ∃ t, exec (.dapAccess (data, up) addr op) s = .next t ∧ t.tap.ir = 0x11 ∧
      (op = 0 → t.tap.dapWait = s.tap.dapWait ∧ t.tap.dapStatus = s.tap.dapStatus ∧ t.noc = s.noc ∧
        t.out = [.word 40 s.tapIrWord, .word 40 (s.tap.dapData % 2 ^ 64 + s.tap.dapStatus * 2 ^ 64 + ofFlag s.tap.dapWait.isSome * 2 ^ 80)]) ∧
      (op ≠ 0 → s.tap.dapWait ≠ none → t.tap.tapstat = 0x0E10 ∧ t.tap.dapWait = s.tap.dapWait ∧ t.noc = s.noc) ∧
      (s.tap.dapWait = none → 4 < op.toNat → t.tap.dapStatus = 0x0E08 ∧ t.tap.tapstat = 0x0E08 ∧ t.noc = s.noc ∧ t.tap.dapWait = none) ∧
      (s.tap.dapWait = none → (op = 3 ∨ op = 4) → s.dbgLevel ≠ 2 → t.tap.dapStatus = 0x0E02 ∧ t.tap.tapstat = 0x0E02 ∧ t.noc = s.noc) ∧
      (s.tap.dapWait = none → (op = 1 ∧ addr.toNat % 4 ≠ 0 ∨ op = 2 ∧ addr.toNat % 8 ≠ 0) → t.tap.dapStatus = 0x0203 ∧ t.tap.tapstat = 0x0203 ∧ t.noc = s.noc)) ∧
    (∀ tag (wide wr : Bool) (q : NocReq) (u z : State), 0 < s.dbgLevel → s.tap.dapWait = none → s.freeTag 161 = some tag → wide = (decide (op = 2) || decide (op = 4)) →
      wr = (decide (op = 3) || decide (op = 4)) → addr.toNat % (if wide then 8 else 4) = 0 → (op = 1 ∨ op = 2 ∨ (op = 3 ∨ op = 4) ∧ s.dbgLevel = 2) →
      q = ⟨s.noc.next, 161, tag, addr.toNat / 4, addr.toNat / 4 % 64 + (if wide then 1 else 0), wr, 0,
        if wr then (if wide then [data.toNat % 2 ^ 32, data.toNat / 2 ^ 32] else [data.toNat % 2 ^ 32]) else []⟩ →
      u = { s with out := [.word 40 s.tapIrWord, .word 40 (s.tap.dapData % 2 ^ 64 + s.tap.dapStatus * 2 ^ 64)], tap := { s.tap with ir := 0x11, outcome := 0, pins := none } } →
      z = State.queuePkt { u with noc := { u.noc with next := s.noc.next + 1, outst := s.noc.outst ++ [q] } } ⟨.req q, 0, false, up⟩ →
      exec (.dapAccess (data, up) addr op) s = .next (State.nocRun { z with tap := { z.tap with dapWait := some s.noc.next } })))

/-- O55. Run control of the site core (R640 to R646, R650, R638): each request is taken from a fully authorized debugger alone and in the run state that fits
it; a halt shows its cause and where the core stands; a halted core's registers are read and written by number; the virtual terminal keeps one word
each way; the end of full authorization frees the core. The model's own readings and choices that it rests on: assumptions 149, 150. Commands that
this statement shows to complete with their own effect: debugGrantEnd, dbgHaltreq, scHalt, scHaltDeferred, dbgResume, dbgStep, dbgReset,
dbgBreakpointHit, dbgWatchpointHit, dbgEbreak, dbgScRegcmd, dbgTxdataWrite, dbgRxdataWrite. -/
def Obligations.SiteCoreRunControl : Prop :=
  (∀ (s : State) (src : SrcId) (i : Instr), (i = .dbgHaltreq src ∨ i = .dbgResume src ∨ i = .dbgStep src ∨ i = .dbgReset src) →
    (src.val ≠ 161 → exec i s = .next { s with answer := ⟨0x0E01, 0⟩ }) ∧ (src.val = 161 → s.dbgLevel < 2 → exec i s = .next { s with answer := ⟨0x0E02, 0⟩ })) ∧
  (∀ (s : State) (src : SrcId), src.val = 161 → s.dbgLevel = 2 → s.get R.DBG_SC_CTRL_ATTACH < 2 → (s.mode0 = mRUN ∨ s.mode0 = mSAFE) →
    (s.get R.DBG_SC_STAT_HALTED = 0 → (∃ t, exec (.dbgHaltreq src) s = .next t ∧ t.sc.hreq = true ∧ t.get R.DBG_SC_STAT_DEFERRED = ofFlag (s.sc.resv && !s.sc.held) ∧ t.answer = ⟨0, 0⟩) ∧
      exec (.dbgResume src) s = .next { s with answer := ⟨0x0E07, 0⟩ } ∧ exec (.dbgStep src) s = .next { s with answer := ⟨0x0E07, 0⟩ }) ∧
    (s.get R.DBG_SC_STAT_HALTED ≠ 0 → ∃ t u, exec (.dbgResume src) s = .next t ∧ exec (.dbgStep src) s = .next u ∧ t.get R.DBG_SC_STAT_HALTED = 0 ∧ t.get R.DBG_SC_STAT_CAUSE = 0 ∧
      t.get R.WDG_STAT_FROZEN = 0 ∧ t.get R.WDG_STAT_COUNT = max 1000 (s.get R.WDG_STAT_COUNT) % 2 ^ 32 ∧ t.sc = s.sc ∧ t.answer = ⟨0, 0⟩ ∧
      u.get R.DBG_SC_STAT_HALTED = 0 ∧ u.sc = { s.sc with step := true } ∧ u.answer = ⟨0, 0⟩) ∧
    (∃ t, exec (.dbgReset src) s = .next t ∧ t.sc.held = true ∧ t.get R.SC_STATUS_RCAUSE = 4 ∧ t.sc.sram = s.sc.sram ∧ t.answer = ⟨0, 0⟩)) ∧
  (∀ (s : State) (pc : BitVec 32), s.scBoundary = false → exec (.scHalt pc) s = .next s ∧ exec (.scHaltDeferred pc) s = .next s) ∧
  (∀ (s : State) (pc : BitVec 32), s.sc.held = false → s.get R.DBG_SC_STAT_HALTED = 0 → s.scState = scRUN → s.sc.load = none → s.sc.fence = false →
    (s.sc.step = false → s.sc.hreq = false → exec (.scHalt pc) s = .next s) ∧
    (∀ cause, (s.sc.step = true ∧ cause = 2 ∨ s.sc.step = false ∧ s.sc.hreq = true ∧ s.get R.DBG_SC_STAT_DEFERRED = 0 ∧ s.sc.resv = false ∧ cause = 1) →
      ∃ t, exec (.scHalt pc) s = .next t ∧ t.get R.DBG_SC_STAT_HALTED = 1 ∧ t.get R.DBG_SC_STAT_CAUSE = cause ∧ t.sc.pc = pc.toNat ∧ t.get R.WDG_STAT_FROZEN = 1 ∧ t.sc.hreq = false) ∧
    (s.sc.step = false → s.sc.hreq = true → s.get R.DBG_SC_STAT_DEFERRED = 0 → s.sc.resv = true →
      ∃ t, exec (.scHalt pc) s = .next t ∧ t.get R.DBG_SC_STAT_DEFERRED = 1 ∧ OnlyRegs s t [R.DBG_SC_STAT_DEFERRED]) ∧
    (s.get R.DBG_SC_STAT_DEFERRED = 0 → exec (.scHaltDeferred pc) s = .next s) ∧
    (s.get R.DBG_SC_STAT_DEFERRED ≠ 0 → ∃ t, exec (.scHaltDeferred pc) s = .next t ∧ t.get R.DBG_SC_STAT_HALTED = 1 ∧ t.get R.DBG_SC_STAT_CAUSE = 1 ∧ t.get R.DBG_SC_STAT_DEFERRED = 0 ∧
      t.sc.resv = false ∧ t.sc.pc = pc.toNat)) ∧
  (∀ (s : State), s.scRuns = true →
    (∀ n : Fin 8, (s.get (R.DBG_BP_EN n) ≠ 0 → ∃ t, exec (.dbgBreakpointHit n) s = .next t ∧ t.get R.DBG_SC_STAT_HALTED = 1 ∧ t.get R.DBG_SC_STAT_CAUSE = 3 ∧
        t.get R.DBG_SC_STAT_IDX = n.val ∧ t.sc.pc = 2 * s.get (R.DBG_BP_ADDR n) % 2 ^ 32) ∧
      (s.get (R.DBG_BP_EN n) = 0 → exec (.dbgBreakpointHit n) s = .next s)) ∧
    (∀ (n : Fin 4) (addr pc : BitVec 32) (size : Fin 3) (store : Bool), (s.wpMatches n addr.toNat size store = true → ∃ t, exec (.dbgWatchpointHit n addr size store pc) s = .next t ∧
        t.get R.DBG_SC_STAT_HALTED = 1 ∧ t.get R.DBG_SC_STAT_CAUSE = 4 ∧ t.get R.DBG_SC_STAT_IDX = n.val ∧ t.sc.pc = pc.toNat) ∧
      (s.wpMatches n addr.toNat size store = false → exec (.dbgWatchpointHit n addr size store pc) s = .next s)) ∧
    (∀ (pc tval : BitVec 32) (c : Bool), (s.get R.DBG_SC_CTRL_EBREAKM = 0 → exec (.dbgEbreak pc c tval) s = .next (s.scTrap pc.toNat 3 tval.toNat)) ∧
      (s.get R.DBG_SC_CTRL_EBREAKM ≠ 0 → ∃ t, exec (.dbgEbreak pc c tval) s = .next t ∧ t.get R.DBG_SC_STAT_HALTED = 1 ∧ t.get R.DBG_SC_STAT_CAUSE = 5 ∧
        (t.sc.pc = pc.toNat ∨ t.sc.pc = (pc.toNat + if c then 2 else 4) % 2 ^ 32)))) ∧
  (∀ (s : State) (src : SrcId) (data : Word64),
    (∀ code, (src.val ≠ 161 ∧ code = 0x0E01 ∨ src.val = 161 ∧ s.dbgLevel < 2 ∧ code = 0x0E02 ∨ src.val = 161 ∧ s.dbgLevel = 2 ∧ s.get R.DBG_SC_STAT_HALTED = 0 ∧ code = 0x0E07) →
      ∃ t, exec (.dbgScRegcmd src data) s = .next t ∧ Posted s t R.DBG_SC_REGRES_STATUS code ∧ OnlyRegs (s.commit R.DBG_SC_REGCMD_REGNO.addr) t (resFlds R.DBG_SC_REGRES_STATUS)) ∧
    (src.val = 161 → s.dbgLevel = 2 → s.get R.DBG_SC_STAT_HALTED ≠ 0 →
      (bit data.toNat 13 = 0 → bits data.toNat 0 13 < 0x40 → ∃ t, exec (.dbgScRegcmd src data) s = .next t ∧ Posted s t R.DBG_SC_REGRES_STATUS 0 ∧
        t.get R.DBG_SC_REGDATA_DATA = s.xreg (bits data.toNat 0 13) % 2 ^ 32 ∧ t.sc = s.sc) ∧
      (bit data.toNat 13 = 1 → 0 < bits data.toNat 0 13 → bits data.toNat 0 13 < 0x40 → ∃ t, exec (.dbgScRegcmd src data) s = .next t ∧ Posted s t R.DBG_SC_REGRES_STATUS 0 ∧
        t.xreg (bits data.toNat 0 13) = bits data.toNat 32 32 ∧ ∀ m, m ≠ bits data.toNat 0 13 → t.xreg m = s.xreg m) ∧
      (bit data.toNat 13 = 1 → bits data.toNat 0 13 = 0x40 → ∃ t, exec (.dbgScRegcmd src data) s = .next t ∧ Posted s t R.DBG_SC_REGRES_STATUS 0 ∧
        t.sc.pc = bits data.toNat 32 32 / 2 * 2) ∧
      (0x41 ≤ bits data.toNat 0 13 → bits data.toNat 0 13 < 0x80 → ∃ t, exec (.dbgScRegcmd src data) s = .next t ∧ Posted s t R.DBG_SC_REGRES_STATUS 0x0E08 ∧ t.sc = s.sc))) ∧
  (∀ (s : State) (src : SrcId) (data : BitVec 32),
    (src.val ≠ 97 → exec (.dbgTxdataWrite src data) s = .next { s with answer := ⟨0x0E01, 0⟩ }) ∧
    (src.val = 97 → s.get R.DBG_VT_FLAGS_TXFULL = 0 → ∃ t, exec (.dbgTxdataWrite src data) s = .next t ∧ t.get R.DBG_TXDATA_DATA = data.toNat ∧ t.get R.DBG_VT_FLAGS_TXFULL = 1 ∧ t.answer = ⟨0, 0⟩) ∧
    (src.val = 97 → s.get R.DBG_VT_FLAGS_TXFULL ≠ 0 → ∃ t, exec (.dbgTxdataWrite src data) s = .next t ∧ t.get R.DBG_TXDATA_DATA = s.get R.DBG_TXDATA_DATA ∧
      t.get R.DBG_VT_FLAGS_TXOVR = min (2 ^ 8 - 1) (s.get R.DBG_VT_FLAGS_TXOVR + 1)) ∧
    ((src.val ≠ 161 ∨ s.dbgLevel = 0) → exec (.dbgRxdataWrite src data) s = .next { s with answer := ⟨0x0E01, 0⟩ }) ∧
    (src.val = 161 → s.dbgLevel ≠ 0 → s.get R.DBG_VT_FLAGS_RXFULL = 0 → ∃ t, exec (.dbgRxdataWrite src data) s = .next t ∧ t.get R.DBG_RXDATA_DATA = data.toNat ∧
      t.get R.DBG_VT_FLAGS_RXFULL = 1 ∧ t.answer = ⟨0, 0⟩)) ∧
  (∀ (s : State), (s.tap.ending = false → exec .debugGrantEnd s = .next s) ∧
    (∀ u : State, s.tap.ending = true → u = s.scDbgFree → exec .debugGrantEnd s = .next { u.sqDbgFree with tap := { u.sqDbgFree.tap with ending := false, dapWait := none } } ∧
      u.get R.DBG_SC_STAT_HALTED = 0 ∧ u.get R.DBG_SC_CTRL_ATTACH = 0 ∧
      u.sc.hreq = false ∧ u.sc.step = false ∧ (∀ n : Fin 8, u.get (R.DBG_BP_EN n) = 0) ∧ ∀ n : Fin 4, u.get (R.DBG_WP_KIND n) = 0))

/-- O56. Run control of a sequencer (R646 to R649): the outcome of each command stands in LAST and the answer; a waiting sequencer halts at once and a halted
one runs on; a breakpoint that matches halts at its boundary; an item is written only while the sequencer stands. The model's own readings and choices
that it rests on: assumptions 148, 151. Commands that this statement shows to complete with their own effect: dbgSqHalt, dbgSqResume, dbgSqStep,
dbgSqBreakpointHit, dbgSqDataWrite. -/
def Obligations.SequencerRunControl : Prop :=
  (∀ (s : State) (src : SrcId) (b : BoughId) (a : SeqId) (held : Nat), (s.seq b a).haltPend = 0 →
    (∀ code, (src.val ≠ 161 ∧ code = 0x0E01 ∨ src.val = 161 ∧ s.dbgLevel < 2 ∧ code = 0x0E02 ∨
        src.val = 161 ∧ s.dbgLevel = 2 ∧ (s.sqState b a = sqIDLE ∨ s.sqState b a = sqFAULT) ∧ code = 0x0E07) →
      ∃ t, exec (.dbgSqHalt src b a held) s = .next t ∧ t.get (R.DBG_SQ_STAT_LAST b a) = code ∧ t.answer = ⟨code, 0⟩ ∧ OnlyRegs s t [R.DBG_SQ_STAT_LAST b a]) ∧
    (src.val = 161 → s.dbgLevel = 2 → s.sqState b a = sqWAIT → ∃ t, exec (.dbgSqHalt src b a held) s = .next t ∧ t.sqState b a = sqHALT ∧ t.get (R.DBG_SQ_STAT_CAUSE b a) = 1 ∧
      t.get (R.DBG_SQ_STAT_HALTED b a) = 1 ∧ (t.seq b a).haltFrom = sqWAIT ∧ (t.seq b a).haltPend = 0 ∧ t.get (R.DBG_SQ_STAT_LAST b a) = 0 ∧ t.answer = ⟨0, 0⟩)) ∧
  (∀ (s : State) (src : SrcId) (b : BoughId) (a : SeqId) (i : Instr) (pend : Nat), (i = .dbgSqResume src b a ∧ pend = 0 ∨ i = .dbgSqStep src b a ∧ pend = 4) →
    (src.val ≠ 161 → ∃ t, exec i s = .next t ∧ t.answer = ⟨0x0E01, 0⟩ ∧ OnlyRegs s t [R.DBG_SQ_STAT_LAST b a]) ∧
    (src.val = 161 → s.dbgLevel = 2 → s.sqState b a ≠ sqHALT → ∃ t, exec i s = .next t ∧ t.answer = ⟨0x0E07, 0⟩ ∧ t.get (R.DBG_SQ_STAT_LAST b a) = 0x0E07 ∧ OnlyRegs s t [R.DBG_SQ_STAT_LAST b a]) ∧
    (src.val = 161 → s.dbgLevel = 2 → s.sqState b a = sqHALT → (s.seq b a).haltFrom = sqRUN → ∃ t, exec i s = .next t ∧ t.sqState b a = sqRUN ∧ (t.seq b a).haltPend = pend ∧
      t.get (R.DBG_SQ_STAT_CAUSE b a) = 0 ∧ t.get (R.DBG_SQ_STAT_HALTED b a) = 0 ∧ t.get (R.DBG_SQ_STAT_LAST b a) = 0 ∧ t.answer = ⟨0, 0⟩)) ∧
  (∀ (s : State) (b : BoughId) (a : SeqId) (j : Fin 2) (c : SeqInstr), (s.seq b a).cur = some c → s.sqState b a = sqRUN → c.addr = s.get (if j = 0 then R.DBG_SQ_BP_BP_0 b a else R.DBG_SQ_BP_BP_1 b a) →
    (s.get (if j = 0 then R.DBG_SQ_BP_EN_0 b a else R.DBG_SQ_BP_EN_1 b a) ≠ 0 → (s.seq b a).free = true → (s.seq b a).stuck = false → ∃ t, exec (.dbgSqBreakpointHit b a j) s = .next t ∧ t.sqState b a = sqHALT ∧ t.get (R.DBG_SQ_STAT_CAUSE b a) = 3 ∧
      t.get (R.DBG_SQ_STAT_BPIDX b a) = j.val ∧ t.get (R.DBG_SQ_STAT_HELDBP b a) = 0 ∧ (t.seq b a).haltFrom = sqRUN) ∧
    (s.get (if j = 0 then R.DBG_SQ_BP_EN_0 b a else R.DBG_SQ_BP_EN_1 b a) ≠ 0 → (s.seq b a).free = false → ∃ t, exec (.dbgSqBreakpointHit b a j) s = .next t ∧ t.sqState b a = sqRUN ∧ (t.seq b a).haltPend = 3 ∧
      t.get (R.DBG_SQ_STAT_BPIDX b a) = j.val ∧ t.get (R.DBG_SQ_STAT_HELDBP b a) = 1) ∧
    (s.get (if j = 0 then R.DBG_SQ_BP_EN_0 b a else R.DBG_SQ_BP_EN_1 b a) = 0 → exec (.dbgSqBreakpointHit b a j) s = .next s)) ∧
  (∀ (s r : State) (src : SrcId) (b : BoughId) (a : SeqId) (data : Word64), r = s.commit (Config.rp b 3 + 0x8020 + 0x40 * a.val) →
    (src.val ≠ 161 → exec (.dbgSqDataWrite src b a data) s = .next { r with answer := ⟨0x0E01, 0⟩ }) ∧
    (src.val = 161 → s.dbgLevel = 2 →
      ((s.sqState b a = sqRUN ∨ s.sqState b a = sqWAIT) → exec (.dbgSqDataWrite src b a data) s = .next { r with answer := ⟨0x0E07, 0⟩ }) ∧
      ((s.sqState b a = sqHALT ∨ s.sqState b a = sqIDLE ∨ s.sqState b a = sqFAULT) →
        (s.get (R.DBG_SQ_SEL_ITEM b a) = 1 → s.get (R.DBG_SQ_SEL_NUM b a) < 8 → data.toNat < 2 ^ 32 → ∃ t, exec (.dbgSqDataWrite src b a data) s = .next t ∧ t.answer = ⟨0, 0⟩ ∧
          t.seq b a = { s.seq b a with s := SMap.set (s.seq b a).s 0 (s.get (R.DBG_SQ_SEL_NUM b a)) data.toNat } ∧ t.regs = s.regs) ∧
        (s.get (R.DBG_SQ_SEL_ITEM b a) = 0 → data.toNat = encode2 64 (signed 24 data.toNat) → ∃ t, exec (.dbgSqDataWrite src b a data) s = .next t ∧ t.answer = ⟨0, 0⟩ ∧
          (t.seq b a).v = SMap.set (s.seq b a).v 0 (s.get (R.DBG_SQ_SEL_LANE b a) * 16 + s.get (R.DBG_SQ_SEL_NUM b a)) (data.toNat % 2 ^ 24)) ∧
        (1 < s.get (R.DBG_SQ_SEL_ITEM b a) → exec (.dbgSqDataWrite src b a data) s = .next { r with answer := ⟨0x0E08, 0⟩ }))))

/-- O57. Samples of the health monitors (R654 to R659, R661): a reading that stands is kept and compared with its thresholds; a sensor out of range is faulty
and its value no longer valid; a supply of an undeclared bank shows no value; an oscillator pair is measured only where it can be; a day's missing eye
margins are taken on each active lane. The ageing model (R662 to R668): each powered second advances every wear monitor by its acceleration factor;
after a powered day the day's values make the baselines, fits and records, and the next day starts; REBASE starts a monitor's model over, and its
refusals change nothing but the result. The model's own readings and choices that it rests on: assumptions 2, 6, 152, 153, 155, 156. Commands that
this statement shows to complete with their own effect: tempSample, voltSample, roSample, autoEyeScan, hmAgeTick, hmDailyFit, hmRebase. -/
def Obligations.HealthMonitorsAndAgeing : Prop :=
  ((∀ (s : State) (m : Fin 72) (x : Int), s.get R.HO_TEMP_SRC ≠ 0 →
    (s.sensorOn m = false → exec (.tempSample [(m, x)]) s = .next s) ∧
    (s.sensorOn m = true → -880 ≤ x → x ≤ 2400 → ∃ t v, exec (.tempSample [(m, x)]) s = .next t ∧ v = f64.ofRatio x 16 ∧ t.get (R.HM_VAL_VALUE m) = f64.convert f32 v % 2 ^ 32 ∧
      t.get (R.HM_VAL_VALID m) = 1 ∧ m.val ∉ t.hm.faulty ∧
      (s.get (R.HM_VAL_WARN m) = 0 → t.get (R.HM_VAL_WARN m) = ofFlag (hmBeyond m v (f32.convert f64 (s.get (R.HM_THR_WARN m))))) ∧
      (s.get (R.HM_VAL_WARN m) = 1 → t.get (R.HM_VAL_WARN m) = ofFlag (!hmBack m v (f32.convert f64 (s.get (R.HM_THR_WARN m))))) ∧
      (s.get (R.HM_VAL_ALARM m) = 0 → t.get (R.HM_VAL_ALARM m) = ofFlag (hmBeyond m v (f32.convert f64 (s.get (R.HM_THR_ALARM m))))) ∧
      (s.get (R.HM_VAL_ALARM m) = 1 → t.get (R.HM_VAL_ALARM m) = ofFlag (!hmBack m v (f32.convert f64 (s.get (R.HM_THR_ALARM m))))) ∧
      ∀ f : Fld, f.key ∉ [R.HM_VAL_VALUE m, R.HM_VAL_VALID m, R.HM_VAL_WARN m, R.HM_VAL_ALARM m].map Fld.key → f.key ∉ evKeys → t.get f = s.get f) ∧
    (s.sensorOn m = true → (x < -880 ∨ 2400 < x) → (m.val ∈ s.hm.faulty → exec (.tempSample [(m, x)]) s = .next s) ∧
      (m.val ∉ s.hm.faulty → ∃ t, exec (.tempSample [(m, x)]) s = .next t ∧ t.get (R.HM_VAL_VALID m) = 0 ∧ m.val ∈ t.hm.faulty ∧
        ∀ f : Fld, f.key ≠ (R.HM_VAL_VALID m).key → f.key ∉ evKeys → t.get f = s.get f))) ∧
  (∀ (s : State) (r : Fin 18) (mv : Nat),
    (s.mode0 = mOFF → exec (.voltSample [(r, mv)]) s = .next s) ∧ (s.mode0 = mSTANDBY → r ≠ 0 → r ≠ 8 → r ≠ 9 → exec (.voltSample [(r, mv)]) s = .next s) ∧
    ((s.mode0 = mBOOT ∨ s.mode0 = mLOAD) → r ≠ 0 → r ≠ 8 → r.val < 9 → s.railOk r = false → exec (.voltSample [(r, mv)]) s = .next s) ∧
    (s.inMode [mBOOT, mLOAD, mRUN, mSAFE] = true →
      ((r.val < 10 ∧ (s.mode0 = mRUN ∨ s.mode0 = mSAFE ∨ r = 0 ∨ r = 8 ∨ r = 9 ∨ s.railOk r = true) ∨ s.railMv r ≠ 0 ∧ s.railOk r = true) → ∃ t, exec (.voltSample [(r, mv)]) s = .next t ∧
        t.get (R.HM_VAL_VALUE (72 + r)) = f64.convert f32 (f64.ofRatio mv 1000) % 2 ^ 32 ∧ t.get (R.HM_VAL_VALID (72 + r)) = 1) ∧
      (10 ≤ r.val → (s.railMv r = 0 ∨ s.railOk r = false) → ∃ t, exec (.voltSample [(r, mv)]) s = .next t ∧ t.get (R.HM_VAL_VALID (72 + r)) = 0 ∧
        OnlyRegs s t [R.HM_VAL_VALID (72 + r)]))) ∧
  (∀ (s : State) (b : BoughId) (fs fr : Nat), s.inMode [mBOOT, mLOAD, mRUN, mSAFE] = true → s.opState b ≠ 0 →
    (s.get R.CK_STATUS_TPLL_LOCK = 1 → s.get (R.OP_STATUS_BUSY b) = 0 → fr ≠ 0 → ∃ t v, exec (.roSample [(b, fs, fr)]) s = .next t ∧
      v = f64.mul (f64.ofInt 1000000) (f64.sub (f64.ofInt 1) (f64.div (f64.div (f64.ofInt fs) (f64.ofInt fr)) (Config.partConst (16 + b)))) ∧
      t.get (R.HM_VAL_VALUE (90 + b)) = f64.convert f32 v % 2 ^ 32 ∧ t.get (R.HM_VAL_VALID (90 + b)) = 1 ∧
      t.wear (90 + b) = { s.wear (90 + b) with daySum := f64.add (s.wear (90 + b)).daySum v, dayN := (s.wear (90 + b)).dayN + 1, last := v }) ∧
    ((s.get R.CK_STATUS_TPLL_LOCK = 0 ∨ s.get (R.OP_STATUS_BUSY b) = 1) → exec (.roSample [(b, fs, fr)]) s = .next s)) ∧
  (∀ (s : State), ((s.get R.HM_CTRL_AUTO_EYE = 0 ∨ s.mode0 ≠ mRUN) → exec .autoEyeScan s = .next s) ∧
    (s.get R.HM_CTRL_AUTO_EYE = 1 → s.mode0 = mRUN → ∃ t, exec .autoEyeScan s = .next t ∧ ∀ n : LaneId,
      (s.lnState n = lnACTIVE → s.lnMode n = 1 → n.val ∉ s.hm.margins → (s.lane n).scan = none → s.eyeCfgOk n = true →
        (t.lane n).scan = some ⟨5, s.get (R.LN_EYE_CFG_LOG2BITS n), s.get (R.LN_EYE_CFG_ERRLIM n)⟩) ∧
      ((s.lnState n ≠ lnACTIVE ∨ s.lnMode n ≠ 1 ∨ n.val ∈ s.hm.margins ∨ (s.lane n).scan ≠ none) → t.lane n = s.lane n ∧ t.get (R.LN_RESULT_STATUS n) = s.get (R.LN_RESULT_STATUS n))))) ∧
  ((∀ (s : State), (s.mode0 = mOFF → exec .hmAgeTick s = .next s) ∧ (s.mode0 = mSTANDBY → exec .hmAgeTick s = .next (s.powerEstimate s.hmValue)) ∧
    (86400 ≤ s.hm.secs → s.hm.secs < 172800 → s.inMode [mBOOT, mLOAD, mRUN, mSAFE] = true → ∃ u, exec .hmDailyFit s = .next u ∧ exec .hmAgeTick s = exec .hmAgeTick u) ∧
    (∀ (t r : State), s.inMode [mBOOT, mLOAD, mRUN, mSAFE] = true → s.hm.secs < 86400 → r = s.ageSecond → t = r.powerEstimate r.hmValue → exec .hmAgeTick s = .next t ∧ t.hm.powered = s.hm.powered + 1 ∧ t.hm.secs = s.hm.secs + 1 ∧ t.answer = s.answer ∧
      ∀ m, m ∈ wearMons → t.wear m = { s.wear m with tau := f64.add (s.wear m).tau (f64.div (s.hmAf m) (f64.ofInt 86400)), afSum := f64.add (s.wear m).afSum (s.hmAf m) })) ∧
  (∀ (s : State), (s.hm.secs < 86400 → exec .hmDailyFit s = .next s) ∧ (s.inMode [mBOOT, mLOAD, mRUN, mSAFE] = false → exec .hmDailyFit s = .next s) ∧
    (86400 ≤ s.hm.secs → s.inMode [mBOOT, mLOAD, mRUN, mSAFE] = true → ∃ t, exec .hmDailyFit s = .next t ∧ t.hm.secs = s.hm.secs - 86400 ∧ t.hm.margins = [] ∧ t.hm.powered = s.hm.powered ∧
      t.hm.rebase = [] ∧ ∀ m, m ∈ wearMons → m < 266 → m ∉ s.hm.rebase →
        (t.wear m).daySum = 0 ∧ (t.wear m).dayN = 0 ∧ (t.wear m).afSum = 0 ∧ (t.wear m).tau = (s.wear m).tau ∧
        SMap.get t.hm.recs (some (Wear.zero, 0, false)) m = some (t.wear m, t.get (R.HM_VAL_N m), t.has (R.HM_VAL_BASED m)) ∧
        ((s.wear m).dayN = 0 → (t.wear m).base = (s.wear m).base ∧ t.get (R.HM_VAL_N m) = s.get (R.HM_VAL_N m)) ∧
        ((s.wear m).dayN ≠ 0 → s.get (R.HM_VAL_BASED m) = 0 → t.get (R.HM_VAL_BASED m) = 1 ∧ t.get (R.HM_VAL_N m) = s.get (R.HM_VAL_N m) ∧
          (t.wear m).base = if hmKind m ≤ 3 then f64.div (s.wear m).daySum (f64.ofInt (s.wear m).dayN) else (s.wear m).last) ∧
        ((s.wear m).dayN ≠ 0 → s.get (R.HM_VAL_BASED m) = 1 → (t.wear m).base = (s.wear m).base ∧ t.get (R.HM_VAL_N m) = min (2 ^ 16 - 1) (s.get (R.HM_VAL_N m) + 1)))) ∧
  (∀ (s : State) (src : SrcId) (mon : BitVec 9),
    (∀ code, (s.srcOk src = false ∧ code = 0x0F01 ∨ s.srcOk src = true ∧ 271 < mon.toNat ∧ code = 0x0F02 ∨
        s.srcOk src = true ∧ mon.toNat ≤ 271 ∧ (hmKind mon.toNat < 2 ∨ 4 < hmKind mon.toNat) ∧ code = 0x0F03) →
      ∃ t, exec (.hmRebase src mon) s = .next t ∧ Posted s t R.HM_CMD_RESULT_STATUS code ∧ t.get R.HM_CMD_RESULT_MON = mon.toNat ∧ t.answer = ⟨0, 0⟩ ∧
        OnlyRegs s t (R.HM_CMD_RESULT_MON :: resFlds R.HM_CMD_RESULT_STATUS)) ∧
    (s.srcOk src = true → 2 ≤ hmKind mon.toNat → hmKind mon.toNat ≤ 4 → 86400 ≤ s.hm.secs → ∃ t, exec (.hmRebase src mon) s = .next t ∧ Posted s t R.HM_CMD_RESULT_STATUS 0 ∧
      t.hm = { s.hm with rebase := s.hm.rebase ++ [mon.toNat] } ∧ t.answer = ⟨0, 0⟩) ∧
    (s.srcOk src = true → 2 ≤ hmKind mon.toNat → hmKind mon.toNat ≤ 4 → s.hm.secs < 86400 → ∃ t, exec (.hmRebase src mon) s = .next t ∧ Posted s t R.HM_CMD_RESULT_STATUS 0 ∧
      t.get (R.HM_VAL_N mon.toNat) = 0 ∧ t.get (R.HM_VAL_BASED mon.toNat) = 0 ∧ t.wear mon.toNat = { s.wear mon.toNat with base := 0, sxx := 0, sxy := 0, syy := 0 } ∧
      t.answer = ⟨0, 0⟩ ∧ ∀ m, m ≠ mon.toNat → t.wear m = s.wear m)))

/-- O58. Fuse writes (R674, R675, R677, R679, R689): a session below level 2, a mode other than BOOT and SAFE, and a remote session below level 3 are refused;
a policy only gains bits and a written field is never written again; each completed write leaves the field with its CRC, and a bit that fails ends the
write there with 0x1006. The model's own readings and choices that it rests on: assumption 157. Commands that this statement shows to complete with
their own effect: fusePolicySet, fuseEfKey, fusePkProgram, fusePkRevoke, fuseDbgKey. -/
def Obligations.FuseWrites : Prop :=
  (∀ (s : State) (loc : Bool) (level : Fin 4) (i : Instr) (data : BitVec 32) (key : BitVec 256) (slot : BitVec 8) (dg : BitVec 384) (full f5 : Bool) (f1 : Option (Fin 32)) (f2 f4 : Option (Fin 288))
      (f3 : Option (Fin 416)), slot.toNat ≤ 3 →
    i ∈ [Instr.fusePolicySet loc level data f1, .fuseEfKey loc level key f2, .fusePkProgram loc level slot dg f3, .fusePkRevoke loc level slot f5, .fuseDbgKey loc level full key f4] →
    (s.inMode [mBOOT, mLOAD, mRUN, mSAFE] = false → exec i s = .next s) ∧
    (s.inMode [mBOOT, mLOAD, mRUN, mSAFE] = true → (s.romOnly = true → exec i s = .next { s with answer := ⟨0x0501, 0⟩ }) ∧
      (s.romOnly = false → (level.val < 2 → exec i s = .next { s with answer := ⟨0x0504, 0⟩ }) ∧
        (2 ≤ level.val → (s.mode0 = mLOAD ∨ s.mode0 = mRUN) → exec i s = .next { s with answer := ⟨0x0506, 0⟩ }) ∧
        (level = 2 → loc = false → (s.mode0 = mBOOT ∨ s.mode0 = mSAFE) → exec i s = .next { s with answer := ⟨0x1001, 0⟩ })))) ∧
  (∀ (s : State) (loc : Bool) (level : Fin 4), s.romOnly = false → (s.mode0 = mBOOT ∨ s.mode0 = mSAFE) → (level = 3 ∨ level = 2 ∧ loc = true) →
    (∀ (data : BitVec 32) (w : Nat), w = s.policy ||| data.toNat →
      ((255 < data.toNat ∨ bit w 1 = 1 ∧ bit w 2 = 1) → ∀ f, exec (.fusePolicySet loc level data f) s = .next { s with answer := ⟨0x1007, 0⟩ }) ∧
      (data.toNat ≤ 255 → (bit w 1 = 0 ∨ bit w 2 = 0) →
        (∃ t, exec (.fusePolicySet loc level data none) s = .next t ∧ t.policy = w ∧ t.answer = ⟨0, 0⟩ ∧ t.sec = s.sec) ∧
        (∀ f : Fin 32, bit data.toNat f = 1 → bit s.policy f = 0 → ∃ t, exec (.fusePolicySet loc level data (some f)) s = .next t ∧ t.answer = ⟨0x1006, 0⟩ ∧ t.sec = s.sec ∧
          t.policy = s.policy ||| (data.toNat - (data.toNat &&& s.policy)) % 2 ^ f.val))) ∧
    (∀ (key : BitVec 256), (s.sec.efKey.state 32 ≠ 0 → ∀ f, exec (.fuseEfKey loc level key f) s = .next { s with answer := ⟨0x1003, 0⟩ }) ∧
      (s.sec.efKey.state 32 = 0 → (∃ t, exec (.fuseEfKey loc level key none) s = .next t ∧ t.sec = { s.sec with efKey := keyField 32 key.toNat } ∧ t.answer = ⟨0, 0⟩) ∧
        ∀ f : Fin 288, f.val < 256 → bit key.toNat f = 1 → ∃ t, exec (.fuseEfKey loc level key (some f)) s = .next t ∧ t.sec = { s.sec with efKey := ⟨key.toNat % 2 ^ f.val, 0⟩ } ∧
          t.answer = ⟨0x1006, 0⟩)) ∧
    (∀ (slot : BitVec 8) (dg : BitVec 384), (3 < slot.toNat → ∀ f g, exec (.fusePkProgram loc level slot dg f) s = .next { s with answer := ⟨0x0505, 0⟩ } ∧
        exec (.fusePkRevoke loc level slot g) s = .next { s with answer := ⟨0x0505, 0⟩ }) ∧
      (slot.toNat ≤ 3 → ((s.pkSlot slot.toNat).state 48 ≠ 0 → ∀ f, exec (.fusePkProgram loc level slot dg f) s = .next { s with answer := ⟨0x1003, 0⟩ }) ∧
        ((s.pkSlot slot.toNat).state 48 = 0 → ∃ t, exec (.fusePkProgram loc level slot dg none) s = .next t ∧ t.pkSlot slot.toNat = keyField 48 dg.toNat ∧
          (∀ k, k ≠ slot.toNat → t.pkSlot k = s.pkSlot k) ∧ t.sec.pkRev = s.sec.pkRev ∧ t.answer = ⟨0, 0⟩) ∧
        (s.openDevice = false → (∀ k, k < 4 → (s.pkSlot k).state 48 = 1 → bit (s.sec.pkRev ||| 2 ^ slot.toNat) k = 1) → ∀ f, exec (.fusePkRevoke loc level slot f) s = .next { s with answer := ⟨0x1009, 0⟩ }) ∧
        (∀ k, k < 4 → (s.pkSlot k).state 48 = 1 → bit (s.sec.pkRev ||| 2 ^ slot.toNat) k = 0 →
          (∃ t, exec (.fusePkRevoke loc level slot false) s = .next t ∧ t.sec = { s.sec with pkRev := s.sec.pkRev ||| 2 ^ slot.toNat } ∧ t.answer = ⟨0, 0⟩) ∧
          (bit s.sec.pkRev slot.toNat = 0 → ∃ t, exec (.fusePkRevoke loc level slot true) s = .next t ∧ t.sec = s.sec ∧ t.answer = ⟨0x1006, 0⟩)))) ∧
    (∀ (full : Bool) (key : BitVec 256) (l : Nat), l = (if full then 2 else 1) → ((s.dbgKeyOf l).state 32 ≠ 0 → ∀ f, exec (.fuseDbgKey loc level full key f) s = .next { s with answer := ⟨0x1003, 0⟩ }) ∧
      ((s.dbgKeyOf l).state 32 = 0 → ∃ t, exec (.fuseDbgKey loc level full key none) s = .next t ∧ t.dbgKeyOf l = keyField 32 key.toNat ∧ t.dbgKeyOf (3 - l) = s.dbgKeyOf (3 - l) ∧
        t.sec.efKey = s.sec.efKey ∧ t.answer = ⟨0, 0⟩)))

/-- O59. Counters, key RAM and tamper (R676, R681, R686, R689): a counter never falls nor passes the version that was loaded or runs; it stops at the bit that
fails; a key is written only where it may be and while TAMPER_L is high, and erased to zeros; TAMPER_CLR clears only while TAMPER_L is high. The
model's own readings and choices that it rests on: assumptions 157, 158, 159. Commands that this statement shows to complete with their own effect:
rbAdvance, fwRbAdvance, ramKeyWrite, ramKeyErase, tamperClr. -/
def Obligations.CountersAndKeyRam : Prop :=
  (∀ (s : State) (loc : Bool) (level : Fin 4) (v : BitVec 8) (f : Option (Fin 64)) (key : BitVec 256) (i : Instr), s.inMode [mBOOT, mLOAD, mRUN, mSAFE] = true → s.romOnly = false → level.val < 2 →
    i ∈ [Instr.rbAdvance level v f, .ramKeyWrite loc level key, .ramKeyErase level, .tamperClr level] → exec i s = .next { s with answer := ⟨0x0504, 0⟩ }) ∧
  (∀ (s : State) (level : Fin 4) (v : BitVec 8), s.inMode [mBOOT, mLOAD, mRUN, mSAFE] = true → s.romOnly = false → 2 ≤ level.val →
    ((v.toNat < s.sec.rb ∨ 64 < v.toNat ∨ s.ld.lastVersion < v.toNat ∨ s.get R.LD_STATUS_SEEDED = 1) → ∀ f, exec (.rbAdvance level v f) s = .next { s with answer := ⟨0x1004, 0⟩ }) ∧
    (s.sec.rb ≤ v.toNat → v.toNat ≤ 64 → v.toNat ≤ s.ld.lastVersion → s.get R.LD_STATUS_SEEDED = 0 →
      (∃ t, exec (.rbAdvance level v none) s = .next t ∧ t.sec = { s.sec with rb := v.toNat } ∧ t.get R.SEC_STATUS_RB = v.toNat % 2 ^ R.SEC_STATUS_RB.w ∧ t.answer = ⟨0, 0⟩) ∧
      ∀ f : Fin 64, s.sec.rb + f < v.toNat → ∃ t, exec (.rbAdvance level v (some f)) s = .next t ∧ t.sec = { s.sec with rb := s.sec.rb + f } ∧ t.answer = ⟨0x1006, 0⟩)) ∧
  (∀ (s : State) (level : Fin 4) (v : BitVec 8), s.inMode [mBOOT, mLOAD, mRUN, mSAFE] = true →
    (level ≠ 3 → ∀ f, exec (.fwRbAdvance level v f) s = .next { s with answer := ⟨0x0504, 0⟩ }) ∧
    (level = 3 → (v.toNat < s.sec.fwRb ∨ s.sec.runSecver < v.toNat) → ∀ f, exec (.fwRbAdvance level v f) s = .next { s with answer := ⟨0x1004, 0⟩ }) ∧
    (level = 3 → s.sec.fwRb ≤ v.toNat → v.toNat ≤ s.sec.runSecver →
      (∃ t, exec (.fwRbAdvance level v none) s = .next t ∧ t.sec = { s.sec with fwRb := v.toNat } ∧ t.answer = ⟨0, 0⟩) ∧
      ∀ f : Fin 32, s.sec.fwRb + f < v.toNat → ∃ t, exec (.fwRbAdvance level v (some f)) s = .next t ∧ t.sec = { s.sec with fwRb := s.sec.fwRb + f } ∧ t.answer = ⟨0x1006, 0⟩)) ∧
  (∀ (s : State) (loc : Bool) (level : Fin 4) (key : BitVec 256), s.inMode [mBOOT, mLOAD, mRUN, mSAFE] = true → s.romOnly = false → 2 ≤ level.val →
    (key = 0 → exec (.ramKeyWrite loc level key) s = .next { s with answer := ⟨0x0505, 0⟩ }) ∧
    (key ≠ 0 → loc = false → level = 2 → exec (.ramKeyWrite loc level key) s = .next { s with answer := ⟨0x1001, 0⟩ }) ∧
    (key ≠ 0 → (loc = true ∨ level = 3) → s.pins.tamperL = false → exec (.ramKeyWrite loc level key) s = .next { s with answer := ⟨0x1005, 0⟩ }) ∧
    (key ≠ 0 → (loc = true ∨ level = 3) → s.pins.tamperL = true → ∃ t, exec (.ramKeyWrite loc level key) s = .next t ∧ t.sec = { s.sec with ramKey := keyField 32 key.toNat } ∧
      t.get R.SEC_STATUS_RAM_PRESENT = 1 ∧ t.answer = ⟨0, 0⟩) ∧
    (∃ t, exec (.ramKeyErase level) s = .next t ∧ t.sec = { s.sec with ramKey := ⟨0, 0⟩ } ∧ t.get R.SEC_STATUS_RAM_PRESENT = 0 ∧ t.answer = ⟨0, 0⟩) ∧
    (s.pins.tamperL = true → ∃ t, exec (.tamperClr level) s = .next t ∧ t.sec = { s.sec with tamperSeen := false, vbattLost := false } ∧ t.get R.SEC_STATUS_TAMPER_SEEN = 0 ∧
      t.get R.SEC_STATUS_VBATT_LOST = 0 ∧ t.answer = ⟨0, 0⟩) ∧
    (s.pins.tamperL = false → exec (.tamperClr level) s = .next { s with answer := ⟨0, 0⟩ }))

/-- O60. The CMC's firmware, its readback and the I/O table (R683 to R687, R723): a switch runs the other slot where a checked image stands in it and nothing
loads; a start runs the slot that authenticates, and SAFE follows where none does; a readback is answered where the policy lets it; an I/O table is
kept only where it stands. The model's own readings and choices that it rests on: assumptions 3, 160, 164. Commands that this statement shows to
complete with their own effect: cmcFwAuthFail, cmcFwBoot, fwImageComplete, fwSwitch, secRbRead, ioTableWrite. -/
def Obligations.FirmwareReadbackAndIoTable : Prop :=
  (∀ (s : State) (level : Fin 4), s.inMode [mBOOT, mLOAD, mRUN, mSAFE] = true →
    (∀ code, (level ≠ 3 ∧ code = 0x0504 ∨ level = 3 ∧ (s.sec.fwState ≠ 2 ∨ s.fwOpen = true) ∧ code = 0x1013 ∨
        level = 3 ∧ s.sec.fwState = 2 ∧ s.fwOpen = false ∧ (s.ldState ≠ ldIDLE ∨ s.mode0 = mLOAD) ∧ code = 0x1014) → exec (.fwSwitch level) s = .next { s with answer := ⟨code, 0⟩ }) ∧
    (level = 3 → s.sec.fwState = 2 → s.fwOpen = false → s.ldState = ldIDLE → s.mode0 ≠ mLOAD → s.fwRunning ≤ 1 → ∃ t, exec (.fwSwitch level) s = .next t ∧ t.fwRunning = 1 - s.fwRunning ∧
      t.sec = { s.sec with runSecver := leField (s.fwSlot (1 - s.fwRunning)) 6 1 } ∧ t.dict.sess = [] ∧ t.answer = ⟨0, 0⟩)) ∧
  (∀ (s : State), ((s.sec.fwState ≠ 1 ∨ s.fwOpen = true) → exec .fwImageComplete s = .next s) ∧
    (s.sec.fwState = 1 → s.fwOpen = false → ∃ t c, exec .fwImageComplete s = .next t ∧ c = s.fwCheck (s.fwSlot (1 - s.fwRunning)) ∧ t = { s with sec := t.sec } ∧ t.sec.fwLastErr = c ∧
      t.sec.fwState = (if c = 0 then 2 else 3) ∧ t.sec.slots = s.sec.slots)) ∧
  (∀ (s : State) (sv : Nat), sv < s.sec.fwRb → ∀ f, s.fwCheck f ≠ 0 ∨ leField (f.take 256) 6 1 ≠ sv) ∧
  (∀ (s : State) (a0 a1 : Bool), (s.mode0 ≠ mBOOT → exec (.cmcFwBoot a0 a1) s = .next s) ∧
    (s.mode0 = mBOOT → s.fwRunning = 0 → (a0 = true → ∃ t, exec (.cmcFwBoot a0 a1) s = .next t ∧ t.fwRunning = 0 ∧ t.sec = { s.sec with runSecver := leField (s.fwSlot 0) 6 1 } ∧ t.mode = s.mode) ∧
      (a0 = false → a1 = true → ∃ t, exec (.cmcFwBoot a0 a1) s = .next t ∧ t.fwRunning = 1 ∧ t.sec = { s.sec with runSecver := leField (s.fwSlot 1) 6 1 } ∧ t.mode = s.mode)) ∧
    (s.mode0 = mBOOT → s.mode.trans = none → a0 = false → a1 = false → (s.fwRunning = 0 ∨ s.fwRunning = 1) →
      ∃ t u, exec (.cmcFwBoot a0 a1) s = .next t ∧ exec .cmcFwAuthFail s = .next u ∧ t = u ∧ t.mode.trans = some ⟨0x12, mSAFE, 0x1214⟩ ∧ t.get R.DEV_MODE_BUSY = 1)) ∧
  (∀ (s : State) (level : Fin 4) (latch : Bool), s.inMode [mBOOT, mLOAD, mRUN, mSAFE] = true → s.romOnly = false →
    (level.val < 2 → exec (.secRbRead level latch) s = .next { s with answer := ⟨0x0504, 0⟩ }) ∧
    (2 ≤ level.val → s.policyBit 7 = false →
      exec (.secRbRead level true) s = .next { s with answer := ⟨0, 0⟩, out := [.bytes 0 ((List.range 3072).flatMap (fun w => toBytes 4 (s.latchWord (s.rbSelOf R.RB_SEL_B) w)))] } ∧
      (frameExists (s.rbSelOf R.RB_SEL_ROW) (s.rbSelOf R.RB_SEL_COL) (s.rbSelOf R.RB_SEL_INDEX) = false → exec (.secRbRead level false) s = .next { s with answer := ⟨0x0125, 0⟩ }) ∧
      (frameExists (s.rbSelOf R.RB_SEL_ROW) (s.rbSelOf R.RB_SEL_COL) (s.rbSelOf R.RB_SEL_INDEX) = true → s.planeWritten (s.rbSelOf R.RB_SEL_PLANE) (s.rbSelOf R.RB_SEL_B) = false →
        exec (.secRbRead level false) s = .next { s with answer := ⟨0, 0⟩, out := [.bytes 0
          (toBytes 512 (s.frame (s.rbSelOf R.RB_SEL_PLANE) (s.rbSelOf R.RB_SEL_B) (s.rbSelOf R.RB_SEL_ROW) (s.rbSelOf R.RB_SEL_COL) (s.rbSelOf R.RB_SEL_INDEX)) ++
            toBytes 4 (s.frameChecks (s.rbSelOf R.RB_SEL_PLANE) (s.rbSelOf R.RB_SEL_B) (s.rbSelOf R.RB_SEL_ROW) (s.rbSelOf R.RB_SEL_COL) (s.rbSelOf R.RB_SEL_INDEX)))] })) ∧
    (2 ≤ level.val → s.policyBit 7 = true → (∀ q, s.partOf (s.rbSelOf R.RB_SEL_B) = some q → SMap.get s.pt.keysel 0 q ≠ 0) → s.partOf (s.rbSelOf R.RB_SEL_B) ≠ none →
      exec (.secRbRead level latch) s = .next { s with answer := ⟨0x1008, 0⟩ })) ∧
  (∀ (s : State) (level : Fin 4) (table : List (BitVec 8)) (l : List Nat), s.inMode [mBOOT, mLOAD, mRUN, mSAFE] = true → s.romOnly = false → l = table.map (fun (b : BitVec 8) => b.toNat) →
    (level.val < 2 → exec (.ioTableWrite level table) s = .next { s with answer := ⟨0x0504, 0⟩ }) ∧
    (2 ≤ level.val → ioTableOk l = false → exec (.ioTableWrite level table) s = .next { s with answer := ⟨0x0505, 0⟩ }) ∧
    (2 ≤ level.val → ioTableOk l = true → ∃ t, exec (.ioTableWrite level table) s = .next t ∧ t.ioTable = l ∧ 0x240001 ∈ t.dict.due ∧ t.regs = s.regs ∧ t.answer = ⟨0, 0⟩))

end
end

