-- ==== Sys2Proof/Laws/SMap.lean ====
section
/-!
SUPPORT. What the operations of a sparse map do, once: a read after a write, and that every write keeps the canonical form.
-/
namespace Sys2Proof.Machine

variable {α : Type}

@[simp] theorem SMap.get_nil (d : α) (k : Nat) : SMap.get ([] : SMap α) d k = d := rfl

theorem SMap.get_drop_same (m : SMap α) (d : α) (k : Nat) : SMap.get (SMap.drop m k) d k = d := by
  induction m with
  | nil => rfl
  | cons p t ih => simp only [SMap.drop]; split <;> simp_all [SMap.get]

theorem SMap.get_drop_ne (m : SMap α) (d : α) (k j : Nat) (h : j ≠ k) :
    SMap.get (SMap.drop m k) d j = SMap.get m d j := by
  induction m with
  | nil => rfl
  | cons p t ih =>
    simp only [SMap.drop]; split
    · subst_vars; simp only [SMap.get]; rw [if_neg (fun e => h e.symm)]; exact ih
    · simp only [SMap.get]; split <;> simp_all

theorem SMap.get_put_ne (m : SMap α) (d : α) (k j : Nat) (v : α) (h : j ≠ k) :
    SMap.get (SMap.put m k v) d j = SMap.get m d j := by
  induction m with
  | nil => simp [SMap.put, SMap.get]; intro e; exact absurd e.symm h
  | cons p t ih =>
    simp only [SMap.put]; split
    · simp only [SMap.get]; rw [if_neg (fun e => h e.symm)]
    · simp only [SMap.get]; split <;> simp_all

theorem SMap.get_put_same (m : SMap α) (d : α) (k : Nat) (v : α) :
    SMap.get (SMap.put (SMap.drop m k) k v) d k = v := by
  induction m with
  | nil => simp [SMap.drop, SMap.put, SMap.get]
  | cons p t ih =>
    simp only [SMap.drop]; split
    · exact ih
    · simp only [SMap.put]; split
      · simp [SMap.get]
      · simp only [SMap.get]; rw [if_neg (by assumption)]; exact ih

variable [DecidableEq α]

@[simp] theorem SMap.get_set_same (m : SMap α) (d : α) (k : Nat) (v : α) : SMap.get (SMap.set m d k v) d k = v := by
  unfold SMap.set; split
  · subst_vars; exact SMap.get_drop_same m v k
  · exact SMap.get_put_same m d k v

theorem SMap.get_set_ne (m : SMap α) (d d' : α) (k j : Nat) (v : α) (h : j ≠ k) :
    SMap.get (SMap.set m d k v) d' j = SMap.get m d' j := by
  unfold SMap.set; split
  · exact SMap.get_drop_ne m d' k j h
  · rw [SMap.get_put_ne _ _ _ _ _ h]; exact SMap.get_drop_ne m d' k j h

theorem SMap.get_set (m : SMap α) (d : α) (k j : Nat) (v : α) :
    SMap.get (SMap.set m d k v) d j = if j = k then v else SMap.get m d j := by
  split
  · subst_vars; exact SMap.get_set_same m d _ v
  · exact SMap.get_set_ne m d d k j v (by assumption)

omit [DecidableEq α] in
theorem SMap.sortedFrom_mono (m : SMap α) (a b : Nat) (h : a ≤ b) (hs : SMap.sortedFrom b m = true) :
    SMap.sortedFrom a m = true := by
  cases m with
  | nil => rfl
  | cons p t => simp only [SMap.sortedFrom, Bool.and_eq_true, decide_eq_true_eq] at *; exact ⟨by omega, hs.2⟩

omit [DecidableEq α] in
theorem SMap.sortedFrom_drop (m : SMap α) (a k : Nat) (hs : SMap.sortedFrom a m = true) :
    SMap.sortedFrom a (SMap.drop m k) = true := by
  induction m generalizing a with
  | nil => rfl
  | cons p t ih =>
    simp only [SMap.sortedFrom, Bool.and_eq_true, decide_eq_true_eq] at hs
    simp only [SMap.drop]; split
    · exact SMap.sortedFrom_mono _ a (p.1 + 1) (by omega) (ih _ hs.2)
    · simp only [SMap.sortedFrom, Bool.and_eq_true, decide_eq_true_eq]; exact ⟨hs.1, ih _ hs.2⟩

omit [DecidableEq α] in
theorem SMap.sortedFrom_put (m : SMap α) (a k : Nat) (v : α) (ha : a ≤ k) (hs : SMap.sortedFrom a m = true) :
    SMap.sortedFrom a (SMap.put (SMap.drop m k) k v) = true := by
  induction m generalizing a with
  | nil => simp [SMap.drop, SMap.put, SMap.sortedFrom, ha]
  | cons p t ih =>
    simp only [SMap.sortedFrom, Bool.and_eq_true, decide_eq_true_eq] at hs
    simp only [SMap.drop]; split
    · exact ih a ha (SMap.sortedFrom_mono _ a (p.1 + 1) (by omega) hs.2)
    · simp only [SMap.put]; split
      · simp only [SMap.sortedFrom, Bool.and_eq_true, decide_eq_true_eq]
        exact ⟨ha, by omega, SMap.sortedFrom_drop _ _ _ hs.2⟩
      · simp only [SMap.sortedFrom, Bool.and_eq_true, decide_eq_true_eq]
        exact ⟨hs.1, ih _ (by omega) hs.2⟩

omit [DecidableEq α] in
theorem SMap.mem_drop (m : SMap α) (k : Nat) (p : Nat × α) (h : p ∈ SMap.drop m k) : p ∈ m := by
  induction m with
  | nil => exact h
  | cons q t ih =>
    simp only [SMap.drop] at h; split at h
    · exact List.mem_cons_of_mem _ (ih h)
    · rcases List.mem_cons.1 h with e | e
      · exact e ▸ List.mem_cons_self
      · exact List.mem_cons_of_mem _ (ih e)

omit [DecidableEq α] in
theorem SMap.mem_put (m : SMap α) (k : Nat) (v : α) (p : Nat × α) (h : p ∈ SMap.put m k v) : p = (k, v) ∨ p ∈ m := by
  induction m with
  | nil => simpa [SMap.put] using h
  | cons q t ih =>
    simp only [SMap.put] at h; split at h
    · simpa using h
    · rcases List.mem_cons.1 h with e | e
      · exact .inr (e ▸ List.mem_cons_self)
      · rcases ih e with e | e
        · exact .inl e
        · exact .inr (List.mem_cons_of_mem _ e)

/-- Every write keeps the canonical form. -/
theorem SMap.wf_set (m : SMap α) (d : α) (k : Nat) (v : α) (h : SMap.wf d m = true) :
    SMap.wf d (SMap.set m d k v) = true := by
  simp only [SMap.wf, Bool.and_eq_true, List.all_eq_true, decide_eq_true_eq] at *
  unfold SMap.set; split
  · exact ⟨SMap.sortedFrom_drop _ _ _ h.1, fun p hp => h.2 p (SMap.mem_drop _ _ _ hp)⟩
  · refine ⟨SMap.sortedFrom_put _ _ _ _ (by omega) h.1, fun p hp => ?_⟩
    rcases SMap.mem_put _ _ _ _ hp with e | e
    · subst e; assumption
    · exact h.2 p (SMap.mem_drop _ _ _ e)

theorem SMap.wf_nil (d : α) : SMap.wf d ([] : SMap α) = true := rfl

theorem SMap.wf_setRun (vs : List α) (m : SMap α) (d : α) (k : Nat) (h : SMap.wf d m = true) :
    SMap.wf d (SMap.setRun m d k vs) = true := by
  induction vs generalizing m k with
  | nil => exact h
  | cons v t ih => exact ih _ _ (SMap.wf_set m d k v h)

end Sys2Proof.Machine
end

