-- ==== Sys2Proof/Laws/State.lean ====
section
/-!
SUPPORT. What the small operations of a state do to each of its fields, and a register field read after it was written.
-/
namespace Sys2Proof.Machine
open Sys2Proof

/-! ## Register fields -/

@[simp] theorem State.get_set_same (s : State) (f : Fld) (v : Nat) : (s.set f v).get f = v % 2 ^ f.w := SMap.get_set_same _ _ _ _

theorem State.get_set_ne (s : State) (f g : Fld) (v : Nat) (h : g.key ≠ f.key) : (s.set f v).get g = s.get g :=
  SMap.get_set_ne _ _ _ _ _ _ h

@[simp] theorem State.sets_nil (s : State) : s.sets [] = s := rfl
@[simp] theorem State.sets_cons (s : State) (p : Fld × Nat) (l : List (Fld × Nat)) : s.sets (p :: l) = (s.set p.1 p.2).sets l := rfl

theorem State.put_eq (s : State) (f : Fld) (b : Bool) : s.put f b = s.set f (ofFlag b) := rfl

theorem State.bump_eq (s : State) (f : Fld) (n : Nat) : s.bump f n = s.set f (satAdd (2 ^ f.w - 1) (s.get f) n) := rfl

/-- Writing a list of fields leaves every other field alone. -/
theorem State.get_sets_ne (l : List (Fld × Nat)) (s : State) (g : Fld) (h : ∀ p ∈ l, g.key ≠ p.1.key) : (s.sets l).get g = s.get g := by
  induction l generalizing s with
  | nil => rfl
  | cons p l ih =>
    rw [State.sets_cons, ih _ (fun q hq => h q (List.mem_cons_of_mem _ hq))]
    exact s.get_set_ne _ _ _ (h p List.mem_cons_self)

/-- A state is read through its register store alone. -/
theorem State.get_congr (s t : State) (f : Fld) (h : t.regs = s.regs) : t.get f = s.get f := by unfold State.get; rw [h]

/-! ## Each field of the state after each small operation -/

@[simp] theorem State.set_pops (s : State) (f : Fld) (v : Nat) : (s.set f v).pops = s.pops := rfl
@[simp] theorem State.set_popOvf (s : State) (f : Fld) (v : Nat) : (s.set f v).popOvf = s.popOvf := rfl
@[simp] theorem State.set_half (s : State) (f : Fld) (v : Nat) : (s.set f v).half = s.half := rfl
@[simp] theorem State.set_stage (s : State) (f : Fld) (v : Nat) : (s.set f v).stage = s.stage := rfl
@[simp] theorem State.set_answer (s : State) (f : Fld) (v : Nat) : (s.set f v).answer = s.answer := rfl
@[simp] theorem State.set_out (s : State) (f : Fld) (v : Nat) : (s.set f v).out = s.out := rfl
@[simp] theorem State.set_free (s : State) (f : Fld) (v : Nat) : (s.set f v).free = s.free := rfl
@[simp] theorem State.set_pending (s : State) (f : Fld) (v : Nat) : (s.set f v).pending = s.pending := rfl
@[simp] theorem State.set_mode (s : State) (f : Fld) (v : Nat) : (s.set f v).mode = s.mode := rfl
@[simp] theorem State.set_pins (s : State) (f : Fld) (v : Nat) : (s.set f v).pins = s.pins := rfl
@[simp] theorem State.set_siteEvts (s : State) (f : Fld) (v : Nat) : (s.set f v).siteEvts = s.siteEvts := rfl
@[simp] theorem State.set_siteLost (s : State) (f : Fld) (v : Nat) : (s.set f v).siteLost = s.siteLost := rfl
@[simp] theorem State.set_siteOvf (s : State) (f : Fld) (v : Nat) : (s.set f v).siteOvf = s.siteOvf := rfl
@[simp] theorem State.set_dbgLevel (s : State) (f : Fld) (v : Nat) : (s.set f v).dbgLevel = s.dbgLevel := rfl
@[simp] theorem State.set_policy (s : State) (f : Fld) (v : Nat) : (s.set f v).policy = s.policy := rfl
@[simp] theorem State.set_fab (s : State) (f : Fld) (v : Nat) : (s.set f v).fab = s.fab := rfl
@[simp] theorem State.set_seqs (s : State) (f : Fld) (v : Nat) : (s.set f v).seqs = s.seqs := rfl
@[simp] theorem State.set_istore (s : State) (f : Fld) (v : Nat) : (s.set f v).istore = s.istore := rfl
@[simp] theorem State.set_clk (s : State) (f : Fld) (v : Nat) : (s.set f v).clk = s.clk := rfl
@[simp] theorem State.set_tp (s : State) (f : Fld) (v : Nat) : (s.set f v).tp = s.tp := rfl
@[simp] theorem State.set_tl (s : State) (f : Fld) (v : Nat) : (s.set f v).tl = s.tl := rfl
@[simp] theorem State.set_noc (s : State) (f : Fld) (v : Nat) : (s.set f v).noc = s.noc := rfl
@[simp] theorem State.set_gr (s : State) (f : Fld) (v : Nat) : (s.set f v).gr = s.gr := rfl
@[simp] theorem State.set_lanes (s : State) (f : Fld) (v : Nat) : (s.set f v).lanes = s.lanes := rfl
@[simp] theorem State.set_streams (s : State) (f : Fld) (v : Nat) : (s.set f v).streams = s.streams := rfl
@[simp] theorem State.set_lref (s : State) (f : Fld) (v : Nat) : (s.set f v).lref = s.lref := rfl
@[simp] theorem State.set_chans (s : State) (f : Fld) (v : Nat) : (s.set f v).chans = s.chans := rfl
@[simp] theorem State.set_loft (s : State) (f : Fld) (v : Nat) : (s.set f v).loft = s.loft := rfl
@[simp] theorem State.set_todS (s : State) (f : Fld) (v : Nat) : (s.set f v).todS = s.todS := rfl
@[simp] theorem State.set_todPrev (s : State) (f : Fld) (v : Nat) : (s.set f v).todPrev = s.todPrev := rfl
@[simp] theorem State.set_hl (s : State) (f : Fld) (v : Nat) : (s.set f v).hl = s.hl := rfl
@[simp] theorem State.set_ld (s : State) (f : Fld) (v : Nat) : (s.set f v).ld = s.ld := rfl
@[simp] theorem State.set_pt (s : State) (f : Fld) (v : Nat) : (s.set f v).pt = s.pt := rfl
@[simp] theorem State.set_gl (s : State) (f : Fld) (v : Nat) : (s.set f v).gl = s.gl := rfl
@[simp] theorem State.set_sc (s : State) (f : Fld) (v : Nat) : (s.set f v).sc = s.sc := rfl
@[simp] theorem State.set_dict (s : State) (f : Fld) (v : Nat) : (s.set f v).dict = s.dict := rfl
@[simp] theorem State.set_tap (s : State) (f : Fld) (v : Nat) : (s.set f v).tap = s.tap := rfl
@[simp] theorem State.set_hm (s : State) (f : Fld) (v : Nat) : (s.set f v).hm = s.hm := rfl
@[simp] theorem State.set_sec (s : State) (f : Fld) (v : Nat) : (s.set f v).sec = s.sec := rfl
@[simp] theorem State.set_estW (s : State) (f : Fld) (v : Nat) : (s.set f v).estW = s.estW := rfl

@[simp] theorem State.put_pops (s : State) (f : Fld) (b : Bool) : (s.put f b).pops = s.pops := rfl
@[simp] theorem State.put_popOvf (s : State) (f : Fld) (b : Bool) : (s.put f b).popOvf = s.popOvf := rfl
@[simp] theorem State.put_half (s : State) (f : Fld) (b : Bool) : (s.put f b).half = s.half := rfl
@[simp] theorem State.put_stage (s : State) (f : Fld) (b : Bool) : (s.put f b).stage = s.stage := rfl
@[simp] theorem State.put_answer (s : State) (f : Fld) (b : Bool) : (s.put f b).answer = s.answer := rfl
@[simp] theorem State.put_out (s : State) (f : Fld) (b : Bool) : (s.put f b).out = s.out := rfl
@[simp] theorem State.put_free (s : State) (f : Fld) (b : Bool) : (s.put f b).free = s.free := rfl
@[simp] theorem State.put_pending (s : State) (f : Fld) (b : Bool) : (s.put f b).pending = s.pending := rfl
@[simp] theorem State.put_mode (s : State) (f : Fld) (b : Bool) : (s.put f b).mode = s.mode := rfl
@[simp] theorem State.put_pins (s : State) (f : Fld) (b : Bool) : (s.put f b).pins = s.pins := rfl
@[simp] theorem State.put_siteEvts (s : State) (f : Fld) (b : Bool) : (s.put f b).siteEvts = s.siteEvts := rfl
@[simp] theorem State.put_siteLost (s : State) (f : Fld) (b : Bool) : (s.put f b).siteLost = s.siteLost := rfl
@[simp] theorem State.put_siteOvf (s : State) (f : Fld) (b : Bool) : (s.put f b).siteOvf = s.siteOvf := rfl
@[simp] theorem State.put_dbgLevel (s : State) (f : Fld) (b : Bool) : (s.put f b).dbgLevel = s.dbgLevel := rfl
@[simp] theorem State.put_policy (s : State) (f : Fld) (b : Bool) : (s.put f b).policy = s.policy := rfl
@[simp] theorem State.put_fab (s : State) (f : Fld) (b : Bool) : (s.put f b).fab = s.fab := rfl
@[simp] theorem State.put_seqs (s : State) (f : Fld) (b : Bool) : (s.put f b).seqs = s.seqs := rfl
@[simp] theorem State.put_istore (s : State) (f : Fld) (b : Bool) : (s.put f b).istore = s.istore := rfl
@[simp] theorem State.put_clk (s : State) (f : Fld) (b : Bool) : (s.put f b).clk = s.clk := rfl
@[simp] theorem State.put_tp (s : State) (f : Fld) (b : Bool) : (s.put f b).tp = s.tp := rfl
@[simp] theorem State.put_tl (s : State) (f : Fld) (b : Bool) : (s.put f b).tl = s.tl := rfl
@[simp] theorem State.put_noc (s : State) (f : Fld) (b : Bool) : (s.put f b).noc = s.noc := rfl
@[simp] theorem State.put_gr (s : State) (f : Fld) (b : Bool) : (s.put f b).gr = s.gr := rfl
@[simp] theorem State.put_lanes (s : State) (f : Fld) (b : Bool) : (s.put f b).lanes = s.lanes := rfl
@[simp] theorem State.put_streams (s : State) (f : Fld) (b : Bool) : (s.put f b).streams = s.streams := rfl
@[simp] theorem State.put_lref (s : State) (f : Fld) (b : Bool) : (s.put f b).lref = s.lref := rfl
@[simp] theorem State.put_chans (s : State) (f : Fld) (b : Bool) : (s.put f b).chans = s.chans := rfl
@[simp] theorem State.put_loft (s : State) (f : Fld) (b : Bool) : (s.put f b).loft = s.loft := rfl
@[simp] theorem State.put_todS (s : State) (f : Fld) (b : Bool) : (s.put f b).todS = s.todS := rfl
@[simp] theorem State.put_todPrev (s : State) (f : Fld) (b : Bool) : (s.put f b).todPrev = s.todPrev := rfl
@[simp] theorem State.put_hl (s : State) (f : Fld) (b : Bool) : (s.put f b).hl = s.hl := rfl
@[simp] theorem State.put_ld (s : State) (f : Fld) (b : Bool) : (s.put f b).ld = s.ld := rfl
@[simp] theorem State.put_pt (s : State) (f : Fld) (b : Bool) : (s.put f b).pt = s.pt := rfl
@[simp] theorem State.put_gl (s : State) (f : Fld) (b : Bool) : (s.put f b).gl = s.gl := rfl
@[simp] theorem State.put_sc (s : State) (f : Fld) (b : Bool) : (s.put f b).sc = s.sc := rfl
@[simp] theorem State.put_dict (s : State) (f : Fld) (b : Bool) : (s.put f b).dict = s.dict := rfl
@[simp] theorem State.put_tap (s : State) (f : Fld) (b : Bool) : (s.put f b).tap = s.tap := rfl
@[simp] theorem State.put_hm (s : State) (f : Fld) (b : Bool) : (s.put f b).hm = s.hm := rfl
@[simp] theorem State.put_sec (s : State) (f : Fld) (b : Bool) : (s.put f b).sec = s.sec := rfl
@[simp] theorem State.put_estW (s : State) (f : Fld) (b : Bool) : (s.put f b).estW = s.estW := rfl

@[simp] theorem State.bump_pops (s : State) (f : Fld) (n : Nat) : (s.bump f n).pops = s.pops := rfl
@[simp] theorem State.bump_popOvf (s : State) (f : Fld) (n : Nat) : (s.bump f n).popOvf = s.popOvf := rfl
@[simp] theorem State.bump_half (s : State) (f : Fld) (n : Nat) : (s.bump f n).half = s.half := rfl
@[simp] theorem State.bump_stage (s : State) (f : Fld) (n : Nat) : (s.bump f n).stage = s.stage := rfl
@[simp] theorem State.bump_answer (s : State) (f : Fld) (n : Nat) : (s.bump f n).answer = s.answer := rfl
@[simp] theorem State.bump_out (s : State) (f : Fld) (n : Nat) : (s.bump f n).out = s.out := rfl
@[simp] theorem State.bump_free (s : State) (f : Fld) (n : Nat) : (s.bump f n).free = s.free := rfl
@[simp] theorem State.bump_pending (s : State) (f : Fld) (n : Nat) : (s.bump f n).pending = s.pending := rfl
@[simp] theorem State.bump_mode (s : State) (f : Fld) (n : Nat) : (s.bump f n).mode = s.mode := rfl
@[simp] theorem State.bump_pins (s : State) (f : Fld) (n : Nat) : (s.bump f n).pins = s.pins := rfl
@[simp] theorem State.bump_siteEvts (s : State) (f : Fld) (n : Nat) : (s.bump f n).siteEvts = s.siteEvts := rfl
@[simp] theorem State.bump_siteLost (s : State) (f : Fld) (n : Nat) : (s.bump f n).siteLost = s.siteLost := rfl
@[simp] theorem State.bump_siteOvf (s : State) (f : Fld) (n : Nat) : (s.bump f n).siteOvf = s.siteOvf := rfl
@[simp] theorem State.bump_dbgLevel (s : State) (f : Fld) (n : Nat) : (s.bump f n).dbgLevel = s.dbgLevel := rfl
@[simp] theorem State.bump_policy (s : State) (f : Fld) (n : Nat) : (s.bump f n).policy = s.policy := rfl
@[simp] theorem State.bump_fab (s : State) (f : Fld) (n : Nat) : (s.bump f n).fab = s.fab := rfl
@[simp] theorem State.bump_seqs (s : State) (f : Fld) (n : Nat) : (s.bump f n).seqs = s.seqs := rfl
@[simp] theorem State.bump_istore (s : State) (f : Fld) (n : Nat) : (s.bump f n).istore = s.istore := rfl
@[simp] theorem State.bump_clk (s : State) (f : Fld) (n : Nat) : (s.bump f n).clk = s.clk := rfl
@[simp] theorem State.bump_tp (s : State) (f : Fld) (n : Nat) : (s.bump f n).tp = s.tp := rfl
@[simp] theorem State.bump_tl (s : State) (f : Fld) (n : Nat) : (s.bump f n).tl = s.tl := rfl
@[simp] theorem State.bump_noc (s : State) (f : Fld) (n : Nat) : (s.bump f n).noc = s.noc := rfl
@[simp] theorem State.bump_gr (s : State) (f : Fld) (n : Nat) : (s.bump f n).gr = s.gr := rfl
@[simp] theorem State.bump_lanes (s : State) (f : Fld) (n : Nat) : (s.bump f n).lanes = s.lanes := rfl
@[simp] theorem State.bump_streams (s : State) (f : Fld) (n : Nat) : (s.bump f n).streams = s.streams := rfl
@[simp] theorem State.bump_lref (s : State) (f : Fld) (n : Nat) : (s.bump f n).lref = s.lref := rfl
@[simp] theorem State.bump_chans (s : State) (f : Fld) (n : Nat) : (s.bump f n).chans = s.chans := rfl
@[simp] theorem State.bump_loft (s : State) (f : Fld) (n : Nat) : (s.bump f n).loft = s.loft := rfl
@[simp] theorem State.bump_todS (s : State) (f : Fld) (n : Nat) : (s.bump f n).todS = s.todS := rfl
@[simp] theorem State.bump_todPrev (s : State) (f : Fld) (n : Nat) : (s.bump f n).todPrev = s.todPrev := rfl
@[simp] theorem State.bump_hl (s : State) (f : Fld) (n : Nat) : (s.bump f n).hl = s.hl := rfl
@[simp] theorem State.bump_ld (s : State) (f : Fld) (n : Nat) : (s.bump f n).ld = s.ld := rfl
@[simp] theorem State.bump_pt (s : State) (f : Fld) (n : Nat) : (s.bump f n).pt = s.pt := rfl
@[simp] theorem State.bump_gl (s : State) (f : Fld) (n : Nat) : (s.bump f n).gl = s.gl := rfl
@[simp] theorem State.bump_sc (s : State) (f : Fld) (n : Nat) : (s.bump f n).sc = s.sc := rfl
@[simp] theorem State.bump_dict (s : State) (f : Fld) (n : Nat) : (s.bump f n).dict = s.dict := rfl
@[simp] theorem State.bump_tap (s : State) (f : Fld) (n : Nat) : (s.bump f n).tap = s.tap := rfl
@[simp] theorem State.bump_hm (s : State) (f : Fld) (n : Nat) : (s.bump f n).hm = s.hm := rfl
@[simp] theorem State.bump_sec (s : State) (f : Fld) (n : Nat) : (s.bump f n).sec = s.sec := rfl
@[simp] theorem State.bump_estW (s : State) (f : Fld) (n : Nat) : (s.bump f n).estW = s.estW := rfl

@[simp] theorem State.reply_regs (s : State) (c d : Nat) : (s.reply c d).regs = s.regs := rfl
@[simp] theorem State.reply_pops (s : State) (c d : Nat) : (s.reply c d).pops = s.pops := rfl
@[simp] theorem State.reply_popOvf (s : State) (c d : Nat) : (s.reply c d).popOvf = s.popOvf := rfl
@[simp] theorem State.reply_half (s : State) (c d : Nat) : (s.reply c d).half = s.half := rfl
@[simp] theorem State.reply_stage (s : State) (c d : Nat) : (s.reply c d).stage = s.stage := rfl
@[simp] theorem State.reply_out (s : State) (c d : Nat) : (s.reply c d).out = s.out := rfl
@[simp] theorem State.reply_free (s : State) (c d : Nat) : (s.reply c d).free = s.free := rfl
@[simp] theorem State.reply_pending (s : State) (c d : Nat) : (s.reply c d).pending = s.pending := rfl
@[simp] theorem State.reply_mode (s : State) (c d : Nat) : (s.reply c d).mode = s.mode := rfl
@[simp] theorem State.reply_pins (s : State) (c d : Nat) : (s.reply c d).pins = s.pins := rfl
@[simp] theorem State.reply_siteEvts (s : State) (c d : Nat) : (s.reply c d).siteEvts = s.siteEvts := rfl
@[simp] theorem State.reply_siteLost (s : State) (c d : Nat) : (s.reply c d).siteLost = s.siteLost := rfl
@[simp] theorem State.reply_siteOvf (s : State) (c d : Nat) : (s.reply c d).siteOvf = s.siteOvf := rfl
@[simp] theorem State.reply_dbgLevel (s : State) (c d : Nat) : (s.reply c d).dbgLevel = s.dbgLevel := rfl
@[simp] theorem State.reply_policy (s : State) (c d : Nat) : (s.reply c d).policy = s.policy := rfl
@[simp] theorem State.reply_fab (s : State) (c d : Nat) : (s.reply c d).fab = s.fab := rfl
@[simp] theorem State.reply_seqs (s : State) (c d : Nat) : (s.reply c d).seqs = s.seqs := rfl
@[simp] theorem State.reply_istore (s : State) (c d : Nat) : (s.reply c d).istore = s.istore := rfl
@[simp] theorem State.reply_clk (s : State) (c d : Nat) : (s.reply c d).clk = s.clk := rfl
@[simp] theorem State.reply_tp (s : State) (c d : Nat) : (s.reply c d).tp = s.tp := rfl
@[simp] theorem State.reply_tl (s : State) (c d : Nat) : (s.reply c d).tl = s.tl := rfl
@[simp] theorem State.reply_noc (s : State) (c d : Nat) : (s.reply c d).noc = s.noc := rfl
@[simp] theorem State.reply_gr (s : State) (c d : Nat) : (s.reply c d).gr = s.gr := rfl
@[simp] theorem State.reply_lanes (s : State) (c d : Nat) : (s.reply c d).lanes = s.lanes := rfl
@[simp] theorem State.reply_streams (s : State) (c d : Nat) : (s.reply c d).streams = s.streams := rfl
@[simp] theorem State.reply_lref (s : State) (c d : Nat) : (s.reply c d).lref = s.lref := rfl
@[simp] theorem State.reply_chans (s : State) (c d : Nat) : (s.reply c d).chans = s.chans := rfl
@[simp] theorem State.reply_loft (s : State) (c d : Nat) : (s.reply c d).loft = s.loft := rfl
@[simp] theorem State.reply_todS (s : State) (c d : Nat) : (s.reply c d).todS = s.todS := rfl
@[simp] theorem State.reply_todPrev (s : State) (c d : Nat) : (s.reply c d).todPrev = s.todPrev := rfl
@[simp] theorem State.reply_hl (s : State) (c d : Nat) : (s.reply c d).hl = s.hl := rfl
@[simp] theorem State.reply_ld (s : State) (c d : Nat) : (s.reply c d).ld = s.ld := rfl
@[simp] theorem State.reply_pt (s : State) (c d : Nat) : (s.reply c d).pt = s.pt := rfl
@[simp] theorem State.reply_gl (s : State) (c d : Nat) : (s.reply c d).gl = s.gl := rfl
@[simp] theorem State.reply_sc (s : State) (c d : Nat) : (s.reply c d).sc = s.sc := rfl
@[simp] theorem State.reply_dict (s : State) (c d : Nat) : (s.reply c d).dict = s.dict := rfl
@[simp] theorem State.reply_tap (s : State) (c d : Nat) : (s.reply c d).tap = s.tap := rfl
@[simp] theorem State.reply_hm (s : State) (c d : Nat) : (s.reply c d).hm = s.hm := rfl
@[simp] theorem State.reply_sec (s : State) (c d : Nat) : (s.reply c d).sec = s.sec := rfl
@[simp] theorem State.reply_estW (s : State) (c d : Nat) : (s.reply c d).estW = s.estW := rfl
@[simp] theorem State.reply_answer (s : State) (c d : Nat) : (s.reply c d).answer = ⟨c, d⟩ := rfl

/-! ## A register field after another field of the state was written -/

@[simp] theorem State.get_with_pops (s : State) (x) (f : Fld) : State.get { s with pops := x } f = s.get f := rfl
@[simp] theorem State.get_with_popOvf (s : State) (x) (f : Fld) : State.get { s with popOvf := x } f = s.get f := rfl
@[simp] theorem State.get_with_half (s : State) (x) (f : Fld) : State.get { s with half := x } f = s.get f := rfl
@[simp] theorem State.get_with_stage (s : State) (x) (f : Fld) : State.get { s with stage := x } f = s.get f := rfl
@[simp] theorem State.get_with_answer (s : State) (x) (f : Fld) : State.get { s with answer := x } f = s.get f := rfl
@[simp] theorem State.get_with_out (s : State) (x) (f : Fld) : State.get { s with out := x } f = s.get f := rfl
@[simp] theorem State.get_with_free (s : State) (x) (f : Fld) : State.get { s with free := x } f = s.get f := rfl
@[simp] theorem State.get_with_pending (s : State) (x) (f : Fld) : State.get { s with pending := x } f = s.get f := rfl
@[simp] theorem State.get_with_mode (s : State) (x) (f : Fld) : State.get { s with mode := x } f = s.get f := rfl
@[simp] theorem State.get_with_pins (s : State) (x) (f : Fld) : State.get { s with pins := x } f = s.get f := rfl
@[simp] theorem State.get_with_siteEvts (s : State) (x) (f : Fld) : State.get { s with siteEvts := x } f = s.get f := rfl
@[simp] theorem State.get_with_siteLost (s : State) (x) (f : Fld) : State.get { s with siteLost := x } f = s.get f := rfl
@[simp] theorem State.get_with_siteOvf (s : State) (x) (f : Fld) : State.get { s with siteOvf := x } f = s.get f := rfl
@[simp] theorem State.get_with_dbgLevel (s : State) (x) (f : Fld) : State.get { s with dbgLevel := x } f = s.get f := rfl
@[simp] theorem State.get_with_policy (s : State) (x) (f : Fld) : State.get { s with policy := x } f = s.get f := rfl
@[simp] theorem State.get_with_fab (s : State) (x) (f : Fld) : State.get { s with fab := x } f = s.get f := rfl
@[simp] theorem State.get_with_seqs (s : State) (x) (f : Fld) : State.get { s with seqs := x } f = s.get f := rfl
@[simp] theorem State.get_with_istore (s : State) (x) (f : Fld) : State.get { s with istore := x } f = s.get f := rfl
@[simp] theorem State.get_with_clk (s : State) (x) (f : Fld) : State.get { s with clk := x } f = s.get f := rfl
@[simp] theorem State.get_with_tp (s : State) (x) (f : Fld) : State.get { s with tp := x } f = s.get f := rfl
@[simp] theorem State.get_with_tl (s : State) (x) (f : Fld) : State.get { s with tl := x } f = s.get f := rfl
@[simp] theorem State.get_with_noc (s : State) (x) (f : Fld) : State.get { s with noc := x } f = s.get f := rfl
@[simp] theorem State.get_with_gr (s : State) (x) (f : Fld) : State.get { s with gr := x } f = s.get f := rfl
@[simp] theorem State.get_with_lanes (s : State) (x) (f : Fld) : State.get { s with lanes := x } f = s.get f := rfl
@[simp] theorem State.get_with_streams (s : State) (x) (f : Fld) : State.get { s with streams := x } f = s.get f := rfl
@[simp] theorem State.get_with_lref (s : State) (x) (f : Fld) : State.get { s with lref := x } f = s.get f := rfl
@[simp] theorem State.get_with_chans (s : State) (x) (f : Fld) : State.get { s with chans := x } f = s.get f := rfl
@[simp] theorem State.get_with_loft (s : State) (x) (f : Fld) : State.get { s with loft := x } f = s.get f := rfl
@[simp] theorem State.get_with_todS (s : State) (x) (f : Fld) : State.get { s with todS := x } f = s.get f := rfl
@[simp] theorem State.get_with_todPrev (s : State) (x) (f : Fld) : State.get { s with todPrev := x } f = s.get f := rfl
@[simp] theorem State.get_with_hl (s : State) (x) (f : Fld) : State.get { s with hl := x } f = s.get f := rfl
@[simp] theorem State.get_with_ld (s : State) (x) (f : Fld) : State.get { s with ld := x } f = s.get f := rfl
@[simp] theorem State.get_with_pt (s : State) (x) (f : Fld) : State.get { s with pt := x } f = s.get f := rfl
@[simp] theorem State.get_with_gl (s : State) (x) (f : Fld) : State.get { s with gl := x } f = s.get f := rfl
@[simp] theorem State.get_with_sc (s : State) (x) (f : Fld) : State.get { s with sc := x } f = s.get f := rfl
@[simp] theorem State.get_with_dict (s : State) (x) (f : Fld) : State.get { s with dict := x } f = s.get f := rfl
@[simp] theorem State.get_with_tap (s : State) (x) (f : Fld) : State.get { s with tap := x } f = s.get f := rfl
@[simp] theorem State.get_with_hm (s : State) (x) (f : Fld) : State.get { s with hm := x } f = s.get f := rfl
@[simp] theorem State.get_with_sec (s : State) (x) (f : Fld) : State.get { s with sec := x } f = s.get f := rfl
@[simp] theorem State.get_with_estW (s : State) (x) (f : Fld) : State.get { s with estW := x } f = s.get f := rfl
@[simp] theorem State.get_reply (s : State) (c d : Nat) (f : Fld) : (s.reply c d).get f = s.get f := rfl

end Sys2Proof.Machine
end

