-- ==== Sys2Proof/Laws/Ops.lean ====
section
/-!
SUPPORT. What the shared operations can do: posting a result, raising a code, popping and filling a queue. Each lemma says it once.
-/
namespace Sys2Proof.Machine
open Sys2Proof

/-! ## Hushed states -/

@[simp] theorem State.set_hushed (s : State) (f : Fld) (v : Nat) : (s.set f v).hushed = s.hushed := rfl
@[simp] theorem State.put_hushed (s : State) (f : Fld) (b : Bool) : (s.put f b).hushed = s.hushed := rfl
@[simp] theorem State.bump_hushed (s : State) (f : Fld) (n : Nat) : (s.bump f n).hushed = s.hushed := rfl
@[simp] theorem State.reply_hushed (s : State) (c d : Nat) : (s.reply c d).hushed = s.hushed := rfl

@[simp] theorem State.sets_hushed (l : List (Fld × Nat)) (s : State) : (s.sets l).hushed = s.hushed := by
  induction l generalizing s with
  | nil => rfl
  | cons p l ih => rw [State.sets_cons, ih]; rfl

/-- Writing fields changes the register store alone. -/
theorem State.sets_regs (l : List (Fld × Nat)) (s : State) : s.sets l = { s with regs := (s.sets l).regs } := by
  induction l generalizing s with
  | nil => rfl
  | cons p l ih => rw [State.sets_cons, ih]; rfl

/-! ## Results -/

theorem State.post_regs (s : State) (st : Fld) (code : Nat) : s.post st code = { s with regs := (s.post st code).regs } :=
  State.sets_regs _ _

@[simp] theorem State.post_hushed (s : State) (st : Fld) (code : Nat) : (s.post st code).hushed = s.hushed := State.sets_hushed _ _

/-- A posted result (R20, R21), where STATUS stands below bit 32. -/
theorem State.post_posted (s : State) (st : Fld) (code : Nat) (hl : st.lo < 32) (hc : code < 2 ^ st.w) : Posted s (s.post st code) st code := by
  have k1 : st.key ≠ (resSeq st).key := by simp [Fld.key, resSeq]; omega
  have k2 : st.key ≠ (resValid st).key := by simp [Fld.key, resValid]; omega
  have k3 : st.key ≠ (resStale st).key := by simp [Fld.key, resStale]; omega
  have k4 : (resSeq st).key ≠ (resValid st).key := by simp [Fld.key, resSeq, resValid]
  have k5 : (resSeq st).key ≠ (resStale st).key := by simp [Fld.key, resSeq, resStale]
  have k6 : (resValid st).key ≠ (resStale st).key := by simp [Fld.key, resValid, resStale]
  unfold State.post
  simp only [State.sets_cons, State.sets_nil]
  refine ⟨?_, ?_, ?_, ?_⟩
  · rw [State.get_set_ne _ _ _ _ k3, State.get_set_ne _ _ _ _ k2, State.get_set_ne _ _ _ _ k1, State.get_set_same, Nat.mod_eq_of_lt hc]
  · rw [State.get_set_ne _ _ _ _ k5, State.get_set_ne _ _ _ _ k4, State.get_set_same]; rfl
  · rw [State.get_set_ne _ _ _ _ k6, State.get_set_same]; rfl
  · rw [State.get_set_same]; rfl

theorem State.post_get_ne (s : State) (st g : Fld) (code : Nat) (h : g.key ∉ (resFlds st).map Fld.key) : (s.post st code).get g = s.get g := by
  simp only [resFlds, List.map_cons, List.map_nil, List.mem_cons, List.not_mem_nil, or_false, not_or] at h
  unfold State.post
  simp only [State.sets_cons, State.sets_nil]
  rw [State.get_set_ne _ _ _ _ h.2.2.2, State.get_set_ne _ _ _ _ h.2.2.1, State.get_set_ne _ _ _ _ h.2.1, State.get_set_ne _ _ _ _ h.1]

/-! ## Raised codes -/

@[simp] theorem State.setRing_get (s : State) (n : Nat) (r : Ring) (f : Fld) : (s.setRing n r).get f = s.get f := rfl
@[simp] theorem State.setRing_hushed (s : State) (n : Nat) (r : Ring) : (s.setRing n r).hushed = s.hushed := rfl

theorem State.siteOffer_get (s : State) (code unit : Nat) (f : Fld) : (s.siteOffer code unit).get f = s.get f := by
  unfold State.siteOffer; split
  · rfl
  · split <;> rfl

theorem State.siteOffer_hushed (s : State) (code unit : Nat) : (s.siteOffer code unit).hushed = s.hushed := by
  unfold State.siteOffer; split
  · rfl
  · split <;> rfl

theorem State.ringPush_get (s : State) (n : Nat) (r : EvRec) (f : Fld) (hf : f.key ≠ (R.EV_STAT_FIFO n).key) (hl : f.key ≠ (R.EV_STAT_LOST n).key) :
    (s.ringPush n r).get f = s.get f := by
  unfold State.ringPush; simp only []; split
  · rfl
  · split
    · rw [State.get_set_ne _ _ _ _ hf]; rfl
    · split
      · rw [State.bump_eq, State.get_set_ne _ _ _ _ hl]; rfl
      · rw [State.siteOffer_get, State.bump_eq, State.get_set_ne _ _ _ _ hl]; rfl

theorem State.ringPush_hushed (s : State) (n : Nat) (r : EvRec) : (s.ringPush n r).hushed = s.hushed := by
  unfold State.ringPush; simp only []; split
  · rfl
  · split
    · rfl
    · split
      · rfl
      · rw [State.siteOffer_hushed]; rfl

theorem State.offer_hushed (s : State) (p : State → Nat → Bool) (r : EvRec) : (s.offer p r).hushed = s.hushed := by
  have one : ∀ (l : List Nat) (t : State), (l.foldl (fun t n => if p t n then t.ringPush n r else t) t).hushed = t.hushed := by
    intro l; induction l with
    | nil => intro t; rfl
    | cons n l ih => intro t; simp only [List.foldl_cons]; rw [ih]; split
                     · exact State.ringPush_hushed _ _ _
                     · rfl
  exact one _ _

theorem State.offer_get (s : State) (p : State → Nat → Bool) (r : EvRec) (f : Fld) (h : f.key ∉ evKeys) : (s.offer p r).get f = s.get f := by
  have one : ∀ (l : List Nat) (t : State), (∀ n ∈ l, f.key ≠ (R.EV_STAT_FIFO n).key ∧ f.key ≠ (R.EV_STAT_LOST n).key) →
      (l.foldl (fun t n => if p t n then t.ringPush n r else t) t).get f = t.get f := by
    intro l; induction l with
    | nil => intro t _; rfl
    | cons n l ih =>
      intro t hl; simp only [List.foldl_cons]
      rw [ih _ (fun m hm => hl m (List.mem_cons_of_mem _ hm))]; split
      · exact State.ringPush_get _ _ _ _ (hl n List.mem_cons_self).1 (hl n List.mem_cons_self).2
      · rfl
  refine one _ _ (fun n hn => ⟨fun e => h ?_, fun e => h ?_⟩) <;> simp only [evKeys, List.mem_flatMap] <;> exact ⟨n, hn, by simp [e]⟩

/-- Raising a code writes the event rings with their EV_STAT fields and the site event queue, and nothing else. -/
@[simp] theorem State.raise_hushed (s : State) (code unit detail : Nat) : (s.raise code unit detail).hushed = s.hushed := by
  unfold State.raise; rw [State.offer_hushed, State.siteOffer_hushed]

theorem State.raise_get (s : State) (code unit detail : Nat) (f : Fld) (h : f.key ∉ evKeys) : (s.raise code unit detail).get f = s.get f := by
  unfold State.raise; rw [State.offer_get _ _ _ _ h, State.siteOffer_get]

@[simp] theorem State.raiseTyped_hushed (s : State) (typ code unit detail : Nat) (data : List Nat) :
    (s.raiseTyped typ code unit detail data).hushed = s.hushed := State.offer_hushed _ _ _

theorem State.raiseTyped_get (s : State) (typ code unit detail : Nat) (data : List Nat) (f : Fld) (h : f.key ∉ evKeys) :
    (s.raiseTyped typ code unit detail data).get f = s.get f := State.offer_get _ _ _ _ h

/-! ## What follows from equal hushed states -/

theorem hushed_mode {s t : State} (h : t.hushed = s.hushed) : t.mode = s.mode := by have := congrArg State.mode h; exact this
theorem hushed_pending {s t : State} (h : t.hushed = s.hushed) : t.pending = s.pending := by have := congrArg State.pending h; exact this
theorem hushed_pops {s t : State} (h : t.hushed = s.hushed) : t.pops = s.pops := by have := congrArg State.pops h; exact this
theorem hushed_fab {s t : State} (h : t.hushed = s.hushed) : t.fab = s.fab := by have := congrArg State.fab h; exact this
theorem hushed_tp {s t : State} (h : t.hushed = s.hushed) : t.tp = s.tp := by have := congrArg State.tp h; exact this
theorem hushed_sec {s t : State} (h : t.hushed = s.hushed) : t.sec = s.sec := by have := congrArg State.sec h; exact this
theorem hushed_clk {s t : State} (h : t.hushed = s.hushed) : t.clk = s.clk := by have := congrArg State.clk h; exact this

/-! ## Queues -/

/-- A pop of an empty queue answers 0 and leaves the queue (R22). -/
theorem State.popRead_nil (s : State) (addr : Nat) (h : s.queue addr = []) :
    s.popRead addr = { s with answer := ⟨0, 0⟩, half := SMap.set s.half none addr (some 0) } := by
  unfold State.popRead; rw [h]; rfl

/-- A pop answers the oldest entry and removes it (R22). -/
theorem State.popRead_cons (s : State) (addr w : Nat) (l : List Nat) (h : s.queue addr = w :: l) :
    s.popRead addr = { s with answer := ⟨0, w⟩, pops := SMap.set s.pops [] addr l, half := SMap.set s.half none addr (some (w / 2 ^ 32)) } := by
  unfold State.popRead; rw [h]; rfl

/-- A queue with room takes an entry at its end; a full one keeps its entries (R22). -/
theorem State.enqueue_queue (s : State) (addr cap ovf word : Nat) : (s.enqueue addr cap ovf word).queue addr =
    if (s.queue addr).length < cap then s.queue addr ++ [word + SMap.get s.popOvf 0 addr * ovf] else s.queue addr := by
  unfold State.enqueue State.queue; simp only; split <;> simp

end Sys2Proof.Machine
end

