-- ==== Sys2Proof/Tests/Slice0.lean ====
section
/-!
SUPPORT. The author's own tests: for each statement with hypotheses, concrete states and operands that meet them, clause by clause at the ends of
their ranges; an ill-formed command for each check of WellFormed; worked examples of the spec.
-/
namespace Sys2Proof.Tests
open Sys2Proof Sys2Proof.Machine

def st (m : Nat) : State := State.reset.sets [(R.DEV_MODE_MODE, m), (R.PWR_STATUS_GOOD, 2^18-1), (R.CP_CFG_EN 14, 1), (R.CP_CFG_EN 15, 1), (R.CP_OUT_O 14, 4), (R.CP_OUT_O 15, 4), (R.CK_STATUS_CP_LOCK, 3 * 2^14)]
def stw (m : Nat) (l : List (Fld × Nat)) : State := (st m).sets l
def hitOf (f : Fld) : Hit := (regFind f.addr).getD ⟨.DEV_MODE, 0, 0, 0, 0, 0, []⟩
def ad (f : Fld) : NocAddr := BitVec.ofNat 44 f.addr
def s33 : SrcId := 33
def s65 : SrcId := 65
def s97 : SrcId := 97
def s161 : SrcId := 161
def s1 : SrcId := 1
def b0 : BoughId := 0
def b63 : BoughId := 63
def rb (x : Bough) (l : List (Fld × Nat)) : State := (stw 4 ([(R.PT_STAT_DEFINED 0, 1), (R.PT_BOUGHS_BOUGHS 0, 1)] ++ l)).setBough 0 x
def runB : Bough := { Bough.reset with run := .running, clamped := false }
def a31 : SeqId := 31
def sqW (o : Nat) : Nat := 1 + o
/-- A sequencer 31 of bough 0 that is enabled, with frame 6 as given, in a state. -/
def sqS (f6 st : Nat) (q : Seq) (l : List (Fld × Nat)) : State :=
  (((rb runB ([(R.SQCK_RUN 0, 1), (R.GCL_CFG_ON 0, 1), (R.GCL_MUX_ACT 0, 0), (R.GCL_MUX_PRI 0, 0x18), (R.SQ_STATUS_STATE 0 31, st)] ++ l)).setFrame 0 0 7 39 6 f6).setFrame 0 0 7 39 5 1).setSeq 0 31 q
def f6a : Nat := 1 + 100 * 2^13 + 200 * 2^24 + 2047 * 2^46 + 3 * 2^112 + 4 * 2^112 + 2 * 2^120 + 3 * 2^124
def curS (w : Nat) (st : Nat := 1) (q : Seq := Seq.reset) : State := sqS f6a st { q with cur := some ⟨w, 5, false, false, false, 0, false⟩ } []
def wd (l : List (Fld × Nat)) : Nat := l.foldl (fun a p => a + p.2 * 2 ^ p.1.lo) 0
def wd64 (l : List (Fld × Nat)) : Word64 := BitVec.ofNat 64 (wd l)
def wd32 (l : List (Fld × Nat)) : BitVec 32 := BitVec.ofNat 32 (wd l)
/-- Bough 0 with a bridge that is clocked. -/
def brS (l : List (Fld × Nat)) : State := (rb runB ([(R.BCK_RUN 0 15, 1), (R.BCK_SRC 0 15, 0), (R.GCL_CFG_ON 0, 1), (R.GCL_MUX_ACT 0, 0), (R.GCL_MUX_PRI 0, 0x18), (R.NOC_STATUS_P0 0, 0)] ++ l)).setFrame 0 0 0 40 1 (2^72 + 15 * 2^73)
def rq (id src tag w last : Nat) (wr : Bool) (data : List Nat) : NocReq := ⟨id, src, tag, w, last, wr, 0, data⟩
/-- A fold over 2^k places by halves: its value is a numeral before each half, so that the kernel holds no long chain of steps. -/
def halfFold (f : Nat → Nat → Nat) : Nat → Nat → Nat → Nat
  | 0, lo, a => f a lo
  | k + 1, lo, a => match halfFold f k lo a with
    | 0 => halfFold f k (lo + 2 ^ k) 0
    | n + 1 => halfFold f k (lo + 2 ^ k) (n + 1)
theorem foldl_halfFold (f : Nat → Nat → Nat) (k lo a : Nat) : List.foldl f a (List.range' lo (2 ^ k)) = halfFold f k lo a := by
  induction k generalizing lo a with
  | zero => rfl
  | succ k h =>
    rw [Nat.pow_succ, Nat.mul_two, ← List.range'_append_1, List.foldl_append, h, h, halfFold]
    cases halfFold f k lo a <;> rfl
end Sys2Proof.Tests

namespace Sys2Proof.Tests.PartA
open Sys2Proof Sys2Proof.Machine
set_option Elab.async false


def w1 : State := stw 4 [(R.DR_EVT_WARN_EVT 0, 1), (R.DR_EVT_EXH_EVT 0, 1)]
/-- The hypotheses of RegisterWriteActsByAccessCode are met: a witness for each clause, by its place in the statement. -/
theorem test_meets_RegisterWriteActsByAccessCode :
    /-  -/ (w1.nocUp = true ∧ BitVec.toNat (ad (R.DR_EVT_WARN_EVT 0) : NocAddr) % 4 = 0 ∧ istoreAt (BitVec.toNat (ad (R.DR_EVT_WARN_EVT 0) : NocAddr)) = none ∧ regFind (BitVec.toNat (ad (R.DR_EVT_WARN_EVT 0) : NocAddr)) = some (hitOf (R.DR_EVT_WARN_EVT 0) : Hit) ∧ (hitOf (R.DR_EVT_WARN_EVT 0) : Hit).width = 32 ∧ (hitOf (R.DR_EVT_WARN_EVT 0) : Hit).rem = 0 ∧ ¬(hitOf (R.DR_EVT_WARN_EVT 0) : Hit).name ∈ ownWrite ∧ w1.blockRefusal (↑s65 : Nat) (BitVec.toNat (ad (R.DR_EVT_WARN_EVT 0) : NocAddr)) = 0 ∧ (List.map Fld.key (hitOf (R.DR_EVT_WARN_EVT 0) : Hit).fields).Nodup) := by
  and_intros <;> decide +kernel

def w2 : State := st 4
def w3 : State := { st 4 with stage := [(0x7e000000100, some 5)] }
def w4 : Hit := { hitOf (R.TL_BSET_BOUGHS 0) with rem := 4 }
def w5 : State := stw 4 [(R.TL_BSET_BOUGHS 0, 0xAABBCCDDEEFF)]
def w6 : State := { st 4 with half := [(0x7e000000100, some 5)] }
/-- The hypotheses of HalfAccesses are met: a witness for each clause, by its place in the statement. -/
theorem test_meets_HalfAccesses :
    /- 1.1 -/ (w2.nocUp = true ∧ BitVec.toNat (ad (R.TL_BSET_BOUGHS 0) : NocAddr) % 8 = 0 ∧ istoreAt (BitVec.toNat (ad (R.TL_BSET_BOUGHS 0) : NocAddr)) = none ∧ regFind (BitVec.toNat (ad (R.TL_BSET_BOUGHS 0) : NocAddr)) = some (hitOf (R.TL_BSET_BOUGHS 0) : Hit) ∧ (hitOf (R.TL_BSET_BOUGHS 0) : Hit).width = 64 ∧ (hitOf (R.TL_BSET_BOUGHS 0) : Hit).rem = 0) ∧
    /- 1.2 -/ (w3.nocUp = true ∧ BitVec.toNat (ad (R.TL_BSET_BOUGHS 0) + 4 : NocAddr) % 8 = 4 ∧ istoreAt (BitVec.toNat (ad (R.TL_BSET_BOUGHS 0) + 4 : NocAddr)) = none ∧ regFind (BitVec.toNat (ad (R.TL_BSET_BOUGHS 0) + 4 : NocAddr)) = some w4 ∧ w4.width = 64 ∧ w4.rem = 4 ∧ ¬w4.name ∈ ownWrite ∧ w3.blockRefusal (↑s65 : Nat) (BitVec.toNat (ad (R.TL_BSET_BOUGHS 0) + 4 : NocAddr) - 4) = 0 ∧ (List.map Fld.key w4.fields).Nodup) ∧
    /- 2 -/ (w5.nocUp = true ∧ BitVec.toNat (ad (R.TL_BSET_BOUGHS 0) : NocAddr) % 8 = 0 ∧ istoreAt (BitVec.toNat (ad (R.TL_BSET_BOUGHS 0) : NocAddr)) = none ∧ regFind (BitVec.toNat (ad (R.TL_BSET_BOUGHS 0) : NocAddr)) = some (hitOf (R.TL_BSET_BOUGHS 0) : Hit) ∧ (hitOf (R.TL_BSET_BOUGHS 0) : Hit).width = 64 ∧ (hitOf (R.TL_BSET_BOUGHS 0) : Hit).rem = 0 ∧ ¬(hitOf (R.TL_BSET_BOUGHS 0) : Hit).name ∈ ownRead ∧ (∀ (f : Fld), f ∈ (hitOf (R.TL_BSET_BOUGHS 0) : Hit).fields → f.acc ≠ Acc.rs ∧ f.acc ≠ Acc.rc) ∧ s65 ≠ 161 ∧ w5.readRefusal (↑s65 : Nat) (BitVec.toNat (ad (R.TL_BSET_BOUGHS 0) : NocAddr)) = 0) ∧
    /- 3.1 -/ (w6.nocUp = true ∧ BitVec.toNat (ad (R.TL_BSET_BOUGHS 0) + 4 : NocAddr) % 8 = 4 ∧ istoreAt (BitVec.toNat (ad (R.TL_BSET_BOUGHS 0) + 4 : NocAddr)) = none ∧ regFind (BitVec.toNat (ad (R.TL_BSET_BOUGHS 0) + 4 : NocAddr)) = some w4 ∧ w4.width = 64 ∧ w4.rem = 4 ∧ ¬w4.name ∈ ownRead ∧ (∀ (f : Fld), f ∈ w4.fields → f.acc ≠ Acc.rs) ∧ s65 ≠ 161 ∧ w6.readRefusal (↑s65 : Nat) (BitVec.toNat (ad (R.TL_BSET_BOUGHS 0) + 4 : NocAddr)) = 0 ∧ w6.half.get none (BitVec.toNat (ad (R.TL_BSET_BOUGHS 0) + 4 : NocAddr) - 4) = some 5) ∧
    /- 3.2 -/ (w5.nocUp = true ∧ BitVec.toNat (ad (R.TL_BSET_BOUGHS 0) + 4 : NocAddr) % 8 = 4 ∧ istoreAt (BitVec.toNat (ad (R.TL_BSET_BOUGHS 0) + 4 : NocAddr)) = none ∧ regFind (BitVec.toNat (ad (R.TL_BSET_BOUGHS 0) + 4 : NocAddr)) = some w4 ∧ w4.width = 64 ∧ w4.rem = 4 ∧ ¬w4.name ∈ ownRead ∧ (∀ (f : Fld), f ∈ w4.fields → f.acc ≠ Acc.rs) ∧ s65 ≠ 161 ∧ w5.readRefusal (↑s65 : Nat) (BitVec.toNat (ad (R.TL_BSET_BOUGHS 0) + 4 : NocAddr)) = 0 ∧ w5.half.get none (BitVec.toNat (ad (R.TL_BSET_BOUGHS 0) + 4 : NocAddr) - 4) = none) := by
  and_intros <;> decide +kernel

def w7 : State := stw 4 [(R.DR_EVT_WARN_EVT 0, 1)]
/-- The hypotheses of DebugAndClearingReads are met: a witness for each clause, by its place in the statement. -/
theorem test_meets_DebugAndClearingReads :
    /- 1.2 -/ (w7.nocUp = true ∧ BitVec.toNat (ad (R.DR_EVT_WARN_EVT 0) : NocAddr) % 4 = 0 ∧ istoreAt (BitVec.toNat (ad (R.DR_EVT_WARN_EVT 0) : NocAddr)) = none ∧ regFind (BitVec.toNat (ad (R.DR_EVT_WARN_EVT 0) : NocAddr)) = some (hitOf (R.DR_EVT_WARN_EVT 0) : Hit) ∧ (hitOf (R.DR_EVT_WARN_EVT 0) : Hit).width = 32 ∧ (hitOf (R.DR_EVT_WARN_EVT 0) : Hit).rem = 0 ∧ ¬(hitOf (R.DR_EVT_WARN_EVT 0) : Hit).name ∈ ownRead ∧ (∀ (f : Fld), f ∈ (hitOf (R.DR_EVT_WARN_EVT 0) : Hit).fields → f.acc ≠ Acc.rs) ∧ w7.readRefusal 161 (BitVec.toNat (ad (R.DR_EVT_WARN_EVT 0) : NocAddr)) = 0) ∧
    /- 2 -/ (w7.nocUp = true ∧ BitVec.toNat (ad (R.DR_EVT_WARN_EVT 0) : NocAddr) % 4 = 0 ∧ istoreAt (BitVec.toNat (ad (R.DR_EVT_WARN_EVT 0) : NocAddr)) = none ∧ regFind (BitVec.toNat (ad (R.DR_EVT_WARN_EVT 0) : NocAddr)) = some (hitOf (R.DR_EVT_WARN_EVT 0) : Hit) ∧ (hitOf (R.DR_EVT_WARN_EVT 0) : Hit).width = 32 ∧ (hitOf (R.DR_EVT_WARN_EVT 0) : Hit).rem = 0 ∧ ¬(hitOf (R.DR_EVT_WARN_EVT 0) : Hit).name ∈ ownRead ∧ (∀ (f : Fld), f ∈ (hitOf (R.DR_EVT_WARN_EVT 0) : Hit).fields → f.acc ≠ Acc.rs) ∧ s65 ≠ 161 ∧ w7.readRefusal (↑s65 : Nat) (BitVec.toNat (ad (R.DR_EVT_WARN_EVT 0) : NocAddr)) = 0 ∧ (List.map Fld.key (hitOf (R.DR_EVT_WARN_EVT 0) : Hit).fields).Nodup) := by
  and_intros <;> decide +kernel

end Sys2Proof.Tests.PartA
namespace Sys2Proof.Tests.PartB
open Sys2Proof Sys2Proof.Machine
set_option Elab.async false


def w1 : State := st 4
def w2 : State := st 3
def w3 : State := st 5
def w4 : State := { st 4 with mode := { (st 4).mode with straps := 1 } }
def w5 : State := stw 2 [(R.DEV_MODE_BUSY, 1)]
def w6 : State := st 1
/-- The hypotheses of ModeRequests are met: a witness for each clause, by its place in the statement. -/
theorem test_meets_ModeRequests :
    /- 1.1 -/ (w1.modeSrcOk (↑s33 : Nat) = true ∧ w1.get R.DEV_MODE_BUSY = 0 ∧ w1.mode.trans = none ∧ (w1.mode0 = 4 ∧ w1.get R.DBG_SC_CTRL_ATTACH = 0)) ∧
    /- 1.1 -/ (w2.modeSrcOk (↑s97 : Nat) = true ∧ w2.get R.DEV_MODE_BUSY = 0 ∧ w2.mode.trans = none ∧ (w2.mode0 = 3 ∧ bit (w2.get R.PWR_STATUS_GOOD) 4 = 1 ∧ bit (w2.get R.PWR_STATUS_GOOD) 5 = 1)) ∧
    /- 1.1 -/ (w3.modeSrcOk (↑s97 : Nat) = true ∧ w3.get R.DEV_MODE_BUSY = 0 ∧ w3.mode.trans = none ∧ (w3.mode0 = 5 ∧ bit (w3.get R.PWR_STATUS_GOOD) 4 = 1 ∧ bit (w3.get R.PWR_STATUS_GOOD) 5 = 1)) ∧
    /- 1.1 -/ (w1.modeSrcOk (↑s33 : Nat) = true ∧ w1.get R.DEV_MODE_BUSY = 0 ∧ w1.mode.trans = none ∧ w1.mode0 = 4) ∧
    /- 1.2 -/ (w4.modeSrcOk (↑s33 : Nat) = true ∧ w4.get R.DEV_MODE_BUSY = 0 ∧ w4.mode.trans = none ∧ w4.mode0 = 4 ∧ w4.get R.LD_STATUS_STATE = 0 ∧ bit (w4.get R.PWR_STATUS_GOOD) 4 = 1 ∧ bit (w4.get R.PWR_STATUS_GOOD) 5 = 1 ∧ w4.mode.armed = false ∧ bits w4.mode.straps 0 2 ≠ 0) ∧
    /- 2 -/ (w1.mode0 ≠ 0 ∧ 0 = (0 : BitVec 16) ∧ w1.modeSrcOk (↑s1 : Nat) = false) ∧
    /- 2 -/ (w5.mode0 ≠ 0 ∧ 0 = (0 : BitVec 16) ∧ (w5.modeSrcOk (↑s33 : Nat) = true ∧ w5.get R.DEV_MODE_BUSY ≠ 0)) ∧
    /- 2 -/ (w3.mode0 ≠ 0 ∧ 42434 = (0xA5C2 : BitVec 16) ∧ (w3.modeSrcOk (↑s33 : Nat) = true ∧ w3.get R.DEV_MODE_BUSY = 0 ∧ (0xA5C2 : BitVec 16) ≠ 42435)) ∧
    /- 2 -/ (w6.mode0 ≠ 0 ∧ 42436 = (0xA5C4 : BitVec 16) ∧ (w6.modeSrcOk (↑s33 : Nat) = true ∧ w6.get R.DEV_MODE_BUSY = 0 ∧ (0xA5C4 : BitVec 16) ≠ 42435)) := by
  and_intros <;> decide +kernel

def w7 : State := stw 4 [(R.DEV_WAKE_ARM, 1), (R.DEV_WAKE_TARGET, 5)]
def w8 : State := stw 4 [(R.DEV_WAKE_ARM, 1)]
def w9 : State := stw 1 [(R.DEV_WAKE_ARM, 1)]
def w10 : State := { st 4 with pins := { (st 4).pins with thermL := false } }
def w11 : State := st 2
def w12 : State := { stw 4 [(R.DEV_MODE_BUSY, 1)] with mode := { (st 4).mode with trans := some ⟨0x10, 5, 0⟩ } }
def w13 : Machine.Trans := ⟨0x10, 5, 0⟩
def w14 : State := { stw 1 [(R.DEV_MODE_BUSY, 1)] with mode := { (st 4).mode with trans := some ⟨0x02, 2, 0⟩ } }
def w15 : Machine.Trans := ⟨0x02, 2, 0⟩
def w16 : State := { stw 3 [(R.DEV_MODE_BUSY, 1)] with mode := { (st 4).mode with trans := some ⟨0x06, 4, 0⟩ } }
def w17 : Machine.Trans := ⟨0x06, 4, 0⟩
def w18 : State := { stw 4 [(R.DEV_MODE_BUSY, 1)] with mode := { (st 4).mode with trans := some ⟨0x0A, 5, 0x1210⟩ } }
def w19 : Machine.Trans := ⟨0x0A, 5, 0x1210⟩
/-- The hypotheses of WakesPinsAndTransitions are met: a witness for each clause, by its place in the statement. -/
theorem test_meets_WakesPinsAndTransitions :
    /- 1.1 -/ (w6.mode0 ≠ 0 ∧ w6.get R.DEV_WAKE_ARM = 0) ∧
    /- 1.1 -/ (w7.mode0 ≠ 0 ∧ (bits (BitVec.toNat (0x1000000000005 : Word64)) 0 48 = w7.get R.DEV_WAKE_TARGET ∧ bits (BitVec.toNat (0x1000000000005 : Word64)) 49 15 = w7.get R.DEV_WAKE_WRAPS)) ∧
    /- 1.2 -/ (w7.mode0 ≠ 0 ∧ w7.get R.DEV_WAKE_ARM ≠ 0 ∧ bit (BitVec.toNat (0x1000000000006 : Word64)) 48 = 1 ∧ bits (BitVec.toNat (0x1000000000006 : Word64)) 0 48 ≠ w7.get R.DEV_WAKE_TARGET) ∧
    /- 1.3 -/ (w8.get R.DEV_WAKE_ARM ≠ 0 ∧ w8.tp.heldTime.get none 77 = none ∧ (↑(w8.get R.DEV_WAKE_WRAPS) : Int) ≤ w8.mode.wakeC ∧ w8.get R.DEV_WAKE_TARGET ≤ w8.now48 ∧ 2 ≤ w8.mode0) ∧
    /- 1.4 -/ (w1.mode0 ≠ 1 ∧ w1.mode.trans = none) ∧
    /- 1.5 -/ (w9.mode0 = 1 ∧ bit (w9.get R.PWR_STATUS_GOOD) 4 = 1 ∧ bit (w9.get R.PWR_STATUS_GOOD) 5 = 1 ∧ w9.mode.trans = none ∧ (¬w9.get R.DEV_WAKE_ARM = 0 ∧ w9.tp.heldTime.get none 77 = none ∧ (↑(w9.get R.DEV_WAKE_WRAPS) : Int) ≤ w9.mode.wakeC ∧ w9.get R.DEV_WAKE_TARGET ≤ w9.now48)) ∧
    /- 1.5 -/ (w9.mode0 = 1 ∧ bit (w9.get R.PWR_STATUS_GOOD) 4 = 1 ∧ bit (w9.get R.PWR_STATUS_GOOD) 5 = 1 ∧ w9.mode.trans = none) ∧
    /- 1.5 -/ (w9.mode0 = 1 ∧ bit (w9.get R.PWR_STATUS_GOOD) 4 = 1 ∧ bit (w9.get R.PWR_STATUS_GOOD) 5 = 1 ∧ w9.mode.trans = none) ∧
    /- 2.3 -/ (w1.mode0 = 4 ∧ w1.mode.trans = none ∧ w1.sensorOn (↑(65 : Fin 72) : Nat) = true ∧ w1.hm.faulty.contains (↑(65 : Fin 72) : Nat) = false ∧ (↑(16 * w1.get R.PWR_CTRL_THERM_SHUT) : Int) ≤ (2400 : Int)) ∧
    /- 2.4 -/ (w1.mode0 ≠ 0 ∧ w1.pins.thermL = true ∧ (↑(16 * w1.get R.PWR_CTRL_THERM_HOT) : Int) ≤ (2400 : Int)) ∧
    /- 2.5 -/ (w10.mode0 ≠ 0 ∧ w10.pins.thermL = false ∧ (0 : Int) < (↑(16 * w10.get R.PWR_CTRL_THERM_HOT) : Int) - 48) ∧
    /- 2.7 -/ (w11.mode0 = 2 ∧ w11.mode.trans = none) ∧
    /- 2.8 -/ (w1.pins.insertL = false ∧ w1.mode0 = 4) ∧
    /- 2.8 -/ (w2.pins.insertL = false ∧ w2.mode0 = 3) ∧
    /- 2.9 -/ (w6.pins.insertL = false ∧ w6.mode0 = 1) ∧
    /- 2.9 -/ (w3.pins.insertL = false ∧ w3.mode0 = 5) ∧
    /- 3 -/ (w12.mode.trans = some w13 ∧ 2 ≤ w13.target ∧ w13.target ≤ 5 ∧ w13.cause ≠ 12 ∧ w13.cause < 256 ∧ w13.status < 65536 ∧ w12.mode.displaced = [] ∧ w12.transDrains w13 = false) ∧
    /- 3 -/ (w14.mode.trans = some w15 ∧ 2 ≤ w15.target ∧ w15.target ≤ 5 ∧ w15.cause ≠ 12 ∧ w15.cause < 256 ∧ w15.status < 65536 ∧ w14.mode.displaced = [] ∧ w14.transDrains w15 = false) ∧
    /- 3 -/ (w16.mode.trans = some w17 ∧ 2 ≤ w17.target ∧ w17.target ≤ 5 ∧ w17.cause ≠ 12 ∧ w17.cause < 256 ∧ w17.status < 65536 ∧ w16.mode.displaced = [] ∧ w16.transDrains w17 = false) ∧
    /- 3 -/ (w18.mode.trans = some w19 ∧ 2 ≤ w19.target ∧ w19.target ≤ 5 ∧ w19.cause ≠ 12 ∧ w19.cause < 256 ∧ w19.status < 65536 ∧ w18.mode.displaced = [] ∧ w18.transDrains w19 = false) := by
  and_intros <;> decide +kernel

def w20 : State := stw 4 [(R.PWR_STATUS_GOOD, 0)]
def w21 : State := stw 1 [(R.PWR_STATUS_GOOD, 0)]
def w22 : State := stw 1 [(R.PWR_STATUS_GOOD, 1)]
def w23 : State := st 0
def w24 : State := stw 4 [(R.OP_STATUS_RAIL 3, 2), (R.OP_STATUS_STATE 3, 2)]
def w25 : State := stw 4 [(R.LN_STAT_STATE 3, 2)]
/-- The hypotheses of SupplyRails are met: a witness for each clause, by its place in the statement. -/
theorem test_meets_SupplyRails :
    /- 1.1 -/ (w20.mode0 ≠ 0 ∧ bit (w20.get R.PWR_STATUS_GOOD) (↑(17 : Fin 18) : Nat) = 0) ∧
    /- 1.1 -/ (w21.mode0 ≠ 0 ∧ bit (w21.get R.PWR_STATUS_GOOD) (↑(0 : Fin 18) : Nat) = 0) ∧
    /- 1.2 -/ (w1.mode0 ≠ 0 ∧ bit (w1.get R.PWR_STATUS_GOOD) (10 + (↑(7 : Fin 8) : Nat)) = 1) ∧
    /- 1.3 -/ (2 ≤ w1.mode0 ∧ w1.mode0 ≤ 5 ∧ w1.mode.trans = none ∧ (bit (w1.get R.PWR_STATUS_GOOD) (if true = true then 5 else 4) = 1)) ∧
    /- 1.3 -/ (2 ≤ w11.mode0 ∧ w11.mode0 ≤ 5 ∧ w11.mode.trans = none ∧ (bit (w11.get R.PWR_STATUS_GOOD) (if false = true then 5 else 4) = 1)) ∧
    /- 1.4 -/ (w1.mode0 ≠ 0) ∧
    /- 1.4 -/ (w6.mode0 ≠ 0) ∧
    /- 1.5 -/ (w22.mode0 = 1 ∧ w22.mode.bootWindow = true ∧ w22.mode.trans = none ∧ bit (w22.get R.PWR_STATUS_GOOD) 4 = 0 ∧ bit (w22.get R.PWR_STATUS_GOOD) 5 = 0) ∧
    /- 1.6 -/ (w23.mode0 = 0) ∧
    /- 2 -/ (w24.mode0 ≠ 0 ∧ bit (w24.get R.PWR_STATUS_GOOD) ((↑(1 : Fin 3) : Nat) + 1) = 1) ∧
    /- 3 -/ (w24.opChange 3 = none) ∧
    /- 4 -/ (3 < 64) ∧
    /- 5 -/ (w25.mode0 ≠ 0 ∧ (bit (w25.get R.PWR_STATUS_GOOD) (if true = true then 7 else 6) = 1)) ∧
    /- 5 -/ (w25.mode0 ≠ 0 ∧ (bit (w25.get R.PWR_STATUS_GOOD) (if false = true then 7 else 6) = 1)) := by
  and_intros <;> decide +kernel

end Sys2Proof.Tests.PartB
namespace Sys2Proof.Tests.PartC
open Sys2Proof Sys2Proof.Machine
set_option Elab.async false

def ceS : State := rb { runB with trigPend := [⟨2, 3, false⟩], trig := 3 } [(R.BCK_RUN 0 0, 1), (R.BCK_SRC 0 0, 0), (R.GCL_CFG_ON 0, 1), (R.GCL_MUX_ACT 0, 0), (R.GCL_MUX_PRI 0, 0x18)]
def opA : State := rb runB [(R.OP_STATUS_STATE 0, 2), (R.NOC_STATUS_P0 0, 1)]
def opAsl : State := rb runB [(R.OP_STATUS_STATE 0, 2), (R.NOC_STATUS_P0 0, 3)]
def opRst : State := rb { runB with run := .rest, keepOp := 2 } [(R.OP_STATUS_STATE 0, 4), (R.NOC_STATUS_P0 0, 3)]
def opC : OpChange := ⟨2, 3, false, false, false, false⟩
def opG : OpChange := ⟨2, 3, false, false, true, false⟩
def opGb : OpChange := ⟨2, 3, false, false, true, true⟩
def opL : OpChange := ⟨0, 3, false, true, true, false⟩
def opQ : State := ((stw 4 [(R.OP_STATUS_STATE 63, 2), (R.OP_STATUS_RAIL 63, 2), (R.OP_STATUS_BUSY 63, 1)]).setOpChange 63 (some opC))
def opQ2 : State := { opQ with clk := { opQ.clk with opQueue := [63, 2] } }
def opQ3 : State := ((stw 4 [(R.OP_STATUS_STATE 63, 2), (R.OP_STATUS_RAIL 63, 3), (R.DR_STATUS_LOCKED 63, 1), (R.OP_STATUS_BUSY 63, 1)]).setOpChange 63 (some opG))
def opQ4 : State := ((stw 3 [(R.OP_STATUS_RAIL 63, 3), (R.DR_STATUS_LOCKED 63, 1), (R.OP_STATUS_BUSY 63, 1)]).setOpChange 63 (some opL))
def opQ5 : State := ((stw 4 [(R.OP_STATUS_STATE 63, 2), (R.OP_STATUS_RAIL 63, 3), (R.OP_STATUS_BUSY 63, 1)]).setOpChange 63 (some opG))
def opQ6 : State := (stw 4 [(R.OP_STATUS_STATE 63, 2), (R.OP_STATUS_RAIL 63, 2), (R.OP_STATUS_BUSY 63, 1)]).setOpChange 63 (some opGb)
def opW : State := rb runB [(R.OP_STATUS_STATE 0, 3), (R.OP_STATUS_RAIL 0, 3)]
def opW2 : State := { opW with clk := { opW.clk with autoWait := [(0, 2)] } }
def drA : State := rb runB [(R.OP_STATUS_STATE 0, 3), (R.DR_STATUS_OP 0, 3), (R.CK_STATUS_TPLL_LOCK, 1)]
def drB : State := drA.setTrim 0 15
def drC : State := drA.setTrim 0 (-15)

def w1 : State := ceS.settled.countEdges (ceS.liveGlobals 0xFFFF)
def w2 : State := st 4
def w3 : State := (st 4).setFrame 0 0 0 0 1 (2^64-1)
def w4 : State := (rb runB []).setBmPort 0 127 1 { BmPort.reset with wb := some (127, 511, 5) }
def w5 : State := { st 4 with pops := [(bmErrPop 63, [5, 7])], popOvf := [(bmErrPop 63, 1)] }
def w6 : State := (stw 4 [(R.SL_RES_P_P 63 255, 77)]).setFrame 0 63 7 39 4 (2^2000-1)
def w7 : State := (stw 4 [(R.SL_RES_P_P 63 255, 77)]).setFrame 0 63 7 39 4 (2^1792)
/-- The hypotheses of FabricClockEdgesAndMemories are met: a witness for each clause, by its place in the statement. -/
theorem test_meets_FabricClockEdgesAndMemories :
    /- 1.1 -/ (ceS.liveGlobals 65535 = ceS.liveGlobals (0xFFFF : BitVec 32).toNat ∧ w1 = ceS.settled.countEdges (ceS.liveGlobals 65535)) ∧
    /- 1.2 -/ (ceS.clk.lineSw.get none (17 * (↑b0 : Nat) + (↑(0 : Fin 17) : Nat)) = none) ∧
    /- 1.3 -/ (w2.liveGlobals (0xFFFF : BitVec 32).toNat = 0 ∧ (∀ (b : BoughId), w2.ffsHeld (↑b : Nat) = false)) ∧
    /- 1.4 -/ ((∀ (b : BoughId), w2.ffsHeld (↑b : Nat) = true → w2.ffHot (↑b : Nat) = [])) ∧
    /- 1.5 -/ (((st 4).setFrame 0 0 0 0 1 (2 ^ 64 - 1)).leafWord 0 0 0 0 0 = w3.leafWord 0 0 0 0 0) ∧
    /- 2.1 -/ (w4.running (↑b0 : Nat) = true ∧ (w4.bmPort (↑b0 : Nat) (↑(127 : Fin 128) : Nat) (ofFlag true)).wb = some (127, 511, 5)) ∧
    /- 2.3 -/ ((bits (0x0021237F : BitVec 32).toNat 8 6 ≤ 35 ∧ bits (0x0021237F : BitVec 32).toNat 16 4 ≠ 0)) ∧
    /- 2.3 -/ (bit (0x00012405 : BitVec 32).toNat 21 = 0) ∧
    /- 2.4 -/ (bit (0x00212400 : BitVec 32).toNat 21 = 1 ∧ 35 < bits (0x00212400 : BitVec 32).toNat 8 6) ∧
    /- 2.4 -/ (bit (0x00200000 : BitVec 32).toNat 21 = 1 ∧ bits (0x00200000 : BitVec 32).toNat 16 4 = 0) ∧
    /- 2.5 -/ (w2.queue (bmErrPop (↑b63 : Nat)) = []) ∧
    /- 2.6 -/ (w5.queue (bmErrPop (↑b63 : Nat)) = 5 :: ([7] : List Nat)) ∧
    /- 3 -/ (w6.sliceDark (↑b63 : Nat) (↑(254 : Fin 256) : Nat) = false) ∧
    /- 3 -/ (w6.sliceDark (↑b63 : Nat) (↑(255 : Fin 256) : Nat) = false) ∧
    /- 3 -/ (w7.sliceDark (↑b63 : Nat) (↑(255 : Fin 256) : Nat) = false) ∧
    /- 4 -/ (w2.sliceDark (↑b63 : Nat) (↑(255 : Fin 256) : Nat) = true) ∧
    /- 4 -/ (w2.sliceDark (↑b63 : Nat) (↑(255 : Fin 256) : Nat) = true) := by
  and_intros <;> decide +kernel

def w8 : State := rb runB []
/-- The hypotheses of OperatingPointsAndRegulators are met: a witness for each clause, by its place in the statement. -/
theorem test_meets_OperatingPointsAndRegulators :
    /- 1.1 -/ (opA.srcOk (↑s33 : Nat) = true ∧ opA.get (R.OP_STATUS_BUSY (↑b0 : Nat)) = 0 ∧ opA.mode0 = 4 ∧ opA.partOf (↑b0 : Nat) ≠ none ∧ (opA.bough (↑b0 : Nat)).run ≠ BoughRun.loading ∧ (opA.bough (↑b0 : Nat)).run ≠ BoughRun.frozen ∧ 1 ≤ opA.opState (↑b0 : Nat) ∧ opA.opState (↑b0 : Nat) < (↑(3 : Fin 8) : Nat) ∧ (↑(3 : Fin 8) : Nat) ≤ 3 ∧ bit (opA.get R.PWR_STATUS_GOOD) (↑(3 : Fin 8) : Nat) = 1) ∧
    /- 1.2 -/ (w8.srcOk (↑s65 : Nat) = true ∧ w8.get (R.OP_STATUS_BUSY (↑b0 : Nat)) = 0 ∧ w8.mode0 = 4 ∧ w8.partOf (↑b0 : Nat) ≠ none ∧ (w8.bough (↑b0 : Nat)).run ≠ BoughRun.loading ∧ (w8.bough (↑b0 : Nat)).run ≠ BoughRun.frozen ∧ w8.opState (↑b0 : Nat) = 0 ∧ 1 ≤ (↑(1 : Fin 8) : Nat) ∧ (↑(1 : Fin 8) : Nat) ≤ 3 ∧ bit (w8.get R.PWR_STATUS_GOOD) (↑(1 : Fin 8) : Nat) = 1) ∧
    /- 1.2 -/ (w8.srcOk (↑s65 : Nat) = true ∧ w8.get (R.OP_STATUS_BUSY (↑b0 : Nat)) = 0 ∧ w8.mode0 = 4 ∧ w8.partOf (↑b0 : Nat) ≠ none ∧ (w8.bough (↑b0 : Nat)).run ≠ BoughRun.loading ∧ (w8.bough (↑b0 : Nat)).run ≠ BoughRun.frozen ∧ w8.opState (↑b0 : Nat) = 0 ∧ 1 ≤ (↑(3 : Fin 8) : Nat) ∧ (↑(3 : Fin 8) : Nat) ≤ 3 ∧ bit (w8.get R.PWR_STATUS_GOOD) (↑(3 : Fin 8) : Nat) = 1) ∧
    /- 1.3 -/ (opA.srcOk (↑s97 : Nat) = true ∧ opA.get (R.OP_STATUS_BUSY (↑b0 : Nat)) = 0 ∧ opA.mode0 = 4 ∧ opA.partOf (↑b0 : Nat) ≠ none ∧ (opA.bough (↑b0 : Nat)).run ≠ BoughRun.loading ∧ (opA.bough (↑b0 : Nat)).run ≠ BoughRun.frozen ∧ 1 ≤ (↑(1 : Fin 8) : Nat) ∧ (↑(1 : Fin 8) : Nat) < opA.opState (↑b0 : Nat) ∧ opA.opState (↑b0 : Nat) ≤ 3 ∧ bit (opA.get R.PWR_STATUS_GOOD) (↑(1 : Fin 8) : Nat) = 1) ∧
    /- 1.4 -/ (opA.srcOk (↑s97 : Nat) = true ∧ opA.get (R.OP_STATUS_BUSY (↑b0 : Nat)) = 0 ∧ opA.mode0 = 4 ∧ opA.partOf (↑b0 : Nat) ≠ none ∧ (opA.bough (↑b0 : Nat)).run ≠ BoughRun.loading ∧ (opA.bough (↑b0 : Nat)).run ≠ BoughRun.frozen ∧ 1 ≤ opA.opState (↑b0 : Nat) ∧ opA.opState (↑b0 : Nat) ≤ 3 ∧ opA.p0 (↑b0 : Nat) = p0STALLED) ∧
    /- 1.5 -/ (opAsl.srcOk (↑s97 : Nat) = true ∧ opAsl.get (R.OP_STATUS_BUSY (↑b0 : Nat)) = 0 ∧ opAsl.mode0 = 4 ∧ opAsl.partOf (↑b0 : Nat) ≠ none ∧ (opAsl.bough (↑b0 : Nat)).run ≠ BoughRun.loading ∧ (opAsl.bough (↑b0 : Nat)).run ≠ BoughRun.frozen ∧ 1 ≤ opAsl.opState (↑b0 : Nat) ∧ opAsl.opState (↑b0 : Nat) ≤ 3 ∧ opAsl.p0 (↑b0 : Nat) = p0ASLEEP) ∧
    /- 1.6 -/ (opRst.srcOk (↑s97 : Nat) = true ∧ opRst.get (R.OP_STATUS_BUSY (↑b0 : Nat)) = 0 ∧ opRst.mode0 = 4 ∧ opRst.partOf (↑b0 : Nat) ≠ none ∧ (opRst.bough (↑b0 : Nat)).run ≠ BoughRun.loading ∧ (opRst.bough (↑b0 : Nat)).run ≠ BoughRun.frozen ∧ opRst.opState (↑b0 : Nat) = 4 ∧ 1 ≤ (opRst.bough (↑b0 : Nat)).keepOp ∧ (opRst.bough (↑b0 : Nat)).keepOp ≤ 3 ∧ bit (opRst.get R.PWR_STATUS_GOOD) (opRst.bough (↑b0 : Nat)).keepOp = 1) ∧
    /- 1.7 -/ (opA.srcOk (↑s97 : Nat) = true ∧ opA.get (R.OP_STATUS_BUSY (↑b0 : Nat)) = 0 ∧ opA.mode0 = 4 ∧ opA.partOf (↑b0 : Nat) ≠ none ∧ (opA.bough (↑b0 : Nat)).run ≠ BoughRun.loading ∧ (opA.bough (↑b0 : Nat)).run ≠ BoughRun.frozen ∧ opA.opState (↑b0 : Nat) ≠ 0 ∧ opA.p0 (↑b0 : Nat) = p0STALLED) ∧
    /- 1.8 -/ (opRst.srcOk (↑s97 : Nat) = true ∧ opRst.get (R.OP_STATUS_BUSY (↑b0 : Nat)) = 0 ∧ opRst.mode0 = 4 ∧ opRst.partOf (↑b0 : Nat) ≠ none ∧ (opRst.bough (↑b0 : Nat)).run ≠ BoughRun.loading ∧ (opRst.bough (↑b0 : Nat)).run ≠ BoughRun.frozen ∧ opRst.opState (↑b0 : Nat) ≠ 0 ∧ opRst.p0 (↑b0 : Nat) = p0ASLEEP) ∧
    /- 2.1 -/ (63 < 64 ∧ opQ2.clk.opQueue = 63 :: ([2] : List Nat) ∧ (opQ2.bough 63).run ≠ BoughRun.frozen ∧ opQ2.opChange 63 = some opC ∧ opC.target < 4 ∧ opC.former < 4 ∧ ((List.filter (fun x => decide (opQ2.nowFull - 2000 * 65536 < x)) opQ2.clk.slotTimes).length < 8)) ∧
    /- 2.2 -/ (opQ4.opChange (↑b63 : Nat) = some opL ∧ opL.granted = true ∧ opQ4.get (R.DR_STATUS_LOCKED (↑b63 : Nat)) ≠ 0 ∧ opL.byLoad = true ∧ opL.back = false ∧ (opQ4.bough (↑b63 : Nat)).run ≠ BoughRun.frozen ∧ opL.target < 8) ∧
    /- 2.3 -/ (opQ3.opChange (↑b63 : Nat) = some opG ∧ opG.granted = true ∧ opQ3.get (R.DR_STATUS_LOCKED (↑b63 : Nat)) ≠ 0 ∧ opG.byLoad = false ∧ opG.auto = false ∧ opG.back = false ∧ (opQ3.bough (↑b63 : Nat)).run ≠ BoughRun.frozen ∧ opG.target < 8) ∧
    /- 2.4.1 -/ (opQ5.opChange (↑b63 : Nat) = some opG ∧ opG.granted = true ∧ (opQ5.bough (↑b63 : Nat)).run ≠ BoughRun.frozen ∧ opG.byLoad = false ∧ opG.former ≤ opG.target ∧ opG.back = false ∧ opG.former ≠ 0 ∧ opQ5.get (R.DR_STATUS_LOCKED (↑b63 : Nat)) = 0) ∧
    /- 2.4.2 -/ (opQ6.opChange (↑b63 : Nat) = some opGb ∧ opGb.granted = true ∧ (opQ6.bough (↑b63 : Nat)).run ≠ BoughRun.frozen ∧ opGb.byLoad = false ∧ opGb.former ≤ opGb.target ∧ opGb.back = true) ∧
    /- 2.5 -/ (opW2.clk.autoWait.get 0 (↑b0 : Nat) ≠ 0 ∧ opW2.get (R.OP_STATUS_BUSY (↑b0 : Nat)) = 0 ∧ opW2.clk.autoWait.get 0 (↑b0 : Nat) < opW2.opState (↑b0 : Nat) ∧ opW2.opState (↑b0 : Nat) ≤ 3 ∧ opW2.mode0 = 4 ∧ opW2.running (↑b0 : Nat) = true) ∧
    /- 3.1 -/ (drB.mode0 ≠ 5 ∧ drB.get (R.DR_STATUS_OP (↑b0 : Nat)) ≠ 0 ∧ drB.get R.CK_STATUS_TPLL_LOCK ≠ 0 ∧ -16 ≤ drB.trim (↑b0 : Nat) ∧ drB.trim (↑b0 : Nat) ≤ 16 ∧ 32899 < (0x8084 : BitVec 16).toNat ∧ drB.trim (↑b0 : Nat) < 16) ∧
    /- 3.2 -/ (drC.mode0 ≠ 5 ∧ drC.get (R.DR_STATUS_OP (↑b0 : Nat)) ≠ 0 ∧ drC.get R.CK_STATUS_TPLL_LOCK ≠ 0 ∧ -16 ≤ drC.trim (↑b0 : Nat) ∧ drC.trim (↑b0 : Nat) ≤ 16 ∧ (0x7F7C : BitVec 16).toNat < 32637 ∧ -16 < drC.trim (↑b0 : Nat)) ∧
    /- 3.3 -/ (drC.mode0 ≠ 5 ∧ drC.get (R.DR_STATUS_OP (↑b0 : Nat)) ≠ 0 ∧ drC.get R.CK_STATUS_TPLL_LOCK ≠ 0 ∧ -16 ≤ drC.trim (↑b0 : Nat) ∧ drC.trim (↑b0 : Nat) ≤ 16 ∧ 32637 ≤ (0x7F7D : BitVec 16).toNat ∧ (0x7F7D : BitVec 16).toNat ≤ 32899) ∧
    /- 3.3 -/ (drB.mode0 ≠ 5 ∧ drB.get (R.DR_STATUS_OP (↑b0 : Nat)) ≠ 0 ∧ drB.get R.CK_STATUS_TPLL_LOCK ≠ 0 ∧ -16 ≤ drB.trim (↑b0 : Nat) ∧ drB.trim (↑b0 : Nat) ≤ 16 ∧ 32637 ≤ (0x8083 : BitVec 16).toNat ∧ (0x8083 : BitVec 16).toNat ≤ 32899) := by
  and_intros <;> decide +kernel

end Sys2Proof.Tests.PartC
namespace Sys2Proof.Tests.PartD
open Sys2Proof Sys2Proof.Machine
set_option Elab.async false

def fe1 : State := { sqS f6a 1 { Seq.reset with pc := 2047 } [] with istore := [(31 * 2048 + 2047, 7 * 2^60 + 9)] }
def fe2 : State := { sqS f6a 1 { Seq.reset with pc := 6, loops := [⟨3, 6, 2⟩] } [(R.SQ_CNT_IFIX 0 31, 65535)] with istore := [(31 * 2048 + 6, 8 * 2^60 + 2 * 2^56)] }
def fe3 : State := { sqS f6a 1 { Seq.reset with pc := 6, slots := 1, target := some 77, loops := [⟨3, 6, 1⟩] } [] with istore := [(31 * 2048 + 6, 2^60)] }
def fe4 : State := sqS f6a 1 { Seq.reset with pc := 2048 } []
def cbad (w a e : Nat) : SeqInstr := ⟨w, a, false, false, false, e, false⟩
def feb (e : Nat) : State := sqS f6a 1 { Seq.reset with cur := some (cbad (2^60) 2047 e) } []
def cw (w : Nat) : SeqInstr := ⟨w, 5, false, false, false, 0, false⟩
def wSop : Nat := 3 * 2^60 + 11 * 2^56 + 7 * 2^53 + 2 * 2^50 + 2^46 + 0xFFFFFFFF
def wSop2 : Nat := 3 * 2^60 + 0 * 2^56 + 7 * 2^53 + 6 * 2^47
def wBr : Nat := 4 * 2^60 + 8 * 2^56 + 2047
def wBr2 : Nat := 4 * 2^60 + 4 * 2^56 + 7 * 2^52 + 2^51 + 3 * 2^48
def wBr3 : Nat := 4 * 2^60 + 6 * 2^56 + 15 * 2^52 + 5
def wRep : Nat := 5 * 2^60 + 65536 * 2^39 + 6
def wRep0 : Nat := 5 * 2^60 + 2^59 + 2 * 2^56 + 2047
def wSet : Nat := 6 * 2^60 + 3 * 2^58 + 31 * 2^53 + 2^46 + 4095 * 2^34 + 2048 * 2^22 + 5 * 2^11 + 7
def wSetR : Nat := 6 * 2^60 + 3 * 2^58 + 31 * 2^53 + 2^52 + 4 * 2^49
def wMode : Nat := 7 * 2^60 + 3 * 2^56 + 0x81 * 2^43 + 16
def wMode2 : Nat := 7 * 2^60 + 11 * 2^56 + 2^55 + 15 * 2^51 + 0xFF * 2^43
def wWait : Nat := 8 * 2^60 + 0xF
def wEnd : Nat := 8 * 2^60 + 2^56
def wSig : Nat := 8 * 2^60 + 2 * 2^56 + 3
def sx : State := curS wSop 1 { Seq.reset with s := [(2, 5), (6, 3)], wq := [[], [], [.setS 2 9]] }
def sb1 : State := curS wBr
def sb1u : State := sb1.stageA 0 31
def sb2 : State := curS wBr2 1 { Seq.reset with s := [(3, 4100)], loops := [⟨4, 5000, 1⟩] }
def sb2u : State := sb2.stageA 0 31
theorem sb2_loops : ∃ l rest, (sb2u.seq (↑b0 : Nat) (↑a31 : Nat)).loops = l :: rest ∧ l.start ≤ 4 ∧ 4 ≤ l.stop :=
  ⟨⟨4, 5000, 1⟩, [], by decide +kernel, by decide +kernel, by decide +kernel⟩
def sb3 : State := curS wBr3
def sb3u : State := sb3.stageA 0 31
def repS : State := curS wRep 1 { Seq.reset with loops := [⟨1, 9, 2⟩, ⟨1, 9, 2⟩, ⟨1, 9, 2⟩] }
theorem rep_loops : ∃ l rest, (repS.seq (↑b0 : Nat) (↑a31 : Nat)).loops = l :: rest ∧ bits (cw wRep : SeqInstr).word 0 11 ≤ l.stop :=
  ⟨⟨1, 9, 2⟩, [⟨1, 9, 2⟩, ⟨1, 9, 2⟩], by decide +kernel, by decide +kernel⟩
def wLop : Nat := 2 * 2^60 + 16 * 2^55 + 9 * 2^51 + 15 * 2^46 + 3 * 2^41
def wMac : Nat := 2^60 + 2^56 + 2^55 + 2^52 + 15 * 2^47 + 14 * 2^42 + 16 * 2^37 + 16 * 2^32 + 32 * 2^26
def wMem : Nat := 2 * 2^11 + 3 * 2^9 + 2^8 + 1 * 2^5 + 5 * 2
def slr : SlotRun := ⟨rb runB [], [], [], false⟩
def mmS : State := (curS wMem 1 { Seq.reset with ags := [(3, ⟨0, 2047, 0, 1, false⟩)] }).setFrame 0 0 7 34 4 ((1 + 256 + 2^27) * 2^192)
def mmL : State := sqS f6a 1 { Seq.reset with cur := some ⟨wLop, 5, false, false, false, 0, true⟩ } [(R.SQ_CNT_STALLS 0 31, 3)]
def mmLu : State := (mmL.setSeq 0 31 { mmL.seq 0 31 with cur := some ⟨wLop, 5, false, false, false, 0, false⟩ }).bump (R.SQ_CNT_STALLS 0 31) 9

def w1 : State := sqS f6a 1 Seq.reset []
def w2 : State := sqS f6a 4 Seq.reset []
def w3 : State := sqS f6a 1 Seq.reset [(R.SQ_STATUS_PEND 0 31, 8)]
def w4 : State := sqS f6a 0 Seq.reset []
def w5 : State := sqS f6a 1 { Seq.reset with wq := [[.setS 1 5]], pc := 9, cur := some ⟨0, 5, false, false, false, 0, false⟩ } [(R.SQ_STATUS_PEND 0 31, 0xD)]
def w6 : State := feb 0x0808
def w7 : State := feb 0x0806
def w8 : State := feb 0x0801
/-- The hypotheses of SequencerEventsAndFetch are met: a witness for each clause, by its place in the statement. -/
theorem test_meets_SequencerEventsAndFetch :
    /- 1.1.1 -/ (w1.sqEnabled (↑b0 : Nat) (↑a31 : Nat) = true ∧ w1.sqKind (↑b0 : Nat) (↑a31 : Nat) (↑(3 : Fin 4) : Nat) = (↑(3 : Fin 4) : Nat) ∧ w1.sqChanOk (↑b0 : Nat) (↑a31 : Nat) (↑(3 : Fin 4) : Nat) = true ∧ ((↑(3 : Fin 4) : Nat) = 2 → w1.sqEvsel (↑b0 : Nat) (↑a31 : Nat) (↑(3 : Fin 4) : Nat) ≠ 0) ∧ (w1.bough (↑b0 : Nat)).run = BoughRun.running ∧ w1.swapWaits (↑b0 : Nat) = false ∧ w1.sqState (↑b0 : Nat) (↑a31 : Nat) = sqRUN ∧ bit (w1.get (R.SQ_STATUS_PEND (↑b0 : Nat) (↑a31 : Nat))) (↑(3 : Fin 4) : Nat) = 0) ∧
    /- 1.1.2 -/ (w2.sqEnabled (↑b0 : Nat) (↑a31 : Nat) = true ∧ w2.sqKind (↑b0 : Nat) (↑a31 : Nat) (↑(0 : Fin 4) : Nat) = (↑(3 : Fin 4) : Nat) ∧ w2.sqChanOk (↑b0 : Nat) (↑a31 : Nat) (↑(0 : Fin 4) : Nat) = true ∧ ((↑(3 : Fin 4) : Nat) = 2 → w2.sqEvsel (↑b0 : Nat) (↑a31 : Nat) (↑(0 : Fin 4) : Nat) ≠ 0) ∧ (w2.bough (↑b0 : Nat)).run = BoughRun.running ∧ w2.swapWaits (↑b0 : Nat) = false ∧ w2.sqState (↑b0 : Nat) (↑a31 : Nat) = sqFAULT) ∧
    /- 1.1.2 -/ (w3.sqEnabled (↑b0 : Nat) (↑a31 : Nat) = true ∧ w3.sqKind (↑b0 : Nat) (↑a31 : Nat) (↑(3 : Fin 4) : Nat) = (↑(3 : Fin 4) : Nat) ∧ w3.sqChanOk (↑b0 : Nat) (↑a31 : Nat) (↑(3 : Fin 4) : Nat) = true ∧ ((↑(3 : Fin 4) : Nat) = 2 → w3.sqEvsel (↑b0 : Nat) (↑a31 : Nat) (↑(3 : Fin 4) : Nat) ≠ 0) ∧ (w3.bough (↑b0 : Nat)).run = BoughRun.running ∧ w3.swapWaits (↑b0 : Nat) = false ∧ bit (w3.get (R.SQ_STATUS_PEND (↑b0 : Nat) (↑a31 : Nat))) (↑(3 : Fin 4) : Nat) = 1) ∧
    /- 1.1.3 -/ (w4.sqEnabled (↑b0 : Nat) (↑a31 : Nat) = true ∧ w4.sqKind (↑b0 : Nat) (↑a31 : Nat) (↑(3 : Fin 4) : Nat) = (↑(3 : Fin 4) : Nat) ∧ w4.sqChanOk (↑b0 : Nat) (↑a31 : Nat) (↑(3 : Fin 4) : Nat) = true ∧ ((↑(3 : Fin 4) : Nat) = 2 → w4.sqEvsel (↑b0 : Nat) (↑a31 : Nat) (↑(3 : Fin 4) : Nat) ≠ 0) ∧ (w4.bough (↑b0 : Nat)).run = BoughRun.running ∧ w4.swapWaits (↑b0 : Nat) = false ∧ w4.sqState (↑b0 : Nat) (↑a31 : Nat) = sqIDLE ∧ w4.get (R.SQ_STATUS_PEND (↑b0 : Nat) (↑a31 : Nat)) = 0 ∧ (w4.seq (↑b0 : Nat) (↑a31 : Nat)).wq = []) ∧
    /- 1.2 -/ (w5.sqLive (↑b0 : Nat) (↑a31 : Nat) = true ∧ w5.sqState (↑b0 : Nat) (↑a31 : Nat) = sqRUN ∧ (w5.seq (↑b0 : Nat) (↑a31 : Nat)).free = true ∧ (w5.seq (↑b0 : Nat) (↑a31 : Nat)).stuck = false ∧ (w5.seq (↑b0 : Nat) (↑a31 : Nat)).stopPend = false ∧ (w5.seq (↑b0 : Nat) (↑a31 : Nat)).haltPend = 0 ∧ ((w5.sqPending (↑b0 : Nat) (↑a31 : Nat) fun k => w5.sqPreempt (↑b0 : Nat) (↑a31 : Nat) k) = some 0)) ∧
    /- 2.1 -/ (fe1.sqLive (↑b0 : Nat) (↑a31 : Nat) = true ∧ fe1.sqState (↑b0 : Nat) (↑a31 : Nat) = sqRUN ∧ (fe1.seq (↑b0 : Nat) (↑a31 : Nat)).cur = none ∧ 2047 = (fe1.seq (↑b0 : Nat) (↑a31 : Nat)).pc ∧ fe1.iword 0 31 2047 = fe1.iword (↑b0 : Nat) (↑a31 : Nat) 2047) ∧
    /- 2.1 -/ (fe2.sqLive (↑b0 : Nat) (↑a31 : Nat) = true ∧ fe2.sqState (↑b0 : Nat) (↑a31 : Nat) = sqRUN ∧ (fe2.seq (↑b0 : Nat) (↑a31 : Nat)).cur = none ∧ 6 = (fe2.seq (↑b0 : Nat) (↑a31 : Nat)).pc ∧ fe2.iword 0 31 6 = fe2.iword (↑b0 : Nat) (↑a31 : Nat) 6) ∧
    /- 2.1 -/ (fe3.sqLive (↑b0 : Nat) (↑a31 : Nat) = true ∧ fe3.sqState (↑b0 : Nat) (↑a31 : Nat) = sqRUN ∧ (fe3.seq (↑b0 : Nat) (↑a31 : Nat)).cur = none ∧ 6 = (fe3.seq (↑b0 : Nat) (↑a31 : Nat)).pc ∧ fe3.iword 0 31 6 = fe3.iword (↑b0 : Nat) (↑a31 : Nat) 6) ∧
    /- 2.1 -/ (fe4.sqLive (↑b0 : Nat) (↑a31 : Nat) = true ∧ fe4.sqState (↑b0 : Nat) (↑a31 : Nat) = sqRUN ∧ (fe4.seq (↑b0 : Nat) (↑a31 : Nat)).cur = none ∧ 2048 = (fe4.seq (↑b0 : Nat) (↑a31 : Nat)).pc ∧ fe4.iword 0 31 2048 = fe4.iword (↑b0 : Nat) (↑a31 : Nat) 2048) ∧
    /- 2.2 -/ (w6.sqLive (↑b0 : Nat) (↑a31 : Nat) = true ∧ w6.sqState (↑b0 : Nat) (↑a31 : Nat) = sqRUN ∧ (w6.seq (↑b0 : Nat) (↑a31 : Nat)).cur = some (cbad (2^60) 2047 0x0808 : SeqInstr) ∧ (cbad (2^60) 2047 0x0808 : SeqInstr).bad ≠ 0 ∧ (cbad (2^60) 2047 0x0808 : SeqInstr).bad < 2 ^ 16 ∧ (cbad (2^60) 2047 0x0808 : SeqInstr).addr < 2048 ∧ (cbad (2^60) 2047 0x0808 : SeqInstr).stalled = false) ∧
    /- 2.2 -/ (w7.sqLive (↑b0 : Nat) (↑a31 : Nat) = true ∧ w7.sqState (↑b0 : Nat) (↑a31 : Nat) = sqRUN ∧ (w7.seq (↑b0 : Nat) (↑a31 : Nat)).cur = some (cbad (2^60) 2047 0x0806 : SeqInstr) ∧ (cbad (2^60) 2047 0x0806 : SeqInstr).bad ≠ 0 ∧ (cbad (2^60) 2047 0x0806 : SeqInstr).bad < 2 ^ 16 ∧ (cbad (2^60) 2047 0x0806 : SeqInstr).addr < 2048 ∧ (cbad (2^60) 2047 0x0806 : SeqInstr).stalled = false ∧ 0 = (0 : Fin 3)) ∧
    /- 2.2 -/ (w8.sqLive (↑b0 : Nat) (↑a31 : Nat) = true ∧ w8.sqState (↑b0 : Nat) (↑a31 : Nat) = sqRUN ∧ (w8.seq (↑b0 : Nat) (↑a31 : Nat)).cur = some (cbad (2^60) 2047 0x0801 : SeqInstr) ∧ (cbad (2^60) 2047 0x0801 : SeqInstr).bad ≠ 0 ∧ (cbad (2^60) 2047 0x0801 : SeqInstr).bad < 2 ^ 16 ∧ (cbad (2^60) 2047 0x0801 : SeqInstr).addr < 2048 ∧ (cbad (2^60) 2047 0x0801 : SeqInstr).stalled = false) := by
  and_intros <;> decide +kernel

def w9 : State := sqS f6a 2 Seq.reset []
def w10 : State := sqS f6a 3 Seq.reset []
def w11 : State := sqS f6a 2 { Seq.reset with stopPend := true } []
def w12 : State := sqS f6a 1 { Seq.reset with stopPend := true } [(R.SQ_STATUS_PEND 0 31, 1)]
def w13 : State := st 4
/-- The hypotheses of SequencerCommands are met: a witness for each clause, by its place in the statement. -/
theorem test_meets_SequencerCommands :
    /- 1 -/ (w3.sqEnabled (↑b0 : Nat) (↑a31 : Nat) = true ∧ w3.sqKind (↑b0 : Nat) (↑a31 : Nat) (↑(0 : Fin 4) : Nat) = 3 ∧ w3.sqChanOk (↑b0 : Nat) (↑a31 : Nat) (↑(0 : Fin 4) : Nat) = true ∧ (w3.bough (↑b0 : Nat)).run = BoughRun.running ∧ w3.swapWaits (↑b0 : Nat) = false ∧ w3.sqState (↑b0 : Nat) (↑a31 : Nat) = sqRUN ∧ bit (w3.get (R.SQ_STATUS_PEND (↑b0 : Nat) (↑a31 : Nat))) (↑(0 : Fin 4) : Nat) = 0) ∧
    /- 2 -/ (w9.sqState (↑b0 : Nat) (↑a31 : Nat) ≠ sqIDLE ∧ w9.sqState (↑b0 : Nat) (↑a31 : Nat) ≠ sqFAULT) ∧
    /- 2 -/ (w10.sqState (↑b0 : Nat) (↑a31 : Nat) ≠ sqIDLE ∧ w10.sqState (↑b0 : Nat) (↑a31 : Nat) ≠ sqFAULT) ∧
    /- 3 -/ (w11.sqLive (↑b0 : Nat) (↑a31 : Nat) = true ∧ (w11.seq (↑b0 : Nat) (↑a31 : Nat)).stopPend = true ∧ (w11.seq (↑b0 : Nat) (↑a31 : Nat)).haltPend = 0 ∧ w11.sqState (↑b0 : Nat) (↑a31 : Nat) = sqWAIT) ∧
    /- 3 -/ (w12.sqLive (↑b0 : Nat) (↑a31 : Nat) = true ∧ (w12.seq (↑b0 : Nat) (↑a31 : Nat)).stopPend = true ∧ (w12.seq (↑b0 : Nat) (↑a31 : Nat)).haltPend = 0 ∧ (w12.sqState (↑b0 : Nat) (↑a31 : Nat) = sqRUN ∧ (w12.seq (↑b0 : Nat) (↑a31 : Nat)).free = true ∧ (w12.seq (↑b0 : Nat) (↑a31 : Nat)).stuck = false)) ∧
    /- 4 -/ (w2.sqState (↑b0 : Nat) (↑a31 : Nat) = sqFAULT) ∧
    /- 7 -/ (w2.sqState (↑b0 : Nat) (↑a31 : Nat) = sqFAULT) ∧
    /- 7 -/ (¬w10.sqState (↑b0 : Nat) (↑a31 : Nat) = sqFAULT) ∧
    /- 7 -/ (w13.sqEnabled (↑b63 : Nat) (↑a31 : Nat) = false) ∧
    /- 7 -/ ((w1.sqEnabled (↑b0 : Nat) (↑a31 : Nat) = true ∧ ¬w1.sqKind (↑b0 : Nat) (↑a31 : Nat) (↑1 : Nat) = 3)) := by
  and_intros <;> first | decide +kernel | exact ⟨_, rfl⟩

def w14 : State := curS wSop2
def w15 : State := curS wRep0
def w16 : State := curS wSet
def w17 : State := curS wSetR 1 { Seq.reset with s := [(4, 2048)] }
def w18 : State := curS wMode
def w19 : Nat → LaneMode := fun _ => { LaneMode.reset with rshift := 16 }
def w20 : State := curS wMode2
def w21 : State := curS wWait
def w22 : State := curS wEnd
def w23 : State := curS wSig
/-- The hypotheses of ScalarControlAndModeInstructions are met: a witness for each clause, by its place in the statement. -/
theorem test_meets_ScalarControlAndModeInstructions :
    /- 1.1 -/ (sx.sqReady (↑b0 : Nat) (↑a31 : Nat) 3 = some (cw wSop : SeqInstr) ∧ (cw wSop : SeqInstr).bad = 0 ∧ bits (cw wSop : SeqInstr).word 56 4 ≤ 11 ∧ bits (cw wSop : SeqInstr).word 32 14 = 0 ∧ (bit (cw wSop : SeqInstr).word 46 = 1 ∧ bits (cw wSop : SeqInstr).word 47 3 = 0) ∧ (bits (cw wSop : SeqInstr).word 56 4 = 0 → bits (cw wSop : SeqInstr).word 50 3 = 0)) ∧
    /- 1.1 -/ (w14.sqReady (↑b0 : Nat) (↑a31 : Nat) 3 = some (cw wSop2 : SeqInstr) ∧ (cw wSop2 : SeqInstr).bad = 0 ∧ bits (cw wSop2 : SeqInstr).word 56 4 ≤ 11 ∧ bits (cw wSop2 : SeqInstr).word 32 14 = 0 ∧ (bit (cw wSop2 : SeqInstr).word 46 = 0 ∧ bits (cw wSop2 : SeqInstr).word 0 32 = 0) ∧ (bits (cw wSop2 : SeqInstr).word 56 4 = 0 → bits (cw wSop2 : SeqInstr).word 50 3 = 0)) ∧
    /- 1.2 -/ (sb1.sqReady (↑b0 : Nat) (↑a31 : Nat) 4 = some (cw wBr : SeqInstr) ∧ (cw wBr : SeqInstr).bad = 0 ∧ sb1u = sb1.stageA (↑b0 : Nat) (↑a31 : Nat) ∧ bits (cw wBr : SeqInstr).word 56 4 ≤ 8 ∧ bits (cw wBr : SeqInstr).word 11 37 = 0 ∧ (bit (cw wBr : SeqInstr).word 51 = 0 ∧ bits (cw wBr : SeqInstr).word 48 3 = 0) ∧ (bits (cw wBr : SeqInstr).word 56 4 = 0 ∨ 7 ≤ bits (cw wBr : SeqInstr).word 56 4 → bits (cw wBr : SeqInstr).word 52 4 = 0) ∧ (bits (cw wBr : SeqInstr).word 56 4 ≤ 4 → bits (cw wBr : SeqInstr).word 52 4 ≤ 7) ∧ (cw wBr : SeqInstr).slot = false ∧ (cw wBr : SeqInstr).nearEnd = false ∧ (2047 = if bit (cw wBr : SeqInstr).word 51 = 1 then (sb1u.seq (↑b0 : Nat) (↑a31 : Nat)).sreg (bits (cw wBr : SeqInstr).word 48 3) % 2048 else bits (cw wBr : SeqInstr).word 0 11) ∧ (sb1u.seq (↑b0 : Nat) (↑a31 : Nat)).loops = []) ∧
    /- 1.2 -/ (sb2.sqReady (↑b0 : Nat) (↑a31 : Nat) 4 = some (cw wBr2 : SeqInstr) ∧ (cw wBr2 : SeqInstr).bad = 0 ∧ sb2u = sb2.stageA (↑b0 : Nat) (↑a31 : Nat) ∧ bits (cw wBr2 : SeqInstr).word 56 4 ≤ 8 ∧ bits (cw wBr2 : SeqInstr).word 11 37 = 0 ∧ (bit (cw wBr2 : SeqInstr).word 51 = 1 ∧ bits (cw wBr2 : SeqInstr).word 0 11 = 0) ∧ (bits (cw wBr2 : SeqInstr).word 56 4 = 0 ∨ 7 ≤ bits (cw wBr2 : SeqInstr).word 56 4 → bits (cw wBr2 : SeqInstr).word 52 4 = 0) ∧ (bits (cw wBr2 : SeqInstr).word 56 4 ≤ 4 → bits (cw wBr2 : SeqInstr).word 52 4 ≤ 7) ∧ (cw wBr2 : SeqInstr).slot = false ∧ (cw wBr2 : SeqInstr).nearEnd = false ∧ (4 = if bit (cw wBr2 : SeqInstr).word 51 = 1 then (sb2u.seq (↑b0 : Nat) (↑a31 : Nat)).sreg (bits (cw wBr2 : SeqInstr).word 48 3) % 2048 else bits (cw wBr2 : SeqInstr).word 0 11) ∧ (∃ l rest, (sb2u.seq (↑b0 : Nat) (↑a31 : Nat)).loops = l :: rest ∧ l.start ≤ 4 ∧ 4 ≤ l.stop)) ∧
    /- 1.2 -/ (sb3.sqReady (↑b0 : Nat) (↑a31 : Nat) 4 = some (cw wBr3 : SeqInstr) ∧ (cw wBr3 : SeqInstr).bad = 0 ∧ sb3u = sb3.stageA (↑b0 : Nat) (↑a31 : Nat) ∧ bits (cw wBr3 : SeqInstr).word 56 4 ≤ 8 ∧ bits (cw wBr3 : SeqInstr).word 11 37 = 0 ∧ (bit (cw wBr3 : SeqInstr).word 51 = 0 ∧ bits (cw wBr3 : SeqInstr).word 48 3 = 0) ∧ (bits (cw wBr3 : SeqInstr).word 56 4 = 0 ∨ 7 ≤ bits (cw wBr3 : SeqInstr).word 56 4 → bits (cw wBr3 : SeqInstr).word 52 4 = 0) ∧ (bits (cw wBr3 : SeqInstr).word 56 4 ≤ 4 → bits (cw wBr3 : SeqInstr).word 52 4 ≤ 7) ∧ (cw wBr3 : SeqInstr).slot = false ∧ (cw wBr3 : SeqInstr).nearEnd = false ∧ (5 = if bit (cw wBr3 : SeqInstr).word 51 = 1 then (sb3u.seq (↑b0 : Nat) (↑a31 : Nat)).sreg (bits (cw wBr3 : SeqInstr).word 48 3) % 2048 else bits (cw wBr3 : SeqInstr).word 0 11) ∧ (sb3u.seq (↑b0 : Nat) (↑a31 : Nat)).loops = []) ∧
    /- 1.3.1 -/ (repS.sqReady (↑b0 : Nat) (↑a31 : Nat) 5 = some (cw wRep : SeqInstr) ∧ (cw wRep : SeqInstr).bad = 0 ∧ bits (cw wRep : SeqInstr).word 11 28 = 0 ∧ (bit (cw wRep : SeqInstr).word 59 = 0 ∧ bits (cw wRep : SeqInstr).word 56 3 = 0 ∧ 65536 = bits (cw wRep : SeqInstr).word 39 17) ∧ 65536 ≤ 65536 ∧ (cw wRep : SeqInstr).slot = false ∧ (cw wRep : SeqInstr).addr + 1 ≤ bits (cw wRep : SeqInstr).word 0 11 ∧ (∃ l rest, (repS.seq (↑b0 : Nat) (↑a31 : Nat)).loops = l :: rest ∧ bits (cw wRep : SeqInstr).word 0 11 ≤ l.stop) ∧ 0 < 65536 ∧ (repS.seq (↑b0 : Nat) (↑a31 : Nat)).loops.length < 4) ∧
    /- 1.3.2 -/ (w15.sqReady (↑b0 : Nat) (↑a31 : Nat) 5 = some (cw wRep0 : SeqInstr) ∧ (cw wRep0 : SeqInstr).bad = 0 ∧ bits (cw wRep0 : SeqInstr).word 11 28 = 0 ∧ (bit (cw wRep0 : SeqInstr).word 59 = 1 ∧ bits (cw wRep0 : SeqInstr).word 39 17 = 0 ∧ 0 = (w15.seq (↑b0 : Nat) (↑a31 : Nat)).sreg (bits (cw wRep0 : SeqInstr).word 56 3)) ∧ 0 ≤ 65536 ∧ (cw wRep0 : SeqInstr).slot = false ∧ (cw wRep0 : SeqInstr).addr + 1 ≤ bits (cw wRep0 : SeqInstr).word 0 11 ∧ (w15.seq (↑b0 : Nat) (↑a31 : Nat)).loops = []) ∧
    /- 1.4 -/ (w16.sqReady (↑b0 : Nat) (↑a31 : Nat) 6 = some (cw wSet : SeqInstr) ∧ (cw wSet : SeqInstr).bad = 0 ∧ bits (cw wSet : SeqInstr).word 47 2 = 0 ∧ 0 = ((w16.stageA (↑b0 : Nat) (↑a31 : Nat)).seq (↑b0 : Nat) (↑a31 : Nat)).sreg (bits (cw wSet : SeqInstr).word 49 3) ∧ AddrGen.reset = ((w16.stageA (↑b0 : Nat) (↑a31 : Nat)).seq (↑b0 : Nat) (↑a31 : Nat)).ag (bits (cw wSet : SeqInstr).word 58 2) ∧ (bit (cw wSet : SeqInstr).word 52 = 0 ∧ bits (cw wSet : SeqInstr).word 49 3 = 0 ∧ 2048 = bits (cw wSet : SeqInstr).word 22 12 ∧ (bit (cw wSet : SeqInstr).word 53 = 0 → bits (cw wSet : SeqInstr).word 0 11 = 0) ∧ (bit (cw wSet : SeqInstr).word 54 = 0 → bits (cw wSet : SeqInstr).word 11 11 = 0) ∧ (bit (cw wSet : SeqInstr).word 55 = 0 → bits (cw wSet : SeqInstr).word 22 12 = 0) ∧ (bit (cw wSet : SeqInstr).word 56 = 0 → bits (cw wSet : SeqInstr).word 34 12 = 0) ∧ (bit (cw wSet : SeqInstr).word 57 = 0 → bit (cw wSet : SeqInstr).word 46 = 0)) ∧ (bit (cw wSet : SeqInstr).word 55 = 1 → 2048 ≤ 2048)) ∧
    /- 1.4 -/ (w17.sqReady (↑b0 : Nat) (↑a31 : Nat) 6 = some (cw wSetR : SeqInstr) ∧ (cw wSetR : SeqInstr).bad = 0 ∧ bits (cw wSetR : SeqInstr).word 47 2 = 0 ∧ 2048 = ((w17.stageA (↑b0 : Nat) (↑a31 : Nat)).seq (↑b0 : Nat) (↑a31 : Nat)).sreg (bits (cw wSetR : SeqInstr).word 49 3) ∧ AddrGen.reset = ((w17.stageA (↑b0 : Nat) (↑a31 : Nat)).seq (↑b0 : Nat) (↑a31 : Nat)).ag (bits (cw wSetR : SeqInstr).word 58 2) ∧ (bit (cw wSetR : SeqInstr).word 52 = 1 ∧ bits (cw wSetR : SeqInstr).word 0 47 = 0) ∧ (bit (cw wSetR : SeqInstr).word 55 = 1 → 2048 ≤ 2048)) ∧
    /- 2 -/ (w18.sqReady (↑b0 : Nat) (↑a31 : Nat) 7 = some (cw wMode : SeqInstr) ∧ (cw wMode : SeqInstr).bad = 0 ∧ bits (cw wMode : SeqInstr).word 56 4 ≤ 11 ∧ bits (cw wMode : SeqInstr).word 24 19 = 0 ∧ (bit (cw wMode : SeqInstr).word 55 = 0 ∧ bits (cw wMode : SeqInstr).word 51 4 = 0) ∧ (∀ (l : Nat), l < 8 → bit (bits (cw wMode : SeqInstr).word 43 8) l = 1 → modeField (((w18.stageA (↑b0 : Nat) (↑a31 : Nat)).seq (↑b0 : Nat) (↑a31 : Nat)).lmode l) (bits (cw wMode : SeqInstr).word 56 4) (if bit (cw wMode : SeqInstr).word 55 = 1 then ((w18.stageA (↑b0 : Nat) (↑a31 : Nat)).seq (↑b0 : Nat) (↑a31 : Nat)).vreg l (bits (cw wMode : SeqInstr).word 51 4) else bits (cw wMode : SeqInstr).word 0 24) = some (w19 l) ∧ ((w19 l).dual = false ∨ (w19 l).rshift ≤ 16 ∧ (bits (cw wMode : SeqInstr).word 56 4 ≠ 0 ∨ inQuad ((w18.stageA (↑b0 : Nat) (↑a31 : Nat)).abranchWord (↑b0 : Nat) (↑a31 : Nat)) l = false)))) ∧
    /- 2 -/ (w20.sqReady (↑b0 : Nat) (↑a31 : Nat) 7 = some (cw wMode2 : SeqInstr) ∧ (cw wMode2 : SeqInstr).bad = 0 ∧ bits (cw wMode2 : SeqInstr).word 56 4 ≤ 11 ∧ bits (cw wMode2 : SeqInstr).word 24 19 = 0 ∧ (bit (cw wMode2 : SeqInstr).word 55 = 1 ∧ bits (cw wMode2 : SeqInstr).word 0 24 = 0) ∧ (∀ (l : Nat), l < 8 → bit (bits (cw wMode2 : SeqInstr).word 43 8) l = 1 → modeField (((w20.stageA (↑b0 : Nat) (↑a31 : Nat)).seq (↑b0 : Nat) (↑a31 : Nat)).lmode l) (bits (cw wMode2 : SeqInstr).word 56 4) (if bit (cw wMode2 : SeqInstr).word 55 = 1 then ((w20.stageA (↑b0 : Nat) (↑a31 : Nat)).seq (↑b0 : Nat) (↑a31 : Nat)).vreg l (bits (cw wMode2 : SeqInstr).word 51 4) else bits (cw wMode2 : SeqInstr).word 0 24) = some ((fun _ => LaneMode.reset : Nat → LaneMode) l) ∧ (((fun _ => LaneMode.reset : Nat → LaneMode) l).dual = false ∨ ((fun _ => LaneMode.reset : Nat → LaneMode) l).rshift ≤ 16 ∧ (bits (cw wMode2 : SeqInstr).word 56 4 ≠ 0 ∨ inQuad ((w20.stageA (↑b0 : Nat) (↑a31 : Nat)).abranchWord (↑b0 : Nat) (↑a31 : Nat)) l = false)))) ∧
    /- 3 -/ (w21.sqReady (↑b0 : Nat) (↑a31 : Nat) 8 = some (cw wWait : SeqInstr) ∧ (cw wWait : SeqInstr).bad = 0 ∧ bits (cw wWait : SeqInstr).word 56 4 = 0 ∧ bits (cw wWait : SeqInstr).word 4 52 = 0 ∧ (cw wWait : SeqInstr).slot = false ∧ (w21.stageA (↑b0 : Nat) (↑a31 : Nat)).get (R.SQ_STATUS_PEND (↑b0 : Nat) (↑a31 : Nat)) = 0) ∧
    /- 4 -/ (w22.sqReady (↑b0 : Nat) (↑a31 : Nat) 8 = some (cw wEnd : SeqInstr) ∧ (cw wEnd : SeqInstr).bad = 0 ∧ bits (cw wEnd : SeqInstr).word 56 4 = 1 ∧ bits (cw wEnd : SeqInstr).word 0 56 = 0 ∧ (cw wEnd : SeqInstr).slot = false) ∧
    /- 5 -/ (w23.sqReady (↑b0 : Nat) (↑a31 : Nat) 8 = some (cw wSig : SeqInstr) ∧ (cw wSig : SeqInstr).bad = 0 ∧ bits (cw wSig : SeqInstr).word 56 4 = 2 ∧ bits (cw wSig : SeqInstr).word 2 54 = 0) := by
  and_intros <;> first | with_reducible exact sb2_loops | with_reducible exact rep_loops | decide +kernel

def w24 : State := curS 0
def w25 : State := curS wLop
def w26 : State := curS wMac 1 { Seq.reset with v := [(14, 6), (15, 7)] }
def w27 : SlotWord := ⟨2, 0, false, 0, 0, true⟩
def w28 : SeqInstr := ⟨wLop, 5, false, false, false, 0, true⟩
/-- The hypotheses of MemoryAndLaneInstructions are met: a witness for each clause, by its place in the statement. -/
theorem test_meets_MemoryAndLaneInstructions :
    /- 1.1 -/ (w24.sqReady (↑b0 : Nat) (↑a31 : Nat) 0 = some (cw 0 : SeqInstr) ∧ (cw 0 : SeqInstr).bad = 0 ∧ bits (cw 0 : SeqInstr).word 0 60 = 0) ∧
    /- 1.2 -/ (w25.sqReady (↑b0 : Nat) (↑a31 : Nat) 2 = some (cw wLop : SeqInstr) ∧ (cw wLop : SeqInstr).bad = 0 ∧ bits (cw wLop : SeqInstr).word 0 26 = 0 ∧ bits (cw wLop : SeqInstr).word 55 5 ≤ 16 ∧ bits (cw wLop : SeqInstr).word 46 5 < 16 ∧ bits (cw wLop : SeqInstr).word 41 5 < 16 ∧ (bits (cw wLop : SeqInstr).word 55 5 ≠ 0 ∧ bits (cw wLop : SeqInstr).word 55 5 ≠ 13 ∧ bits (cw wLop : SeqInstr).word 55 5 ≠ 14) ∧ bits (cw wLop : SeqInstr).word 26 15 = 0) ∧
    /- 1.3 -/ (w26.sqReady (↑b0 : Nat) (↑a31 : Nat) 1 = some (cw wMac : SeqInstr) ∧ (cw wMac : SeqInstr).bad = 0 ∧ bits (cw wMac : SeqInstr).word 0 26 = 0 ∧ bits (cw wMac : SeqInstr).word 47 5 < 16 ∧ bits (cw wMac : SeqInstr).word 42 5 < 16 ∧ bits (cw wMac : SeqInstr).word 37 5 ≤ 16 ∧ bits (cw wMac : SeqInstr).word 32 5 = 16 ∧ bits (cw wMac : SeqInstr).word 26 6 ≤ 32 ∧ bit (cw wMac : SeqInstr).word 54 = 0 ∧ bit (cw wMac : SeqInstr).word 53 = 0 ∧ (bit (cw wMac : SeqInstr).word 55 = 1 → bit (cw wMac : SeqInstr).word 56 = 1) ∧ (((List.range 8).all fun l => !((w26.seq (↑b0 : Nat) (↑a31 : Nat)).lmode l).dual) = true)) ∧
    /- 1.4 -/ (slr.trap = false ∧ w27.kind = 2 ∧ w27.form = 0 ∧ bits (slr.st.blockWord 63 (opBlock 31 2047)) 1 2 ≠ 1 ∧ 63 < 64 ∧ 2047 < 2048 ∧ 31 < 32) ∧
    /- 1.5 -/ (mmS.sqReady (↑b0 : Nat) (↑a31 : Nat) 0 = some (cw wMem : SeqInstr) ∧ (cw wMem : SeqInstr).bad = 0 ∧ bits (cw wMem : SeqInstr).word 13 47 = 0 ∧ bits (cw wMem : SeqInstr).word 11 2 = 2 ∧ bits (cw wMem : SeqInstr).word 5 3 ≤ 1 ∧ bit (cw wMem : SeqInstr).word 0 = 0 ∧ mmS.blockUsed (↑b0 : Nat) (opBlock (↑a31 : Nat) ((mmS.seq (↑b0 : Nat) (↑a31 : Nat)).ag (bits (cw wMem : SeqInstr).word 9 2)).ptr) = true ∧ bit (mmS.blockWord (↑b0 : Nat) (opBlock (↑a31 : Nat) ((mmS.seq (↑b0 : Nat) (↑a31 : Nat)).ag (bits (cw wMem : SeqInstr).word 9 2)).ptr)) 27 = 1 ∧ mmS.bmReady (↑b0 : Nat) (opBlock (↑a31 : Nat) ((mmS.seq (↑b0 : Nat) (↑a31 : Nat)).ag (bits (cw wMem : SeqInstr).word 9 2)).ptr) = true) ∧
    /- 1.6 -/ ((mmL.seq (↑b0 : Nat) (↑a31 : Nat)).cur = some w28 ∧ w28.stalled = true ∧ mmL.sqLive (↑b0 : Nat) (↑a31 : Nat) = true ∧ mmL.sqState (↑b0 : Nat) (↑a31 : Nat) = sqRUN ∧ bits w28.word 60 4 = 2 ∧ mmLu = (mmL.setSeq (↑b0 : Nat) (↑a31 : Nat) (have __src := mmL.seq (↑b0 : Nat) (↑a31 : Nat); { __src with cur := some { w28 with stalled := false } })).bump (R.SQ_CNT_STALLS (↑b0 : Nat) (↑a31 : Nat)) 9) ∧
    /- 2 -/ (8388608 < 2 ^ 24 ∧ 16777215 < 2 ^ 24) ∧
    /- 2 -/ (8388607 < 2 ^ 24 ∧ 8388632 < 2 ^ 24) := by
  and_intros <;> decide +kernel

end Sys2Proof.Tests.PartD
namespace Sys2Proof.Tests.PartE
open Sys2Proof Sys2Proof.Machine
set_option Elab.async false

def ckF : State := stw 4 [(R.CK_STATUS_FOSC_ON, 1), (R.CK_STATUS_FOSC_QUAL, 0)]
def ckF3 : State := { ckF with clk := { ckF.clk with monfPasses := 3 } }
def ckM : State := stw 4 [(R.MON_CFG_EN 15, 1), (R.MON_CFG_TOL 15, 10), (R.MON_STAT_EXP 15, 1000), (R.MON_CFG_QUALN 15, 1)]
def monD : Word64 := wd64 [(R.MON_CFG_MEAS 15, 0x20), (R.MON_CFG_REF 15, 0x1A), (R.MON_CFG_QUALN 15, 1), (R.MON_CFG_LOSS 15, 1), (R.MON_CFG_WIN 15, 256), (R.MON_CFG_TOL 15, 1000), (R.MON_CFG_EN 15, 1)]
def mxT (m v : Nat) : State := (st 4).setMuxSw m v
def mxA : List (Fld × Nat) := [((muxF 13).act, 0), ((muxF 13).pri, 0x15), ((muxF 13).alt, 0x14), ((muxF 13).auto, 1), ((muxF 13).gpriEn, 1), ((muxF 13).gpri, 4), (R.MON_STAT_TRIPPED 4, 1)]
def mxB : List (Fld × Nat) := [((muxF 13).act, 0), ((muxF 13).pri, 0x15), ((muxF 13).alt, 0x7F), ((muxF 13).fb, 0), ((muxF 13).auto, 1), ((muxF 13).gpriEn, 1), ((muxF 13).gpri, 4), (R.MON_STAT_TRIPPED 4, 1)]
def plS : State := stw 4 [(R.CP_CFG_EN 15, 1), (R.CP_CFG_M 15, 4), (R.CP_CFG_N 15, 64), (R.CP_OUT_O 15, 4), (R.CP_MUX_ACT 15, 0), (R.CK_STATUS_CP_LOCK, 1)]

/-- The hypotheses of ClockMonitors are met: a witness for each clause, by its place in the statement. -/
theorem test_meets_ClockMonitors :
    /- 1.1 -/ (ckF3.get R.CK_STATUS_FOSC_ON ≠ 0 ∧ 14000 ≤ 14000 ∧ 14000 ≤ 19000) ∧
    /- 1.1 -/ (ckF.get R.CK_STATUS_FOSC_ON ≠ 0 ∧ 14000 ≤ 19000 ∧ 19000 ≤ 19000) ∧
    /- 1.2 -/ (ckF3.get R.CK_STATUS_FOSC_ON ≠ 0 ∧ 13999 < 14000) ∧
    /- 1.2 -/ (ckF3.get R.CK_STATUS_FOSC_ON ≠ 0 ∧ 19000 < 19001) ∧
    /- 1.2 -/ (ckF3.get R.CK_STATUS_FOSC_ON ≠ 0) ∧
    /- 3.1 -/ (ckM.get (R.MON_CFG_EN (↑(15 : Fin 16) : Nat)) ≠ 0 ∧ 990 < 2 ^ 24 ∧ ckM.get (R.MON_STAT_EXP (↑(15 : Fin 16) : Nat)) ≤ 990 + ckM.get (R.MON_CFG_TOL (↑(15 : Fin 16) : Nat)) ∧ 990 ≤ ckM.get (R.MON_STAT_EXP (↑(15 : Fin 16) : Nat)) + ckM.get (R.MON_CFG_TOL (↑(15 : Fin 16) : Nat))) ∧
    /- 3.1 -/ (ckM.get (R.MON_CFG_EN (↑(15 : Fin 16) : Nat)) ≠ 0 ∧ 1010 < 2 ^ 24 ∧ ckM.get (R.MON_STAT_EXP (↑(15 : Fin 16) : Nat)) ≤ 1010 + ckM.get (R.MON_CFG_TOL (↑(15 : Fin 16) : Nat)) ∧ 1010 ≤ ckM.get (R.MON_STAT_EXP (↑(15 : Fin 16) : Nat)) + ckM.get (R.MON_CFG_TOL (↑(15 : Fin 16) : Nat))) ∧
    /- 3.2 -/ (ckM.get (R.MON_CFG_EN (↑(15 : Fin 16) : Nat)) ≠ 0 ∧ 989 < 2 ^ 24 ∧ (15 = (15 : Fin 16) ∧ 989 + ckM.get (R.MON_CFG_TOL (↑(15 : Fin 16) : Nat)) < ckM.get (R.MON_STAT_EXP (↑(15 : Fin 16) : Nat)))) ∧
    /- 3.2 -/ (ckM.get (R.MON_CFG_EN (↑(15 : Fin 16) : Nat)) ≠ 0 ∧ 1011 < 2 ^ 24 ∧ (15 = (15 : Fin 16) ∧ ckM.get (R.MON_STAT_EXP (↑(15 : Fin 16) : Nat)) + ckM.get (R.MON_CFG_TOL (↑(15 : Fin 16) : Nat)) < 1011)) ∧
    /- 3.2 -/ (ckM.get (R.MON_CFG_EN (↑(15 : Fin 16) : Nat)) ≠ 0 ∧ 0 < 2 ^ 24 ∧ 15 = (15 : Fin 16)) ∧
    /- 3.3 -/ (ckM.get (R.MON_CFG_EN (↑(15 : Fin 16) : Nat)) ≠ 0 ∧ 0 < 2 ^ 24) ∧
    /- 3.4 -/ (ckM.get (R.MON_CFG_EN (↑(15 : Fin 16) : Nat)) ≠ 0 ∧ 0 < 2 ^ 24) ∧
    /- 4.1 -/ ((bits (BitVec.toNat monD) 0 7 ≠ bits (BitVec.toNat monD) 7 7 ∧ bits (BitVec.toNat monD) (R.MON_CFG_QUALN (↑(15 : Fin 16) : Nat)).lo (R.MON_CFG_QUALN (↑(15 : Fin 16) : Nat)).w ≠ 0 ∧ bits (BitVec.toNat monD) (R.MON_CFG_LOSS (↑(15 : Fin 16) : Nat)).lo (R.MON_CFG_LOSS (↑(15 : Fin 16) : Nat)).w ≠ 0 ∧ 256 ≤ bits (BitVec.toNat monD) (R.MON_CFG_WIN (↑(15 : Fin 16) : Nat)).lo (R.MON_CFG_WIN (↑(15 : Fin 16) : Nat)).w ∧ bits (BitVec.toNat monD) (R.MON_CFG_TOL (↑(15 : Fin 16) : Nat)).lo (R.MON_CFG_TOL (↑(15 : Fin 16) : Nat)).w ≤ ckM.get (R.MON_STAT_EXP (↑(15 : Fin 16) : Nat)) ∧ ckidOk (bits (BitVec.toNat monD) 0 7) = true ∧ ckidOk (bits (BitVec.toNat monD) 7 7) = true)) ∧
    /- 4.2 -/ (bits (BitVec.toNat (0x285 : Word64)) 0 7 = bits (BitVec.toNat (0x285 : Word64)) 7 7) := by
  and_intros <;> decide +kernel

def w1 : State := stw 4 [((muxF 48).pri, 0x15), ((muxF 48).act, 0), ((muxF 48).sel, 0), (R.CK_STATUS_FOSC_QUAL, 1)]
def w2 : State := stw 4 [((muxF 47).pri, 0x20), ((muxF 47).act, 0), ((muxF 47).sel, 0), ((muxF 47).alt, 0x7F)]
def w3 : State := stw 4 [((muxF 15).pri, 0x15), ((muxF 15).act, 1), ((muxF 15).alt, 0x14), ((muxF 15).sel, 1)]
def w4 : State := st 4
def w5 : State := stw 4 [((muxF 13).pri, 0x15), ((muxF 13).act, 0)]
def w6 : State := mxT 48 3
def w7 : State := mxT 0 1
def w8 : State := mxT 51 1
def w9 : State := mxT 49 1
def w10 : State := stw 4 [(R.CK_STATUS_CMC_FOSC, 1), (R.CK_STATUS_FOSC_QUAL, 0)]
def w11 : State := stw 4 mxA
def w12 : State := stw 4 mxB
def w13 : State := stw 4 (mxA ++ [((muxF 13).deferred, 1), ((muxF 13).act, 3)])
def w14 : State := stw 4 [((muxF 13).pri, 0x15), ((muxF 13).alt, 0x14), ((muxF 13).revert, 1), ((muxF 13).act, 1), ((muxF 13).sel, 0)]
/-- The hypotheses of ClockMuxes are met: a witness for each clause, by its place in the statement. -/
theorem test_meets_ClockMuxes :
    /- 1 -/ (((↑(48 : Fin 49) : Nat) ≠ 14 ∧ (↑(48 : Fin 49) : Nat) ≠ 15) ∧ ((↑(48 : Fin 49) : Nat) = 48 → w1.srcTp (↑s65 : Nat) = true) ∧ muxCkidOk (↑(48 : Fin 49) : Nat) (bits (0x10003F95 : BitVec 32).toNat 0 7) = true ∧ bits (0x10003F95 : BitVec 32).toNat 7 7 = 127 ∧ (bits (0x10003F95 : BitVec 32).toNat 27 2 = 2 ∧ (↑(48 : Fin 49) : Nat) = 48 ∧ w1.get R.CK_STATUS_FOSC_QUAL ≠ 0) ∧ bits (0x10003F95 : BitVec 32).toNat 0 7 = w1.get (muxF (↑(48 : Fin 49) : Nat)).pri ∧ w1.get (muxF (↑(48 : Fin 49) : Nat)).act ≠ 1 ∧ bits (0x10003F95 : BitVec 32).toNat 27 2 ≠ w1.get (muxF (↑(48 : Fin 49) : Nat)).sel ∧ bits (0x10003F95 : BitVec 32).toNat 27 2 ≠ w1.get (muxF (↑(48 : Fin 49) : Nat)).act ∧ w1.tp.failed = []) ∧
    /- 1 -/ (((↑(47 : Fin 49) : Nat) ≠ 14 ∧ (↑(47 : Fin 49) : Nat) ≠ 15) ∧ ((↑(47 : Fin 49) : Nat) = 48 → w2.srcTp (↑s33 : Nat) = true) ∧ muxCkidOk (↑(47 : Fin 49) : Nat) (bits (0x08002BA0 : BitVec 32).toNat 0 7) = true ∧ muxCkidOk (↑(47 : Fin 49) : Nat) (bits (0x08002BA0 : BitVec 32).toNat 7 7) = true ∧ (bits (0x08002BA0 : BitVec 32).toNat 27 2 = 1 ∧ bits (0x08002BA0 : BitVec 32).toNat 7 7 ≠ 127 ∧ bit (0x08002BA0 : BitVec 32).toNat 23 = 0) ∧ bits (0x08002BA0 : BitVec 32).toNat 0 7 = w2.get (muxF (↑(47 : Fin 49) : Nat)).pri ∧ w2.get (muxF (↑(47 : Fin 49) : Nat)).act ≠ 1 ∧ bits (0x08002BA0 : BitVec 32).toNat 27 2 ≠ w2.get (muxF (↑(47 : Fin 49) : Nat)).sel ∧ bits (0x08002BA0 : BitVec 32).toNat 27 2 ≠ w2.get (muxF (↑(47 : Fin 49) : Nat)).act ∧ w2.tp.failed = []) ∧
    /- 1 -/ (s65 = 65 ∧ ((↑(15 : Fin 49) : Nat) = 48 → w3.srcTp (↑s65 : Nat) = true) ∧ muxCkidOk (↑(15 : Fin 49) : Nat) (bits (0x00000A15 : BitVec 32).toNat 0 7) = true ∧ muxCkidOk (↑(15 : Fin 49) : Nat) (bits (0x00000A15 : BitVec 32).toNat 7 7) = true ∧ (bits (0x00000A15 : BitVec 32).toNat 27 2 = 0 ∧ bit (0x00000A15 : BitVec 32).toNat 18 = 0) ∧ w3.get (muxF (↑(15 : Fin 49) : Nat)).act ≠ 0 ∧ bits (0x00000A15 : BitVec 32).toNat 7 7 = w3.get (muxF (↑(15 : Fin 49) : Nat)).alt ∧ bits (0x00000A15 : BitVec 32).toNat 27 2 ≠ w3.get (muxF (↑(15 : Fin 49) : Nat)).sel ∧ bits (0x00000A15 : BitVec 32).toNat 27 2 ≠ w3.get (muxF (↑(15 : Fin 49) : Nat)).act ∧ w3.tp.failed = []) ∧
    /- 2 -/ (((↑(14 : Fin 49) : Nat) = 14 ∧ s33 ≠ 65)) ∧
    /- 2 -/ ((((↑(13 : Fin 49) : Nat) ≠ 14 ∧ (↑(13 : Fin 49) : Nat) ≠ 15) ∧ ((↑(13 : Fin 49) : Nat) = 48 → w4.srcTp (↑s33 : Nat) = true) ∧ bits (0x18000000 : BitVec 32).toNat 27 2 = 3)) ∧
    /- 2 -/ ((((↑(13 : Fin 49) : Nat) ≠ 14 ∧ (↑(13 : Fin 49) : Nat) ≠ 15) ∧ ((↑(13 : Fin 49) : Nat) = 48 → w5.srcTp (↑s33 : Nat) = true) ∧ muxCkidOk (↑(13 : Fin 49) : Nat) (bits (0x00003F94 : BitVec 32).toNat 0 7) = true ∧ bits (0x00003F94 : BitVec 32).toNat 7 7 = 127 ∧ bits (0x00003F94 : BitVec 32).toNat 27 2 = 0 ∧ bits (0x00003F94 : BitVec 32).toNat 0 7 ≠ 127 ∧ w5.get (muxF (↑(13 : Fin 49) : Nat)).act = 0 ∧ bits (0x00003F94 : BitVec 32).toNat 0 7 ≠ w5.get (muxF (↑(13 : Fin 49) : Nat)).pri)) ∧
    /- 3 -/ (w6.muxTarget (↑(48 : Fin 52) : Nat) = 2 + 1 ∧ 2 < 3 ∧ 48 = (48 : Fin 52)) ∧
    /- 3 -/ (w7.muxTarget (↑(0 : Fin 52) : Nat) = 0 + 1 ∧ 0 < 3 ∧ (0 = (0 : Fin 52) ∧ ¬(↑(0 : Fin 52) : Nat) = 49)) ∧
    /- 3 -/ (w8.muxTarget (↑(51 : Fin 52) : Nat) = 0 + 1 ∧ 0 < 3 ∧ 51 = (51 : Fin 52)) ∧
    /- 3 -/ (w9.muxTarget (↑(49 : Fin 52) : Nat) = 0 + 1 ∧ 0 < 3 ∧ 49 = (49 : Fin 52)) ∧
    /- 4 -/ (w10.get R.CK_STATUS_CMC_FOSC ≠ 0 ∧ w10.get R.CK_STATUS_FOSC_QUAL = 0) ∧
    /- 5 -/ (w8.muxTarget (↑(51 : Fin 52) : Nat) ≠ 0) ∧
    /- 6.1 -/ (w11.get (muxF (↑(13 : Fin 49) : Nat)).auto ≠ 0 ∧ w11.muxTarget (↑(13 : Fin 49) : Nat) = 0 ∧ w11.muxFailed (↑(13 : Fin 49) : Nat) (w11.get (muxF (↑(13 : Fin 49) : Nat)).act) = true ∧ w11.muxChoice (↑(13 : Fin 49) : Nat) = some 1) ∧
    /- 6.2 -/ (w12.get (muxF (↑(13 : Fin 49) : Nat)).auto ≠ 0 ∧ w12.muxTarget (↑(13 : Fin 49) : Nat) = 0 ∧ w12.muxFailed (↑(13 : Fin 49) : Nat) (w12.get (muxF (↑(13 : Fin 49) : Nat)).act) = true ∧ w12.muxChoice (↑(13 : Fin 49) : Nat) = none) ∧
    /- 7 -/ (w13.get (muxF (↑(13 : Fin 49) : Nat)).deferred ≠ 0 ∧ w13.muxChoice (↑(13 : Fin 49) : Nat) = some 1 ∧ 1 < 3) ∧
    /- 8 -/ (w14.get (muxF (↑(13 : Fin 49) : Nat)).revert ≠ 0 ∧ w14.get (muxF (↑(13 : Fin 49) : Nat)).deferred = 0 ∧ w14.get (muxF (↑(13 : Fin 49) : Nat)).act ≠ w14.get (muxF (↑(13 : Fin 49) : Nat)).sel ∧ w14.muxTarget (↑(13 : Fin 49) : Nat) = 0 ∧ w14.muxEligible (↑(13 : Fin 49) : Nat) (w14.get (muxF (↑(13 : Fin 49) : Nat)).sel) = true) ∧
    /- 2 -/ (((↑(48 : Fin 49) : Nat) = 48 ∧ w4.srcTp (↑s33 : Nat) = false)) := by
  and_intros <;> decide +kernel

def w15 : Word64 := wd64 [(R.CP_CFG_M 13, 1), (R.CP_CFG_M_FB 13, 63), (R.CP_CFG_N 13, 640), (R.CP_CFG_EN 13, 1)]
def w16 : Word64 := wd64 [(R.CP_CFG_M 15, 1), (R.CP_CFG_M_FB 15, 63), (R.CP_CFG_N 15, 16)]
def w17 : State := stw 4 [(R.CP_CFG_EN 15, 0), (R.CP_OUT_O 15, 0)]
def w18 : State := stw 4 [(R.CP_CFG_EN 15, 0)]
def w19 : Word64 := wd64 [(R.CP_CFG_M 15, 1), (R.CP_CFG_M_FB 15, 63), (R.CP_CFG_N 15, 15)]
def w20 : BitVec 32 := wd32 [(R.GCL_CFG_FNOM 31, 1600000), (R.GCL_CFG_ON 31, 1)]
def w21 : State := stw 4 [(R.CK_STATUS_TPLL_LOCK, 1), (R.GCL_CFG_FNOM 31, 100000)]
def w22 : Word64 := wd64 [(R.CLKOUT_SRC 1, 0x18), (R.CLKOUT_EN 1, 1), (R.CLKOUT_DIV 1, 65536)]
/-- The hypotheses of PllsAndClockLines are met: a witness for each clause, by its place in the statement. -/
theorem test_meets_PllsAndClockLines :
    /- 1 -/ ((↑(13 : Fin 16) : Nat) < 14 ∧ 1 ≤ bits (BitVec.toNat w15) 0 6 ∧ 1 ≤ bits (BitVec.toNat w15) 6 6 ∧ 16 ≤ bits (BitVec.toNat w15) 12 10 ∧ bits (BitVec.toNat w15) 12 10 ≤ 640 ∧ w4.get (R.CP_OUT_O (↑(13 : Fin 16) : Nat)) = 0 ∧ w4.get (R.CP_CFG_EN (↑(13 : Fin 16) : Nat)) = 0) ∧
    /- 1 -/ (s65 = 65 ∧ 1 ≤ bits (BitVec.toNat w16) 0 6 ∧ 1 ≤ bits (BitVec.toNat w16) 6 6 ∧ 16 ≤ bits (BitVec.toNat w16) 12 10 ∧ bits (BitVec.toNat w16) 12 10 ≤ 640 ∧ w17.get (R.CP_OUT_O (↑(15 : Fin 16) : Nat)) = 0 ∧ w17.get (R.CP_CFG_EN (↑(15 : Fin 16) : Nat)) = 0) ∧
    /- 2 -/ (s65 = 65 ∧ (∀ (i : Nat), i < 4 → bits (BitVec.toNat (0xFF040004 : Word64)) (8 * i) 8 = 0 ∨ 4 ≤ bits (BitVec.toNat (0xFF040004 : Word64)) (8 * i) 8) ∧ w18.get (R.CP_CFG_EN (↑(15 : Fin 16) : Nat)) = 0) ∧
    /- 3 -/ (s65 = 65 ∧ bits (BitVec.toNat w19) 12 10 < 16) ∧
    /- 3 -/ ((↑(13 : Fin 16) : Nat) < 14 ∧ 640 < bits (BitVec.toNat (wd64 [(R.CP_CFG_N 15, 641)] : Word64)) 12 10) ∧
    /- 4 -/ (14 ≤ (↑(14 : Fin 16) : Nat) ∧ s33 ≠ 65) ∧
    /- 5 -/ (plS.get (R.CP_CFG_EN (↑(15 : Fin 16) : Nat)) ≠ 0 ∧ plS.get (R.CP_MUX_ACT (↑(15 : Fin 16) : Nat)) ≠ 3 ∧ plS.pllCanLock (↑(15 : Fin 16) : Nat) 100000 = true) ∧
    /- 6 -/ (plS.get (R.CP_CFG_EN (↑(15 : Fin 16) : Nat)) ≠ 0 ∧ bit (plS.get R.CK_STATUS_CP_LOCK) (↑(15 : Fin 16) : Nat) = 0) ∧
    /- 7 -/ (bit (plS.get R.CK_STATUS_CP_LOCK) (↑(0 : Fin 16) : Nat) = 1) ∧
    /- 8 -/ (bits w20.toNat 0 21 ≤ 1600000) ∧
    /- 9 -/ (1600000 < bits (wd32 [(R.GCL_CFG_FNOM 31, 1600001)] : BitVec 32).toNat 0 21) ∧
    /- 10 -/ (w21.get R.CK_STATUS_TPLL_LOCK ≠ 0 ∧ w21.get (R.GCL_CFG_FNOM (↑(31 : Fin 32) : Nat)) * 101 < 101001 * 100) ∧
    /- 12 -/ (1 ≤ bits (BitVec.toNat w22) 32 17 ∧ bits (BitVec.toNat w22) 32 17 ≤ 65536 ∧ ckidOk (bits (BitVec.toNat w22) 0 7) = true) ∧
    /- 13 -/ (65536 < bits (BitVec.toNat (wd64 [(R.CLKOUT_DIV 1, 65537)] : Word64)) 32 17) ∧
    /- 13 -/ (bits (BitVec.toNat (0 : Word64)) 32 17 = 0) := by
  and_intros <;> decide +kernel

end Sys2Proof.Tests.PartE
namespace Sys2Proof.Tests.PartF
open Sys2Proof Sys2Proof.Machine
set_option Elab.async false

def tp0 : State := stw 4 [(R.TP_INC_BASE_BASE, 0x140000000)]
def tpW (p : TimePlane) : State := { tp0 with tp := p }
def pr : TimePlane := State.reset.tp
def tfA : State := tpW { pr with acc := 2^64 - 1, da := 65535, dincSrv := 2^40 - 1, wraps := 65535, tick := 5, adj := [(7, .base 5)] }
def tfB : State := tpW { pr with acc := 0, da := 0, dincSrv := -2^47 }
def tkA : State := tpW { pr with tick := 63, adj := [(64, .step (-5) false)] }
def tkS : State := ((tp0.setArmed 255 true).setT 255 65536)
def taD : State := tpW { pr with slew := some ⟨5, 10⟩ }
def tqF : State := tpW { pr with failed := [0, 1] }
def tqS : State := stw 4 [(R.TP_STATUS_TPLL_LOCK, 1), (R.CK_STATUS_TPLL_LOCK, 1)]
def svL (l : List (Fld × Nat)) : State := stw 4 ([(R.SRV_CTRL_EN, 1), (R.SRV_STAT_STATE, 2), (R.SRV_CTRL_PSRC, 1), (R.SRV_CTRL_FSRC, 1), (R.SRV_LIM_FREQ_LIM, 200000), (R.SRV_GAIN_KP_M, 65535), (R.SRV_GAIN_KI_M, 7)] ++ l)
def so1S : State := svL []
def so2S : State := svL [(R.SRV_CTRL_PSRC, 2)]
def so3S : State := svL []
def so4S : State := svL []
def so5S : State := svL [(R.SRV_STAT_STATE, 1)]
def so6S : State := svL []
def so7S : State := svL []
def so8S : State := svL []
def so9S : State := svL []
def ppS : State := stw 4 [(R.PPS_CFG_EN 1, 1), (R.PPS_EXP_EXPECT 1, 2^48 - 1), (R.PPS_CFG_WIN 1, 10), (R.PPS_CFG_PERIOD 1, 1000000), (R.PPS_DLY_DLY 1, 0)]
def hoC : HoInterval := ⟨5000, 25 * 256, 100, true⟩
def hoS : State := { stw 4 [(R.HO_CTRL_LEARN_EN, 1), (R.HO_STAT_TEMP_OK, 1)] with tp := { pr with cur := hoC, ho := { pr.ho with nsamp := 63 } } }
def hoH : State := { stw 4 [(R.SRV_STAT_STATE, 3)] with tp := { pr with cur := hoC } }

/-- The hypotheses of TickLosesNoFraction are met: a witness for each clause, by its place in the statement. -/
theorem test_meets_TickLosesNoFraction :
    /-  -/ (tfA.tp.slew = none ∧ (∀ (e : Nat × Adj), e ∈ tfA.tp.adj → tfA.tp.tick + 1 < e.fst) ∧ tfA.tp.acc < 2 ^ 64 ∧ tfA.tp.da < 2 ^ 16) ∧
    /-  -/ (tfB.tp.slew = none ∧ (∀ (e : Nat × Adj), e ∈ tfB.tp.adj → tfB.tp.tick + 1 < e.fst) ∧ tfB.tp.acc < 2 ^ 64 ∧ tfB.tp.da < 2 ^ 16) := by
  and_intros <;> decide +kernel

def w1 : State := st 1
def w2 : State := tpW { pr with acc := 2^64 - 1 }
def w3 : State := tpW { pr with acc := 2^63 - 1 }
def w4 : State := tpW { pr with slew := some ⟨5, 10⟩ }
def w5 : State := stw 4 [(R.TP_INC_BASE_BASE, 0x140000000), (R.TM_CTRL_ARM 3, 1)]
def w6 : State := { stw 4 [(R.TP_INC_BASE_BASE, 0x140000000), (R.WDG_CTRL_EN, 1), (R.WDG_STAT_COUNT, 1), (R.SC_STATUS_STATE, 2)] with tp := { pr with acc := 999 * 2^32 } }
def w7 : State := st 0
def w8 : State := tpW { pr with tick := 63, adj := [(64, .base 0x180000000)] }
def w9 : State := tpW { pr with tick := 63, adj := [(64, .step (-5) false)] }
def w10 : State := tp0.commit R.TP_INC_BASE_BASE.addr
def w11 : State := tp0.commit R.TP_STEP_DELTA.addr
def w12 : State := tp0.commit R.TP_SLEW_DELTA.addr
def w13 : State := taD.commit R.TP_SLEW_DELTA.addr
/-- The hypotheses of TicksAndTimeAdjustments are met: a witness for each clause, by its place in the statement. -/
theorem test_meets_TicksAndTimeAdjustments :
    /- 1.1 -/ (w1.mode0 ≠ 0) ∧
    /- 1.1 -/ (w2.mode0 ≠ 0 ∧ ¬w2.timeTick.tp.wraps = w2.tp.wraps) ∧
    /- 1.1 -/ (w3.mode0 ≠ 0 ∧ (¬w3.timeTick.tp.acc / 2 ^ 63 = w3.tp.acc / 2 ^ 63 ∧ w3.timeTick.tp.wraps = w3.tp.wraps)) ∧
    /- 1.1 -/ (tkA.mode0 ≠ 0 ∧ (∃ e, e ∈ tkA.tp.adj ∧ e.fst ≤ tkA.tp.tick + 1)) ∧
    /- 1.1 -/ (tkA.mode0 ≠ 0 ∧ (∃ e, e ∈ tkA.tp.adj ∧ e.fst ≤ tkA.tp.tick + 1 ∧ e.snd.isStep = true)) ∧
    /- 1.1 -/ (w4.mode0 ≠ 0 ∧ (¬w4.tp.slew = none ∧ w4.timeTick.tp.slew = none)) ∧
    /- 1.1 -/ (tkS.mode0 ≠ 0 ∧ (∃ k, k ∈ tkS.armedSlots ∧ notEarlier (tkS.timeTick.time48 72) (tkS.pendingT k / 65536) = true)) ∧
    /- 1.1 -/ (w5.mode0 ≠ 0 ∧ w5.timeTick.tmDue (↑3 : Nat) = true) ∧
    /- 1.1 -/ (w6.mode0 ≠ 0 ∧ (¬w6.timeTick.tp.acc / 2 ^ 32 / 1000 = w6.tp.acc / 2 ^ 32 / 1000 ∧ w6.wdgCounts = true ∧ w6.get R.WDG_STAT_COUNT ≤ 1)) ∧
    /- 1.2 -/ (w7.mode0 = 0) ∧
    /- 1.3 -/ (w8.tp.adj = [(64, Adj.base 6442450944)] ∧ 64 ≤ w8.tp.tick + 1 ∧ w8.tp.slew = none ∧ 6442450944 < 2 ^ 64) ∧
    /- 1.4 -/ (w9.tp.adj = [(64, Adj.step (-5 : Int) false)] ∧ 64 ≤ w9.tp.tick + 1 ∧ w9.tp.slew = none ∧ w9.tp.dincSrv = 0 ∧ w9.tp.da = 0) ∧
    /- 2 -/ ((6442450944 = (0x180000000 : Word64) ∧ w10 = tp0.commit R.TP_INC_BASE_BASE.addr ∧ 4294967296 ≤ BitVec.toNat (0x180000000 : Word64) ∧ BitVec.toNat (0x180000000 : Word64) ≤ 6442450944 ∧ (.base 0x180000000 : Adj) = Adj.base (BitVec.toNat (0x180000000 : Word64)))) ∧
    /- 2 -/ ((158329674399743 = (0x8FFFFFFFFFFF : Word64) ∧ w11 = tp0.commit R.TP_STEP_DELTA.addr ∧ ¬BitVec.toNat (0x8FFFFFFFFFFF : Word64) % 2 ^ 48 = 2 ^ 47 ∧ tp0.stepWaits = false ∧ tp0.slewRuns = false ∧ (.step (-123145302310913) false : Adj) = Adj.step (signed 48 (BitVec.toNat (0x8FFFFFFFFFFF : Word64))) false)) ∧
    /- 2 -/ ((281474976710661 = (0x0001000000000005 : Word64) ∧ w12 = tp0.commit R.TP_SLEW_DELTA.addr ∧ ¬BitVec.toNat (0x0001000000000005 : Word64) % 2 ^ 48 = 2 ^ 47 ∧ ¬bits (BitVec.toNat (0x0001000000000005 : Word64)) 48 15 = 0 ∧ tp0.stepWaits = false ∧ tp0.slewRuns = false ∧ (.slew 5 1 : Adj) = Adj.slew (signed 48 (BitVec.toNat (0x0001000000000005 : Word64))) (bits (BitVec.toNat (0x0001000000000005 : Word64)) 48 15))) ∧
    /- 2 -/ ((9223372036854775808 = (0x8000000000000000 : Word64) ∧ w13 = taD.commit R.TP_SLEW_DELTA.addr ∧ BitVec.toNat (0x8000000000000000 : Word64) % 2 ^ 63 = 0 ∧ taD.slewRuns = true)) ∧
    /- 3 -/ ((4294967295 = (0xFFFFFFFF : Word64) ∧ BitVec.toNat (0xFFFFFFFF : Word64) < 4294967296)) ∧
    /- 3 -/ ((140737488355328 = (0x800000000000 : Word64) ∧ BitVec.toNat (0x800000000000 : Word64) % 2 ^ 48 = 2 ^ 47)) ∧
    /- 3 -/ ((5 = (5 : Word64) ∧ ¬BitVec.toNat (5 : Word64) % 2 ^ 48 = 2 ^ 47 ∧ tkA.stepWaits = true)) ∧
    /- 3 -/ ((140737488355328 = (0x800000000000 : Word64) ∧ BitVec.toNat (0x800000000000 : Word64) % 2 ^ 48 = 2 ^ 47)) ∧
    /- 3 -/ ((5 = (5 : Word64) ∧ ¬BitVec.toNat (5 : Word64) % 2 ^ 48 = 2 ^ 47 ∧ bits (BitVec.toNat (5 : Word64)) 48 15 = 0)) ∧
    /- 3 -/ ((9223090561878065157 = (0x7FFF000000000005 : Word64) ∧ ¬BitVec.toNat (0x7FFF000000000005 : Word64) % 2 ^ 48 = 2 ^ 47 ∧ ¬bits (BitVec.toNat (0x7FFF000000000005 : Word64)) 48 15 = 0 ∧ tkA.stepWaits = true)) ∧
    /- 3 -/ ((9223372036854775809 = (0x8000000000000001 : Word64) ∧ ¬BitVec.toNat (0x8000000000000001 : Word64) % 2 ^ 63 = 0)) ∧
    /- 3 -/ ((9223372036854775808 = (0x8000000000000000 : Word64) ∧ BitVec.toNat (0x8000000000000000 : Word64) % 2 ^ 63 = 0 ∧ tkA.slewRuns = false)) := by
  and_intros <;> decide +kernel

def w14 : State := stw 4 [(R.TPLL_MUX_ACT, 1), (R.TP_STATUS_TPLL_LOCK, 1), (R.TPLL_MUX_AUTO, 1)]
def w15 : State := stw 4 [(R.TPLL_MUX_ACT, 0), (R.TP_STATUS_HELD, 1), (R.TPLL_CFG_M, 1), (R.TPLL_CFG_N, 48), (R.TPLL_CFG_FRAC, 0)]
def w16 : State := tpW { pr with distRun := [(78, 15)] }
def w17 : State := tpW { pr with distRun := [(78, 14)] }
def w18 : State := tpW { pr with badConsumers := [78] }
/-- The hypotheses of TimePllAndDistribution are met: a witness for each clause, by its place in the statement. -/
theorem test_meets_TimePllAndDistribution :
    /- 1.1 -/ (tp0.srcTp (↑s65 : Nat) = true) ∧
    /- 1.2 -/ (402653184 = (0x18000000 : BitVec 32) ∧ tp0.srcTp (↑s33 : Nat) = false) ∧
    /- 1.2 -/ (402653184 = (0x18000000 : BitVec 32) ∧ tp0.srcTp (↑s33 : Nat) = false) ∧
    /- 2 -/ (w14.get R.TPLL_MUX_ACT < 3) ∧
    /- 3 -/ (((↑(1 : Fin 3) : Nat) = 0 → tqF.get R.TPLL_MUX_GPRI_EN = 0) ∧ ((↑(1 : Fin 3) : Nat) = 1 → tqF.get R.TPLL_MUX_GALT_EN = 0)) ∧
    /- 4 -/ (1 ≤ bits (BitVec.toNat (0xFFFFFFA03F : Word64)) 0 6 ∧ 16 ≤ bits (BitVec.toNat (0xFFFFFFA03F : Word64)) 6 10 ∧ bits (BitVec.toNat (0xFFFFFFA03F : Word64)) 6 10 ≤ 640 ∧ tqS.get R.TP_STATUS_HELD = 0) ∧
    /- 5 -/ (640 < bits (BitVec.toNat (0xA041 : Word64)) 6 10) ∧
    /- 5 -/ (bits (BitVec.toNat (0xA000 : Word64)) 0 6 = 0) ∧
    /- 6 -/ (w15.get R.TPLL_MUX_ACT ≠ 3 ∧ w15.get R.TP_STATUS_TPLL_LOCK = 0 ∧ w15.tpllFits 100000000 = true) ∧
    /- 7 -/ (tqS.get R.TP_STATUS_TPLL_LOCK ≠ 0 ∧ tqS.get R.TP_STATUS_HELD = 0) ∧
    /- 8 -/ (tqS.get R.TP_STATUS_TPLL_LOCK ≠ 0) ∧
    /- 9 -/ (w16.tp.distRun.get 0 (↑(78 : Fin 79) : Nat) = 15) ∧
    /- 10 -/ (w17.tp.distRun.get 0 (↑(78 : Fin 79) : Nat) < 15) ∧
    /- 11 -/ (w18.tp.badConsumers = [(↑(78 : Fin 79) : Nat)]) := by
  and_intros <;> decide +kernel

def w19 : State := svL []
def w20 : State := svL [(R.SRV_CTRL_PSRC, 3)]
def w21 : State := svL [(R.SRV_STAT_STATE, 1)]
def w22 : State := svL [(R.SRV_STAT_STATE, 3), (R.SRV_STAT_FORCED, 1)]
def w23 : State := so1S.commit R.SRV_OFFS_WR_THETA.addr
def w24 : State := so2S.commit R.SRV_OFFS_WR_THETA.addr
def w25 : State := so3S.commit R.SRV_OFFS_WR_THETA.addr
def w26 : State := so7S.commit R.SRV_INTEG_INTEG.addr
def w27 : State := so8S.commit R.SRV_LIM_FREQ_LIM.addr
def w28 : State := so9S.commit R.SRV_INTEG_INTEG.addr
/-- The hypotheses of ServoMeasurementsAndCommands are met: a witness for each clause, by its place in the statement. -/
theorem test_meets_ServoMeasurementsAndCommands :
    /- 1 -/ ((140737488355327 = (0x7FFFFFFFFFFF : Word64) ∧ w19.srcTp (↑s65 : Nat) = true ∧ w19.get R.SRV_CTRL_PSRC = 1 ∧ ¬BitVec.toNat (0x7FFFFFFFFFFF : Word64) % 2 ^ 48 = 2 ^ 47 ∧ (0x7FFFFFFFFFFF : Int) = signed 48 (BitVec.toNat (0x7FFFFFFFFFFF : Word64))) ∧ w19.get R.SRV_CTRL_EN ≠ 0 ∧ w19.srvState = 2 ∧ w19.tp.wasHoldover = false) ∧
    /- 1 -/ (((3 = (3 : Fin 4) ∧ 140737488355329 = (0x800000000001 : BitVec 48)) ∧ ¬(↑(3 : Fin 4) : Nat) = 0 ∧ w20.get R.SRV_CTRL_PSRC = (↑(3 : Fin 4) : Nat) ∧ ¬(0x800000000001 : BitVec 48).toNat = 2 ^ 47 ∧ (-0x7FFFFFFFFFFF : Int) = signed 48 (0x800000000001 : BitVec 48).toNat) ∧ w20.get R.SRV_CTRL_EN ≠ 0 ∧ w20.srvState = 2 ∧ w20.tp.wasHoldover = false) ∧
    /- 2 -/ (w19.get R.SRV_CTRL_EN ≠ 0 ∧ w19.get R.SRV_CTRL_FSRC ≠ 0 ∧ w19.srvState = 2 ∧ (∀ (p : PhaseNow), w19.tp.phaseNow = some p → p.held = false)) ∧
    /- 3.1 -/ (w21.srvState = 1) ∧
    /- 3.2 -/ (w19.srvState = 2) ∧
    /- 4.1 -/ ((↑(1 : Fin 4) : Nat) ≠ 0 ∧ w19.get R.SRV_CTRL_PSRC = (↑(1 : Fin 4) : Nat) ∧ (↑(1 : Fin 4) : Nat) = 1) ∧
    /- 4.2 -/ ((↑(3 : Fin 4) : Nat) ≠ 0 ∧ w20.get R.SRV_CTRL_PSRC = (↑(3 : Fin 4) : Nat) ∧ (↑(3 : Fin 4) : Nat) ≠ 1) ∧
    /- 5.1 -/ (w19.srcTp (↑s65 : Nat) = true ∧ w19.srvState = 2) ∧
    /- 5.2 -/ (w22.srcTp (↑s65 : Nat) = true ∧ w22.get R.SRV_STAT_FORCED ≠ 0) ∧
    /- 5.3 -/ (w19.srcTp (↑s97 : Nat) = true) ∧
    /- 5.4 -/ (w19.srcTp (↑s97 : Nat) = true ∧ bits (BitVec.toNat (0x00010006 : Word64)) 16 16 ≠ 0) ∧
    /- 5.5 -/ (w19.srcTp (↑s97 : Nat) = true) ∧
    /- 5.6 -/ (w19.srcTp (↑s97 : Nat) = true ∧ 1 ≤ bits (BitVec.toNat (0x1001000001030D40 : Word64)) 0 18 ∧ bits (BitVec.toNat (0x1001000001030D40 : Word64)) 0 18 ≤ 200000 ∧ bits (BitVec.toNat (0x1001000001030D40 : Word64)) 24 24 ≠ 0 ∧ bits (BitVec.toNat (0x1001000001030D40 : Word64)) 48 12 ≠ 0 ∧ bits (BitVec.toNat (0x1001000001030D40 : Word64)) 60 4 ≠ 0) ∧
    /- 6 -/ ((0 = (0 : Word64) ∧ w23 = so1S.commit R.SRV_OFFS_WR_THETA.addr ∧ so1S.srcTp (↑s33 : Nat) = false)) ∧
    /- 6 -/ ((0 = (0 : Word64) ∧ w24 = so2S.commit R.SRV_OFFS_WR_THETA.addr ∧ so2S.srcTp (↑s65 : Nat) = true ∧ ¬so2S.get R.SRV_CTRL_PSRC = 1)) ∧
    /- 6 -/ ((140737488355328 = (0x800000000000 : Word64) ∧ w25 = so3S.commit R.SRV_OFFS_WR_THETA.addr ∧ so3S.srcTp (↑s65 : Nat) = true ∧ so3S.get R.SRV_CTRL_PSRC = 1 ∧ BitVec.toNat (0x800000000000 : Word64) % 2 ^ 48 = 2 ^ 47)) ∧
    /- 6 -/ (so4S.srcTp (↑s33 : Nat) = false) ∧
    /- 6 -/ ((so5S.srcTp (↑s65 : Nat) = true ∧ ¬so5S.srvState = 2)) ∧
    /- 6 -/ ((so6S.srcTp (↑s65 : Nat) = true ∧ so6S.get R.SRV_STAT_FORCED = 0)) ∧
    /- 6 -/ (((3 = (3 : Fin 4) ∧ 0 = (0 : Word64)) ∧ w26 = so7S.commit ([R.SRV_CTRL_EN.addr, R.SRV_GAIN_KP_M.addr, R.SRV_LIM_FREQ_LIM.addr, R.SRV_INTEG_INTEG.addr].getD (↑(3 : Fin 4) : Nat) 0) ∧ so7S.srcTp (↑s33 : Nat) = false)) ∧
    /- 6 -/ ((200001 = (200001 : Word64) ∧ w27 = so8S.commit R.SRV_LIM_FREQ_LIM.addr ∧ so8S.srcTp (↑s65 : Nat) = true ∧ 200000 < bits (BitVec.toNat (200001 : Word64)) 0 18)) ∧
    /- 6 -/ ((0 = (0 : Word64) ∧ w28 = so9S.commit R.SRV_INTEG_INTEG.addr ∧ so9S.srcTp (↑s65 : Nat) = true ∧ ¬so9S.get R.SRV_CTRL_EN = 0)) := by
  and_intros <;> decide +kernel

def w29 : State := { ppS with tp := { pr with acc := 655360 * 65536 } }
def w30 : State := stw 4 [(R.FD_CFG_EN, 1), (R.FD_CFG_FREQ_HZ, 10000000)]
def w31 : State := { hoS with tp := { pr with cur := { hoC with kept := false } } }
def w32 : State := { hoH with tp := { pr with tau := 5 } }
def w33 : State := stw 4 [(R.HO_TEMP_SRC, 1), (R.HO_TEMP_SP, 3), (R.SP_CFG_MODE 3, 3)]
def w34 : State := { stw 4 [(R.HO_TEMP_SRC, 1)] with tp := { pr with pollFails := 2 } }
def w35 : State := { stw 4 [(R.HO_TEMP_SRC, 1)] with tp := { pr with pollFails := 1 } }
def w36 : State := stw 4 [(R.HO_TEMP_SRC, 2)]
def w37 : State := stw 4 [(R.HO_TEMP_SRC, 1)]
def w38 : State := stw 4 [(R.HO_TEMP_SRC, 2), (R.HO_STAT_TEMP_OK, 1)]
/-- The hypotheses of DetectorsAndHoldover are met: a witness for each clause, by its place in the statement. -/
theorem test_meets_DetectorsAndHoldover :
    /- 1.1.1 -/ (ppS.get (R.PPS_CFG_EN (↑(1 : Fin 2) : Nat)) ≠ 0 ∧ (false = true ↔ ppS.get (R.PPS_CFG_EDGE (↑(1 : Fin 2) : Nat)) ≠ 0) ∧ (-655360 : Int) = signed 48 (encode2 48 ((↑(ppS.get (R.PPS_EXP_EXPECT (↑(1 : Fin 2) : Nat))) : Int) - (↑(655359 : BitVec 48).toNat : Int) + signed 40 (ppS.get (R.PPS_DLY_DLY (↑(1 : Fin 2) : Nat))))) ∧ (-655360 : Int).natAbs ≤ ppS.get (R.PPS_CFG_WIN (↑(1 : Fin 2) : Nat)) * 65536) ∧
    /- 1.1.2 -/ (ppS.get (R.PPS_CFG_EN (↑(1 : Fin 2) : Nat)) ≠ 0 ∧ (false = true ↔ ppS.get (R.PPS_CFG_EDGE (↑(1 : Fin 2) : Nat)) ≠ 0) ∧ (-655361 : Int) = signed 48 (encode2 48 ((↑(ppS.get (R.PPS_EXP_EXPECT (↑(1 : Fin 2) : Nat))) : Int) - (↑(655360 : BitVec 48).toNat : Int) + signed 40 (ppS.get (R.PPS_DLY_DLY (↑(1 : Fin 2) : Nat))))) ∧ ppS.get (R.PPS_CFG_WIN (↑(1 : Fin 2) : Nat)) * 65536 < (-655361 : Int).natAbs) ∧
    /- 1.2 -/ (w29.get (R.PPS_CFG_EN (↑(1 : Fin 2) : Nat)) ≠ 0 ∧ 0 < signed 48 (encode2 48 ((↑w29.now48 : Int) - ((↑(w29.get (R.PPS_EXP_EXPECT (↑(1 : Fin 2) : Nat))) : Int) + signed 40 (w29.get (R.PPS_DLY_DLY (↑(1 : Fin 2) : Nat))) + (↑(w29.get (R.PPS_CFG_WIN (↑(1 : Fin 2) : Nat))) : Int) * 65536)))) ∧
    /- 1.3.1 -/ (bits (BitVec.toNat (0x7735940000000101 : Word64)) 8 24 ≠ 0 ∧ 1000000 ≤ bits (BitVec.toNat (0x7735940000000101 : Word64)) 32 31 ∧ bits (BitVec.toNat (0x7735940000000101 : Word64)) 32 31 ≤ 2000000000) ∧
    /- 1.3.1 -/ (bits (BitVec.toNat (0x000F4240FFFFFF01 : Word64)) 8 24 ≠ 0 ∧ 1000000 ≤ bits (BitVec.toNat (0x000F4240FFFFFF01 : Word64)) 32 31 ∧ bits (BitVec.toNat (0x000F4240FFFFFF01 : Word64)) 32 31 ≤ 2000000000) ∧
    /- 1.3.2 -/ (bits (BitVec.toNat (0x000F423F00000101 : Word64)) 32 31 < 1000000) ∧
    /- 1.4 -/ (w30.tp.fdDrop = false ∧ w30.get R.FD_CFG_EN ≠ 0 ∧ w30.get R.FD_CFG_SRC < 2 ∧ 2 ≤ 10000000) ∧
    /- 1.4 -/ (w30.tp.fdDrop = false ∧ w30.get R.FD_CFG_EN ≠ 0 ∧ w30.get R.FD_CFG_SRC < 2 ∧ 2 ≤ 2) ∧
    /- 2 -/ (hoS.get R.HO_CTRL_LEARN_EN ≠ 0 ∧ hoS.tp.cur.kept = true ∧ hoS.tp.cur.ticks ≠ 0) ∧
    /- 3 -/ (w31.get R.HO_CTRL_LEARN_EN ≠ 0 ∧ w31.tp.cur.kept = false) ∧
    /- 4.1 -/ (hoH.inHoldover = true ∧ hoH.get R.HO_STAT_MODEL_VALID = 0) ∧
    /- 4.2 -/ (w32.inHoldover = true) ∧
    /- 7 -/ (w33.get R.HO_TEMP_SRC = 1 ∧ w33.mode0 = 4 ∧ w33.get (R.SP_CFG_MODE (w33.get R.HO_TEMP_SP)) = 3) ∧
    /- 8 -/ (w34.get R.HO_TEMP_SRC = 1) ∧
    /- 8 -/ (w35.get R.HO_TEMP_SRC = 1) ∧
    /- 9.1 -/ (w36.get R.HO_TEMP_SRC = 2) ∧
    /- 9.2 -/ (w37.get R.HO_TEMP_SRC ≠ 2) ∧
    /- 10 -/ (w38.get R.HO_TEMP_SRC = 2) := by
  and_intros <;> decide +kernel

end Sys2Proof.Tests.PartF
namespace Sys2Proof.Tests.PartG
open Sys2Proof Sys2Proof.Machine
set_option Elab.async false

def tlS : State := stw 4 [(R.TL_SLOT_DEST_KIND 255, 0), (R.TL_SLOT_TARGET_TARGET 255, 200 * 65536)]
def tl2S : State := stw 4 [(R.TL_SLOT_TARGET_TARGET 255, 200 * 65536 - 1)]
def tl2bS : State := st 3
def tgS : State := rb { runB with trigPend := [⟨15, 3, false⟩] } [(R.BCK_RUN 0 0, 1), (R.BCK_SRC 0 0, 0), (R.GCL_CFG_ON 0, 1), (R.GCL_MUX_ACT 0, 0), (R.GCL_MUX_PRI 0, 0x18)]
def cuS : State := stw 4 [(R.CU_CFG_EN 31, 1), (R.CU_CFG_SRC 31, 5), (R.CU_CFG_EDGE 31, 2), (R.CU_CFG_DLY 31, 2^40 - 5)]
def cuT : State := { cuS with tp := { cuS.tp with badConsumers := [73] } }
def cuU : State := { cuS with tl := { cuS.tl with inLevel := [(5, 1)] } }
def tl1bS : State := stw 4 [(R.TL_SLOT_TARGET_TARGET 255, 2^31*65536 - 1), (R.TL_SLOT_CTRL_PERIODIC 255, 1), (R.TL_SLOT_CTRL_COUNT 255, 1), (R.TL_SLOT_PERIOD_PERIOD 255, 10 * 2^32)]

def w1 : State := tlS.commit R.TL_CMD_SLOT.addr
def w2 : State := tl2S.commit R.TL_CMD_SLOT.addr
def w3 : State := tl2bS.commit R.TL_CMD_SLOT.addr
def w4 : State := st 3
def w5 : State := (st 4).setArmed 255 true
def w6 : State := st 4
def w7 : State := { cuU with tp := { cuS.tp with badConsumers := [73] }, tl := { cuS.tl with unitLevel := [(31, 1)] } }
def w8 : State := { cuS with tl := { cuS.tl with lastEdge := [(31, some (10, 0))] } }
def w9 : State := tl1bS.commit R.TL_CMD_SLOT.addr
/-- The hypotheses of TimelineTriggersAndPops are met: a witness for each clause, by its place in the statement. -/
theorem test_meets_TimelineTriggersAndPops :
    /- 1.1 -/ (w1 = tlS.commit R.TL_CMD_SLOT.addr ∧ (w1.armCheck (↑s33 : Nat) (↑(255 : Fin 256) : Nat) true).fst = 0 ∧ tlS.get (R.TL_SLOT_CTRL_PERIODIC (↑(255 : Fin 256) : Nat)) = 0) ∧
    /- 1.2 -/ (w2 = tl2S.commit R.TL_CMD_SLOT.addr ∧ (w2.armCheck (↑s33 : Nat) (↑(255 : Fin 256) : Nat) true).fst = 898 ∧ 898 ≠ 0) ∧
    /- 1.2 -/ (w3 = tl2bS.commit R.TL_CMD_SLOT.addr ∧ (w3.armCheck (↑s33 : Nat) (↑(255 : Fin 256) : Nat) true).fst = 903 ∧ 903 ≠ 0) ∧
    /- 1.3.1 -/ (w4.mode0 ≠ 4) ∧
    /- 1.3.2 -/ (w5.mode0 = 4 ∧ w5.armed 255 = true) ∧
    /- 1.4 -/ (w5.armed (↑(255 : Fin 256) : Nat) = true ∧ w5.tl.cut.get 0 (↑(255 : Fin 256) : Nat) = 0) ∧
    /- 1.6 -/ (255 < 256 ∧ 65535 < 2 ^ 16) ∧
    /- 2.1.1 -/ (tgS.trgRuns (↑b0 : Nat) = true) ∧
    /- 2.1.2 -/ (w6.trgRuns (↑b63 : Nat) = false) ∧
    /- 2.2 -/ (bits (BitVec.toNat (0x00FFFFFFFFFF1521 : Word64)) 0 10 < 290 ∧ bits (BitVec.toNat (0x00FFFFFFFFFF1521 : Word64)) 11 2 ≠ 3 ∧ w6.mode0 = 4) ∧
    /- 2.2 -/ ((512 ≤ bits (BitVec.toNat (0x2FF : Word64)) 0 10 ∧ bits (BitVec.toNat (0x2FF : Word64)) 0 10 < 768) ∧ bits (BitVec.toNat (0x2FF : Word64)) 11 2 ≠ 3 ∧ w6.mode0 = 4) ∧
    /- 2.3 -/ ((290 ≤ bits (BitVec.toNat (0x122 : Word64)) 0 10 ∧ bits (BitVec.toNat (0x122 : Word64)) 0 10 < 512)) ∧
    /- 2.3 -/ (768 ≤ bits (BitVec.toNat (0x300 : Word64)) 0 10) ∧
    /- 2.3 -/ (bits (BitVec.toNat (0x1821 : Word64)) 11 2 = 3) ∧
    /- 2.3 -/ ((bits (BitVec.toNat (0x1121 : Word64)) 0 10 < 290 ∧ bits (BitVec.toNat (0x1121 : Word64)) 11 2 ≠ 3 ∧ w4.mode0 ≠ 4)) ∧
    /- 2.4.1 -/ (cuS.get (R.CU_CFG_EN (↑(31 : Fin 32) : Nat)) ≠ 0 ∧ cuS.get (R.CU_CFG_SRC (↑(31 : Fin 32) : Nat)) < 512 ∧ cuS.tl.unitLevel.get 0 (↑(31 : Fin 32) : Nat) ≠ ofFlag true ∧ 2 ≤ cuS.get (R.CU_CFG_EDGE (↑(31 : Fin 32) : Nat)) ∧ cuS.cuNear (↑(31 : Fin 32) : Nat) ((0xFF : BitVec 8).toNat * 2 ^ 48 + (0xFFFFFFFFFFFE : BitVec 48).toNat) = false ∧ (cuS.queue (cuPopAddr (↑(31 : Fin 32) : Nat))).length < 16 ∧ cuS.popOvf.get 0 (cuPopAddr (↑(31 : Fin 32) : Nat)) = 0) ∧
    /- 2.4.1 -/ (w7.get (R.CU_CFG_EN (↑(31 : Fin 32) : Nat)) ≠ 0 ∧ w7.get (R.CU_CFG_SRC (↑(31 : Fin 32) : Nat)) < 512 ∧ w7.tl.unitLevel.get 0 (↑(31 : Fin 32) : Nat) ≠ ofFlag false ∧ 2 ≤ w7.get (R.CU_CFG_EDGE (↑(31 : Fin 32) : Nat)) ∧ w7.cuNear (↑(31 : Fin 32) : Nat) ((0 : BitVec 8).toNat * 2 ^ 48 + (0x5 : BitVec 48).toNat) = false ∧ (w7.queue (cuPopAddr (↑(31 : Fin 32) : Nat))).length < 16 ∧ w7.popOvf.get 0 (cuPopAddr (↑(31 : Fin 32) : Nat)) = 0) ∧
    /- 2.4.2 -/ (w8.get (R.CU_CFG_EN (↑(31 : Fin 32) : Nat)) ≠ 0 ∧ w8.get (R.CU_CFG_SRC (↑(31 : Fin 32) : Nat)) < 512 ∧ w8.tl.unitLevel.get 0 (↑(31 : Fin 32) : Nat) ≠ ofFlag true ∧ 2 ≤ w8.get (R.CU_CFG_EDGE (↑(31 : Fin 32) : Nat)) ∧ w8.tl.lastEdge.get none (↑(31 : Fin 32) : Nat) = some (10, 0) ∧ ((0 : BitVec 8).toNat * 2 ^ 48 + (163849 : BitVec 48).toNat + 2 ^ 56 - 10) % 2 ^ 56 < 163840 ∧ w8.tp.tick < 0 + 2 ^ 32) ∧
    /- 3 -/ (cuPopAddr 31 = cuPopAddr (↑31 : Nat)) ∧
    /- 3 -/ (nocErrAddr 63 = nocErrAddr (↑b63 : Nat)) ∧
    /- 1.1 -/ (w9 = tl1bS.commit R.TL_CMD_SLOT.addr ∧ (w9.armCheck (↑s33 : Nat) (↑(255 : Fin 256) : Nat) false).fst = 0 ∧ tl1bS.get (R.TL_SLOT_CTRL_COUNT (↑(255 : Fin 256) : Nat)) ≠ 0) := by
  and_intros <;> decide +kernel

end Sys2Proof.Tests.PartG
namespace Sys2Proof.Tests.PartH
open Sys2Proof Sys2Proof.Machine
set_option Elab.async false

def qA : NocReq := rq 1 65 63 (9 * 2^36 + 2^34 + 5) 4 false []
def s37 : SrcId := 37
def s1s : SrcId := 1
def rr : NocRsp := ⟨9, 65, 67, 0, 5, false, 0, 0, [7, 8]⟩
def nrS : State := { st 4 with noc := { State.reset.noc with rsps := [rr], outst := [rq 9 65 5 0 1 false []] } }
def nrF : State := { stw 4 [(R.NOC_STATUS_P0 63, 2)] with noc := { State.reset.noc with outst := [rq 9 252 5 0 1 false []] } }
def pkR : NocPkt := ⟨.rsp { rr with dest := 4 * 7 + 1 }, 0, false, none⟩
def pkQ : NocPkt := ⟨.req (rq 9 65 5 (7 * 2^36 + 2^34) 0 false []), 0, false, none⟩
/-- A response and a request wait at router 7 for its local port 1. -/
def rdS : State := { st 4 with noc := { State.reset.noc with bufs := [(4 * (8 * 6 + 4) + 0, [pkQ]), (4 * (8 * 6 + 4) + 2, [pkR])] } }
def mQ : NocMove := ⟨4 * (8 * 6 + 4) + 0, pkQ, 8 * 7 + 1, 0⟩
def mR : NocMove := ⟨4 * (8 * 6 + 4) + 2, pkR, 8 * 7 + 1, 0⟩
def bq : NocReq := rq 9 65 5 0 1 false []
def bqL : NocReq := rq 9 65 5 0 31 false []
def brB : State := (brS []).setBuf 0 [bq]
def bqW : NocReq := rq 9 65 5 0 31 true (List.replicate 32 7)
def brBW : State := (brS [(R.NOC_STATUS_P0 0, 1)]).setBuf 0 [bqW, bq]
def brR : NocRsp := ⟨9, 0, 3, 0, 5, false, 0, 0, [7, 8]⟩
def brT : State := (brS []).setTable 0 [bq]
def bo : NocReq := rq 1 0 63 0 0 true [5]
def boL : NocReq := rq 1 0 63 0 31 true (rangeOf 0 31 (payloadWords 5))
def brU : State := { brS [] with noc := { State.reset.noc with outst := [rq 9 0 63 0 1 false []] } }
def brQ : State := (brS []).setBuf 0 (List.replicate 8 bq)
def neB : State := stw 4 [(R.NOC_TBL_ENT 63 1 3, 0)]
def gqw : NocReq := ⟨9, 65, 5, 0x38400000000 / 4 * 0 + (56 * 2^36 + 2^34 + 0x3FFFF0 / 4), (0x3FFFF0 / 4) % 64 + 3, true, 0, [1, 2, 3, 0xFFFFFFFF]⟩
def gqr : NocReq := { gqw with wr := false, data := [] }
def gOn : State := stw 4 [(R.GB_STATUS_PWR 7 7, 2)]
def gGo : State := { gOn with gr := { State.reset.gr with pwr := [(63, 1)], rows := [(63 * 33280 + 5, 1)] } }
def gFull : State := gOn.sets ((List.range 8).map (fun i => (R.GB_SPARE_USED 7 7 i, 1)))
def gRep : State := gOn.setRepair 7 (some ⟨63, 511, 7, true⟩)
def gBt : State := { gOn with gr := { gOn.gr with btAsked := [7] } }
def gBt2 : State := { gOn.set (R.GR_CTRL_BT_EN 7) 1 with gr := { gOn.gr with btNext := [(7, 16639)] } }

def w1 : State := st 4
def w2 : State := brS []
def w3 : State := { st 4 with noc := { State.reset.noc with rsps := [rr] } }
def w4 : NocPkt := { pkQ with body := .req (rq 9 65 5 0 0 false []) }
def w5 : NocPkt := { pkQ with body := .req (rq 9 65 5 (63 * 2^36) 0 false []) }
def w6 : State := { rdS with noc := { rdS.noc with inRow := [(57, 8)] } }
def w21 : State := (stw 4 [(R.GB_STATUS_PWR 0 7, 2)]).setGrQueue 7 [(gqw, false)]
def w22 : State := (stw 4 [(R.GB_STATUS_PWR 0 7, 2)]).setGrQueue 7 [(gqr, false)]
def w23 : State := { st 4 with pops := [(grErrAddr 7, [5, 6])], popOvf := [(grErrAddr 7, 1)] }
/-- The hypotheses of NocAndGranaryAccesses are met: a witness for each clause, by its place in the statement. -/
theorem test_meets_NocAndGranaryAccesses :
    /- 1.1.1 -/ (w1.nocUp = true ∧ (↑s65 : Nat) % 4 ≠ 0 ∧ w1.outstanding (↑s65 : Nat) (↑(63 : Fin 64) : Nat) = none ∧ (qA = { id := w1.noc.next, src := (↑s65 : Nat), tag := (↑(63 : Fin 64) : Nat), waddr := ((9 * 2^36 + 2^34 + 5) : BitVec 42).toNat, last := (4 : BitVec 6).toNat, wr := false, epoch := 0, data := List.map (fun d => d.toNat) ([] : List (BitVec 32)) })) ∧
    /- 1.1.2.1 -/ (w1.nocUp = true ∧ (↑s65 : Nat) % 4 ≠ 0 ∧ w1.outstanding (↑s65 : Nat) (↑(63 : Fin 64) : Nat) = none ∧ (qA = { id := w1.noc.next, src := (↑s65 : Nat), tag := (↑(63 : Fin 64) : Nat), waddr := ((9 * 2^36 + 2^34 + 5) : BitVec 42).toNat, last := (4 : BitVec 6).toNat, wr := false, epoch := 0, data := List.map (fun d => d.toNat) ([] : List (BitVec 32)) }) ∧ w1.nocQuiet ∧ (none : Option NocUpset) = none ∧ (4 : BitVec 6).toNat < ((9 * 2^36 + 2^34 + 5) : BitVec 42).toNat % 64) ∧
    /- 1.1.2.2.1 -/ (w1.nocUp = true ∧ (↑s37 : Nat) % 4 ≠ 0 ∧ w1.outstanding (↑s37 : Nat) (↑(63 : Fin 64) : Nat) = none ∧ ((rq 1 37 63 (9 * 2^36 + 2^34) 63 false [] : NocReq) = { id := w1.noc.next, src := (↑s37 : Nat), tag := (↑(63 : Fin 64) : Nat), waddr := ((9 * 2^36 + 2^34) : BitVec 42).toNat, last := (63 : BitVec 6).toNat, wr := false, epoch := 0, data := List.map (fun d => d.toNat) ([] : List (BitVec 32)) }) ∧ w1.nocQuiet ∧ (none : Option NocUpset) = none ∧ ((9 * 2^36 + 2^34) : BitVec 42).toNat % 64 ≤ (63 : BitVec 6).toNat ∧ (rq 1 37 63 (9 * 2^36 + 2^34) 63 false [] : NocReq).node = (↑s37 : Nat) / 4 ∧ w1.nocEnt (rq 1 37 63 (9 * 2^36 + 2^34) 63 false [] : NocReq).node (w1.get (R.NOC_STATUS_EPOCH (rq 1 37 63 (9 * 2^36 + 2^34) 63 false [] : NocReq).node)) (rq 1 37 63 (9 * 2^36 + 2^34) 63 false [] : NocReq).node = 0 ∧ (rq 1 37 63 (9 * 2^36 + 2^34) 63 false [] : NocReq).port ≠ 0 ∧ blockAt (rq 1 37 63 (9 * 2^36 + 2^34) 63 false [] : NocReq).node (rq 1 37 63 (9 * 2^36 + 2^34) 63 false [] : NocReq).port = false) ∧
    /- 1.1.2.2.2 -/ (w2.nocUp = true ∧ (↑s1s : Nat) % 4 ≠ 0 ∧ w2.outstanding (↑s1s : Nat) (↑(0 : Fin 64) : Nat) = none ∧ ((rq 1 1 0 0 0 true [5] : NocReq) = { id := w2.noc.next, src := (↑s1s : Nat), tag := (↑(0 : Fin 64) : Nat), waddr := (0 : BitVec 42).toNat, last := (0 : BitVec 6).toNat, wr := true, epoch := 0, data := List.map (fun d => d.toNat) ([5] : List (BitVec 32)) }) ∧ w2.nocQuiet ∧ (none : Option NocUpset) = none ∧ (0 : BitVec 42).toNat % 64 ≤ (0 : BitVec 6).toNat ∧ (rq 1 1 0 0 0 true [5] : NocReq).node = (↑s1s : Nat) / 4 ∧ w2.nocEnt (rq 1 1 0 0 0 true [5] : NocReq).node (w2.get (R.NOC_STATUS_EPOCH (rq 1 1 0 0 0 true [5] : NocReq).node)) (rq 1 1 0 0 0 true [5] : NocReq).node = 0 ∧ (rq 1 1 0 0 0 true [5] : NocReq).port = 0 ∧ w2.p0 (rq 1 1 0 0 0 true [5] : NocReq).node = p0OPEN ∧ w2.nocOn (rq 1 1 0 0 0 true [5] : NocReq).node = true ∧ w2.reqInFlits (rq 1 1 0 0 0 true [5] : NocReq).node + (rq 1 1 0 0 0 true [5] : NocReq).flits ≤ 8) ∧
    /- 1.2.1 -/ (nrS.nocUp = true ∧ (List.find? (fun r => decide (r.dest = (↑s65 : Nat)) && decide (r.tag = (↑(5 : Fin 64) : Nat))) nrS.noc.rsps = some rr)) ∧
    /- 1.2.2.1 -/ (nrS.nocUp = true ∧ (List.find? (fun r => decide (r.dest = (↑s65 : Nat)) && decide (r.tag = (↑(5 : Fin 64) : Nat))) nrS.noc.rsps = some rr) ∧ nrS.nocQuiet ∧ (none : Option NocUpset) = none ∧ rr.resp / 4 = (↑s65 : Nat) / 4 ∧ rr.flits ≤ 4 ∧ (↑s65 : Nat) % 4 ≠ 0 ∧ nrS.nocEnt ((↑s65 : Nat) / 4) (nrS.get (R.NOC_STATUS_EPOCH ((↑s65 : Nat) / 4))) ((↑s65 : Nat) / 4) = 0 ∧ ((nrS.noc.outst.any fun q => decide (q.id = rr.id)) = true) ∧ nrS.noc.catching = [] ∧ ¬(↑s65 : Nat) ∈ [33, 61, 93, 97, 161]) ∧
    /- 1.2.2.2 -/ (w3.nocUp = true ∧ (List.find? (fun r => decide (r.dest = (↑s65 : Nat)) && decide (r.tag = (↑(5 : Fin 64) : Nat))) w3.noc.rsps = some rr) ∧ w3.nocQuiet ∧ (none : Option NocUpset) = none ∧ rr.resp / 4 = (↑s65 : Nat) / 4 ∧ rr.flits ≤ 4 ∧ (↑s65 : Nat) % 4 ≠ 0 ∧ w3.nocEnt ((↑s65 : Nat) / 4) (w3.get (R.NOC_STATUS_EPOCH ((↑s65 : Nat) / 4))) ((↑s65 : Nat) / 4) = 0 ∧ ((w3.noc.outst.any fun q => decide (q.id = rr.id)) = false)) ∧
    /- 1.3.1 -/ (nrS.outstanding (↑s65 : Nat) (↑(5 : Fin 64) : Nat) = some (rq 9 65 5 0 1 false [] : NocReq) ∧ nrS.rspArrived (rq 9 65 5 0 1 false [] : NocReq) = false ∧ (↑s65 : Nat) = 65 ∧ nrS.nocQuiet) ∧
    /- 1.3.2 -/ (nrF.outstanding (↑(252 : SrcId) : Nat) (↑(5 : Fin 64) : Nat) = some (rq 9 252 5 0 1 false [] : NocReq) ∧ nrF.rspArrived (rq 9 252 5 0 1 false [] : NocReq) = false ∧ (↑(252 : SrcId) : Nat) % 4 = 0 ∧ nrF.p0 ((↑(252 : SrcId) : Nat) / 4) ≤ p0DRAINING ∧ nrF.noc.dropping.contains ((↑(252 : SrcId) : Nat) / 4) = false ∧ nrF.rspInFlits ((↑(252 : SrcId) : Nat) / 4) + ((rq 9 252 5 0 1 false [] : NocReq).answer 3 519 []).flits ≤ 8) ∧
    /- 1.4 -/ (mR ∈ rdS.nocReady) ∧
    /- 1.5 -/ (bufRouter (512 + 4 * 7) = some 7 ∧ w1.nocEnt 7 w4.epoch w4.node = 1 ∧ 1 ≤ 1 ∧ 1 ≤ 4) ∧
    /- 1.5 -/ (bufRouter (8 * 6 + 4) = some 7 ∧ w1.nocEnt 7 w5.epoch w5.node = 4 ∧ 1 ≤ 4 ∧ 4 ≤ 4) ∧
    /- 1.6.1 -/ (rdS.nocPick 57 ([mQ, mR] : List NocMove) = some mR ∧ (∃ x, x ∈ ([mQ, mR] : List NocMove) ∧ x.pkt.kind = 1) ∧ rdS.noc.inRow.get 0 57 < 8) ∧
    /- 1.6.2 -/ (w6.nocPick 57 ([mQ, mR] : List NocMove) = some mQ ∧ (∃ x, x ∈ ([mQ, mR] : List NocMove) ∧ x.pkt.kind = 1) ∧ 8 ≤ w6.noc.inRow.get 0 57 ∧ (∃ x, x ∈ ([mQ, mR] : List NocMove) ∧ x.pkt.kind = 0)) ∧
    /- 2.1 -/ (w21.nocQuiet ∧ w21.grQueue (↑(7 : Fin 64) : Nat) = (gqw, false) :: ([] : List (NocReq × Bool)) ∧ 524272 = (w21.grBank ((↑(7 : Fin 64) : Nat) / 8) (gqw.addr % 2 ^ 36)).snd ∧ 524272 % 16 = 0 ∧ gqw.words = 4 ∧ gqw.src < 256 ∧ gqw.wr = true ∧ gqw.data = [1, 2, 3, 4294967295] ∧ w21.get (R.GR_INJECT_ARM ((↑(7 : Fin 64) : Nat) / 8)) = 0) ∧
    /- 2.2 -/ (w22.nocQuiet ∧ w22.grQueue (↑(7 : Fin 64) : Nat) = (gqr, false) :: ([] : List (NocReq × Bool)) ∧ 524272 = (w22.grBank ((↑(7 : Fin 64) : Nat) / 8) (gqr.addr % 2 ^ 36)).snd ∧ 524272 % 16 = 0 ∧ gqr.words = 4 ∧ gqr.src < 256 ∧ gqr.wr = false ∧ 0 = w22.grRow (↑(7 : Fin 64) : Nat) (w22.grIx (↑(7 : Fin 64) : Nat) (524272 / 16)) ∧ (symDecode 0).kind = 0) ∧
    /- 3.1 -/ (w1.queue (grErrAddr (↑(7 : Fin 8) : Nat)) = []) ∧
    /- 3.2 -/ (w23.queue (grErrAddr (↑(7 : Fin 8) : Nat)) = 5 :: ([6] : List Nat)) := by
  and_intros <;> decide +kernel

def w7 : State := { brBW with noc := { brBW.noc with reqTaken := [(0, 1)] } }
def w8 : State := (brS []).setRspIn 0 [brR]
def w9 : State := (brS []).setRspIn 0 [{ brR with data := List.replicate 20 3 }]
def w10 : NocRsp := { brR with data := List.replicate 20 3 }
def w11 : State := (brS []).setTable 0 [bqL]
def w12 : State := { brQ with noc := { brQ.noc with bufs := [(0, [⟨.req bq, 0, false, none⟩])] } }
def w13 : State := brS [(R.NOC_STATUS_P0 0, 1)]
def w14 : State := (brS [(R.NOC_STATUS_P0 0, 2)]).setTable 0 [bq]
def w15 : State := brS [(R.NOC_STATUS_P0 0, 2)]
def w16 : State := (brS [(R.NOC_STATUS_P0 0, 2), (R.OP_STATUS_STATE 0, 2), (R.OP_STATUS_BUSY 0, 1)]).setOpChange 0 (some ⟨2, 4, false, false, false, false⟩)
def w17 : OpChange := ⟨2, 4, false, false, false, false⟩
/-- The hypotheses of BoughBridge are met: a witness for each clause, by its place in the statement. -/
theorem test_meets_BoughBridge :
    /- 1 -/ (brB.nocQuiet ∧ brB.bufOf (↑b0 : Nat) = bq :: ([] : List NocReq) ∧ 0 = brB.noc.reqTaken.get 0 (↑b0 : Nat) ∧ brB.bridgeClocked (↑b0 : Nat) = true ∧ brB.p0 (↑b0 : Nat) < p0ASLEEP ∧ (0 = 0 → (brB.tableOf (↑b0 : Nat)).length < 64)) ∧
    /- 1 -/ (w7.nocQuiet ∧ w7.bufOf (↑b0 : Nat) = bqW :: ([bq] : List NocReq) ∧ 1 = w7.noc.reqTaken.get 0 (↑b0 : Nat) ∧ w7.bridgeClocked (↑b0 : Nat) = true ∧ w7.p0 (↑b0 : Nat) < p0ASLEEP ∧ (1 = 0 → (w7.tableOf (↑b0 : Nat)).length < 64)) ∧
    /- 2 -/ (w8.nocQuiet ∧ w8.rspInOf (↑b0 : Nat) = brR :: ([] : List NocRsp) ∧ 0 = w8.noc.rspTaken.get 0 (↑b0 : Nat) ∧ w8.bridgeClocked (↑b0 : Nat) = true) ∧
    /- 2 -/ (w9.nocQuiet ∧ w9.rspInOf (↑b0 : Nat) = w10 :: ([] : List NocRsp) ∧ 0 = w9.noc.rspTaken.get 0 (↑b0 : Nat) ∧ w9.bridgeClocked (↑b0 : Nat) = true) ∧
    /- 3.1 -/ (brT.nocUp = true ∧ brT.bridgeClocked (↑b0 : Nat) = true ∧ brT.p0 (↑b0 : Nat) < p0ASLEEP ∧ brT.rspOutFlits (↑b0 : Nat) < 8 ∧ (List.find? (fun q => decide (q.src = (↑s65 : Nat)) && decide (q.tag = (↑(5 : Fin 64) : Nat))) (brT.tableOf (↑b0 : Nat)) = some bq) ∧ brT.noc.partRsp.get none (↑b0 : Nat) = none ∧ (↑(0 : Fin 4) : Nat) = 0 ∧ bq.rspFlits = 1) ∧
    /- 3.2 -/ (w11.nocUp = true ∧ w11.bridgeClocked (↑b0 : Nat) = true ∧ w11.p0 (↑b0 : Nat) < p0ASLEEP ∧ w11.rspOutFlits (↑b0 : Nat) < 8 ∧ (List.find? (fun q => decide (q.src = (↑s65 : Nat)) && decide (q.tag = (↑(5 : Fin 64) : Nat))) (w11.tableOf (↑b0 : Nat)) = some bqL) ∧ w11.noc.partRsp.get none (↑b0 : Nat) = none ∧ (↑(0 : Fin 4) : Nat) = 0 ∧ 1 < bqL.rspFlits) ∧
    /- 3.3 -/ (brT.nocUp = true ∧ brT.bridgeClocked (↑b0 : Nat) = true ∧ brT.p0 (↑b0 : Nat) < p0ASLEEP ∧ brT.rspOutFlits (↑b0 : Nat) < 8 ∧ (List.find? (fun q => decide (q.src = (↑s65 : Nat)) && decide (q.tag = (↑(6 : Fin 64) : Nat))) (brT.tableOf (↑b0 : Nat)) = none) ∧ brT.noc.partRsp.get none (↑b0 : Nat) = none) ∧
    /- 4.1 -/ (w2.nocQuiet ∧ w2.bridgeClocked (↑b0 : Nat) = true ∧ w2.nocOn (↑b0 : Nat) = true ∧ w2.p0 (↑b0 : Nat) < p0ASLEEP ∧ w2.noc.partReq.get none (↑b0 : Nat) = none ∧ (boL = { id := w2.noc.next, src := 4 * (↑b0 : Nat), tag := (↑(63 : Fin 64) : Nat), waddr := (0 : BitVec 42).toNat, last := (31 : BitVec 6).toNat, wr := true, epoch := 0, data := if true = true then rangeOf (0 : BitVec 42).toNat (31 : BitVec 6).toNat (payloadWords (5 : BitVec 512)) else [] }) ∧ 1 < boL.flits) ∧
    /- 4.2 -/ (w2.nocQuiet ∧ w2.bridgeClocked (↑b0 : Nat) = true ∧ w2.nocOn (↑b0 : Nat) = true ∧ w2.p0 (↑b0 : Nat) < p0ASLEEP ∧ w2.noc.partReq.get none (↑b0 : Nat) = none ∧ (bo = { id := w2.noc.next, src := 4 * (↑b0 : Nat), tag := (↑(63 : Fin 64) : Nat), waddr := (0 : BitVec 42).toNat, last := (0 : BitVec 6).toNat, wr := true, epoch := 0, data := if true = true then rangeOf (0 : BitVec 42).toNat (0 : BitVec 6).toNat (payloadWords (5 : BitVec 512)) else [] }) ∧ bo.flits ≤ 1 ∧ w2.outstanding (4 * (↑b0 : Nat)) (↑(63 : Fin 64) : Nat) = none ∧ w2.p0 (↑b0 : Nat) ≠ p0DRAINING) ∧
    /- 4.2 -/ (w2.nocQuiet ∧ w2.bridgeClocked (↑b0 : Nat) = true ∧ w2.nocOn (↑b0 : Nat) = true ∧ w2.p0 (↑b0 : Nat) < p0ASLEEP ∧ w2.noc.partReq.get none (↑b0 : Nat) = none ∧ (bo = { id := w2.noc.next, src := 4 * (↑b0 : Nat), tag := (↑(63 : Fin 64) : Nat), waddr := (0 : BitVec 42).toNat, last := (0 : BitVec 6).toNat, wr := true, epoch := 0, data := if true = true then rangeOf (0 : BitVec 42).toNat (0 : BitVec 6).toNat (payloadWords (5 : BitVec 512)) else [] }) ∧ bo.flits ≤ 1 ∧ w2.outstanding (4 * (↑b0 : Nat)) (↑(63 : Fin 64) : Nat) = none ∧ w2.p0 (↑b0 : Nat) ≠ p0DRAINING) ∧
    /- 4.3 -/ (brU.nocQuiet ∧ brU.bridgeClocked (↑b0 : Nat) = true ∧ brU.nocOn (↑b0 : Nat) = true ∧ brU.p0 (↑b0 : Nat) < p0ASLEEP ∧ brU.noc.partReq.get none (↑b0 : Nat) = none ∧ (bo = { id := brU.noc.next, src := 4 * (↑b0 : Nat), tag := (↑(63 : Fin 64) : Nat), waddr := (0 : BitVec 42).toNat, last := (0 : BitVec 6).toNat, wr := true, epoch := 0, data := if true = true then rangeOf (0 : BitVec 42).toNat (0 : BitVec 6).toNat (payloadWords (5 : BitVec 512)) else [] }) ∧ bo.flits ≤ 1 ∧ brU.outstanding (4 * (↑b0 : Nat)) (↑(63 : Fin 64) : Nat) ≠ none ∧ brU.noc.dropping.contains (↑b0 : Nat) = false ∧ brU.rspInFlits (↑b0 : Nat) + bo.rspFlits ≤ 8) ∧
    /- 5 -/ (w12.nocUp = true ∧ w12.noc.inj = [] ∧ w12.noc.bufs = [(32 * (↑b0 : Nat), [{ body := NocBody.req bq, cls := 0, poison := false, upset := none }])] ∧ w12.nocOn (↑b0 : Nat) = true ∧ w12.p0 (↑b0 : Nat) = p0OPEN ∧ 8 < w12.reqInFlits (↑b0 : Nat) + bq.flits) ∧
    /- 6 -/ (w8.nocQuiet ∧ w8.rspInOf (↑b0 : Nat) ≠ []) ∧
    /- 7 -/ (w13.p0 (↑b0 : Nat) = p0STALLED) ∧
    /- 8.1 -/ (w14.nocQuiet ∧ w14.p0 (↑b0 : Nat) = p0DRAINING ∧ w14.p0Empty (↑b0 : Nat) = false) ∧
    /- 8.2.1 -/ (w15.nocQuiet ∧ w15.p0 (↑b0 : Nat) = p0DRAINING ∧ w15.p0Empty (↑b0 : Nat) = true ∧ w15.pt.falling.get 0 (↑b0 : Nat) = 0 ∧ w15.opChange (↑b0 : Nat) = none) ∧
    /- 8.2.2 -/ (w16.nocQuiet ∧ w16.p0 (↑b0 : Nat) = p0DRAINING ∧ w16.p0Empty (↑b0 : Nat) = true ∧ w16.pt.falling.get 0 (↑b0 : Nat) = 0 ∧ w16.opChange (↑b0 : Nat) = some w17 ∧ w17.target = 4 ∧ (w16.bough (↑b0 : Nat)).run ≠ BoughRun.frozen) := by
  and_intros <;> decide +kernel

def w18 : State := stw 4 [(R.NOC_EPOCH_BUSY, 1)]
def w19 : State := stw 4 [(R.NOC_EPOCH_BUSY, 1), (R.NOC_EPOCH_OLD_OLD, 0)]
def w20 : State := stw 4 [(R.NOC_CNT_ASLEEP 63, 4)]
/-- The hypotheses of NocTablesAndEpochs are met: a witness for each clause, by its place in the statement. -/
theorem test_meets_NocTablesAndEpochs :
    /- 1.1 -/ (w1.srcTp (↑s65 : Nat) = true ∧ w1.get R.NOC_EPOCH_BUSY = 0 ∧ w1.get R.NOC_EPOCH_CUR ≤ 1 ∧ w1.tableBreach (1 - w1.get R.NOC_EPOCH_CUR) = none) ∧
    /- 1.2 -/ (neB.srcTp (↑s65 : Nat) = true ∧ neB.get R.NOC_EPOCH_BUSY = 0 ∧ neB.tableBreach (1 - neB.get R.NOC_EPOCH_CUR) = some (7, 55)) ∧
    /- 2 -/ (w1.srcTp (↑s33 : Nat) = false) ∧
    /- 2 -/ ((w18.srcTp (↑s65 : Nat) = true ∧ w18.get R.NOC_EPOCH_BUSY ≠ 0)) ∧
    /- 3 -/ (w19.get R.NOC_EPOCH_BUSY ≠ 0 ∧ w19.get R.NOC_EPOCH_OLD_OLD = 0) ∧
    /- 4.1 -/ (w1.srcTp (↑s65 : Nat) = true ∧ w1.get (R.NOC_STATUS_EPOCH (↑b63 : Nat)) ≠ (↑(1 : Fin 2) : Nat) ∧ (∀ (j : Nat), j < 16 → bits (BitVec.toNat (0x4444444444444444 : Word64)) (4 * j) 4 ≤ 4)) ∧
    /- 4.2 -/ ((w1.srcTp (↑s65 : Nat) = true ∧ w1.get (R.NOC_STATUS_EPOCH (↑b63 : Nat)) ≠ (↑(1 : Fin 2) : Nat) ∧ ∃ j, j < 16 ∧ 4 < bits (BitVec.toNat (0x5444444444444444 : Word64)) (4 * j) 4)) ∧
    /- 4.2 -/ ((w1.srcTp (↑s65 : Nat) = true ∧ w1.get (R.NOC_STATUS_EPOCH (↑b63 : Nat)) = (↑(0 : Fin 2) : Nat))) ∧
    /- 4.2 -/ (w1.srcTp (↑s33 : Nat) = false) ∧
    /- 5.1 -/ (w20.srcTp (↑s65 : Nat) = true) ∧
    /- 5.2 -/ (w20.srcTp (↑s33 : Nat) = false) := by
  and_intros <;> decide +kernel

def w24 : State := stw 4 [(R.GB_STATUS_PWR 7 7, 0)]
def w25 : State := { gGo with gr := { gGo.gr with pwr := [(63, 4)] } }
def w26 : State := stw 4 [(R.GB_STATUS_PWR 7 7, 1)]
def w27 : GrRepair := ⟨63, 511, 7, true⟩
def w28 : State := gOn.set (R.GB_CONF_COUNT 7 7 255) 9
def w29 : State := gOn.set (R.GB_CNT_CORR 7 7) 9
/-- The hypotheses of GranaryCommands are met: a witness for each clause, by its place in the statement. -/
theorem test_meets_GranaryCommands :
    /- 1.1 -/ (gOn.srcTp (↑s65 : Nat) = true ∧ 63 = (63 : Fin 64) ∧ gOn.gr.pwr.get 0 (↑(63 : Fin 64) : Nat) = 0 ∧ gOn.grPwrOf (↑(63 : Fin 64) : Nat) ≠ 1 ∧ gOn.grPwrOf (↑(63 : Fin 64) : Nat) ≠ 3 ∧ gOn.grPwrOf (↑(63 : Fin 64) : Nat) ≠ 0) ∧
    /- 1.1 -/ (gOn.srcTp (↑s65 : Nat) = true ∧ 63 = (63 : Fin 64) ∧ gOn.gr.pwr.get 0 (↑(63 : Fin 64) : Nat) = 0 ∧ gOn.grPwrOf (↑(63 : Fin 64) : Nat) ≠ 1 ∧ gOn.grPwrOf (↑(63 : Fin 64) : Nat) ≠ 0 ∧ gOn.grPwrOf (↑(63 : Fin 64) : Nat) ≠ 0) ∧
    /- 1.2 -/ (gOn.srcTp (↑s65 : Nat) = true ∧ 63 = (63 : Fin 64) ∧ gOn.gr.pwr.get 0 (↑(63 : Fin 64) : Nat) = 0 ∧ gOn.grPwrOf (↑(63 : Fin 64) : Nat) ≠ 1 ∧ gOn.grPwrOf (↑(63 : Fin 64) : Nat) = 2) ∧
    /- 1.3 -/ (w24.srcTp (↑s65 : Nat) = true ∧ 63 = (63 : Fin 64) ∧ w24.gr.pwr.get 0 (↑(63 : Fin 64) : Nat) = 0 ∧ w24.grPwrOf (↑(63 : Fin 64) : Nat) ≠ 1 ∧ w24.grPwrOf (↑(63 : Fin 64) : Nat) = 0) ∧
    /- 2 -/ (gGo.gr.pwr.get 0 (↑(63 : Fin 64) : Nat) = 0 + 1 ∧ 0 < 4 ∧ gGo.grQueue (↑(63 : Fin 64) : Nat) = [] ∧ (∀ (r : GrRepair), gGo.repairOf ((↑(63 : Fin 64) : Nat) / 8) = some r → r.bank ≠ (↑(63 : Fin 64) : Nat)) ∧ gGo.get (R.GB_STATUS_BT_ACTIVE ((↑(63 : Fin 64) : Nat) / 8) ((↑(63 : Fin 64) : Nat) % 8)) = 0) ∧
    /- 2 -/ (w25.gr.pwr.get 0 (↑(63 : Fin 64) : Nat) = 3 + 1 ∧ 3 < 4 ∧ w25.grQueue (↑(63 : Fin 64) : Nat) = [] ∧ (∀ (r : GrRepair), w25.repairOf ((↑(63 : Fin 64) : Nat) / 8) = some r → r.bank ≠ (↑(63 : Fin 64) : Nat)) ∧ w25.get (R.GB_STATUS_BT_ACTIVE ((↑(63 : Fin 64) : Nat) / 8) ((↑(63 : Fin 64) : Nat) % 8)) = 0) ∧
    /- 3 -/ (w26.grPwrOf (↑(63 : Fin 64) : Nat) = 1) ∧
    /- 4.1 -/ (gOn.srcTp (↑s65 : Nat) = true ∧ gOn.freeSpare (↑(63 : Fin 64) : Nat) = some 0 ∧ gOn.grPwrOf (↑(63 : Fin 64) : Nat) = 2 ∧ gOn.repairOf ((↑(63 : Fin 64) : Nat) / 8) = none) ∧
    /- 4.2 -/ (gFull.srcTp (↑s65 : Nat) = true ∧ gFull.freeSpare (↑(63 : Fin 64) : Nat) = none) ∧
    /- 5 -/ (gRep.repairOf (↑(7 : Fin 8) : Nat) = some w27 ∧ w27.bank / 8 = (↑(7 : Fin 8) : Nat) ∧ w27.spare < 8 ∧ w27.row < 512) ∧
    /- 6.1 -/ (w28.srcTp (↑s65 : Nat) = true) ∧
    /- 6.2 -/ (w29.srcTp (↑s65 : Nat) = true) ∧
    /- 7 -/ (gOn.srcTp (↑s65 : Nat) = true ∧ gOn.btRegion (↑(7 : Fin 8) : Nat) = some (0, 56, 0) ∧ gOn.gr.btAsked.contains (↑(7 : Fin 8) : Nat) = false) ∧
    /- 8 -/ (gBt.btRegion (↑(7 : Fin 8) : Nat) = some (0, 56, 0) ∧ gBt.gr.btAsked.contains (↑(7 : Fin 8) : Nat) = true) ∧
    /- 8 -/ (gBt2.btRegion (↑(7 : Fin 8) : Nat) = some (16639, 63, 2079) ∧ gBt2.get (R.GR_CTRL_BT_EN (↑(7 : Fin 8) : Nat)) ≠ 0) ∧
    /- 9.1 -/ (w1.srcTp (↑s65 : Nat) = true ∧ bits (0x00010000 : BitVec 32).toNat 16 16 ≠ 0 ∧ bit (0x00010000 : BitVec 32).toNat 0 = w1.get (R.GR_CTRL_INTLV (↑(7 : Fin 8) : Nat))) ∧
    /- 9.2 -/ (w1.srcTp (↑s65 : Nat) = true ∧ bits (1 : BitVec 32).toNat 16 16 = 0) ∧
    /- 9.3 -/ (w1.srcTp (↑s65 : Nat) = true ∧ (bits (0x212300 : BitVec 32).toNat 8 6 ≤ 35 ∧ bits (0x212300 : BitVec 32).toNat 16 4 ≠ 0)) ∧
    /- 9.4 -/ (w1.srcTp (↑s33 : Nat) = false) := by
  and_intros <;> decide +kernel

end Sys2Proof.Tests.PartH
namespace Sys2Proof.Tests.PartI
open Sys2Proof Sys2Proof.Machine
set_option Elab.async false

def n47 : LaneId := 47
def lnL (l : List (Fld × Nat)) : State := stw 4 ([(R.LN_CFG_MODE 47, 1), (R.QD_PLL_LOCK 11 0, 1), (R.LN_CFG_PLL 47, 0), (R.LN_CFG_TX_EN 47, 1)] ++ l)
def lnC : State := (lnL [(R.LN_STAT_STATE 47, 5), (R.ST_CFG_USE 11, 2)]).setStream 1 { Stream.reset with ackSent := true, ackSeen := true }
def qpD : Word64 := wd64 [(R.QD_PLL_EN 11 1, 1), (R.QD_PLL_M 11 1, 1), (R.QD_PLL_N 11 1, 64)]
def qpU : State := { st 4 with lref := SMap.set [] 156250 11 100000 }
def qpU2 : State := { st 4 with lref := SMap.set [] 156250 11 49999 }
def lcD : Word64 := wd64 [(R.LN_CFG_MODE 47, 0), (R.LN_CFG_TRAIN_TO 47, 1), (R.LN_CFG_LOCK_TO 47, 1), (R.LN_CFG_TX_EN 47, 1)]
def lnTr : State := (st 4).setLane 47 { Lane.reset with training := true }
def n39 : LaneId := 39
def lnA : State := lnL [(R.LN_STAT_STATE 47, 6), (R.LN_EYE_CFG_LOG2BITS 47, 20), (R.LN_EYE_CFG_ERRLIM 47, 1), (R.LN_EYE_CFG_EYE 47, 0)]
def lnSc : State := lnA.setLane 47 { Lane.reset with scan := some ⟨4, 20, 1⟩ }
def llB : List (Fld × Nat) := [(R.ST_CFG_USE 11, 2), (R.LL_CFG_LANES 11, 4), (R.LN_STAT_STATE 47, 5), (R.LL_CFG_F 11, 0), (R.LL_CFG_TOL 11, 0)]
def llC : State := (stw 4 llB).setStream 1 { Stream.reset with capsLast := [1, 2, 4, 0, 0, 0, 0, 0, 0, 0], capsSame := 2 }
def llD : List (BitVec 8) := [1, 2, 4, 0, 0, 0, 0, 0, 0, 0, 0, 0, 0, 0, 0, 0, 0, 0, 0, 0, 0, 0, 0, 0]
def llDn : List Nat := [1, 2, 4, 0, 0, 0, 0, 0, 0, 0, 0, 0, 0, 0, 0, 0, 0, 0, 0, 0, 0, 0, 0, 0]
def jsD : Word64 := wd64 [(R.JS_CFG_EN 11, 1), (R.JS_CFG_F 11, 8), (R.JS_CFG_KE 11, 32), (R.JS_CFG_VER 11, 0)]
def jsS : State := stw 4 [(R.ST_CFG_USE 11, 1), (R.JS_CFG_EN 11, 1), (R.JS_CFG_F 11, 8), (R.JS_CFG_KE 11, 32), (R.JS_CFG_VER 11, 0), (R.JS_CFG_DIR 11, 0), (R.JS_CFG_LCODE 11, 2), (R.LN_STAT_STATE 47, 5)]
def jsS1 : State := { jsS.setStream 1 { Stream.reset with sysrefDue := [0] } with tp := { jsS.tp with tick := 4 } }
def stS : State := (stw 4 [(R.ST_CFG_USE 11, 2), (R.LL_STAT_UP 11, 1)]).setStream 1 { Stream.reset with busy := true }
def stSu : State := stS.setStream 1 { stS.stream 1 with rx := (stS.stream 1).rx ++ [[1, 2, 3, 4, 5, 6, 7, 8, 9, 10, 11, 12, 13, 14, 15, 16]] }
def swR : NocRsp := ⟨9, 93, 95, 0, 5, true, 0, 0, []⟩
def swS : State := ({ stw 4 [(R.ST_CFG_USE 11, 2), (R.LL_STAT_UP 11, 1), (R.ST_RX_WR_WR 11, 2^32-1)] with noc := { State.reset.noc with rsps := [swR], outst := [rq 9 93 5 0 15 true []] } }).setStream 1 { Stream.reset with busy := true, rx := [[1, 2]] }

def w1 : State := lnL [(R.LN_STAT_STATE 47, 1), (R.LN_CFG_DET_EN 47, 1)]
def w2 : State := lnL [(R.LN_STAT_STATE 47, 1), (R.LN_CFG_DET_EN 47, 0)]
def w3 : State := lnL [(R.LN_STAT_STATE 47, 1), (R.LN_CFG_TX_EN 47, 0)]
def w4 : State := lnL [(R.LN_STAT_STATE 47, 0)]
def w5 : State := lnL [(R.LN_STAT_STATE 47, 7)]
def w6 : State := lnL [(R.LN_STAT_STATE 47, 2)]
def w7 : State := lnL [(R.LN_STAT_STATE 47, 3), (R.LN_CFG_EQ_AUTO 47, 1)]
def w8 : State := lnL [(R.LN_STAT_STATE 47, 3), (R.LN_CFG_EQ_AUTO 47, 0)]
def w9 : State := lnL [(R.LN_STAT_STATE 47, 3)]
def w10 : State := lnL [(R.LN_STAT_STATE 47, 4)]
def w11 : State := lnL [(R.LN_STAT_STATE 47, 5), (R.ST_CFG_USE 11, 2)]
def w12 : State := lnL [(R.LN_STAT_STATE 47, 4), (R.LN_CFG_MODE 47, 2)]
def w13 : State := lnL [(R.LN_STAT_STATE 47, 6)]
def w14 : State := lnL [(R.LN_STAT_STATE 47, 6), (R.LN_CFG_EQ_AUTO 47, 1)]
def w15 : State := lnL [(R.LN_STAT_STATE 47, 6), (R.LN_CFG_TX_EN 47, 0)]
def w16 : State := stw 4 [(R.QD_PLL_EN 11 1, 1)]
def w17 : State := lnL [(R.LN_STAT_STATE 47, 6), (R.LN_CFG_MODE 47, 0)]
/-- The hypotheses of LaneBringUp are met: a witness for each clause, by its place in the statement. -/
theorem test_meets_LaneBringUp :
    /- 1.1 -/ (w1.lnState (↑n47 : Nat) = lnIDLE ∧ w1.get (R.LN_CFG_TX_EN (↑n47 : Nat)) ≠ 0 ∧ w1.lnPllOk (↑n47 : Nat) = true ∧ w1.lnMode (↑n47 : Nat) ≠ 0 ∧ w1.lnRuns (↑n47 : Nat) = true) ∧
    /- 1.1 -/ (w2.lnState (↑n47 : Nat) = lnIDLE ∧ w2.get (R.LN_CFG_TX_EN (↑n47 : Nat)) ≠ 0 ∧ w2.lnPllOk (↑n47 : Nat) = true ∧ w2.lnMode (↑n47 : Nat) ≠ 0 ∧ w2.lnRuns (↑n47 : Nat) = true) ∧
    /- 1.2 -/ (w3.lnState (↑n47 : Nat) = lnIDLE ∧ w3.get (R.LN_CFG_TX_EN (↑n47 : Nat)) = 0) ∧
    /- 2.1 -/ (w4.lnState (↑n47 : Nat) = lnOFF ∧ w4.lnMode (↑n47 : Nat) ≠ 0 ∧ w4.lnPllOk (↑n47 : Nat) = true ∧ (hostLane (↑n47 : Nat) = true → w4.hostQuads = true)) ∧
    /- 2.2 -/ (w5.lnState (↑n47 : Nat) = lnFAIL) ∧
    /- 2.3 -/ (w6.lnState (↑n47 : Nat) = lnDETECT) ∧
    /- 2.3 -/ (w6.lnState (↑n47 : Nat) = lnDETECT) ∧
    /- 2.4 -/ (w7.lnState (↑n47 : Nat) = lnTRAIN) ∧
    /- 2.4 -/ (w8.lnState (↑n47 : Nat) = lnTRAIN) ∧
    /- 2.6 -/ (w9.lnState (↑n47 : Nat) = lnTRAIN) ∧
    /- 2.6 -/ (w10.lnState (↑n47 : Nat) = lnLOCK) ∧
    /- 2.6 -/ ((w11.lnState (↑n47 : Nat) = lnCAPS ∧ 40 ≤ (↑n47 : Nat) ∧ w11.get (R.ST_CFG_USE ((↑n47 : Nat) / 4)) = 2)) ∧
    /- 2.7 -/ (w10.lnState (↑n47 : Nat) = lnLOCK) ∧
    /- 2.7 -/ (w12.lnState (↑n47 : Nat) = lnLOCK) ∧
    /- 2.8 -/ (lnC.lnState (↑n47 : Nat) = lnCAPS ∧ lnC.capsDone (↑n47 : Nat) = true) ∧
    /- 2.9.1 -/ (w13.lnState (↑n47 : Nat) = lnACTIVE) ∧
    /- 2.5 -/ (w14.get (R.LN_CFG_EQ_AUTO (↑n47 : Nat)) ≠ 0 ∧ w14.lnState (↑n47 : Nat) = lnACTIVE) ∧
    /- 2.9.2 -/ (w13.lnState (↑n47 : Nat) = lnACTIVE) ∧
    /- 2.9.2 -/ (w15.lnState (↑n47 : Nat) = lnACTIVE) ∧
    /- 3.1 -/ (w16.get (R.QD_PLL_EN (↑(11 : Fin 12) : Nat) (↑(1 : Fin 2) : Nat)) ≠ 0 ∧ w16.get (R.QD_PLL_LOCK (↑(11 : Fin 12) : Nat) (↑(1 : Fin 2) : Nat)) = 0 ∧ w16.mode0 = 4) ∧
    /- 3.2 -/ (w13.get (R.QD_PLL_LOCK (↑(11 : Fin 12) : Nat) (↑(0 : Fin 2) : Nat)) ≠ 0) ∧
    /- 4 -/ (w13.srcOk (↑s33 : Nat) = true) ∧
    /- 4 -/ (w17.srcOk (↑s33 : Nat) = true) := by
  and_intros <;> decide +kernel

def w18 : State := st 4
def w19 : State := stw 4 [(R.LN_CFG_MODE 39, 1), (R.LN_STAT_STATE 39, 3)]
def w20 : State := stw 4 [(R.LN_PRBS_BITS_BITS 47, 5)]
def w21 : State := stw 4 [(R.LN_PRBS_CFG_GEN 47, 7)]
def w22 : EyeScan := ⟨4, 20, 1⟩
def w23 : State := stw 4 [(R.LN_PRBS_BITS_LOCK 47, 0)]
def w24 : State := stw 4 [(R.LN_PRBS_BITS_LOCK 47, 1)]
def w25 : State := stw 4 [(R.LN_PRBS_BITS_LOCK 47, 1), (R.LN_PRBS_BITS_BITS 47, 2^48-1)]
/-- The hypotheses of LaneSettingsAndTests are met: a witness for each clause, by its place in the statement. -/
theorem test_meets_LaneSettingsAndTests :
    /- 1.1 -/ ((qpU = (match refQuad (↑(11 : Fin 12) : Nat) (bits (BitVec.toNat qpD) 0 2) with | some rq => ({ w18 with lref := w18.lref.set 156250 rq 100000 } : State) | none => w18).commit (Config.qdBase (↑(11 : Fin 12) : Nat) + 2048 + 8 * (↑(1 : Fin 2) : Nat))) ∧ w18.srcOk (↑s33 : Nat) = true ∧ qpU.quadLegal (↑(11 : Fin 12) : Nat) (BitVec.toNat qpD) = true ∧ w18.quadUsers (↑(11 : Fin 12) : Nat) (↑(1 : Fin 2) : Nat) = []) ∧
    /- 1.2 -/ ((qpU2 = (match refQuad (↑(11 : Fin 12) : Nat) (bits (BitVec.toNat qpD) 0 2) with | some rq => ({ w18 with lref := w18.lref.set 156250 rq 49999 } : State) | none => w18).commit (Config.qdBase (↑(11 : Fin 12) : Nat) + 2048 + 8 * (↑(1 : Fin 2) : Nat))) ∧ w18.srcOk (↑s33 : Nat) = true ∧ qpU2.quadLegal (↑(11 : Fin 12) : Nat) (BitVec.toNat qpD) = false) ∧
    /- 1.3 -/ ((qpU = (match refQuad (↑(11 : Fin 12) : Nat) (bits (BitVec.toNat qpD) 0 2) with | some rq => ({ w18 with lref := w18.lref.set 156250 rq 100000 } : State) | none => w18).commit (Config.qdBase (↑(11 : Fin 12) : Nat) + 2048 + 8 * (↑(1 : Fin 2) : Nat))) ∧ w18.srcOk (↑s1 : Nat) = false) ∧
    /- 2.1 -/ (w18.lnCfgRefusal (↑s33 : Nat) (↑n47 : Nat) (BitVec.toNat lcD) = none) ∧
    /- 2.2 -/ (w18.lnCfgRefusal (↑s33 : Nat) (↑n47 : Nat) (BitVec.toNat (3 : Word64)) = some 2566) ∧
    /- 2.2 -/ (w18.lnCfgRefusal (↑s1 : Nat) (↑n47 : Nat) (BitVec.toNat (3 : Word64)) = some 2561) ∧
    /- 3.1 -/ (w18.srcOk (↑s33 : Nat) = true ∧ (w18.lane (↑n47 : Nat)).training = false ∧ tapsOk (↑n47 : Nat) (0x2000 * 4 : BitVec 32).toNat = true) ∧
    /- 3.2 -/ (w18.srcOk (↑s1 : Nat) = false) ∧
    /- 3.2 -/ ((w18.srcOk (↑s33 : Nat) = true ∧ (w18.lane (↑n47 : Nat)).training = false ∧ tapsOk (↑n47 : Nat) (0x3F800 : BitVec 32).toNat = false)) ∧
    /- 3.2 -/ ((lnTr.srcOk (↑s33 : Nat) = true ∧ (lnTr.lane (↑n47 : Nat)).training = true)) ∧
    /- 4 -/ (w19.lnMode (↑n39 : Nat) = 1 ∧ w19.lnState (↑n39 : Nat) = lnTRAIN ∧ (↑n39 : Nat) < 40) ∧
    /- 4 -/ (w19.lnMode (↑n39 : Nat) = 1 ∧ w19.lnState (↑n39 : Nat) = lnTRAIN ∧ (↑n39 : Nat) < 40) ∧
    /- 5.1 -/ (w20.srcOk (↑s33 : Nat) = true) ∧
    /- 5.2 -/ (w21.srcOk (↑s33 : Nat) = true ∧ w21.get (R.LN_PRBS_CFG_GEN (↑n47 : Nat)) ≠ 0 ∧ w21.get (R.LN_CFG_LOOP (↑n47 : Nat)) ≠ 3) ∧
    /- 5.3.1 -/ (lnA.srcOk (↑s33 : Nat) = true ∧ lnA.lnState (↑n47 : Nat) = lnACTIVE ∧ (lnA.lane (↑n47 : Nat)).scan = none ∧ lnA.eyeCfgOk (↑n47 : Nat) = true) ∧
    /- 5.3.1 -/ (lnA.srcOk (↑s33 : Nat) = true ∧ lnA.lnState (↑n47 : Nat) = lnACTIVE ∧ (lnA.lane (↑n47 : Nat)).scan = none ∧ lnA.eyeCfgOk (↑n47 : Nat) = true) ∧
    /- 5.3.2 -/ (lnSc.srcOk (↑s33 : Nat) = true ∧ (lnSc.lnState (↑n47 : Nat) = lnACTIVE ∧ (lnSc.lane (↑n47 : Nat)).scan ≠ none)) ∧
    /- 5.3.2 -/ (w18.srcOk (↑s33 : Nat) = true ∧ w18.lnState (↑n47 : Nat) ≠ lnACTIVE) ∧
    /- 5.4 -/ (w18.srcOk (↑s33 : Nat) = true ∧ (w18.lane (↑n47 : Nat)).scan = none) ∧
    /- 6 -/ ((lnSc.lane (↑n47 : Nat)).scan = some w22 ∧ w22.cmd < 16 ∧ ([(5, 0)] = ([(5, 0)] : List (Nat × Nat)) ∧ lnSc.srcOk (↑s33 : Nat) = true)) ∧
    /- 6 -/ ((lnSc.lane (↑n47 : Nat)).scan = some w22 ∧ w22.cmd < 16 ∧ ([(2 ^ 20, 0)] = ([(2^20, 0)] : List (Nat × Nat)) ∧ w22.complete ([(2^20, 0)] : List (Nat × Nat)) = true)) ∧
    /- 7.1 -/ (w23.get (R.LN_PRBS_BITS_LOCK (↑n47 : Nat)) = 0) ∧
    /- 7.2 -/ (w24.get (R.LN_PRBS_BITS_LOCK (↑n47 : Nat)) ≠ 0) ∧
    /- 7.3 -/ (w25.get (R.LN_PRBS_BITS_LOCK (↑n47 : Nat)) ≠ 0) := by
  and_intros <;> decide +kernel

def w26 : State := stw 4 [(R.ST_CFG_USE 11, 2), (R.LN_STAT_STATE 47, 6)]
def w27 : State := stw 4 [(R.ST_CFG_USE 11, 2), (R.LL_STAT_UP 11, 1)]
def w28 : State := stw 4 [(R.ST_CFG_USE 11, 1)]
def w29 : State := jsS.set (R.JS_CFG_VER 11) 1
def w30 : List (BitVec 32) := [1, 2, 3, 4, 5, 6, 7, 8, 9, 10, 11, 12, 13, 14, 15, 16]
def w31 : State := stw 4 [(R.ST_RX_WR_WR 11, 2^31 - 1)]
def w32 : State := stw 4 [(R.ST_RX_WR_WR 11, 2^31)]
def w33 : State := stS.setStream 1 { Stream.reset with tx := List.range 65 }
/-- The hypotheses of StreamsAndLinks are met: a witness for each clause, by its place in the statement. -/
theorem test_meets_StreamsAndLinks :
    /- 1.1 -/ (llC.get (R.ST_CFG_USE (10 + (↑(1 : Fin 2) : Nat))) = 2 ∧ llD.length = 24 ∧ (llDn = List.map (fun x => x.toNat) llD) ∧ (((llC.stLanes (↑(1 : Fin 2) : Nat)).any fun n => decide (llC.lnState n = lnCAPS)) = true) ∧ 16 ≤ 16 ∧ (llC.stream (↑(1 : Fin 2) : Nat)).capsLast = List.take 10 llDn ∧ 2 ≤ (llC.stream (↑(1 : Fin 2) : Nat)).capsSame ∧ llDn.getD 0 0 = 1 ∧ rateMatched (llC.get (R.LL_CFG_F (10 + (↑(1 : Fin 2) : Nat)))) (llC.get (R.LL_CFG_TOL (10 + (↑(1 : Fin 2) : Nat)))) (llDn.getD 4 0) = true ∧ rateMatched (llDn.getD 3 0) (llC.get (R.LL_CFG_TOL (10 + (↑(1 : Fin 2) : Nat)))) (llDn.getD 4 0) = true) ∧
    /- 1.2 -/ (llC.get (R.ST_CFG_USE (10 + (↑(1 : Fin 2) : Nat))) = 2 ∧ llD.length = 24 ∧ (llDn = List.map (fun x => x.toNat) llD) ∧ (((llC.stLanes (↑(1 : Fin 2) : Nat)).any fun n => decide (llC.lnState n = lnCAPS)) = true) ∧ 16 < 17) ∧
    /- 2 -/ (40 ≤ (↑n47 : Nat) ∧ w26.get (R.ST_CFG_USE ((↑n47 : Nat) / 4)) = 2 ∧ w26.lnState (↑n47 : Nat) = lnACTIVE) ∧
    /- 3 -/ (w27.get (R.ST_CFG_USE (10 + (↑(1 : Fin 2) : Nat))) = 2 ∧ w27.get (R.LL_STAT_UP (10 + (↑(1 : Fin 2) : Nat))) ≠ 0) ∧
    /- 4.1 -/ (w28.srcOk (↑s33 : Nat) = true ∧ w28.jsLegal (↑(1 : Fin 2) : Nat) (BitVec.toNat jsD) = true) ∧
    /- 4.2 -/ (w18.srcOk (↑s33 : Nat) = true ∧ w18.jsLegal (↑(1 : Fin 2) : Nat) (BitVec.toNat (0 : Word64)) = false) ∧
    /- 4.3 -/ (w18.srcOk (↑s1 : Nat) = false) ∧
    /- 5.1 -/ (jsS1.jsGov (↑(1 : Fin 2) : Nat) = some 11 ∧ (∃ f, (jsS1.stream (↑(1 : Fin 2) : Nat)).sysrefDue.head? = some f ∧ f + 4 ≤ jsS1.tp.tick) ∧ (jsS1.stream (↑(1 : Fin 2) : Nat)).aligned = false) ∧
    /- 5.1 -/ (jsS1.jsGov (↑(1 : Fin 2) : Nat) = some 11 ∧ (∃ f, (jsS1.stream (↑(1 : Fin 2) : Nat)).sysrefDue.head? = some f ∧ f + 4 ≤ jsS1.tp.tick) ∧ (jsS1.stream (↑(1 : Fin 2) : Nat)).aligned = false) ∧
    /- 5.2 -/ (jsS.jsGov (↑(1 : Fin 2) : Nat) = some 11 ∧ (jsS.stream (↑(1 : Fin 2) : Nat)).aligned = false ∧ (jsS.stream (↑(1 : Fin 2) : Nat)).timeoutRaised = false ∧ (((jsS.stLanes (↑(1 : Fin 2) : Nat)).any fun n => decide (jsS.lnState n = lnCAPS)) = true)) ∧
    /- 5.3.1 -/ (jsS.jsGov (↑(1 : Fin 2) : Nat) = some 11 ∧ jsS.get (R.JS_CFG_VER 11) = 0 ∧ jsS.get (R.JS_CFG_DIR 11) = 0 ∧ (4 = 2 ^ jsS.get (R.JS_CFG_LCODE 11) ∧ 8 = jsS.get (R.JS_CFG_F 11) ∧ 32 = jsS.get (R.JS_CFG_KE 11))) ∧
    /- 5.3.2 -/ (jsS.jsGov (↑(1 : Fin 2) : Nat) = some 11 ∧ jsS.get (R.JS_CFG_VER 11) = 0 ∧ jsS.get (R.JS_CFG_DIR 11) = 0 ∧ 8 ≠ 2 ^ jsS.get (R.JS_CFG_LCODE 11)) ∧
    /- 5.4 -/ (jsS.jsGov (↑(1 : Fin 2) : Nat) = some 11 ∧ jsS.get (R.JS_CFG_VER 11) = 0 ∧ jsS.get (R.JS_CFG_DIR 11) = 0 ∧ 4 ≤ 4) ∧
    /- 5.5 -/ (w29.jsGov (↑(1 : Fin 2) : Nat) = some 11 ∧ w29.get (R.JS_CFG_VER 11) ≠ 0 ∧ w29.get (R.JS_CFG_DIR 11) = 0) ∧
    /- 7 -/ (stS.stReceives (↑(1 : Fin 2) : Nat) = true ∧ w30.length = 16 ∧ (stSu = stS.setStream (↑(1 : Fin 2) : Nat) (have __src := stS.stream (↑(1 : Fin 2) : Nat); { __src with rx := (stS.stream (↑(1 : Fin 2) : Nat)).rx ++ [List.map (fun d => d.toNat) w30] }))) ∧
    /- 8.1 -/ (swS.nocUp = true ∧ (93 = if (↑(1 : Fin 2) : Nat) = 0 then 61 else 93) ∧ (List.find? (fun r => decide (r.dest = 93) && true) swS.noc.rsps = some swR)) ∧
    /- 8.2 -/ (swS.nocUp = true ∧ (93 = if (↑(1 : Fin 2) : Nat) = 0 then 61 else 93) ∧ (List.find? (fun r => decide (r.dest = 93) && true) swS.noc.rsps = some swR) ∧ swS.nocQuiet ∧ (none : Option NocUpset) = none ∧ swR.resp / 4 = 93 / 4 ∧ swR.flits ≤ 4 ∧ swS.nocEnt (93 / 4) (swS.get (R.NOC_STATUS_EPOCH (93 / 4))) (93 / 4) = 0 ∧ swS.noc.catching = [] ∧ ((swS.noc.outst.any fun x => decide (x.id = swR.id)) = true) ∧ (swS.stream (↑(1 : Fin 2) : Nat)).busy = true ∧ (swS.stream (↑(1 : Fin 2) : Nat)).rx = [([1, 2] : List Nat)] ∧ swR.status = 0) ∧
    /- 9.1 -/ (w31.srcOk (↑s33 : Nat) = true ∧ (w31.get (R.ST_RX_WR_WR (10 + (↑(1 : Fin 2) : Nat))) + 2 ^ 32 - (0 : BitVec 32).toNat) % 2 ^ 32 < 2 ^ 31) ∧
    /- 9.2 -/ (w32.srcOk (↑s33 : Nat) = true ∧ 2 ^ 31 ≤ (w32.get (R.ST_RX_WR_WR (10 + (↑(1 : Fin 2) : Nat))) + 2 ^ 32 - (0 : BitVec 32).toNat) % 2 ^ 32) ∧
    /- 10.1 -/ (16 = (31 : BitVec 6).toNat + 1 - (0x10 : BitVec 12).toNat % 64 ∧ (0x10 : BitVec 12).toNat % 16 = 0 ∧ 16 % 16 = 0 ∧ 16 ≠ 0 ∧ w30.length = 16 ∧ (w18.stream (↑(1 : Fin 2) : Nat)).tx.length + 4 * 16 ≤ 16384) ∧
    /- 10.2 -/ (15 = (31 : BitVec 6).toNat + 1 - (0x11 : BitVec 12).toNat % 64 ∧ (0x11 : BitVec 12).toNat % 16 ≠ 0) ∧
    /- 11 -/ (w33.mode0 = 4 ∧ w33.get (R.ST_CFG_USE (10 + (↑(1 : Fin 2) : Nat))) = 2 ∧ w33.get (R.LL_STAT_UP (10 + (↑(1 : Fin 2) : Nat))) ≠ 0) ∧
    /- 11 -/ (stS.mode0 = 4 ∧ stS.get (R.ST_CFG_USE (10 + (↑(1 : Fin 2) : Nat))) = 2 ∧ stS.get (R.LL_STAT_UP (10 + (↑(1 : Fin 2) : Nat))) ≠ 0) := by
  and_intros <;> decide +kernel

end Sys2Proof.Tests.PartI
namespace Sys2Proof.Tests.PartJ
open Sys2Proof Sys2Proof.Machine
set_option Elab.async false

def peD (cfg : Nat) : Word64 := wd64 [(R.PE_CFG_CFG 7, cfg), (R.PE_CFG_RCV_DIV 7, 1), (R.PE_CFG_REF 7, 1)]
def ch31 : Fin 32 := 31
def chL (l : List (Fld × Nat)) : State := stw 4 ([(R.PE_CFG_CFG 7, 5), (R.CH_CFG_FEC 31, 1), (R.CH_CFG_MTU 31, 9600), (R.CH_CFG_END 31, 1)] ++ l)
def chD (fec mtu e : Nat) : Word64 := wd64 [(R.CH_CFG_FEC 31, fec), (R.CH_CFG_EN 31, 1), (R.CH_CFG_MTU 31, mtu), (R.CH_CFG_END 31, e)]
def todS : State := { st 4 with todS := some (2^48 + 7) }
def gr0 : GateRun := ⟨0, 0, 0, 0, [], []⟩
def gtS : State := (chL [(R.CH_QBV_CTRL_LEN_0 31, 1), (R.CH_QBV_CTRL_RUNNING 31, 1), (R.CH_QBV_CYCLE_CYCLE 31 0, 100 * 2^32), (R.CH_GCL_INTERVAL 31 0 0, 100), (R.CH_GCL_GATES 31 0 0, 0x80)]).setChan 31 { Chan.reset with gate := some gr0 }
def lq1S : State := chL []
def lq1bS : State := chL [(R.LOFT_CH_CAP 31, 1), (R.LOFT_CH_MIN 31, 0)]
def lq2S : State := st 3
def lq2bS : State := st 4
def lq2cS : State := chL []
def frS (q : Bool) (l : List (Fld × Nat)) : State := (chL l).putFrame 131071 ⟨[131071], q, 31, 2^17 + 5, 2^48 + 9⟩
def txE : TxEnt := ⟨131071, 60, 7, 1, false, 9⟩
def txS : State := (frS true [(R.CH_CFG_EN 31, 1), (R.CH_STAT_LINK 31, 1)]).setChan 31 { Chan.reset with tx := [txE] }
def rxS : State := (frS true []).setChan 31 { Chan.reset with rx := [(7, 131071)] }
def rxL : State := chL [(R.CH_CFG_EN 31, 1), (R.CH_STAT_LINK 31, 1), (R.CH_CFG_MTU 31, 64)]
def rxU : State := (rxL.bump (R.CH_CNT_FEC_CORR 31) 3).bump (R.CH_CNT_FEC_UNC 31) 0
def rxU1 : State := (rxL.bump (R.CH_CNT_FEC_CORR 31) 3).bump (R.CH_CNT_FEC_UNC 31) 1
def bodyN (n : Nat) : List Nat := List.replicate n 0
def frmN (n : Nat) : List (BitVec 8) := (bodyN n ++ toBytes 4 (crc32 (bodyN n))).map (BitVec.ofNat 8)
def rxLn : State := chL [(R.CH_CFG_EN 31, 1), (R.CH_STAT_LINK 31, 1), (R.LOFT_CH_CAP 31, 0)]
def rxLnU : State := (rxLn.bump (R.CH_CNT_FEC_CORR 31) 3).bump (R.CH_CNT_FEC_UNC 31) 0
def rxV : State := (rxU.takeCells 31 1).2
def rxV1 : State := (rxU1.takeCells 31 1).2
def rxC : List Nat := ((rxU.takeCells 31 1).1).getD []
def sndD : TxSend := ⟨txE, 5, true, false, [1, 2], 7⟩
def sndS : State := (frS true []).setChan 31 { Chan.reset with send := some sndD }
def gtS2 : State := { gtS with tp := { gtS.tp with acc := 250 * 2^32 } }
def grD : GateRun := ⟨0, 0, 0, 0, [], [(7, 131071)]⟩
def gdS : State := txS.setChan 31 { Chan.reset with tx := [txE], gate := some grD }
def gdS0 : State := txS.setChan 31 { Chan.reset with tx := [txE], gate := some gr0 }

def w1 : State := st 4
def w2 : State := stw 4 [(R.CH_CFG_EN 31, 1)]
def w3 : State := chL []
def w4 : State := chL [(R.CH_CFG_EN 31, 1)]
/-- The hypotheses of PortSettings are met: a witness for each clause, by its place in the statement. -/
theorem test_meets_PortSettings :
    /- 1.1 -/ (w1.peRefusal (↑s33 : Nat) (↑(7 : Fin 8) : Nat) (BitVec.toNat (peD 1 : Word64)) = none) ∧
    /- 1.2 -/ (w1.peRefusal (↑s33 : Nat) (↑(7 : Fin 8) : Nat) (BitVec.toNat (0 : Word64)) = some 1026) ∧
    /- 1.3 -/ (w1.srcOk (↑s1 : Nat) = false) ∧
    /- 1.4 -/ (w1.srcOk (↑s33 : Nat) = true ∧ bits (BitVec.toNat (peD 7 : Word64)) 0 3 = 7) ∧
    /- 1.5 -/ (w2.srcOk (↑s33 : Nat) = true ∧ bits (BitVec.toNat (peD 1 : Word64)) 0 3 ≠ 7 ∧ bits (BitVec.toNat (peD 1 : Word64)) 0 3 ≠ w2.peCfg (↑(7 : Fin 8) : Nat) ∧ w2.get (R.CH_CFG_EN (4 * (↑(7 : Fin 8) : Nat) + (↑(3 : Fin 4) : Nat))) ≠ 0) ∧
    /- 2.1 -/ (w3.srcOk (↑s33 : Nat) = true ∧ w3.chExists (↑ch31 : Nat) = true ∧ bits (BitVec.toNat (chD 0 64 0 : Word64)) 4 2 ≠ 3 ∧ 64 ≤ bits (BitVec.toNat (chD 0 64 0 : Word64)) 16 14 ∧ bits (BitVec.toNat (chD 0 64 0 : Word64)) 16 14 ≤ 9600 ∧ fecOk (w3.peCfg ((↑ch31 : Nat) / 4)) (bits (BitVec.toNat (chD 0 64 0 : Word64)) 0 2) = true ∧ w3.get (R.CH_CFG_EN (↑ch31 : Nat)) = 0) ∧
    /- 2.1 -/ (w4.srcOk (↑s33 : Nat) = true ∧ w4.chExists (↑ch31 : Nat) = true ∧ bits (BitVec.toNat (chD 1 9600 2 : Word64)) 4 2 ≠ 3 ∧ 64 ≤ bits (BitVec.toNat (chD 1 9600 2 : Word64)) 16 14 ∧ bits (BitVec.toNat (chD 1 9600 2 : Word64)) 16 14 ≤ 9600 ∧ fecOk (w4.peCfg ((↑ch31 : Nat) / 4)) (bits (BitVec.toNat (chD 1 9600 2 : Word64)) 0 2) = true ∧ w4.get (R.CH_CFG_FEC (↑ch31 : Nat)) = bits (BitVec.toNat (chD 1 9600 2 : Word64)) 0 2) ∧
    /- 2.2 -/ (w4.srcOk (↑s33 : Nat) = true ∧ w4.chExists (↑ch31 : Nat) = true ∧ bits (BitVec.toNat (chD 0 9600 2 : Word64)) 4 2 ≠ 3 ∧ 64 ≤ bits (BitVec.toNat (chD 0 9600 2 : Word64)) 16 14 ∧ bits (BitVec.toNat (chD 0 9600 2 : Word64)) 16 14 ≤ 9600 ∧ fecOk (w4.peCfg ((↑ch31 : Nat) / 4)) (bits (BitVec.toNat (chD 0 9600 2 : Word64)) 0 2) = true ∧ w4.get (R.CH_CFG_EN (↑ch31 : Nat)) ≠ 0 ∧ w4.get (R.CH_CFG_FEC (↑ch31 : Nat)) ≠ bits (BitVec.toNat (chD 0 9600 2 : Word64)) 0 2) ∧
    /- 3.1 -/ (w3.srcOk (↑s1 : Nat) = false) ∧
    /- 3.2 -/ (w3.srcOk (↑s33 : Nat) = true ∧ 9600 < bits (BitVec.toNat (chD 0 9601 2 : Word64)) 16 14) ∧
    /- 3.2 -/ (w3.srcOk (↑s33 : Nat) = true ∧ bits (BitVec.toNat (chD 3 9600 2 : Word64)) 0 2 = 3) ∧
    /- 3.2 -/ (w1.srcOk (↑s33 : Nat) = true ∧ w1.chExists (↑ch31 : Nat) = false) ∧
    /- 4.1 -/ (w1.srcOk (↑s33 : Nat) = true ∧ 131072 < bits (BitVec.toNat (0x0002000100000000 : Word64)) 32 18) ∧
    /- 4.1 -/ (w1.srcOk (↑s33 : Nat) = true ∧ bits (BitVec.toNat (0x0000000100000002 : Word64)) 32 18 < bits (BitVec.toNat (0x0000000100000002 : Word64)) 0 18) ∧
    /- 4.2 -/ (w1.srcOk (↑s33 : Nat) = true ∧ bits (BitVec.toNat (0x0002000000020000 : Word64)) 0 18 ≤ bits (BitVec.toNat (0x0002000000020000 : Word64)) 32 18 ∧ 0 < bits (BitVec.toNat (0x0002000000020000 : Word64)) 32 18 ∧ bits (BitVec.toNat (0x0002000000020000 : Word64)) 32 18 ≤ 131072 ∧ (List.foldl (fun a c => a + if c = (↑ch31 : Nat) then bits (BitVec.toNat (0x0002000000020000 : Word64)) 0 18 else w1.get (R.LOFT_CH_MIN c)) 0 (List.range 32) ≤ 131072)) ∧
    /- 4.2 -/ (w1.srcOk (↑s33 : Nat) = true ∧ bits (BitVec.toNat (0x0000000100000001 : Word64)) 0 18 ≤ bits (BitVec.toNat (0x0000000100000001 : Word64)) 32 18 ∧ 0 < bits (BitVec.toNat (0x0000000100000001 : Word64)) 32 18 ∧ bits (BitVec.toNat (0x0000000100000001 : Word64)) 32 18 ≤ 131072 ∧ (List.foldl (fun a c => a + if c = (↑ch31 : Nat) then bits (BitVec.toNat (0x0000000100000001 : Word64)) 0 18 else w1.get (R.LOFT_CH_MIN c)) 0 (List.range 32) ≤ 131072)) ∧
    /- 5.1 -/ (w1.srcOk (↑s33 : Nat) = true) ∧
    /- 5.2 -/ (w1.srcOk (↑s33 : Nat) = true ∧ 999999999 < bits (BitVec.toNat (1000000000 : Word64)) 0 30) ∧
    /- 5.3 -/ (todS.srcOk (↑s33 : Nat) = true ∧ bits (BitVec.toNat (0xFFFF3B9AC9FF : Word64)) 0 30 ≤ 999999999) ∧
    /- 6.1 -/ (w3.srcOk (↑s33 : Nat) = true ∧ w3.chExists (↑ch31 : Nat) = true ∧ 256 < bits (0x10100 : BitVec 32).toNat 8 9) ∧
    /- 6.1 -/ (w3.srcOk (↑s33 : Nat) = true ∧ w3.chExists (↑ch31 : Nat) = true ∧ 256 < bits (0x2020000 : BitVec 32).toNat 17 9) ∧
    /- 6.2 -/ (w3.srcOk (↑s33 : Nat) = true ∧ w3.chExists (↑ch31 : Nat) = true ∧ bits (0x2010001 : BitVec 32).toNat 8 9 ≤ 256 ∧ bits (0x2010001 : BitVec 32).toNat 17 9 ≤ 256 ∧ (w3.chan (↑ch31 : Nat)).gate = none) ∧
    /- 6.3 -/ (gtS.srcOk (↑s33 : Nat) = true ∧ gtS.chExists (↑ch31 : Nat) = true ∧ bits (0x100 : BitVec 32).toNat 8 9 = gtS.get (R.CH_QBV_CTRL_LEN_0 (↑ch31 : Nat)) ∧ bits (0x100 : BitVec 32).toNat 17 9 = gtS.get (R.CH_QBV_CTRL_LEN_1 (↑ch31 : Nat)) ∧ bits (0x100 : BitVec 32).toNat 8 9 ≤ 256 ∧ bits (0x100 : BitVec 32).toNat 17 9 ≤ 256 ∧ (gtS.chan (↑ch31 : Nat)).gate = some gr0 ∧ bit (0x100 : BitVec 32).toNat 0 = 0) ∧
    /- 7.1 -/ (gtS.srcOk (↑s33 : Nat) = true ∧ gtS.chExists (↑ch31 : Nat) = true ∧ (gtS.chan (↑ch31 : Nat)).gate = some gr0 ∧ gr0.bank = (↑(0 : Fin 2) : Nat)) ∧
    /- 7.2 -/ (w3.srcOk (↑s33 : Nat) = true ∧ w3.chExists (↑ch31 : Nat) = true ∧ (w3.chan (↑ch31 : Nat)).gate = none ∧ bits (BitVec.toNat (0x1FF : Word64)) 8 24 ≠ 0) ∧
    /- 7.3 -/ (w3.srcOk (↑s33 : Nat) = true ∧ w3.chExists (↑ch31 : Nat) = true ∧ (w3.chan (↑ch31 : Nat)).gate = none ∧ bits (BitVec.toNat (0xFF : Word64)) 8 24 = 0) ∧
    /- 7.4 -/ (w3.srcOk (↑s33 : Nat) = true ∧ w3.chExists (↑ch31 : Nat) = true ∧ (w3.chan (↑ch31 : Nat)).gate = none ∧ 100 * 2 ^ 32 ≤ BitVec.toNat (0x7FFFFFFFFFFFFFFF : Word64) ∧ BitVec.toNat (0x7FFFFFFFFFFFFFFF : Word64) < 2 ^ 63) := by
  and_intros <;> decide +kernel

def w5 : State := lq1S.commit R.LOFT_CMD_OP.addr
def w6 : State := lq1bS.commit R.LOFT_CMD_OP.addr
def w7 : State := lq2S.commit R.LOFT_CMD_OP.addr
def w8 : State := lq2bS.commit R.LOFT_CMD_OP.addr
def w9 : State := lq2cS.commit R.LOFT_CMD_OP.addr
def w10 : State := frS false []
def w11 : State := frS true []
def w11s : State := (frS true []).sets [(R.DEV_MODE_MODE, 5)]
def w12 : State := frS false [(R.CH_CFG_EN 31, 1)]
def w13 : Word64 := (131071 + 256 * 2^17 + 7 * 2^31 + 3 * 2^34)
def w14 : State := { chL [] with pops := [((R.CH_TXTS_POP_ID 31).addr, [2^64 * 5 + 7, 9])] }
/-- The hypotheses of LoftAndQueues are met: a witness for each clause, by its place in the statement. -/
theorem test_meets_LoftAndQueues :
    /- 1.1 -/ (w5 = lq1S.commit R.LOFT_CMD_OP.addr ∧ lq1S.mode0 = 4 ∧ lq1S.chExists (↑ch31 : Nat) = true ∧ 14 ≤ (9596 : BitVec 14).toNat ∧ (9596 : BitVec 14).toNat ≤ 9596) ∧
    /- 1.1 -/ (w6 = lq1bS.commit R.LOFT_CMD_OP.addr ∧ lq1bS.mode0 = 4 ∧ lq1bS.chExists (↑ch31 : Nat) = true ∧ 14 ≤ (257 : BitVec 14).toNat ∧ (257 : BitVec 14).toNat ≤ 9596) ∧
    /- 1.2 -/ (w7 = lq2S.commit R.LOFT_CMD_OP.addr ∧ lq2S.mode0 ≠ 4) ∧
    /- 1.2 -/ (w8 = lq2bS.commit R.LOFT_CMD_OP.addr ∧ (lq2bS.mode0 = 4 ∧ lq2bS.chExists (↑ch31 : Nat) = false)) ∧
    /- 1.2 -/ (w9 = lq2cS.commit R.LOFT_CMD_OP.addr ∧ (lq2cS.mode0 = 4 ∧ lq2cS.chExists (↑ch31 : Nat) = true ∧ (13 : BitVec 14).toNat < 14)) ∧
    /- 2.1 -/ (w10.heldHead (131071 : BitVec 17).toNat = true) ∧
    /- 2.2 -/ (w11.heldHead (131071 : BitVec 17).toNat = false) ∧
    /- 3.1 -/ (txS.chExists (↑ch31 : Nat) = true) ∧
    /- 3.2 -/ (w1.chExists (↑ch31 : Nat) = false) ∧
    /- 4.1 -/ (w12.chExists (↑ch31 : Nat) = true ∧ w12.heldHead (bits (BitVec.toNat w13) 0 17) = true ∧ bits (BitVec.toNat w13) 17 14 ≤ 256 * (w12.loftFrame (bits (BitVec.toNat w13) 0 17)).cells.length ∧ 14 ≤ bits (BitVec.toNat w13) 17 14 ∧ bits (BitVec.toNat w13) 17 14 ≤ 9596 ∧ bits (BitVec.toNat w13) 34 3 < 4 ∧ w12.get (R.CH_CFG_EN (↑ch31 : Nat)) ≠ 0 ∧ w12.mode0 = 4) ∧
    /- 4.2 -/ (w11.chExists (↑ch31 : Nat) = true ∧ w11.heldHead (bits (BitVec.toNat (131071 : Word64)) 0 17) = false ∧ w11.mode0 = 4) ∧
    /- 4.3 -/ (w11s.chExists (↑ch31 : Nat) = true ∧ w11s.mode0 ≠ 4) ∧
    /- 5.1 -/ ((List.find? (fun e => decide (e.fst = (↑(7 : Fin 8) : Nat))) (w1.chan (↑ch31 : Nat)).rx = none)) ∧
    /- 5.2 -/ ((List.find? (fun e => decide (e.fst = (↑(7 : Fin 8) : Nat))) (rxS.chan (↑ch31 : Nat)).rx = some ((7, 131071) : Nat × Nat))) ∧
    /- 6.1 -/ (w1.queue (R.CH_TXTS_POP_ID (↑ch31 : Nat)).addr = []) ∧
    /- 6.2 -/ (w14.queue (R.CH_TXTS_POP_ID (↑ch31 : Nat)).addr = (2 ^ 64 * 5 + 7) :: ([9] : List Nat)) := by
  and_intros <;> decide +kernel

def w15 : State := chL [(R.LN_STAT_STATE 31, 6)]
def w16 : State := chL [(R.LN_STAT_STATE 31, 5), (R.CH_STAT_LINK 31, 1), (R.PE_STATUS_LINK 7, 15)]
def w17 : State := (rxLnU.takeCells 31 1).2
/-- The hypotheses of FramesAndGates are met: a witness for each clause, by its place in the statement. -/
theorem test_meets_FramesAndGates :
    /- 1.1 -/ (w15.mode0 = 4 ∧ w15.devClk 14 = true ∧ w15.chExists (↑ch31 : Nat) = true ∧ (((w15.chLanes (↑ch31 : Nat)).all fun n => decide (w15.lnState n = lnACTIVE)) = true)) ∧
    /- 1.2 -/ (w16.hpActive ((↑ch31 : Nat) / 4) = false ∧ (((w16.chLanes (↑ch31 : Nat)).all fun n => decide (w16.lnState n = lnACTIVE)) = false)) ∧
    /- 2.1 -/ (rxLnU = (rxLn.bump (R.CH_CNT_FEC_CORR (↑ch31 : Nat)) 3).bump (R.CH_CNT_FEC_UNC (↑ch31 : Nat)) 0 ∧ rxLn.mode0 = 4 ∧ rxLn.devClk 14 = true ∧ rxLn.chExists (↑ch31 : Nat) = true ∧ rxLn.get (R.CH_CFG_EN (↑ch31 : Nat)) ≠ 0 ∧ rxLn.get (R.CH_STAT_LINK (↑ch31 : Nat)) ≠ 0 ∧ rxLnU.takeCells (↑ch31 : Nat) (((frmN 60 : List (BitVec 8)).length - 4 + 255) / 256) = (none, w17)) ∧
    /- 2.2.1 -/ (rxU1 = (rxL.bump (R.CH_CNT_FEC_CORR (↑ch31 : Nat)) 3).bump (R.CH_CNT_FEC_UNC (↑ch31 : Nat)) 1 ∧ rxL.mode0 = 4 ∧ rxL.devClk 14 = true ∧ rxL.chExists (↑ch31 : Nat) = true ∧ rxL.get (R.CH_CFG_EN (↑ch31 : Nat)) ≠ 0 ∧ rxL.get (R.CH_STAT_LINK (↑ch31 : Nat)) ≠ 0 ∧ rxU1.takeCells (↑ch31 : Nat) (((frmN 60 : List (BitVec 8)).length - 4 + 255) / 256) = (some rxC, rxV1) ∧ ((bodyN 60 : List Nat) = List.take ((frmN 60 : List (BitVec 8)).length - 4) (List.map (fun x => x.toNat) (frmN 60 : List (BitVec 8)))) ∧ 1 ≠ 0) ∧
    /- 2.2.2 -/ (rxU = (rxL.bump (R.CH_CNT_FEC_CORR (↑ch31 : Nat)) 3).bump (R.CH_CNT_FEC_UNC (↑ch31 : Nat)) 0 ∧ rxL.mode0 = 4 ∧ rxL.devClk 14 = true ∧ rxL.chExists (↑ch31 : Nat) = true ∧ rxL.get (R.CH_CFG_EN (↑ch31 : Nat)) ≠ 0 ∧ rxL.get (R.CH_STAT_LINK (↑ch31 : Nat)) ≠ 0 ∧ rxU.takeCells (↑ch31 : Nat) (((frmN 59 : List (BitVec 8)).length - 4 + 255) / 256) = (some rxC, rxV) ∧ ((bodyN 59 : List Nat) = List.take ((frmN 59 : List (BitVec 8)).length - 4) (List.map (fun x => x.toNat) (frmN 59 : List (BitVec 8)))) ∧ (crc32 (bodyN 59 : List Nat) = ofBytes (List.drop ((frmN 59 : List (BitVec 8)).length - 4) (List.map (fun x => x.toNat) (frmN 59 : List (BitVec 8))))) ∧ (frmN 59 : List (BitVec 8)).length < 64) ∧
    /- 2.2.2 -/ (rxU = (rxL.bump (R.CH_CNT_FEC_CORR (↑ch31 : Nat)) 3).bump (R.CH_CNT_FEC_UNC (↑ch31 : Nat)) 0 ∧ rxL.mode0 = 4 ∧ rxL.devClk 14 = true ∧ rxL.chExists (↑ch31 : Nat) = true ∧ rxL.get (R.CH_CFG_EN (↑ch31 : Nat)) ≠ 0 ∧ rxL.get (R.CH_STAT_LINK (↑ch31 : Nat)) ≠ 0 ∧ rxU.takeCells (↑ch31 : Nat) (((frmN 61 : List (BitVec 8)).length - 4 + 255) / 256) = (some rxC, rxV) ∧ ((bodyN 61 : List Nat) = List.take ((frmN 61 : List (BitVec 8)).length - 4) (List.map (fun x => x.toNat) (frmN 61 : List (BitVec 8)))) ∧ (crc32 (bodyN 61 : List Nat) = ofBytes (List.drop ((frmN 61 : List (BitVec 8)).length - 4) (List.map (fun x => x.toNat) (frmN 61 : List (BitVec 8))))) ∧ rxL.get (R.CH_CFG_MTU (↑ch31 : Nat)) < (frmN 61 : List (BitVec 8)).length) ∧
    /- 2.2.3 -/ (rxU = (rxL.bump (R.CH_CNT_FEC_CORR (↑ch31 : Nat)) 3).bump (R.CH_CNT_FEC_UNC (↑ch31 : Nat)) 0 ∧ rxL.mode0 = 4 ∧ rxL.devClk 14 = true ∧ rxL.chExists (↑ch31 : Nat) = true ∧ rxL.get (R.CH_CFG_EN (↑ch31 : Nat)) ≠ 0 ∧ rxL.get (R.CH_STAT_LINK (↑ch31 : Nat)) ≠ 0 ∧ rxU.takeCells (↑ch31 : Nat) (((frmN 60 : List (BitVec 8)).length - 4 + 255) / 256) = (some rxC, rxV) ∧ ((bodyN 60 : List Nat) = List.take ((frmN 60 : List (BitVec 8)).length - 4) (List.map (fun x => x.toNat) (frmN 60 : List (BitVec 8)))) ∧ (crc32 (bodyN 60 : List Nat) = ofBytes (List.drop ((frmN 60 : List (BitVec 8)).length - 4) (List.map (fun x => x.toNat) (frmN 60 : List (BitVec 8))))) ∧ 64 ≤ (frmN 60 : List (BitVec 8)).length ∧ (frmN 60 : List (BitVec 8)).length ≤ rxL.get (R.CH_CFG_MTU (↑ch31 : Nat)) ∧ isEcpri (bodyN 60 : List Nat) = false) ∧
    /- 3 -/ (w1.chExists (↑ch31 : Nat) = false) ∧
    /- 4 -/ (txS.mode0 = 4 ∧ txS.devClk 14 = true ∧ txS.chExists (↑ch31 : Nat) = true ∧ txS.get (R.CH_CFG_EN (↑ch31 : Nat)) ≠ 0 ∧ txS.get (R.CH_STAT_LINK (↑ch31 : Nat)) ≠ 0 ∧ (txS.chan (↑ch31 : Nat)).send = none ∧ (List.find? (fun y => decide (y.queue = 7)) (txS.chan (↑ch31 : Nat)).tx = some txE) ∧ txS.gateAdmits (↑ch31 : Nat) 7 txE.len (txS.widen (77 : BitVec 48).toNat) = true ∧ txE.tsMode < 2 ∧ txE.gen = false ∧ 60 ≤ txE.len) ∧
    /- 5.1 -/ ((txS.chan (↑ch31 : Nat)).send = none) ∧
    /- 5.2 -/ ((sndS.chan (↑ch31 : Nat)).send = some sndD ∧ sndS.hpActive ((↑ch31 : Nat) / 4) = false) ∧
    /- 6.1 -/ ((txS.chan (↑ch31 : Nat)).gate = none) ∧
    /- 6.2 -/ ((gtS2.chan (↑ch31 : Nat)).gate = some gr0) ∧
    /- 7.1 -/ ((gdS0.chan (↑ch31 : Nat)).gate = some gr0 ∧ (List.find? (fun h => decide (h.fst = (↑(7 : Fin 8) : Nat))) (gdS0.chan (↑ch31 : Nat)).heads = some ((7, 131071) : Nat × Nat)) ∧ gr0.due.contains ((7, 131071) : Nat × Nat) = false) ∧
    /- 7.2 -/ ((gdS.chan (↑ch31 : Nat)).gate = some grD ∧ (List.find? (fun h => decide (h.fst = (↑(7 : Fin 8) : Nat))) (gdS.chan (↑ch31 : Nat)).heads = some ((7, 131071) : Nat × Nat)) ∧ grD.due.contains ((7, 131071) : Nat × Nat) = true) := by
  and_intros <;> first | decide +kernel | rfl

end Sys2Proof.Tests.PartJ
namespace Sys2Proof.Tests.PartK
open Sys2Proof Sys2Proof.Machine
set_option Elab.async false

def hlB : List (Fld × Nat) := [(R.HL_STATUS_UP, 1), (R.HL_STATUS_BME, 1)]
def evr : EvRec := ⟨1, 0x0613, false, true, 2^47, 65537, 15, 3, 4, [9]⟩
def evS : State := (stw 4 (hlB ++ [(R.EV_CFG_EN 3, 1), (R.EV_CFG_LOG2 3, 4), (R.EV_TAIL_TAIL 3, 2^32-1), (R.EV_HEAD_HEAD 3, 2^32-16), (R.EV_CFG_VEC 3, 63), (R.EV_BASE_BASE 3, 4096), (R.EV_CFG_IM_CNT 3, 1)])).setRing 3 ⟨[evr], 0, false, 1, 0⟩
def evE : State := stw 4 [(R.EV_CFG_LOG2 3, 16), (R.EV_CFG_IM_CNT 3, 1)]
def dmS : State := stw 4 (hlB ++ [(R.DMA_CFG_LOG2 3, 12)])
def dmE : State := stw 4 (hlB ++ [(R.DMA_CFG_LOG2 3, 4), (R.DMA_CFG_EN 3, 1), (R.DMA_STAT_STATE 3, 2), (R.DMA_PI_PI 3, 0), (R.DMA_CI_CI 3, 2^32-16), (R.DMA_CFG_RING 3, 3)])
def dmJ : DmaJob := ⟨0x1000, 0x38400000000 * 0 + 56 * 2^38 + 2^36, 64, 2, 7, 2^32-16⟩
def dmR : State := dmE.setJob 3 (some dmJ)
def dmB : DmaJob := ⟨0x1000, 0, 16777220, 0, 7, 2^32-1⟩
def dmU : DmaJob := ⟨0x1002, 0, 64, 0, 7, 2^32-1⟩
def hlS (m : Nat) (l : List (Fld × Nat)) : State := { stw m l with mode := { (st m).mode with straps := 0xE0 } }
def hlM : State := { hlS 4 hlB with hl := { State.reset.hl with memEn := true } }
def hlB2 : State := { hlM with hl := { hlM.hl with memEn := true } }
def hbX : State × List (Nat × Nat × Option (Nat × List Nat)) := hlB2.barIssue true none 3 ((hlB2.get (R.HL_APT_BASE 0)) * 2 ^ 24 + 252) 2 [1, 0]

def w1 : State := evS.set (R.EV_HEAD_HEAD 3) (2^32-17)
def w2 : State := evS.set R.HL_STATUS_BME 0
def w3 : State := { evS with hl := { evS.hl with msixTab := [(255, 1)] } }
def w4 : State := { st 4 with hl := { State.reset.hl with msixTab := [(255, 1)] } }
def w5 : State := st 4
/-- The hypotheses of EventRingsAndMessages are met: a witness for each clause, by its place in the statement. -/
theorem test_meets_EventRingsAndMessages :
    /- 1.1 -/ ((evS.ring (↑(3 : Fin 4) : Nat)).fifo = evr :: ([] : List EvRec) ∧ evS.hlMaster = true ∧ evS.get (R.EV_CFG_EN (↑(3 : Fin 4) : Nat)) ≠ 0 ∧ evS.ringHost (↑(3 : Fin 4) : Nat) < 2 ^ evS.get (R.EV_CFG_LOG2 (↑(3 : Fin 4) : Nat))) ∧
    /- 1.2 -/ ((w1.ring (↑(3 : Fin 4) : Nat)).fifo = evr :: ([] : List EvRec) ∧ 2 ^ w1.get (R.EV_CFG_LOG2 (↑(3 : Fin 4) : Nat)) ≤ w1.ringHost (↑(3 : Fin 4) : Nat)) ∧
    /- 1.2 -/ ((w2.ring (↑(3 : Fin 4) : Nat)).fifo = evr :: ([] : List EvRec) ∧ w2.hlMaster = false) ∧
    /- 2.1 -/ (evS.srcOk (↑s1 : Nat) = false) ∧
    /- 2.2 -/ (evS.srcOk (↑s33 : Nat) = true ∧ (evS.get (R.EV_TAIL_TAIL (↑(3 : Fin 4) : Nat)) + 2 ^ 32 - (0xFFFFFFF0 : BitVec 32).toNat) % 2 ^ 32 ≤ evS.ringHost (↑(3 : Fin 4) : Nat)) ∧
    /- 2.3 -/ (evS.srcOk (↑s33 : Nat) = true ∧ evS.ringHost (↑(3 : Fin 4) : Nat) < (evS.get (R.EV_TAIL_TAIL (↑(3 : Fin 4) : Nat)) + 2 ^ 32 - (0 : BitVec 32).toNat) % 2 ^ 32) ∧
    /- 3.1 -/ (w3.hlMaster = true ∧ w3.ringDue (↑(3 : Fin 4) : Nat) = true ∧ w3.msixMasked (w3.get (R.EV_CFG_VEC (↑(3 : Fin 4) : Nat))) = false) ∧
    /- 3.2 -/ (evS.hlMaster = true ∧ evS.ringDue (↑(3 : Fin 4) : Nat) = true ∧ evS.msixMasked (evS.get (R.EV_CFG_VEC (↑(3 : Fin 4) : Nat))) = true ∧ bit evS.hl.msixPend (evS.get (R.EV_CFG_VEC (↑(3 : Fin 4) : Nat))) = 0) ∧
    /- 5.1 -/ ((↑s33 : Nat) ≠ 97) ∧
    /- 5.2 -/ ((↑s97 : Nat) = 97 ∧ w3.hlMaster = true ∧ w3.msixMasked (↑(63 : Fin 64) : Nat) = false) ∧
    /- 5.3 -/ ((↑s97 : Nat) = 97 ∧ w4.hlMaster = false ∧ w4.msixMasked (↑(63 : Fin 64) : Nat) = false) ∧
    /- 5.4 -/ ((↑s97 : Nat) = 97 ∧ evS.msixMasked (↑(63 : Fin 64) : Nat) = true) ∧
    /- 6.1 -/ (evE.word [R.EV_CFG_LOG2 3, R.EV_CFG_VEC 3, R.EV_CFG_IM_CNT 3, R.EV_CFG_IM_US 3, R.EV_CFG_TYPEMASK 3, R.EV_CFG_BLOCKS 3] = evE.word [R.EV_CFG_LOG2 (↑(3 : Fin 4) : Nat), R.EV_CFG_VEC (↑(3 : Fin 4) : Nat), R.EV_CFG_IM_CNT (↑(3 : Fin 4) : Nat), R.EV_CFG_IM_US (↑(3 : Fin 4) : Nat), R.EV_CFG_TYPEMASK (↑(3 : Fin 4) : Nat), R.EV_CFG_BLOCKS (↑(3 : Fin 4) : Nat)] ∧ evE.srcOk (↑s33 : Nat) = true ∧ evE.get (R.EV_CFG_EN (↑(3 : Fin 4) : Nat)) = 0 ∧ 4 ≤ bits (evE.word [R.EV_CFG_LOG2 3, R.EV_CFG_VEC 3, R.EV_CFG_IM_CNT 3, R.EV_CFG_IM_US 3, R.EV_CFG_TYPEMASK 3, R.EV_CFG_BLOCKS 3] + 1) 1 5 ∧ bits (evE.word [R.EV_CFG_LOG2 3, R.EV_CFG_VEC 3, R.EV_CFG_IM_CNT 3, R.EV_CFG_IM_US 3, R.EV_CFG_TYPEMASK 3, R.EV_CFG_BLOCKS 3] + 1) 1 5 ≤ 16 ∧ bits (evE.word [R.EV_CFG_LOG2 3, R.EV_CFG_VEC 3, R.EV_CFG_IM_CNT 3, R.EV_CFG_IM_US 3, R.EV_CFG_TYPEMASK 3, R.EV_CFG_BLOCKS 3] + 1) 12 8 ≠ 0) ∧
    /- 6.2 -/ ((st 4).word [R.EV_CFG_LOG2 0, R.EV_CFG_VEC 0, R.EV_CFG_IM_CNT 0, R.EV_CFG_IM_US 0, R.EV_CFG_TYPEMASK 0, R.EV_CFG_BLOCKS 0] = w5.word [R.EV_CFG_LOG2 (↑(0 : Fin 4) : Nat), R.EV_CFG_VEC (↑(0 : Fin 4) : Nat), R.EV_CFG_IM_CNT (↑(0 : Fin 4) : Nat), R.EV_CFG_IM_US (↑(0 : Fin 4) : Nat), R.EV_CFG_TYPEMASK (↑(0 : Fin 4) : Nat), R.EV_CFG_BLOCKS (↑(0 : Fin 4) : Nat)] ∧ w5.srcOk (↑s1 : Nat) = false) := by
  and_intros <;> decide +kernel

def w6 : List (BitVec 32) := [1, 2, 3, 4, 5, 6, 7, 8, 9, 10, 11, 12, 13, 14, 15, 16]
def w7 : State := dmE.setJob 3 (some dmB)
def w8 : State := dmE.setJob 3 (some dmU)
/-- The hypotheses of DmaEngines are met: a witness for each clause, by its place in the statement. -/
theorem test_meets_DmaEngines :
    /- 1.1 -/ (dmS.word [R.DMA_CFG_LOG2 3, R.DMA_CFG_RING 3] = dmS.word [R.DMA_CFG_LOG2 (↑(3 : Fin 4) : Nat), R.DMA_CFG_RING (↑(3 : Fin 4) : Nat)] ∧ dmS.srcOk (↑s33 : Nat) = true ∧ 4 ≤ bits (dmS.word [R.DMA_CFG_LOG2 3, R.DMA_CFG_RING 3]) 1 4 ∧ bits (dmS.word [R.DMA_CFG_LOG2 3, R.DMA_CFG_RING 3]) 1 4 ≤ 12 ∧ dmS.get (R.DMA_CFG_EN (↑(3 : Fin 4) : Nat)) = 0) ∧
    /- 1.2 -/ (dmE.word [R.DMA_CFG_LOG2 3, R.DMA_CFG_RING 3] = dmE.word [R.DMA_CFG_LOG2 (↑(3 : Fin 4) : Nat), R.DMA_CFG_RING (↑(3 : Fin 4) : Nat)] ∧ dmE.srcOk (↑s33 : Nat) = true ∧ 4 ≤ bits (dmE.word [R.DMA_CFG_LOG2 3, R.DMA_CFG_RING 3]) 1 4 ∧ bits (dmE.word [R.DMA_CFG_LOG2 3, R.DMA_CFG_RING 3]) 1 4 ≤ 12 ∧ bits (dmE.word [R.DMA_CFG_LOG2 3, R.DMA_CFG_RING 3]) 1 4 = dmE.get (R.DMA_CFG_LOG2 (↑(3 : Fin 4) : Nat)) ∧ dmE.dmaJob (↑(3 : Fin 4) : Nat) = none) ∧
    /- 2.1 -/ (dmE.srcOk (↑s33 : Nat) = true ∧ ((0 : BitVec 32).toNat + 2 ^ 32 - dmE.get (R.DMA_CI_CI (↑(3 : Fin 4) : Nat))) % 2 ^ 32 ≤ 2 ^ dmE.get (R.DMA_CFG_LOG2 (↑(3 : Fin 4) : Nat))) ∧
    /- 2.2 -/ (dmE.srcOk (↑s33 : Nat) = true ∧ 2 ^ dmE.get (R.DMA_CFG_LOG2 (↑(3 : Fin 4) : Nat)) < ((1 : BitVec 32).toNat + 2 ^ 32 - dmE.get (R.DMA_CI_CI (↑(3 : Fin 4) : Nat))) % 2 ^ 32) ∧
    /- 2.3 -/ (dmE.srcOk (↑s1 : Nat) = false) ∧
    /- 3.1 -/ (dmE.hlMaster = true ∧ dmE.get (R.DMA_CFG_EN (↑(3 : Fin 4) : Nat)) ≠ 0 ∧ dmE.dmaJob (↑(3 : Fin 4) : Nat) = none ∧ dmE.get (R.DMA_STAT_STATE (↑(3 : Fin 4) : Nat)) = dmaRUN ∧ dmE.dmaWaiting (↑(3 : Fin 4) : Nat) (dmE.get (R.DMA_PI_PI (↑(3 : Fin 4) : Nat))) ≠ 0) ∧
    /- 3.2 -/ (w5.hlMaster = false) ∧
    /- 4.1 -/ (dmR.dmaJob (↑(3 : Fin 4) : Nat) = some dmJ ∧ dmR.hlMaster = true ∧ dmR.nocUp = true ∧ dmJ.fault = none ∧ ((dmR.dmaRun dmJ (List.map (fun d => d.toNat) w6) (dmJ.len / 4) false (none : Option NocUpset)).snd.fst = 0) ∧ dmR.get (R.DMA_CFG_EN (↑(3 : Fin 4) : Nat)) ≠ 0) ∧
    /- 4.2 -/ (w7.dmaJob (↑(3 : Fin 4) : Nat) = some dmB ∧ w7.hlMaster = true ∧ w7.nocUp = true ∧ dmB.fault = some 2833) ∧
    /- 4.3 -/ (w8.dmaJob (↑(3 : Fin 4) : Nat) = some dmU ∧ w8.hlMaster = true ∧ w8.nocUp = true ∧ dmU.host % 4 ≠ 0) ∧
    /- 5.1 -/ (w5.srcOk (↑s1 : Nat) = false) ∧
    /- 5.2 -/ (w5.srcOk (↑s33 : Nat) = true ∧ (0x0B8 : BitVec 12).toNat = 64 + 8 * (↑(15 : Fin 16) : Nat)) ∧
    /- 5.3.1 -/ (w5.srcOk (↑s33 : Nat) = true ∧ (0x1C0 : BitVec 12).toNat = 256 + 64 * (↑(3 : Fin 4) : Nat) ∧ BitVec.toNat (0xFFF : Word64) % 4096 ≠ 0) ∧
    /- 5.3.2 -/ (w5.srcOk (↑s33 : Nat) = true ∧ (0x1C0 : BitVec 12).toNat = 256 + 64 * (↑(3 : Fin 4) : Nat) ∧ BitVec.toNat (0xFFFFFFFFFFFFF000 : Word64) % 4096 = 0 ∧ w5.get (R.EV_CFG_EN (↑(3 : Fin 4) : Nat)) = 0) := by
  and_intros <;> decide +kernel

def w9 : State := hlS 4 []
def w10 : State := hlS 4 [(R.HL_STATUS_UP, 1)]
def w11 : State := hlS 4 hlB
/-- The hypotheses of HostLinkAccesses are met: a witness for each clause, by its place in the statement. -/
theorem test_meets_HostLinkAccesses :
    /- 1.1 -/ (w9.hlEn = true ∧ w9.devClk 14 = true ∧ w9.inMode [mOFF, mSTANDBY] = false ∧ w9.get R.HL_STATUS_UP = 0 ∧ w9.mode.quiet = false ∧ (5 : Fin 6) ≠ 0 ∧ (↑(3 : Fin 4) : Nat) ≤ w9.hlWidth) ∧
    /- 1.2 -/ ((0 : Fin 6) = 0) ∧
    /- 1.2 -/ (w10.get R.HL_STATUS_UP ≠ 0) ∧
    /- 2 -/ (dmR.inMode [mOFF, mSTANDBY] = false ∧ dmR.get R.HL_STATUS_UP ≠ 0) ∧
    /- 2 -/ (dmR.inMode [mOFF, mSTANDBY] = false ∧ dmR.get R.HL_STATUS_UP ≠ 0) ∧
    /- 3.1 -/ (w5.get R.HL_STATUS_UP = 0) ∧
    /- 3.2 -/ (w10.get R.HL_STATUS_UP ≠ 0 ∧ (0 : BitVec 10).toNat = 0) ∧
    /- 3.3 -/ (w10.get R.HL_STATUS_UP ≠ 0 ∧ (1 : BitVec 10).toNat = 1) ∧
    /- 3.4 -/ (w10.get R.HL_STATUS_UP ≠ 0 ∧ (4 : BitVec 10).toNat = 4) ∧
    /- 4.1 -/ (w5.get R.HL_STATUS_UP = 0) ∧
    /- 4.2.1 -/ (w11.get R.HL_STATUS_UP ≠ 0 ∧ (↑(1 : Fin 2) : Nat) ≠ 0 ∧ w11.hl.memEn = false) ∧
    /- 4.2.2 -/ (hlM.get R.HL_STATUS_UP ≠ 0 ∧ (↑(1 : Fin 2) : Nat) ≠ 0 ∧ hlM.hl.memEn = true ∧ 1 ≠ 0) ∧
    /- 4.2.2 -/ (hlM.get R.HL_STATUS_UP ≠ 0 ∧ (0xFFFFF : BitVec 28).toNat < 1048576 ∧ hlM.hl.memEn = true ∧ 4 ≠ 0) ∧
    /- 4.2.3 -/ (hlM.get R.HL_STATUS_UP ≠ 0 ∧ (0x23FC : BitVec 28).toNat < 1048576 ∧ hlM.hl.memEn = true ∧ (↑(0 : Fin 2) : Nat) = 0 ∧ 8192 ≤ (0x23FC : BitVec 28).toNat ∧ (0x23FC : BitVec 28).toNat < 9216 ∧ (0x23FC : BitVec 28).toNat % 4 = 0) ∧
    /- 4.2.4 -/ (hlM.get R.HL_STATUS_UP ≠ 0 ∧ (0xFFFFC : BitVec 28).toNat < 1048576 ∧ hlM.hl.memEn = true ∧ (↑(0 : Fin 2) : Nat) = 0 ∧ 327680 ≤ (0xFFFFC : BitVec 28).toNat ∧ (0xFFFFC : BitVec 28).toNat % 4 = 0) ∧
    /- 4.2.5 -/ (hlB2.get R.HL_STATUS_UP ≠ 0 ∧ (↑(1 : Fin 2) : Nat) ≠ 0 ∧ hlB2.hl.memEn = true ∧ hlB2.nocUp = true ∧ 2 ≠ 0 ∧ (true = true → false = false) ∧ (true = false → (hlB2.hl.bars.any fun j => j.wr) = false) ∧ hlB2.barAt (↑(1 : Fin 2) : Nat) ((252 : BitVec 28).toNat / 4 * 4) = BarAt.noc (hlB2.get (R.HL_APT_BASE 0) * 2 ^ 24 + 252) ∧ (barParts (hlB2.get (R.HL_APT_BASE 0) * 2 ^ 24 + 252) 2 ≤ (List.filter (fun t => (hlB2.outstanding 33 t).isNone) (List.range 64)).length) ∧ (hbX = hlB2.barIssue true (none : Option NocUpset) (2 + 1) (hlB2.get (R.HL_APT_BASE 0) * 2 ^ 24 + 252) 2 (List.take 2 (List.map (fun d => d.toNat) ([1] : List (BitVec 32)) ++ List.replicate 2 0)))) := by
  and_intros <;> decide +kernel

end Sys2Proof.Tests.PartK
namespace Sys2Proof.Tests.PartL
open Sys2Proof Sys2Proof.Machine
set_option Elab.async false

def ldL (m : Nat) (l : List (Fld × Nat)) (x : Loader) : State := { stw m l with ld := x }
def ldHs : List (Fld × Nat) := [(R.LD_STATUS_STATE, 1), (R.LD_STATUS_SRC, 2), (R.LD_STATUS_OWNER, 33)]
def hb0 : List Nat := [0x59, 0x4C, 0x34, 0x38] ++ toBytes 2 1 ++ [0, 0] ++ toBytes 4 0x9048 ++ [1, 1, 0, 0] ++ toBytes 4 0 ++ toBytes 4 0xFFFFFFFF ++ toBytes 4 400 ++ toBytes 4 8192 ++ List.replicate 28 0
def hb : List Nat := hb0 ++ toBytes 4 (crc32 hb0)
def hbB : List (BitVec 8) := hb.map (BitVec.ofNat 8)
def ldH : State := ldL 2 ldHs Loader.reset
def ldHu : State := ldH.ldTake (hbB.map (fun b => b.toNat))
def hbX : List (BitVec 8) := hbB.take 63 ++ [0]
def ldHx : State := ldH.ldTake (hbX.map (fun b => b.toNat))
def ldHf : State := ldL 2 [(R.LD_STATUS_STATE, 1), (R.LD_STATUS_SRC, 1)] Loader.reset
def ldHfx : State := ldHf.ldTake (hbX.map (fun b => b.toNat))
def ldD : State := ldL 2 ldHs { Loader.reset with hdr := hb }
def ldSd : State := ldL 3 [(R.LD_STATUS_STATE, 4), (R.LD_STATUS_SRC, 1)] { Loader.reset with seedFor := some 31 }
def ldSdu : State := ldSd.ldTake (hbX.map (fun b => b.toNat))
def dsB : List (BitVec 8) := List.replicate 400 0
def ldDu : State := ldD.ldTake (dsB.map (fun b => b.toNat))
def img0 : LdImage := ⟨1, 0, 0, 0, 5, 1, 0, 0, 0, 1, 2, 0xFFFFFFFF, [], [], []⟩
def ldBl : State := ldL 3 [(R.LD_STATUS_STATE, 3), (R.LD_STATUS_SRC, 2)] { Loader.reset with img := some img0 }
def blkB : List (BitVec 8) := List.replicate 65536 0
def blkU : State := ldBl.ldTake (blkB.map (fun b => b.toNat))
theorem blkU_eq : blkU = ldBl.ldTake (List.map (fun b => b.toNat) blkB) := rfl
theorem blkU_len : 65536 ≤ blkU.ld.buf.length := by
  show 65536 ≤ (ldBl.ld.buf ++ List.map (fun (b : BitVec 8) => b.toNat) (List.replicate 65536 (0 : BitVec 8))).length
  rw [List.length_append, List.length_map, List.length_replicate]
  exact Nat.le_add_left _ _
def ldPu : State := ldL 3 [(R.LD_STATUS_STATE, 3), (R.LD_STATUS_SRC, 3)] { Loader.reset with img := some img0, limit := 1, taken := 65536 }
def lcR (x : State) : State := { x with dict := { x.dict with serial := none }, pins := { x.pins with ssRdy := false } }
def lcS : State := ldL 3 [(R.LD_STATUS_STATE, 3), (R.LD_STATUS_SRC, 4)] { Loader.reset with img := some img0 }
def lcE : State := ldL 3 [(R.LD_STATUS_STATE, 5), (R.LD_STATUS_SRC, 4)] { Loader.reset with img := some img0, ended := true }
def ldCl : State := ldL 3 [(R.LD_STATUS_STATE, 2), (R.LD_STATUS_SRC, 2), (R.PT_STAT_DEFINED 0, 1), (R.PT_BOUGHS_BOUGHS 0, 1)] { Loader.reset with img := some img0 }
def ldRl : State := ldL 3 [(R.LD_STATUS_STATE, 5), (R.PT_STAT_DEFINED 0, 1), (R.PT_BOUGHS_BOUGHS 0, 1), (R.PT_STAT_STATE 0, 1)] { Loader.reset with img := some img0, crownSeed := 0xFFFFFFFF }
def ldRn : State := ldL 3 [(R.LD_STATUS_STATE, 5), (R.CP_CFG_EN 0, 1)] { Loader.reset with crownSeed := 0xFFFFFFFF }
def img2 : LdImage := { img0 with kind := 2, part := 31, keysel := 2 }
def ldK (st : Nat) (i : LdImage) (l : List (Fld × Nat)) : State := ldL 4 ([(R.LD_STATUS_STATE, st), (R.PT_STAT_DEFINED 31, 1), (R.PT_BOUGHS_BOUGHS 31, 2^63)] ++ l) { Loader.reset with img := some i }
def ldKn : State := { ldK 5 img2 [] with ld := { (ldK 5 img2 []).ld with init := [(63, 3)] } }
def img3 : LdImage := { img0 with kind := 3, part := 31, keysel := 2 }
def ldSh : State := ldK 5 img3 [(R.PT_BOUGHS_BOUGHS 31, 0)]

def w1 : State := st 4
def w2 : State := (st 4).ldTake [1]
def w3 : State := ldH.ldTake [1]
def w4 : State := ldD.ldTake [1]
def w5 : State := ldBl.ldTake (dsB.map (fun b => b.toNat))
def w6 : State := { ldBl with ld := { ldBl.ld with expect := Config.sha384 [1, 2] + 1 } }
def w7 : State := st 1
def w8 : State := ldL 3 [(R.LD_STATUS_STATE, 5), (R.LD_STATUS_SRC, 2), (R.LD_STATUS_OWNER, 33)] { Loader.reset with img := some img0 }
def w9 : State := ldL 4 [] { Loader.reset with discard := some (2, 0x0101) }
/-- The hypotheses of LoaderStreams are met: a witness for each clause, by its place in the statement. -/
theorem test_meets_LoaderStreams :
    /- 1.1 -/ ((w2 = w1.ldTake (List.map (fun b => b.toNat) ([1] : List (BitVec 8)))) ∧ w1.ldState = ldIDLE) ∧
    /- 1.2 -/ ((w3 = ldH.ldTake (List.map (fun b => b.toNat) ([1] : List (BitVec 8)))) ∧ ldH.ldState ≠ ldIDLE ∧ ldH.get R.LD_STATUS_SRC ≠ (↑(4 : Fin 7) : Nat)) ∧
    /- 1.3.1 -/ ((w3 = ldH.ldTake (List.map (fun b => b.toNat) ([1] : List (BitVec 8)))) ∧ ldH.ldState = ldHEADER ∧ ldH.get R.LD_STATUS_SRC = (↑(2 : Fin 7) : Nat) ∧ ldH.ld.hdr = [] ∧ ldH.ld.img = none ∧ ldH.ld.seedFor = none ∧ w3.ld.buf.length < 64) ∧
    /- 1.3.2 -/ ((ldHu = ldH.ldTake (List.map (fun b => b.toNat) hbB)) ∧ ldH.ldState = ldHEADER ∧ ldH.get R.LD_STATUS_SRC = (↑(2 : Fin 7) : Nat) ∧ ldH.ld.hdr = [] ∧ ldH.ld.img = none ∧ ldH.ld.seedFor = none ∧ 64 ≤ ldHu.ld.buf.length ∧ ldHu.hdrRefusal (↑(2 : Fin 7) : Nat) (List.take 64 ldHu.ld.buf) = none) ∧
    /- 1.3.3 -/ ((ldHx = ldH.ldTake (List.map (fun b => b.toNat) hbX)) ∧ ldH.ldState = ldHEADER ∧ ldH.get R.LD_STATUS_SRC = (↑(2 : Fin 7) : Nat) ∧ ldH.ld.hdr = [] ∧ ldH.ld.img = none ∧ ldH.ld.seedFor = none ∧ 64 ≤ ldHx.ld.buf.length ∧ ldHx.hdrRefusal (↑(2 : Fin 7) : Nat) (List.take 64 ldHx.ld.buf) = some 257 ∧ ldH.ld.waitSeeds = [] ∧ 257 < 2 ^ 16) ∧
    /- 1.3.3 -/ ((ldHfx = ldHf.ldTake (List.map (fun b => b.toNat) hbX)) ∧ ldHf.ldState = ldHEADER ∧ ldHf.get R.LD_STATUS_SRC = (↑(1 : Fin 7) : Nat) ∧ ldHf.ld.hdr = [] ∧ ldHf.ld.img = none ∧ ldHf.ld.seedFor = none ∧ 64 ≤ ldHfx.ld.buf.length ∧ ldHfx.hdrRefusal (↑(1 : Fin 7) : Nat) (List.take 64 ldHfx.ld.buf) = some 257 ∧ ldHf.ld.waitSeeds = [] ∧ 257 < 2 ^ 16) ∧
    /- 2 -/ (List.take 4 ([] : List Nat) ≠ [89, 76, 52, 56]) ∧
    /- 2 -/ (leField (hb.take 60 ++ [0, 0, 0, 0] : List Nat) 60 4 ≠ crc32 (List.take 60 (hb.take 60 ++ [0, 0, 0, 0] : List Nat))) ∧
    /- 3 -/ ((ldSdu = ldSd.ldTake (List.map (fun b => b.toNat) hbX)) ∧ ldSd.ldState = ldSEED ∧ ldSd.get R.LD_STATUS_SRC = (↑(1 : Fin 7) : Nat) ∧ ldSd.ld.hdr = [] ∧ ldSd.ld.img = none ∧ ldSd.ld.seedFor = some 31 ∧ 64 ≤ ldSdu.ld.buf.length ∧ ldSdu.hdrRefusal (↑(1 : Fin 7) : Nat) (List.take 64 ldSdu.ld.buf) = some 257) ∧
    /- 4.1 -/ ((w4 = ldD.ldTake (List.map (fun b => b.toNat) ([1] : List (BitVec 8)))) ∧ 400 = leField ldD.ld.hdr 24 4 ∧ ldD.ldState ≠ ldIDLE ∧ ldD.get R.LD_STATUS_SRC = (↑(2 : Fin 7) : Nat) ∧ ldD.ld.img = none ∧ w4.ld.buf.length < 400) ∧
    /- 4.2.1 -/ ((ldDu = ldD.ldTake (List.map (fun b => b.toNat) dsB)) ∧ 400 = leField ldD.ld.hdr 24 4 ∧ ldD.ldState ≠ ldIDLE ∧ ldD.get R.LD_STATUS_SRC = (↑(2 : Fin 7) : Nat) ∧ ldD.ld.img = none ∧ ldD.ld.hdr ≠ [] ∧ 400 ≤ ldDu.ld.buf.length ∧ ldDu.descRefusal ldDu.ld.hdr (List.take 400 ldDu.ld.buf) = some 257) ∧
    /- 4.2.2 -/ ((ldDu = ldD.ldTake (List.map (fun b => b.toNat) dsB)) ∧ 400 = leField ldD.ld.hdr 24 4 ∧ ldD.ldState ≠ ldIDLE ∧ ldD.get R.LD_STATUS_SRC = (↑(2 : Fin 7) : Nat) ∧ ldD.ld.img = none ∧ ldD.ld.hdr ≠ [] ∧ 400 ≤ ldDu.ld.buf.length ∧ ldD.ld.seedFor = none ∧ leField ldD.ld.hdr 13 1 = 1) ∧
    /- 5 -/ (w1.ldState = ldIDLE) ∧
    /- 6.1 -/ (w1.ld.img = none) ∧
    /- 6.2 -/ (ldBl.ld.img = some img0 ∧ ldBl.get R.LD_STATUS_SRC ≠ (↑(4 : Fin 7) : Nat)) ∧
    /- 6.3.1 -/ (ldBl.ld.img = some img0 ∧ ldBl.get R.LD_STATUS_SRC = (↑(2 : Fin 7) : Nat) ∧ ldBl.ldState = ldBLOCKS ∧ (w5 = ldBl.ldTake (List.map (fun b => b.toNat) dsB)) ∧ ldBl.get R.LD_STATUS_SRC ≠ srcPULL ∧ (w5.ld.buf.length < 65536 ∨ ldBl.refilling = true)) ∧
    /- 6.3.2 -/ (ldBl.ld.img = some img0 ∧ ldBl.get R.LD_STATUS_SRC = (↑(2 : Fin 7) : Nat) ∧ ldBl.ldState = ldBLOCKS ∧ (blkU = ldBl.ldTake (List.map (fun b => b.toNat) blkB)) ∧ ldBl.get R.LD_STATUS_SRC ≠ srcPULL ∧ ldBl.refilling = false ∧ 65536 ≤ blkU.ld.buf.length) ∧
    /- 6.4 -/ (ldPu.ld.img = some img0 ∧ ldPu.get R.LD_STATUS_SRC = (↑(3 : Fin 7) : Nat) ∧ ldPu.ldState = ldBLOCKS ∧ (↑(3 : Fin 7) : Nat) = srcPULL ∧ ldPu.refilling = false ∧ 65536 * ldPu.ld.limit < ldPu.ld.taken + ([1] : List (BitVec 8)).length) ∧
    /- 6.5 -/ (Config.sha384 ([1,2] : List Nat) ≠ w6.ld.expect) ∧
    /- 7.1 -/ (w1.srcOk (↑s1 : Nat) = false) ∧
    /- 7.2.1 -/ (w7.srcOk (↑s33 : Nat) = true ∧ w7.ld.discard = none ∧ w7.mode0 = mSTANDBY) ∧
    /- 7.2.2 -/ (w1.srcOk (↑s33 : Nat) = true ∧ w1.ld.discard = none ∧ w1.mode0 ≠ mSTANDBY ∧ w1.mode0 ≠ mOFF ∧ w1.ldState = ldIDLE) ∧
    /- 7.2.3 -/ (w8.srcOk (↑s33 : Nat) = true ∧ w8.ld.discard = none ∧ w8.mode0 ≠ mSTANDBY ∧ w8.mode0 ≠ mOFF ∧ w8.ldState ≠ ldIDLE ∧ w8.get R.LD_STATUS_SRC = srcPUSH ∧ w8.get R.LD_STATUS_OWNER = (↑s33 : Nat) ∧ w8.ldState = ldRELEASE) ∧
    /- 7.2.4 -/ (ldH.srcOk (↑s33 : Nat) = true ∧ ldH.ld.discard = none ∧ ldH.mode0 ≠ mSTANDBY ∧ ldH.mode0 ≠ mOFF ∧ ldH.ldState ≠ ldIDLE ∧ ldH.get R.LD_STATUS_SRC = srcPUSH ∧ ldH.get R.LD_STATUS_OWNER = (↑s33 : Nat) ∧ ldH.ldState ≠ ldRELEASE ∧ ldH.ld.buf.length + ([1] : List (BitVec 8)).length ≤ 262144) ∧
    /- 7.2.5 -/ (ldH.srcOk (↑s65 : Nat) = true ∧ ldH.ld.discard = none ∧ ldH.mode0 ≠ mSTANDBY ∧ ldH.mode0 ≠ mOFF ∧ ldH.ldState ≠ ldIDLE ∧ ldH.get R.LD_STATUS_OWNER ≠ (↑s65 : Nat)) ∧
    /- 8 -/ (w9.ld.discard = some ((2, 0x0101) : Nat × Nat) ∧ ((2, 0x0101) : Nat × Nat).fst = 2) := by
  and_intros <;> first | with_reducible exact blkU_eq | with_reducible exact blkU_len | decide +kernel | exact Nat.ne_of_lt (Nat.lt_succ_self _)

def w10 : State := st 2
def w11 : State := stw 4 [(R.PT_STAT_STATE 31, 3), (R.LD_PART_STAT_STATE, 3 * 2^62)]
def w12 : State := stw 4 [(R.PT_STAT_STATE 31, 1)]
def w13 : State := stw 4 [(R.PT_STAT_STATE 0, 3)]
def w14 : State := { st 4 with pops := [(ldErrAddr, [5, 6])], ld := { Loader.reset with locs := [0xFFFFFFFFF, 3] } }
def w15 : State := lcR lcS
def w16 : State := lcR lcE
def w17 : State := { st 4 with pins := { (st 4).pins with ssRdy := true } }
def w18 : State := lcR (st 4)
/-- The hypotheses of LoaderCommands are met: a witness for each clause, by its place in the statement. -/
theorem test_meets_LoaderCommands :
    /- 1.1 -/ (w10.srcOk (↑s33 : Nat) = true ∧ w10.ldState = ldIDLE ∧ (0xFFFF0000 : BitVec 44).toNat % 65536 = 0 ∧ (0xFFFF0000 : BitVec 44).toNat < 2 ^ 32) ∧
    /- 1.2 -/ (w10.srcOk (↑s33 : Nat) = true ∧ (w10.ldState = ldIDLE ∧ 2 ^ 32 ≤ (0x100000000 : BitVec 44).toNat)) ∧
    /- 1.2 -/ (ldH.srcOk (↑s33 : Nat) = true ∧ ldH.ldState ≠ ldIDLE) ∧
    /- 2.1 -/ (w10.srcOk (↑s33 : Nat) = true ∧ w10.ldState = ldIDLE ∧ (0xFFFFFFFFFFC : BitVec 44).toNat % 4 = 0 ∧ (0xFFFF : BitVec 16).toNat ≠ 0) ∧
    /- 2.2 -/ (w10.srcOk (↑s33 : Nat) = true ∧ (w10.ldState = ldIDLE ∧ (0 : BitVec 16).toNat = 0)) ∧
    /- 2.2 -/ (ldH.srcOk (↑s33 : Nat) = true ∧ ldH.ldState ≠ ldIDLE) ∧
    /- 3 -/ (w10.srcOk (↑s1 : Nat) = false) ∧
    /- 4.1 -/ (w10.srcOk (↑s33 : Nat) = true ∧ w10.ldState = ldIDLE) ∧
    /- 4.2 -/ (ldBl.srcOk (↑s33 : Nat) = true ∧ ldBl.ldState ≠ ldIDLE ∧ ldBl.ld.img = some img0 ∧ ldBl.mode0 = mLOAD ∧ ldBl.mode.trans = none) ∧
    /- 5.1 -/ (w11.srcOk (↑s33 : Nat) = true ∧ (31 : Fin 32) ≠ 0 ∧ w11.ptState (↑(31 : Fin 32) : Nat) = 3) ∧
    /- 5.2 -/ (w12.srcOk (↑s33 : Nat) = true ∧ w12.ptState (↑(31 : Fin 32) : Nat) ≠ 3) ∧
    /- 5.2 -/ (w13.srcOk (↑s33 : Nat) = true ∧ (0 : Fin 32) = 0) ∧
    /- 6.1 -/ (w1.ld.locs = [] ∧ w1.queue ldErrAddr = []) ∧
    /- 6.2 -/ (w14.ld.locs = 68719476735 :: ([3] : List Nat) ∧ w14.queue ldErrAddr = 5 :: ([6] : List Nat)) ∧
    /- 7.1 -/ (w15 = ({ lcS with pins := have __src := lcS.pins; { __src with ssRdy := false }, dict := have __src := lcS.dict; { __src with serial := none } } : State) ∧ lcS.ldState ≠ ldIDLE ∧ lcS.get R.LD_STATUS_SRC = srcSERIAL ∧ lcS.ld.ended = false) ∧
    /- 7.2 -/ (w16 = ({ lcE with pins := have __src := lcE.pins; { __src with ssRdy := false }, dict := have __src := lcE.dict; { __src with serial := none } } : State) ∧ lcE.ldState ≠ ldIDLE ∧ lcE.get R.LD_STATUS_SRC = srcSERIAL ∧ lcE.ld.ended = true) ∧
    /- 7.3 -/ (w18 = ({ w17 with pins := have __src := w17.pins; { __src with ssRdy := false }, dict := have __src := w17.dict; { __src with serial := none } } : State) ∧ w17.ldState = ldIDLE ∧ w17.ld.discard = none) := by
  and_intros <;> decide +kernel

def w19 : State := stw 3 [(R.LD_STATUS_STATE, 5)]
def w20 : State := { st 4 with mode := { (st 4).mode with armed := true } }
def w21 : State := ldCl.setBough 63 { Bough.reset with plane := 1 }
def w22 : State := ldL 3 [(R.LD_STATUS_STATE, 5)] Loader.reset
def w23 : State := ldL 3 [(R.LD_STATUS_STATE, 5)] { Loader.reset with failed := [(3, 0x0145)] }
def w24 : State := ldK 2 img2 [(R.NOC_STATUS_P0 63, 2)]
def w25 : State := ldK 2 img2 []
def w26 : State := ldK 5 img2 []
def w27 : State := ldK 5 img2 [(R.PT_BOUGHS_BOUGHS 31, 0)]
def w28 : State := ldK 2 img3 []
/-- The hypotheses of LoadCompletion are met: a witness for each clause, by its place in the statement. -/
theorem test_meets_LoadCompletion :
    /- 1.1 -/ (w19.ldState = ldRELEASE) ∧
    /- 1.2 -/ (ldH.ldState = ldHEADER ∧ ldH.ld.img = none ∧ ldH.ld.seedFor = none ∧ ldH.ld.waitSeeds = []) ∧
    /- 1.3 -/ (w20.ldState = ldIDLE ∧ w20.mode.armed = true) ∧
    /- 2.1 -/ (w21.ld.img = some img0 ∧ w21.mode0 = mLOAD ∧ w21.mode.trans = none ∧ w21.ldState = ldCLEAR) ∧
    /- 2.2 -/ (ldBl.ld.img = some img0 ∧ ldBl.ldState ≠ ldCLEAR) ∧
    /- 3.1 -/ (w22.mode0 = mLOAD ∧ w22.ldState = ldRELEASE ∧ w22.mode.trans = none ∧ w22.releaseReady = true) ∧
    /- 3.1 -/ (w23.mode0 = mLOAD ∧ w23.ldState = ldRELEASE ∧ w23.mode.trans = none ∧ w23.releaseReady = true) ∧
    /- 3.2 -/ (ldBl.ldState ≠ ldRELEASE) ∧
    /- 3.2 -/ (ldRn.releaseReady = false) ∧
    /- 4.1 -/ (ldRn.mode0 = mLOAD ∧ ldRn.ldState = ldRELEASE ∧ ldRn.releaseReady = false ∧ ldRn.ld.crownSeed = 4294967295 ∧ ldRn.ld.failed = [] ∧ ldRn.mode.trans = none) ∧
    /- 4.2 -/ (w22.mode0 = mLOAD ∧ w22.ldState = ldRELEASE ∧ w22.releaseReady = true) ∧
    /- 5.1 -/ (w24.ld.img = some img2 ∧ img2.kind = 2 ∧ img2.part < 32 ∧ w24.mode0 = mRUN ∧ w24.ldState = ldCLEAR ∧ w24.ld.seedFor = none ∧ w24.swapOf img2.part = none ∧ (∃ b, b ∈ w24.partBoughs img2.part ∧ w24.p0 b ≠ p0ASLEEP)) ∧
    /- 5.2 -/ (w25.ld.img = some img2 ∧ img2.kind = 2 ∧ img2.part < 32 ∧ w25.mode0 = mRUN ∧ w25.ldState = ldCLEAR ∧ w25.ld.seedFor = none ∧ w25.swapOf img2.part = none ∧ (∀ (b : Nat), b ∈ w25.partBoughs img2.part → w25.p0 b = p0ASLEEP)) ∧
    /- 5.3 -/ (w26.ld.img = some img2 ∧ img2.kind = 2 ∧ img2.part < 32 ∧ w26.mode0 = mRUN ∧ w26.ldState ≠ ldCLEAR) ∧
    /- 5.4 -/ (w27.ld.img = some img2 ∧ img2.kind = 2 ∧ img2.part < 32 ∧ w27.mode0 = mRUN ∧ w27.ldState = ldRELEASE ∧ w27.darkReady img2.part = true) ∧
    /- 5.5 -/ (ldKn.ld.img = some img2 ∧ img2.kind = 2 ∧ img2.part < 32 ∧ ldKn.mode0 = mRUN ∧ ldKn.ldState = ldRELEASE ∧ ldKn.darkReady img2.part = false) ∧
    /- 6 -/ (ldSh.ld.img = some img3 ∧ img3.kind = 3 ∧ img3.part < 32 ∧ ldSh.ldState = ldRELEASE) ∧
    /- 7.1.1 -/ (w1.ld.img = none) ∧
    /- 7.1.2 -/ (w1.ld.img = none) ∧
    /- 7.2 -/ (w28.ldState ≠ ldRELEASE) := by
  and_intros <;> decide +kernel

end Sys2Proof.Tests.PartL
namespace Sys2Proof.Tests.PartM
open Sys2Proof Sys2Proof.Machine
set_option Elab.async false

def swS (m : Nat) (l : List (Fld × Nat)) (x : Swap) : State :=
  (((stw m ([(R.PT_STAT_DEFINED 31, 1), (R.PT_STAT_STATE 31, 1), (R.PT_BOUGHS_BOUGHS 31, 2^63 + 1)] ++ l)).setBough 63 runB).setBough 0 runB).setSwap 31 (some x)
def swF : State := (stw 4 [(R.PT_STAT_DEFINED 31, 1), (R.PT_STAT_STATE 31, 1), (R.PT_BOUGHS_BOUGHS 31, 2^63), (R.PT_STAT_SHADOW 31, 2), (R.OP_STATUS_STATE 63, 1)]).setBough 63 runB
def swT (m : Nat) (x : Swap) : State := let s := swS m [] x; { s with tp := { s.tp with tick := 4 } }
def swP (k : Bool) : State := { st 4 with pt := { (st 4).pt with capPend := SMap.set (st 4).pt.capPend none 63 (some ⟨5 * 65536, 0, k⟩) } }
def glS (l : List (Fld × Nat)) (g : Gleaner) : State :=
  { (((stw 4 ([(R.PT_STAT_DEFINED 31, 1), (R.PT_STAT_STATE 31, 1), (R.PT_BOUGHS_BOUGHS 31, 1), (R.CK_STATUS_FOSC_QUAL, 1)] ++ l)).setBough 0 runB)) with gl := { g with copies := SMap.setRun [] glResetWord 0 [0xF3, 0xF3, 0xF3] } }
def glG : Gleaner := State.reset.gl
def glSg : State := (glS [] glG).setGolden 0 0 0 0 ((glS [] glG).branchSig 0 0 0 0)
theorem golden_setGolden (s : State) (p b r c v : Nat) : (s.setGolden p b r c v).golden p b r c = v := SMap.get_set_same _ _ _ _
theorem branchSig_setGolden (s : State) (p b r c v p' b' r' c' : Nat) : (s.setGolden p b r c v).branchSig p' b' r' c' = s.branchSig p' b' r' c' := rfl
theorem glSg_sig : glSg.branchSig 0 0 0 0 = glSg.golden 0 0 0 0 := by
  rw [glSg, golden_setGolden, branchSig_setGolden]
def glDf : GlFrame := ⟨31, 1, 0, 0, 0, 0⟩
def glD : State := glS [] { glG with defer := [(0, [glDf])] }
def glSx : State := (glS [] glG).setSwap 31 (some ⟨[0], [], [], 0⟩)
def glSxn : State := glSx.setGolden 0 0 0 0 (glSx.branchSig 0 0 0 0 + 1)
theorem glSxn_sig : glSxn.branchSig 0 0 0 0 ≠ glSxn.golden 0 0 0 0 := by
  rw [glSxn, golden_setGolden, branchSig_setGolden]
  generalize glSx.branchSig 0 0 0 0 = n
  omega
def glSn : State := (glS [] glG).setGolden 0 0 0 0 ((glS [] glG).branchSig 0 0 0 0 + 1)
theorem glSn_sig : glSn.branchSig 0 0 0 0 ≠ glSn.golden 0 0 0 0 := by
  rw [glSn, golden_setGolden, branchSig_setGolden]
  generalize (glS [] glG).branchSig 0 0 0 0 = n
  omega
def glF1 : GlFrame := ⟨31, 0, 0, 0, 0, 0⟩
def glSf : State := (glS [] glG).frameFlip 0 0 0 0 0 40
theorem range_4128 : List.range 4128 = List.range' 0 (2 ^ 12) ++ List.range' 4096 (2 ^ 5) := by
  rw [List.range_eq_range']; exact (List.range'_append_1 (s := 0) (m := 2 ^ 12) (n := 2 ^ 5)).symm
theorem syn_bit40 : frameSyn 1099511627776 = 4608 := by
  unfold frameSyn
  simp only [range_4128, List.foldl_append, foldl_halfFold]
  decide +kernel
theorem par_bit40 : List.foldl (fun a i => a + bit 1099511627776 i) 0 (List.range 4128) = 1 := by
  simp only [range_4128, List.foldl_append, foldl_halfFold]
  decide +kernel
theorem seek_bit40 : frameSeek 4608 (fun x => x) 4128 0 1 = some 40 := by decide +kernel
theorem decode_bit40 : frameDecode 256 0 = FrameDec.single 40 := by
  have e : 256 * 2 ^ 32 + 0 = 1099511627776 := rfl
  simp only [frameDecode, e, syn_bit40, par_bit40, seek_bit40]
  rfl
theorem glSf_one : frameDecode (glSf.frame glF1.plane glF1.b glF1.row glF1.col glF1.idx) (glSf.frameChecks glF1.plane glF1.b glF1.row glF1.col glF1.idx) = FrameDec.single 40 := by
  have hf : glSf.frame glF1.plane glF1.b glF1.row glF1.col glF1.idx = 256 := by decide +kernel
  have hc : glSf.frameChecks glF1.plane glF1.b glF1.row glF1.col glF1.idx = 0 := by decide +kernel
  rw [hf, hc]
  exact decode_bit40
def glD2 : State := ((glS [(R.PT_STAT_DEFINED 30, 1), (R.PT_STAT_STATE 30, 1), (R.PT_BOUGHS_BOUGHS 30, 2)] { glG with defer := [(0, [⟨30, 0, 1, 0, 0, 0⟩, glDf])] }).setSwap 30 (some ⟨[1], [], [], 0⟩))
def glR : State := glS [] { glG with list := [glF1] }
def glSw : State := { glSg with gl := { glSg.gl with fixed := [glF1] } }
theorem golden_gl (s : State) (g : Gleaner) (p b r c : Nat) : ({ s with gl := g } : State).golden p b r c = s.golden p b r c := rfl
theorem branchSig_gl (s : State) (g : Gleaner) (p b r c : Nat) : ({ s with gl := g } : State).branchSig p b r c = s.branchSig p b r c := rfl
theorem glSw_sig : glSw.branchSig glF1.plane glF1.b glF1.row glF1.col = glSw.golden glF1.plane glF1.b glF1.row glF1.col := by
  rw [glSw, golden_gl, branchSig_gl]; exact glSg_sig

def w1 : State := st 2
def w2 : State := st 4
def w3 : State := swS 4 [] ⟨[63, 0], [], [], 0⟩
def w4 : Swap := ⟨[63, 0], [], [], 0⟩
def w5 : State := swT 4 ⟨[0, 63], [], [], 0⟩
def w6 : Swap := ⟨[0, 63], [], [], 0⟩
def w7 : State := swT 4 ⟨[0], [63], [], 0⟩
def w8 : Swap := ⟨[0], [63], [], 0⟩
def w9 : State := swT 4 ⟨[63], [], [], 0⟩
def w10 : Swap := ⟨[63], [], [], 0⟩
def w11 : State := swT 4 ⟨[], [63, 0], [], 0⟩
def w12 : Swap := ⟨[], [63, 0], [], 0⟩
def w13 : State := swT 5 ⟨[], [63], [], 0⟩
def w14 : Swap := ⟨[], [63], [], 0⟩
def w15 : State := swS 4 [] ⟨[], [], [], 0⟩
def w16 : Swap := ⟨[], [], [], 0⟩
def w17 : State := swS 4 [] ⟨[], [], [(63, 2), (0, 1)], 0⟩
def w18 : Swap := ⟨[], [], [(63, 2), (0, 1)], 0⟩
def w19 : State := stw 4 [(R.RB_MASK_BOUGHS, 2^63)]
def w20 : State := swP false
def w21 : CapPend := ⟨5 * 65536, 0, false⟩
def w22 : State := swP true
def w23 : CapPend := ⟨5 * 65536, 0, true⟩
def w24 : State := (st 4).setFrame 0 0 0 0 0 (2^32*7)
def w25 : State := stw 4 [(R.RB_SEL_COL, 41)]
def w26 : State := { stw 4 [(R.LD_STATUS_STATE, 3)] with ld := { Loader.reset with img := some ⟨2, 31, 0, 0, 5, 1, 0, 0, 0, 1, 2, 1, [], [], []⟩ } }
/-- The hypotheses of SwapsAndReadback are met: a witness for each clause, by its place in the statement. -/
theorem test_meets_SwapsAndReadback :
    /- 1.1 -/ (w1.mode0 ≠ mRUN) ∧
    /- 1.2 -/ (w2.mode0 = mRUN) ∧
    /- 1.3 -/ (swF.mode0 = mRUN ∧ 31 ≠ 0 ∧ 31 < 32 ∧ swF.swapRefusal 31 = 0) ∧
    /- 2.1 -/ (w3.partOf (↑b63 : Nat) = some 31 ∧ w3.swapOf 31 = some w4 ∧ w3.tp.tick < w4.tick + 4) ∧
    /- 2.2 -/ (w5.partOf (↑b63 : Nat) = some 31 ∧ w5.swapOf 31 = some w6 ∧ (↑b63 : Nat) ∈ w6.freeze ∧ w6.tick + 4 ≤ w5.tp.tick) ∧
    /- 2.3 -/ (w7.partOf (↑b63 : Nat) = some 31 ∧ w7.swapOf 31 = some w8 ∧ ¬(↑b63 : Nat) ∈ w8.freeze) ∧
    /- 2.4 -/ (w9.partOf (↑b63 : Nat) = some 31 ∧ w9.swapOf 31 = some w10 ∧ ¬(↑b63 : Nat) ∈ w10.frozen) ∧
    /- 2.5 -/ (w7.partOf (↑b63 : Nat) = some 31 ∧ w7.swapOf 31 = some w8 ∧ (↑b63 : Nat) ∈ w8.frozen ∧ w8.freeze ≠ []) ∧
    /- 2.5 -/ (w11.partOf (↑b63 : Nat) = some 31 ∧ w11.swapOf 31 = some w12 ∧ (↑b63 : Nat) ∈ w12.frozen ∧ (List.filter (fun k => decide (k ≠ (↑b63 : Nat))) w12.frozen ≠ [])) ∧
    /- 2.6 -/ (w13.partOf (↑b63 : Nat) = some 31 ∧ w13.swapOf 31 = some w14 ∧ w14.freeze = [] ∧ w14.frozen = [(↑b63 : Nat)] ∧ w13.mode0 = mSAFE ∧ w13.ld.img = none) ∧
    /- 3.1 -/ (w15.swapOf (↑(31 : Fin 32) : Nat) = some w16 ∧ w16.freeze = [] ∧ w16.frozen = [] ∧ w16.refill = []) ∧
    /- 3.2 -/ (w17.swapOf (↑(31 : Fin 32) : Nat) = some w18 ∧ w18.freeze = [] ∧ w18.frozen = [] ∧ w18.refill = (63, 2) :: ([(0, 1)] : List (Nat × Nat)) ∧ ([(0, 1)] : List (Nat × Nat)) ≠ [] ∧ w17.pt.stage.get [] (2 * (↑(31 : Fin 32) : Nat) + w17.get (R.PT_STAT_PLANE (↑(31 : Fin 32) : Nat))) = []) ∧
    /- 4 -/ (w2.swapOf (↑(31 : Fin 32) : Nat) = none) ∧
    /- 5.1 -/ (w19.srcOk (↑s33 : Nat) = true) ∧
    /- 5.2 -/ (w2.srcOk (↑s1 : Nat) = false) ∧
    /- 6.1 -/ (w2.pt.capPend.get none (↑b63 : Nat) = none) ∧
    /- 6.2 -/ (w20.pt.capPend.get none (↑b63 : Nat) = some w21 ∧ w21.taken = false) ∧
    /- 6.3 -/ (w22.pt.capPend.get none (↑b63 : Nat) = some w23 ∧ w23.taken = true) ∧
    /- 7.1 -/ (w2.readbackRefusal (↑s1 : Nat) (w2.get R.RB_SEL_B) ≠ 0) ∧
    /- 7.2.1 -/ (w2.readbackRefusal (↑s33 : Nat) (w2.get R.RB_SEL_B) = 0) ∧
    /- 7.2.2 -/ (w2.readbackRefusal (↑s33 : Nat) (w2.get R.RB_SEL_B) = 0 ∧ 129 ≤ (↑(129 : Fin 3072) : Nat)) ∧
    /- 7.2.3 -/ (w24.readbackRefusal (↑s33 : Nat) (w24.get R.RB_SEL_B) = 0 ∧ (↑(1 : Fin 3072) : Nat) < 128 ∧ frameExists (w24.get R.RB_SEL_ROW) (w24.get R.RB_SEL_COL) (w24.get R.RB_SEL_INDEX) = true ∧ w24.planeWritten (w24.get R.RB_SEL_PLANE) (w24.get R.RB_SEL_B) = false) ∧
    /- 7.2.4 -/ (w25.readbackRefusal (↑s33 : Nat) (w25.get R.RB_SEL_B) = 0 ∧ (↑(128 : Fin 3072) : Nat) < 129 ∧ frameExists (w25.get R.RB_SEL_ROW) (w25.get R.RB_SEL_COL) (w25.get R.RB_SEL_INDEX) = false) ∧
    /- 7.2.5 -/ (w26.readbackRefusal (↑s33 : Nat) (w26.get R.RB_SEL_B) = 0 ∧ (↑(128 : Fin 3072) : Nat) < 129 ∧ frameExists (w26.get R.RB_SEL_ROW) (w26.get R.RB_SEL_COL) (w26.get R.RB_SEL_INDEX) = true ∧ w26.planeWritten (w26.get R.RB_SEL_PLANE) (w26.get R.RB_SEL_B) = true) := by
  and_intros <;> decide +kernel

def w27 : State := glS [] glG
def w28 : State := glD.setSwap 31 (some ⟨[0], [], [], 0⟩)
def w29 : State := glS [] { glG with pos := [(0, 32 * 321)] }
def w30 : State := { glR with gl := { glR.gl with copies := SMap.setRun [] glResetWord 0 [0xF1, 0xF1, 0xF1] } }
def w31 : State := glS [] { glG with lost := [(glF1, 0x0106)] }
def w32 : State := st 1
def w33 : State := st 3
def w34 : State := { glS [] { glG with times := [77] } with pops := [(glLogAddr, [0x814F22AB36E8])] }
/-- The hypotheses of GleanerWalkAndSettings are met: a witness for each clause, by its place in the statement. -/
theorem test_meets_GleanerWalkAndSettings :
    /- 1.1.1 -/ (w2.glDue (↑(3 : Fin 4) : Nat) = none ∧ w2.walkOn (↑(3 : Fin 4) : Nat) = false) ∧
    /- 1.1.2 -/ (glD.glDue (↑(0 : Fin 4) : Nat) = some glDf) ∧
    /- 1.1.3.1 -/ (glSg.glDue (↑(0 : Fin 4) : Nat) = none ∧ glSg.walkOn (↑(0 : Fin 4) : Nat) = true ∧ glSg.walkNext (↑(0 : Fin 4) : Nat) = some (0, 0, 0, 0, 0) ∧ (↑(0 : Fin 3) : Nat) ≠ 2 ∧ glSg.branchSig 0 0 0 0 = glSg.golden 0 0 0 0) ∧
    /- 1.1.3.2 -/ (glSxn.glDue (↑(0 : Fin 4) : Nat) = none ∧ glSxn.walkOn (↑(0 : Fin 4) : Nat) = true ∧ glSxn.walkNext (↑(0 : Fin 4) : Nat) = some (0, 0, 0, 0, 0) ∧ (↑(0 : Fin 3) : Nat) ≠ 2 ∧ glSxn.branchSig 0 0 0 0 ≠ glSxn.golden 0 0 0 0 ∧ glSxn.glExcluded (glPart glSxn 0) = true ∧ (glSxn.gl.defer.get [] (↑(0 : Fin 4) : Nat)).length < 16) ∧
    /- 1.1.3.3 -/ (glSn.glDue (↑(0 : Fin 4) : Nat) = none ∧ glSn.walkOn (↑(0 : Fin 4) : Nat) = true ∧ glSn.walkNext (↑(0 : Fin 4) : Nat) = some (0, 0, 0, 0, 0) ∧ (↑(0 : Fin 3) : Nat) ≠ 2 ∧ glSn.branchSig 0 0 0 0 ≠ glSn.golden 0 0 0 0 ∧ glSn.glExcluded (glPart glSn 0) = false) ∧
    /- 1.2 -/ (frameDecode (glSf.frame glF1.plane glF1.b glF1.row glF1.col glF1.idx) (glSf.frameChecks glF1.plane glF1.b glF1.row glF1.col glF1.idx) = FrameDec.single 40) ∧
    /- 1.3.1 -/ ((∀ (f : GlFrame), f ∈ w27.gl.defer.get [] (↑(3 : Fin 4) : Nat) → w27.glExcluded f.part = true)) ∧
    /- 1.3.1 -/ ((∀ (f : GlFrame), f ∈ w28.gl.defer.get [] (↑(0 : Fin 4) : Nat) → w28.glExcluded f.part = true)) ∧
    /- 1.3.2 -/ (glD2.gl.defer.get [] (↑(0 : Fin 4) : Nat) = ([⟨30, 0, 1, 0, 0, 0⟩] : List GlFrame) ++ glDf :: ([] : List GlFrame) ∧ (∀ (e : GlFrame), e ∈ ([⟨30, 0, 1, 0, 0, 0⟩] : List GlFrame) → glD2.glExcluded e.part = true) ∧ glD2.walkOn (↑(0 : Fin 4) : Nat) = true ∧ glD2.glExcluded glDf.part = false ∧ glD2.walked glDf.b glDf.plane = false) ∧
    /- 1.4.1 -/ (w29.walkOn (↑(0 : Fin 4) : Nat) = true ∧ w29.walkNext (↑(0 : Fin 4) : Nat) = none ∧ w29.gl.pos.get 0 (↑(0 : Fin 4) : Nat) ≠ 0) ∧
    /- 1.4.2 -/ (w27.walkNext (↑(0 : Fin 4) : Nat) ≠ none) ∧
    /- 1.5.1 -/ (w2.gl.list = []) ∧
    /- 1.5.2.1 -/ (w30.gl.list = glF1 :: ([] : List GlFrame) ∧ bit w30.glSet 1 = 0) ∧
    /- 1.5.2.2 -/ (glR.gl.list = glF1 :: ([] : List GlFrame) ∧ glR.mode0 = mRUN ∧ glR.ldState = ldIDLE ∧ bit glR.glSet 1 = 1 ∧ glR.glExcluded glF1.part = false ∧ glR.gl.fixed = [] ∧ glR.gl.lost = [] ∧ glR.pt.repair.get none (2 * glF1.part + glF1.plane) = none) ∧
    /- 1.6.1 -/ (w2.gl.lost = [] ∧ w2.gl.fixed = []) ∧
    /- 1.6.2 -/ (w31.gl.lost = ((glF1, 0x0106) : GlFrame × Nat) :: ([] : List (GlFrame × Nat))) ∧
    /- 1.6.3 -/ (glSw.gl.lost = [] ∧ glSw.gl.fixed = [glF1] ∧ glSw.branchSig glF1.plane glF1.b glF1.row glF1.col = glSw.golden glF1.plane glF1.b glF1.row glF1.col) ∧
    /- 2 -/ (w32.inMode [mBOOT, mLOAD, mRUN, mSAFE] = false) ∧
    /- 3 -/ (w27.inMode [mBOOT, mLOAD, mRUN, mSAFE] = true ∧ 243 < 2 ^ 36 ∧ (∀ (k : Fin 3), w27.glCopy (↑k : Nat) = 243) ∧ (1 : BitVec 36) ≠ 0) ∧
    /- 4 -/ (243 < 2 ^ 36 ∧ (∀ (k : Fin 3), w27.glCopy (↑k : Nat) = 243) ∧ w27.inMode [mBOOT, mLOAD, mRUN, mSAFE] = true) ∧
    /- 5.1 -/ (w2.srcOk (↑s33 : Nat) = true ∧ bits (0xA5C300F3 : BitVec 32).toNat 16 16 = 42435) ∧
    /- 5.2 -/ (w2.srcOk (↑s1 : Nat) = false) ∧
    /- 5.2 -/ ((w2.srcOk (↑s33 : Nat) = true ∧ bits (0xA5C200F3 : BitVec 32).toNat 16 16 ≠ 42435)) ∧
    /- 6.1 -/ (w2.srcOk (↑s33 : Nat) = true) ∧
    /- 6.2 -/ (w27.srcOk (↑s33 : Nat) = true ∧ w27.inMode [mRUN, mSAFE] = true ∧ bit w27.glSet 0 = 1) ∧
    /- 6.3 -/ (w33.srcOk (↑s33 : Nat) = true ∧ w33.inMode [mRUN, mSAFE] = false) ∧
    /- 6.4 -/ (w2.srcOk (↑s1 : Nat) = false) ∧
    /- 7.1 -/ (w2.gl.times = [] ∧ w2.queue glLogAddr = []) ∧
    /- 7.2 -/ (w34.gl.times = 77 :: ([] : List Nat) ∧ w34.queue glLogAddr = 142176884045544 :: ([] : List Nat)) := by
  and_intros <;> first | with_reducible exact glSg_sig | with_reducible exact glSxn_sig | with_reducible exact glSn_sig | with_reducible exact glSf_one | with_reducible exact glSw_sig | decide +kernel

end Sys2Proof.Tests.PartM
namespace Sys2Proof.Tests.PartN
open Sys2Proof Sys2Proof.Machine
set_option Elab.async false

def scC : SiteCore := State.reset.sc
def scS (l : List (Fld × Nat)) (x : SiteCore) : State := { stw 4 l with sc := x }
def scR : SiteCore := { scC with held := false }
def scH : SiteCore := { scC with held := true, modeHeld := false }
def scFull : State := { scS [] scR with noc := { State.reset.noc with outst := (List.range 64).map (fun t => rq t 97 t 0 0 false []) } }
def scL : State := scS [(R.SC_WIN_BASE 3, 57 * 1024)] scR
def scLq : NocReq := rq 1 97 0 (57 * 2^36 + 2^26 - 1) 63 false []
def scLz : State := State.queuePkt { scL with sc := { scL.sc with pc := 0x10000000 }, noc := { scL.noc with next := scL.noc.next + 1, outst := [scLq] } } ⟨.req scLq, 0, false, some (.header 24 true)⟩
def scP : State := { scL with sc := { scL.sc with posted := [1, 2, 3, 4, 5, 6, 7] } }
def scPq : NocReq := rq 1 97 0 (57 * 2^36 + 2^26 - 1) 63 true [5]
def scPz : State := State.queuePkt { scP with noc := { scP.noc with next := scP.noc.next + 1, outst := [scPq] } } ⟨.req scPq, 0, false, none⟩
def srW : Nat := symEncode 0x0102030405060708090A0B0C0D0E0F10
def srS : State := scS [] { scR with sram := [(65535, srW)] }
def srS1 : State := srS.setSc { srS.sc with sram := [(65535, srW ^^^ 16)] }
def srS2 : State := srS.setSc { srS.sc with sram := [(65535, srW ^^^ 0x10010)] }
def icS (n : Nat) (l : List (Fld × Nat)) : State := scS ([(R.IC_SRC_SENSE n, 2), (R.IC_SRC_PRIO n, 15), (R.IC_SRC_IE n, 1), (R.IC_SRC_IP n, 1)] ++ l) { scR with csr := [(0x300, 8), (0x304, 0x800)] }
def tmS (l : List (Fld × Nat)) : State := scS l scR
def tmA : State := tmS [(R.TM_TARGET_TARGET 7, 2^47-1), (R.TM_PERIOD_PERIOD 7, 100 * 2^32)]
def tmB : State := tmS [(R.TM_TARGET_TARGET 0, 22 * 65536)]
def tmC : State := tmS [(R.TM_CTRL_ARM 7, 1)]
def tmD : State := tmS [(R.TM_TARGET_TARGET 7, 20 * 65536 - 1)]
def tmE : State := tmS [(R.TM_TARGET_TARGET 7, 2^47 + 2^20)]
def spS (m mode : Nat) (l r : List Nat) : State := { stw m [(R.SP_CFG_MODE 3, mode)] with sc := { scR with txf := [(3, l)], rxf := [(3, r)] } }
def spX : SpTx := ⟨[1, 2], 3, 0x50, false⟩
def spT (mode : Nat) : State := { stw 4 [(R.SP_CFG_MODE 3, mode)] with sc := { scR with spRun := [(3, some spX)] } }

def w1 : State := st 4
def w2 : State := scS [] scR
def w3 : State := { stw 3 [] with sc := scH }
def w4 : State := scS [(R.SC_BOOT_SRC, 1)] scH
def w4g : State := scS [(R.SC_CTRL_GO, 1)] scH
def w5 : State := { stw 5 [(R.DBG_SC_CTRL_HALTRESET, 1)] with sc := scH }
def w6 : State := scS [(R.SC_CTRL_DIV, 3), (R.SC_BOOT_ENTRY, 2^19-1)] { scR with boot := 1 }
def w7 : State := scS [(R.SC_CTRL_DIV, 1)] scR
def w8 : State := scS [(R.SC_CTRL_DIV, 1), (R.SC_STATUS_RESETS, 255)] { scR with boot := 1, sram := [(5, 7)], csr := [(0x300, 8)] }
def w9 : State := scS [] { scR with csr := [(0x300, 8), (0x305, 0x10000403)], trapnest := 15, resv := true }
def w10 : State := scS [] { scR with priv := 0 }
def w11 : State := scS [] { scR with trapnest := 1, csr := [(0x300, 0x1880), (0x341, 0x10000100)] }
def w12 : State := scS [(R.IC_STAT_DEPTH, 1)] scR
def w13 : State := scS [(R.SC_SLEEP_TARGET, 1), (R.IC_WAKE_EN 31, 1)] scR
def w14 : State := scS [(R.SC_SLEEP_TARGET, 2)] scR
def w15 : State := scS [(R.SC_STATUS_STATE, 2)] { scR with wake := true }
def w16 : State := scS [(R.SC_STATUS_STATE, 3)] { scR with wake := true, sram := [(5, 7)] }
def w17 : State := scS [] { scR with posted := [3] }
def w18 : State := scS [] { scR with posted := [1, 2, 3, 4, 5, 6, 7, 8] }
def w19 : State := (srS1.sramRow 65535).1
def w20 : State := (srS2.sramRow 65535).1
def w21 : State := (srS.sramPut 65535 (0xFFFF * 2^112) (0xFFFF * 2^112)).1
def w22 : State := (srS2.sramPut 65535 (0xFFFF * 2^112) (0xFFFF * 2^112)).1
def w23 : State := { scS [(R.LD_STATUS_STATE, 1)] { scR with boot := 2 } with ld := Loader.reset }
def w24g : State := scS [(R.SC_CTRL_DIV, 3)] { scR with boot := 1 }
def w24 : State := scS [] { scR with boot := 2 }
/-- The hypotheses of SiteCoreExecution are met: a witness for each clause, by its place in the statement. -/
theorem test_meets_SiteCoreExecution :
    /- 1 -/ (w1.sc.modeHeld = true) ∧
    /- 1 -/ (w2.sc.held = false) ∧
    /- 1 -/ (w3.inMode [mRUN, mSAFE] = false) ∧
    /- 2.1 -/ (w4.sc.held = true ∧ w4.sc.modeHeld = false ∧ w4.mode0 = mRUN ∧ w4.get R.DBG_SC_CTRL_HALTRESET = 0 ∧ (w4.get R.SC_BOOT_SRC ≠ 0 ∨ w4.get R.SC_CTRL_GO = 0)) ∧
    /- 2.1 -/ (w4g.sc.held = true ∧ w4g.sc.modeHeld = false ∧ w4g.mode0 = mRUN ∧ w4g.get R.DBG_SC_CTRL_HALTRESET = 0 ∧ w4g.get R.SC_BOOT_SRC = 0 ∧ w4g.get R.SC_CTRL_GO ≠ 0 ∧ w4g.get R.DBG_SC_STAT_HALTED = 0) ∧
    /- 2.2 -/ (w5.sc.held = true ∧ w5.sc.modeHeld = false ∧ w5.mode0 = mSAFE ∧ w5.get R.DBG_SC_CTRL_HALTRESET ≠ 0) ∧
    /- 3.1 -/ (w6.srcOk (↑s33 : Nat) = true ∧ w6.get R.SC_CTRL_DIV ≠ 0 ∧ w6.get R.SC_CTRL_DIV < 4) ∧
    /- 3.1 -/ (w7.srcOk (↑s97 : Nat) = true ∧ w7.get R.SC_CTRL_DIV ≠ 0 ∧ w7.get R.SC_CTRL_DIV < 4) ∧
    /- 3.1 -/ (w24g.srcOk (↑s33 : Nat) = true ∧ w24g.get R.SC_CTRL_DIV ≠ 0 ∧ w24g.get R.SC_CTRL_DIV < 4 ∧ w24g.sc.boot = 1 ∧ w24g.get R.DBG_SC_STAT_HALTED = 0) ∧
    /- 3.2 -/ (w8.srcOk (↑s33 : Nat) = true ∧ w8.get R.SC_CTRL_DIV ≠ 0 ∧ w8.get R.SC_CTRL_DIV < 4 ∧ (↑s33 : Nat) ≠ 97) ∧
    /- 3.3 -/ (w7.srcOk (↑s97 : Nat) = true ∧ w7.get R.SC_CTRL_DIV ≠ 0 ∧ w7.get R.SC_CTRL_DIV < 4 ∧ (↑s97 : Nat) = 97) ∧
    /- 4.1 -/ (w1.scRuns = false) ∧
    /- 4.2 -/ (w9.scRuns = true) ∧
    /- 5.1 -/ (w10.scRuns = true ∧ w10.sc.priv ≠ 3) ∧
    /- 5.2 -/ (w11.scRuns = true ∧ w11.sc.priv = 3 ∧ w11.sc.trapnest ≠ 0) ∧
    /- 5.3 -/ (w12.scRuns = true ∧ w12.sc.priv = 3 ∧ w12.sc.trapnest = 0 ∧ w12.get R.IC_STAT_DEPTH ≠ 0) ∧
    /- 6.1 -/ (w2.scRuns = true ∧ w2.sc.step = false ∧ w2.get R.SC_SLEEP_TARGET = 0) ∧
    /- 6.2 -/ (w13.scRuns = true ∧ w13.sc.step = false ∧ w13.get R.SC_SLEEP_TARGET = 1 ∧ w13.get (R.IC_WAKE_EN (↑(31 : Fin 32) : Nat)) ≠ 0 ∧ w13.attached = false ∧ w13.sc.posted = []) ∧
    /- 6.3 -/ (w14.scRuns = true ∧ w14.sc.step = false ∧ w14.get R.SC_SLEEP_TARGET ≠ 0 ∧ (∀ (w : Fin 32), w14.get (R.IC_WAKE_EN (↑w : Nat)) = 0)) ∧
    /- 7.1 -/ (w15.sc.held = false ∧ w15.sc.wake = true ∧ w15.get R.SC_STATUS_STATE = scSLEEP) ∧
    /- 7.2 -/ (w16.sc.held = false ∧ w16.sc.wake = true ∧ w16.get R.SC_STATUS_STATE = scOFF) ∧
    /- 8.1 -/ (w2.scRuns = true ∧ w2.sc.posted = []) ∧
    /- 8.2 -/ (w17.scRuns = true ∧ w17.sc.posted ≠ []) ∧
    /- 9.1 -/ (w2.scRuns = true ∧ (3 : BitVec 28).toNat % 2 ^ (↑(1 : Fin 3) : Nat) ≠ 0) ∧
    /- 9.2 -/ (scFull.scRuns = true ∧ (4 : BitVec 28).toNat % 2 ^ (↑(2 : Fin 3) : Nat) = 0 ∧ scFull.freeTag 97 = none) ∧
    /- 9.3 -/ (scL.scRuns = true ∧ (0xFFFFFFF : BitVec 28).toNat % 2 ^ (↑(0 : Fin 3) : Nat) = 0 ∧ scL.freeTag 97 = some 0 ∧ 57 * 2 ^ 38 + 2 ^ 28 - 1 = scL.winBase (↑(3 : Fin 4) : Nat) * 2 ^ 28 + (0xFFFFFFF : BitVec 28).toNat ∧ scLq = { id := scL.noc.next, src := 97, tag := 0, waddr := (57 * 2 ^ 38 + 2 ^ 28 - 1) / 4, last := (57 * 2 ^ 38 + 2 ^ 28 - 1) / 4 % 64, wr := false, epoch := 0, data := [] } ∧ scLz = ({ scL with noc := have __src := scL.noc; { __src with next := scL.noc.next + 1, outst := scL.noc.outst ++ [scLq] }, sc := have __src := scL.sc; { __src with pc := (0x10000000 : BitVec 32).toNat } } : State).queuePkt { body := NocBody.req scLq, cls := 0, poison := false, upset := (some (.header 24 true) : Option NocUpset) }) ∧
    /- 10.1 -/ (w2.scRuns = true ∧ (↑(1 : Fin 3) : Nat) < 2) ∧
    /- 10.2 -/ (w2.scRuns = true ∧ (↑(2 : Fin 3) : Nat) = 2 ∧ (0xFFFFFFD : BitVec 28).toNat % 4 ≠ 0) ∧
    /- 10.3 -/ (w18.scRuns = true ∧ (↑(2 : Fin 3) : Nat) = 2 ∧ (0xFFFFFFC : BitVec 28).toNat % 4 = 0 ∧ 8 ≤ w18.sc.posted.length) ∧
    /- 10.3 -/ (scFull.scRuns = true ∧ (↑(2 : Fin 3) : Nat) = 2 ∧ (0xFFFFFFC : BitVec 28).toNat % 4 = 0 ∧ scFull.freeTag 97 = none) ∧
    /- 10.4 -/ (scP.scRuns = true ∧ (↑(2 : Fin 3) : Nat) = 2 ∧ (0xFFFFFFC : BitVec 28).toNat % 4 = 0 ∧ scP.sc.posted.length < 8 ∧ scP.freeTag 97 = some 0 ∧ 57 * 2 ^ 38 + 2 ^ 28 - 4 = scP.winBase (↑(3 : Fin 4) : Nat) * 2 ^ 28 + (0xFFFFFFC : BitVec 28).toNat ∧ scPq = { id := scP.noc.next, src := 97, tag := 0, waddr := (57 * 2 ^ 38 + 2 ^ 28 - 4) / 4, last := (57 * 2 ^ 38 + 2 ^ 28 - 4) / 4 % 64, wr := true, epoch := 0, data := [(5 : BitVec 32).toNat] } ∧ scPz = ({ scP with noc := have __src := scP.noc; { __src with next := scP.noc.next + 1, outst := scP.noc.outst ++ [scPq] } } : State).queuePkt { body := NocBody.req scPq, cls := 0, poison := false, upset := (none : Option NocUpset) }) ∧
    /- 11.1 -/ (srS.scRuns = true ∧ srS = srS.setSc (have __src := srS.sc; { __src with sram := srS.sc.sram.set 0 ((0xFFFFD : BitVec 20).toNat / 16) (srS.sc.sram.get 0 ((0xFFFFD : BitVec 20).toNat / 16) ^^^ (0 : BitVec 144).toNat) }) ∧ (0xFFFFD : BitVec 20).toNat % 2 ^ (↑(1 : Fin 3) : Nat) ≠ 0) ∧
    /- 11.2.1 -/ (srS.scRuns = true ∧ srS = srS.setSc (have __src := srS.sc; { __src with sram := srS.sc.sram.set 0 ((0xFFFFC : BitVec 20).toNat / 16) (srS.sc.sram.get 0 ((0xFFFFC : BitVec 20).toNat / 16) ^^^ (0 : BitVec 144).toNat) }) ∧ (0xFFFFC : BitVec 20).toNat % 2 ^ (↑(2 : Fin 3) : Nat) = 0 ∧ srS.sramRow ((0xFFFFC : BitVec 20).toNat / 16) = (srS, some 1339673755198158349044581307228491536) ∧ (↑(31 : Fin 64) : Nat) ≠ 0) ∧
    /- 11.2.1 -/ (srS.scRuns = true ∧ srS1 = srS.setSc (have __src := srS.sc; { __src with sram := srS.sc.sram.set 0 ((0xFFFFF : BitVec 20).toNat / 16) (srS.sc.sram.get 0 ((0xFFFFF : BitVec 20).toNat / 16) ^^^ (16 : BitVec 144).toNat) }) ∧ (0xFFFFF : BitVec 20).toNat % 2 ^ (↑(0 : Fin 3) : Nat) = 0 ∧ srS1.sramRow ((0xFFFFF : BitVec 20).toNat / 16) = (w19, some 1339673755198158349044581307228491536) ∧ (↑(31 : Fin 64) : Nat) ≠ 0) ∧
    /- 11.2.2 -/ (srS.scRuns = true ∧ srS2 = srS.setSc (have __src := srS.sc; { __src with sram := srS.sc.sram.set 0 ((0xFFFFF : BitVec 20).toNat / 16) (srS.sc.sram.get 0 ((0xFFFFF : BitVec 20).toNat / 16) ^^^ (0x10010 : BitVec 144).toNat) }) ∧ (0xFFFFF : BitVec 20).toNat % 2 ^ (↑(0 : Fin 3) : Nat) = 0 ∧ srS2.sramRow ((0xFFFFF : BitVec 20).toNat / 16) = (w20, none)) ∧
    /- 11.2.3 -/ (srS.scRuns = true ∧ srS = srS.setSc (have __src := srS.sc; { __src with sram := srS.sc.sram.set 0 ((0xFFFFE : BitVec 20).toNat / 16) (srS.sc.sram.get 0 ((0xFFFFE : BitVec 20).toNat / 16) ^^^ (0 : BitVec 144).toNat) }) ∧ (0xFFFFE : BitVec 20).toNat % 2 ^ (↑(1 : Fin 3) : Nat) = 0 ∧ srS.sramPut ((0xFFFFE : BitVec 20).toNat / 16) ((2 ^ (8 * 2 ^ (↑(1 : Fin 3) : Nat)) - 1) * 2 ^ (8 * ((0xFFFFE : BitVec 20).toNat % 16))) ((0xFFFFFFFF : BitVec 32).toNat % 2 ^ (8 * 2 ^ (↑(1 : Fin 3) : Nat)) * 2 ^ (8 * ((0xFFFFE : BitVec 20).toNat % 16))) = (w21, true)) ∧
    /- 11.2.4 -/ (srS.scRuns = true ∧ srS2 = srS.setSc (have __src := srS.sc; { __src with sram := srS.sc.sram.set 0 ((0xFFFFE : BitVec 20).toNat / 16) (srS.sc.sram.get 0 ((0xFFFFE : BitVec 20).toNat / 16) ^^^ (0x10010 : BitVec 144).toNat) }) ∧ (0xFFFFE : BitVec 20).toNat % 2 ^ (↑(1 : Fin 3) : Nat) = 0 ∧ srS2.sramPut ((0xFFFFE : BitVec 20).toNat / 16) ((2 ^ (8 * 2 ^ (↑(1 : Fin 3) : Nat)) - 1) * 2 ^ (8 * ((0xFFFFE : BitVec 20).toNat % 16))) ((0xFFFFFFFF : BitVec 32).toNat % 2 ^ (8 * 2 ^ (↑(1 : Fin 3) : Nat)) * 2 ^ (8 * ((0xFFFFE : BitVec 20).toNat % 16))) = (w22, false)) ∧
    /- 11.2.5 -/ (srS.scRuns = true ∧ srS1 = srS.setSc (have __src := srS.sc; { __src with sram := srS.sc.sram.set 0 ((0xFFFFF : BitVec 20).toNat / 16) (srS.sc.sram.get 0 ((0xFFFFF : BitVec 20).toNat / 16) ^^^ (16 : BitVec 144).toNat) }) ∧ (0xFFFFF : BitVec 20).toNat % 2 ^ (↑(0 : Fin 3) : Nat) = 0 ∧ srS1.sramRow ((0xFFFFF : BitVec 20).toNat / 16) = (w19, some 1339673755198158349044581307228491536)) ∧
    /- 11.2.6 -/ (srS.scRuns = true ∧ srS = srS.setSc (have __src := srS.sc; { __src with sram := srS.sc.sram.set 0 ((0xFFFFE : BitVec 20).toNat / 16) (srS.sc.sram.get 0 ((0xFFFFE : BitVec 20).toNat / 16) ^^^ (0 : BitVec 144).toNat) }) ∧ (0xFFFFE : BitVec 20).toNat % 2 ^ (↑(1 : Fin 3) : Nat) = 0 ∧ srS.sc.resv = false ∧ (↑(31 : Fin 64) : Nat) ≠ 0) ∧
    /- 12 -/ (w23.ldState ≠ ldIDLE) ∧
    /- 13 -/ (w24.sc.boot = 2 ∧ w24.sc.held = false ∧ w24.ldState = ldIDLE) := by
  and_intros <;> decide +kernel

def w25 : State := scS [(R.IC_SRC_SENSE 383, 2)] scR
def w26 : State := scS [(R.IC_SRC_IP 383, 1)] scR
def w27 : State := scS [(R.IC_SRC_SENSE 383, 4), (R.IC_SRC_PRIO 383, 15)] scR
def w28 : State := scS [(R.IC_SRC_SENSE 383, 4), (R.IC_SRC_PRIO 383, 15), (R.IC_SRC_IP 383, 1)] scR
def w29 : State := scS [(R.IC_SRC_SENSE 224, 2)] scR
def w30 : State := icS 383 [(R.IC_STAT_DEPTH, 15), (R.IC_STAT_LEVEL, 14)]
def w31 : State := icS 1 []
def w32 : State := scS [(R.IC_SP_ADDR, 0xFFFFFFF0)] { scR with spilled := 1 }
def w32s : State := scS [(R.SC_STATUS_STATE, 2)] { scR with spilled := 1 }
def w33 : State := scS [(R.WDG_CTRL_LOAD, 2^32-1)] scR
/-- The hypotheses of InterruptsAndTimers are met: a witness for each clause, by its place in the statement. -/
theorem test_meets_InterruptsAndTimers :
    /- 1 -/ (icExists (↑(63 : Fin 384) : Nat) = false) ∧
    /- 1 -/ (icPulse (↑(351 : Fin 384) : Nat) = true) ∧
    /- 2 -/ (icExists (↑(383 : Fin 384) : Nat) = true ∧ icPulse (↑(383 : Fin 384) : Nat) = false ∧ w25.sc.held = false ∧ w25.scState < 2) ∧
    /- 2 -/ (icExists (↑(383 : Fin 384) : Nat) = true ∧ icPulse (↑(383 : Fin 384) : Nat) = false ∧ w26.sc.held = false ∧ w26.scState < 2) ∧
    /- 3.1 -/ (w27.srcOk (↑s33 : Nat) = true ∧ icExists (↑(383 : Fin 384) : Nat) = true ∧ w27.get (R.IC_SRC_PRIO (↑(383 : Fin 384) : Nat)) < 16 ∧ w27.get (R.IC_SRC_IE (↑(383 : Fin 384) : Nat)) < 2 ∧ 2 ≤ w27.get (R.IC_SRC_SENSE (↑(383 : Fin 384) : Nat)) ∧ w27.get (R.IC_SRC_SENSE (↑(383 : Fin 384) : Nat)) < 5) ∧
    /- 3.2 -/ (w28.srcOk (↑s33 : Nat) = true ∧ icExists (↑(383 : Fin 384) : Nat) = true ∧ w28.get (R.IC_SRC_PRIO (↑(383 : Fin 384) : Nat)) < 16 ∧ w28.get (R.IC_SRC_IE (↑(383 : Fin 384) : Nat)) < 2 ∧ 2 ≤ w28.get (R.IC_SRC_SENSE (↑(383 : Fin 384) : Nat)) ∧ w28.get (R.IC_SRC_SENSE (↑(383 : Fin 384) : Nat)) < 5) ∧
    /- 4 -/ (w2.srcOk (↑s1 : Nat) = false) ∧
    /- 5.1 -/ (w2.srcOk (↑s33 : Nat) = true) ∧
    /- 5.2 -/ (w29.srcOk (↑s33 : Nat) = true ∧ w29.sc.held = false ∧ w29.scState < 2 ∧ w29.get (R.IC_SRC_SENSE (128 + 32 * (↑(3 : Fin 4) : Nat))) = 2 ∧ w29.sc.level.get 0 (128 + 32 * (↑(3 : Fin 4) : Nat)) = 0) ∧
    /- 6.1 -/ (w2.sc.held = false ∧ w2.scState ≤ scIDLE ∧ w2.get R.DBG_SC_STAT_EMUL = 0 ∧ w2.get R.DBG_SC_STAT_HALTED = 0 ∧ w2.sc.boot = 0 ∧ w2.sc.step = false ∧ w2.icBest (w2.get R.IC_STAT_LEVEL) = none) ∧
    /- 6.2 -/ (w30.sc.held = false ∧ w30.scState ≤ scIDLE ∧ w30.get R.DBG_SC_STAT_EMUL = 0 ∧ w30.get R.DBG_SC_STAT_HALTED = 0 ∧ w30.sc.boot = 0 ∧ w30.sc.step = false ∧ w30.icBest (w30.get R.IC_STAT_LEVEL) = some 383 ∧ 383 < 384 ∧ w30.sc.sheaf.length < 4) ∧
    /- 6.2 -/ (w31.sc.held = false ∧ w31.scState ≤ scIDLE ∧ w31.get R.DBG_SC_STAT_EMUL = 0 ∧ w31.get R.DBG_SC_STAT_HALTED = 0 ∧ w31.sc.boot = 0 ∧ w31.sc.step = false ∧ w31.icBest (w31.get R.IC_STAT_LEVEL) = some 1 ∧ 1 < 384 ∧ w31.sc.sheaf.length < 4) ∧
    /- 7.1 -/ (w2.sc.spilled = 0) ∧
    /- 7.1 -/ (scIDLE < w32s.scState) ∧
    /- 7.2 -/ (w32.scState ≤ scIDLE ∧ w32.sc.spilled ≠ 0 ∧ w32.sc.sheaf.length < 4) ∧
    /- 8.1 -/ (tmA.srcOk (↑s33 : Nat) = true ∧ tmA.get (R.TM_CTRL_ARM (↑(7 : Fin 8) : Nat)) = 0 ∧ tmA.mode0 = mRUN ∧ (true = true → 100 * 2 ^ 32 ≤ tmA.get (R.TM_PERIOD_PERIOD (↑(7 : Fin 8) : Nat)) ∧ tmA.get (R.TM_PERIOD_PERIOD (↑(7 : Fin 8) : Nat)) < 2 ^ 63) ∧ (tmA.get (R.TM_TARGET_TARGET (↑(7 : Fin 8) : Nat)) / 65536 + 2 ^ 32 - tmA.timeTick.time48 78 / 65536) % 2 ^ 32 ≠ 2 ^ 31 ∧ 20 * 65536 ≤ signed 48 (tmA.get (R.TM_TARGET_TARGET (↑(7 : Fin 8) : Nat)) + 2 ^ 48 - tmA.timeTick.time48 78)) ∧
    /- 8.1 -/ (tmB.srcOk (↑s33 : Nat) = true ∧ tmB.get (R.TM_CTRL_ARM (↑(0 : Fin 8) : Nat)) = 0 ∧ tmB.mode0 = mRUN ∧ (false = true → 100 * 2 ^ 32 ≤ tmB.get (R.TM_PERIOD_PERIOD (↑(0 : Fin 8) : Nat)) ∧ tmB.get (R.TM_PERIOD_PERIOD (↑(0 : Fin 8) : Nat)) < 2 ^ 63) ∧ (tmB.get (R.TM_TARGET_TARGET (↑(0 : Fin 8) : Nat)) / 65536 + 2 ^ 32 - tmB.timeTick.time48 78 / 65536) % 2 ^ 32 ≠ 2 ^ 31 ∧ 20 * 65536 ≤ signed 48 (tmB.get (R.TM_TARGET_TARGET (↑(0 : Fin 8) : Nat)) + 2 ^ 48 - tmB.timeTick.time48 78)) ∧
    /- 8.2 -/ (tmC.srcOk (↑s33 : Nat) = true ∧ tmC.get (R.TM_CTRL_ARM (↑(7 : Fin 8) : Nat)) ≠ 0) ∧
    /- 8.3 -/ (tmD.srcOk (↑s33 : Nat) = true ∧ tmD.get (R.TM_CTRL_ARM (↑(7 : Fin 8) : Nat)) = 0 ∧ signed 48 (tmD.get (R.TM_TARGET_TARGET (↑(7 : Fin 8) : Nat)) + 2 ^ 48 - tmD.timeTick.time48 78) < 20 * 65536) ∧
    /- 8.3 -/ (tmE.srcOk (↑s33 : Nat) = true ∧ tmE.get (R.TM_CTRL_ARM (↑(7 : Fin 8) : Nat)) = 0 ∧ signed 48 (tmE.get (R.TM_TARGET_TARGET (↑(7 : Fin 8) : Nat)) + 2 ^ 48 - tmE.timeTick.time48 78) < 20 * 65536) ∧
    /- 8.4 -/ (tmC.srcOk (↑s33 : Nat) = true ∧ tmC.get (R.TM_CTRL_ARM (↑(7 : Fin 8) : Nat)) ≠ 0) ∧
    /- 9.1 -/ (w33.srcOk (↑s33 : Nat) = true ∧ (0x4B1C : BitVec 16).toNat = 19228) ∧
    /- 9.2 -/ (w2.srcOk (↑s33 : Nat) = true ∧ (0x4B1D : BitVec 16).toNat ≠ 19228) := by
  and_intros <;> decide +kernel

def w34 : State := stw 4 [(R.SP_CFG_MODE 3, 2)]
def w35 : State := spS 4 2 (List.range 16) []
def w36 : State := spS 5 2 (List.range 16) []
def w37 : State := spT 2
def w38 : State := spT 3
def w39 : State := spS 4 2 (List.range 15) []
def w40 : State := spS 4 2 [] [0x2FF, 5]
def w41 : State := spS 4 1 [] (List.range 15)
def w42 : State := spS 4 1 [] (List.range 16)
def w43 : State := spS 4 1 [] []
def w44 : State := spS 4 1 [8, 9] []
def w45 : State := { st 4 with siteEvts := [2^63 + 5, 6] }
/-- The hypotheses of SerialPortsAndSiteEvents are met: a witness for each clause, by its place in the statement. -/
theorem test_meets_SerialPortsAndSiteEvents :
    /- 1.1 -/ (w1.srcOk (↑s1 : Nat) = false) ∧
    /- 1.2 -/ (w34.srcOk (↑s33 : Nat) = true ∧ bits (0x100009 : BitVec 32).toNat 0 2 = 1 ∧ bits (0x100009 : BitVec 32).toNat 3 2 ≠ 3 ∧ 16 ≤ bits (0x100009 : BitVec 32).toNat 16 16 ∧ w34.spBusy (↑(3 : Fin 4) : Nat) = false ∧ w34.get (R.SP_CFG_MODE (↑(3 : Fin 4) : Nat)) ≠ 0) ∧
    /- 1.3 -/ (w1.srcOk (↑s33 : Nat) = true ∧ (bits (0x0F0001 : BitVec 32).toNat 0 2 = 1 ∧ bits (0x0F0001 : BitVec 32).toNat 16 16 < 16)) ∧
    /- 1.3 -/ (w1.srcOk (↑s33 : Nat) = true ∧ bits (0x100019 : BitVec 32).toNat 3 2 = 3) ∧
    /- 1.3 -/ (w1.srcOk (↑s33 : Nat) = true ∧ (bits (0x630003 : BitVec 32).toNat 0 2 = 3 ∧ bits (0x630003 : BitVec 32).toNat 16 16 < 100)) ∧
    /- 2.1 -/ (w35.srcOk (↑s33 : Nat) = true ∧ w35.mode0 = mRUN ∧ bits (0x00020210 : BitVec 32).toNat 0 5 ≤ 16 ∧ bits (0x00020210 : BitVec 32).toNat 5 5 ≤ 16 ∧ 2 ≤ w35.get (R.SP_CFG_MODE (↑(3 : Fin 4) : Nat)) ∧ w35.spBusy (↑(3 : Fin 4) : Nat) = false ∧ bits (0x00020210 : BitVec 32).toNat 0 5 ≤ (w35.spTx (↑(3 : Fin 4) : Nat)).length ∧ bits (0x00020210 : BitVec 32).toNat 5 5 + (w35.spRx (↑(3 : Fin 4) : Nat)).length ≤ 16) ∧
    /- 2.2 -/ (w36.srcOk (↑s33 : Nat) = true ∧ w36.mode0 ≠ mRUN) ∧
    /- 3.1 -/ (w1.sc.spRun.get none (↑(3 : Fin 4) : Nat) = none) ∧
    /- 3.2 -/ (w37.sc.spRun.get none (↑(3 : Fin 4) : Nat) = some spX) ∧
    /- 3.2 -/ (w38.sc.spRun.get none (↑(3 : Fin 4) : Nat) = some spX) ∧
    /- 4.1 -/ (w39.srcOk (↑s33 : Nat) = true ∧ (w39.spTx (↑(3 : Fin 4) : Nat)).length < 16) ∧
    /- 4.2 -/ (w35.srcOk (↑s33 : Nat) = true ∧ 16 ≤ (w35.spTx (↑(3 : Fin 4) : Nat)).length) ∧
    /- 5.1 -/ (w1.spRx (↑(3 : Fin 4) : Nat) = []) ∧
    /- 5.2 -/ (w40.spRx (↑(3 : Fin 4) : Nat) = 767 :: ([5] : List Nat)) ∧
    /- 6.1 -/ (w41.get (R.SP_CFG_MODE (↑(3 : Fin 4) : Nat)) = 1 ∧ w41.mode0 = mRUN ∧ (w41.spRx (↑(3 : Fin 4) : Nat)).length < 16) ∧
    /- 6.2 -/ (w42.get (R.SP_CFG_MODE (↑(3 : Fin 4) : Nat)) = 1 ∧ w42.mode0 = mRUN ∧ 16 ≤ (w42.spRx (↑(3 : Fin 4) : Nat)).length) ∧
    /- 6.3 -/ (w43.get (R.SP_CFG_MODE (↑(3 : Fin 4) : Nat)) = 1 ∧ w43.mode0 = mRUN ∧ w43.spTx (↑(3 : Fin 4) : Nat) = []) ∧
    /- 6.4 -/ (w44.get (R.SP_CFG_MODE (↑(3 : Fin 4) : Nat)) = 1 ∧ w44.mode0 = mRUN ∧ w44.spTx (↑(3 : Fin 4) : Nat) = 8 :: ([9] : List Nat)) ∧
    /- 7.1 -/ (w1.siteEvts = []) ∧
    /- 7.2 -/ (w45.siteEvts = (2 ^ 63 + 5) :: ([6] : List Nat)) := by
  and_intros <;> decide +kernel

end Sys2Proof.Tests.PartN
namespace Sys2Proof.Tests.PartO
open Sys2Proof Sys2Proof.Machine
set_option Elab.async false

def scC : SiteCore := State.reset.sc
def scR : SiteCore := { scC with held := false }
def dbS (lv : Nat) (l : List (Fld × Nat)) (x : SiteCore := scR) : State := { stw 4 l with sc := x, dbgLevel := lv }
def dbH : State := dbS 2 [(R.DBG_SC_STAT_HALTED, 1)] { scR with x := [(63, 0xFFFFFFFF), (5, 6)] }
def dqS (st lv : Nat) (q : Seq) (l : List (Fld × Nat)) : State := { sqS f6a st q l with dbgLevel := lv }
def dqC : SeqInstr := ⟨0, 5, false, false, false, 0, false⟩

def w1 : State := dbS 1 []
def w2 : State := dbS 2 [(R.DBG_SC_CTRL_ATTACH, 1)] { scR with resv := true }
def w3 : State := dbS 2 [(R.DBG_SC_STAT_HALTED, 1), (R.DBG_SC_STAT_CAUSE, 6), (R.WDG_STAT_FROZEN, 1), (R.WDG_STAT_COUNT, 999)]
def w4 : State := dbS 2 [] { scR with sram := [(3, 4)] }
def w5 : State := dbS 2 [] { scR with held := true }
def w6 : State := dbS 2 []
def w7 : State := dbS 2 [] { scR with step := true }
def w8 : State := dbS 2 [] { scR with hreq := true }
def w9 : State := dbS 2 [] { scR with hreq := true, resv := true }
def w10 : State := dbS 2 [(R.DBG_SC_STAT_DEFERRED, 1)] { scR with hreq := true, resv := true }
def w11 : State := dbS 2 [(R.DBG_BP_EN 7, 1), (R.DBG_BP_ADDR 7, 2^31 - 1)]
def w12 : State := dbS 2 [(R.DBG_WP_KIND 3, 2), (R.DBG_WP_ADDR 3, 0x10000100), (R.DBG_WP_LOG2SIZE 3, 4)]
def w13 : State := dbS 2 [(R.DBG_SC_CTRL_EBREAKM, 1)]
def w14 : State := dbS 0 []
def w15 : State := dbS 0 [(R.DBG_VT_FLAGS_TXFULL, 1), (R.DBG_VT_FLAGS_TXOVR, 255)]
def w16 : State := { dbH with tap := { dbH.tap with ending := true } }
def w17 : State := ({ dbH with tap := { dbH.tap with ending := true } }).scDbgFree
/-- The hypotheses of SiteCoreRunControl are met: a witness for each clause, by its place in the statement. -/
theorem test_meets_SiteCoreRunControl :
    /- 1.1 -/ ((↑s33 : Nat) ≠ 161) ∧
    /- 1.2 -/ ((↑s161 : Nat) = 161 ∧ w1.dbgLevel < 2) ∧
    /- 2.1 -/ ((↑s161 : Nat) = 161 ∧ w2.dbgLevel = 2 ∧ w2.get R.DBG_SC_CTRL_ATTACH < 2 ∧ w2.mode0 = mRUN ∧ w2.get R.DBG_SC_STAT_HALTED = 0) ∧
    /- 2.2 -/ ((↑s161 : Nat) = 161 ∧ w3.dbgLevel = 2 ∧ w3.get R.DBG_SC_CTRL_ATTACH < 2 ∧ w3.mode0 = mRUN ∧ w3.get R.DBG_SC_STAT_HALTED ≠ 0) ∧
    /- 2.3 -/ ((↑s161 : Nat) = 161 ∧ w4.dbgLevel = 2 ∧ w4.get R.DBG_SC_CTRL_ATTACH < 2 ∧ w4.mode0 = mRUN) ∧
    /- 3 -/ (w5.scBoundary = false) ∧
    /- 4.1 -/ (w6.sc.held = false ∧ w6.get R.DBG_SC_STAT_HALTED = 0 ∧ w6.scState = scRUN ∧ w6.sc.load = none ∧ w6.sc.fence = false ∧ w6.sc.step = false ∧ w6.sc.hreq = false) ∧
    /- 4.2 -/ (w7.sc.held = false ∧ w7.get R.DBG_SC_STAT_HALTED = 0 ∧ w7.scState = scRUN ∧ w7.sc.load = none ∧ w7.sc.fence = false ∧ w7.sc.step = true) ∧
    /- 4.2 -/ (w8.sc.held = false ∧ w8.get R.DBG_SC_STAT_HALTED = 0 ∧ w8.scState = scRUN ∧ w8.sc.load = none ∧ w8.sc.fence = false ∧ (w8.sc.step = false ∧ w8.sc.hreq = true ∧ w8.get R.DBG_SC_STAT_DEFERRED = 0 ∧ w8.sc.resv = false)) ∧
    /- 4.3 -/ (w9.sc.held = false ∧ w9.get R.DBG_SC_STAT_HALTED = 0 ∧ w9.scState = scRUN ∧ w9.sc.load = none ∧ w9.sc.fence = false ∧ w9.sc.step = false ∧ w9.sc.hreq = true ∧ w9.get R.DBG_SC_STAT_DEFERRED = 0 ∧ w9.sc.resv = true) ∧
    /- 4.4 -/ (w6.sc.held = false ∧ w6.get R.DBG_SC_STAT_HALTED = 0 ∧ w6.scState = scRUN ∧ w6.sc.load = none ∧ w6.sc.fence = false ∧ w6.get R.DBG_SC_STAT_DEFERRED = 0) ∧
    /- 4.5 -/ (w10.sc.held = false ∧ w10.get R.DBG_SC_STAT_HALTED = 0 ∧ w10.scState = scRUN ∧ w10.sc.load = none ∧ w10.sc.fence = false ∧ w10.get R.DBG_SC_STAT_DEFERRED ≠ 0) ∧
    /- 5.1.1 -/ (w11.scRuns = true ∧ w11.get (R.DBG_BP_EN (↑(7 : Fin 8) : Nat)) ≠ 0) ∧
    /- 5.1.2 -/ (w6.scRuns = true ∧ w6.get (R.DBG_BP_EN (↑(7 : Fin 8) : Nat)) = 0) ∧
    /- 5.2.1 -/ (w12.scRuns = true ∧ w12.wpMatches (↑(3 : Fin 4) : Nat) (0x100000FF : BitVec 32).toNat (↑(1 : Fin 3) : Nat) true = true) ∧
    /- 5.2.2 -/ (w12.scRuns = true ∧ w12.wpMatches (↑(3 : Fin 4) : Nat) (0x10000110 : BitVec 32).toNat (↑(0 : Fin 3) : Nat) true = false) ∧
    /- 5.3.1 -/ (w6.scRuns = true ∧ w6.get R.DBG_SC_CTRL_EBREAKM = 0) ∧
    /- 5.3.2 -/ (w13.scRuns = true ∧ w13.get R.DBG_SC_CTRL_EBREAKM ≠ 0) ∧
    /- 6.1 -/ ((↑s33 : Nat) ≠ 161) ∧
    /- 6.1 -/ (((↑s161 : Nat) = 161 ∧ w1.dbgLevel < 2)) ∧
    /- 6.1 -/ (((↑s161 : Nat) = 161 ∧ w6.dbgLevel = 2 ∧ w6.get R.DBG_SC_STAT_HALTED = 0)) ∧
    /- 6.2.1 -/ ((↑s161 : Nat) = 161 ∧ dbH.dbgLevel = 2 ∧ dbH.get R.DBG_SC_STAT_HALTED ≠ 0 ∧ bit (BitVec.toNat (63 : Word64)) 13 = 0 ∧ bits (BitVec.toNat (63 : Word64)) 0 13 < 64) ∧
    /- 6.2.2 -/ ((↑s161 : Nat) = 161 ∧ dbH.dbgLevel = 2 ∧ dbH.get R.DBG_SC_STAT_HALTED ≠ 0 ∧ bit (BitVec.toNat (0xABCD12340000203F : Word64)) 13 = 1 ∧ 0 < bits (BitVec.toNat (0xABCD12340000203F : Word64)) 0 13 ∧ bits (BitVec.toNat (0xABCD12340000203F : Word64)) 0 13 < 64) ∧
    /- 6.2.3 -/ ((↑s161 : Nat) = 161 ∧ dbH.dbgLevel = 2 ∧ dbH.get R.DBG_SC_STAT_HALTED ≠ 0 ∧ bit (BitVec.toNat (0xABCD123500002040 : Word64)) 13 = 1 ∧ bits (BitVec.toNat (0xABCD123500002040 : Word64)) 0 13 = 64) ∧
    /- 6.2.4 -/ ((↑s161 : Nat) = 161 ∧ dbH.dbgLevel = 2 ∧ dbH.get R.DBG_SC_STAT_HALTED ≠ 0 ∧ 65 ≤ bits (BitVec.toNat (0x7F : Word64)) 0 13 ∧ bits (BitVec.toNat (0x7F : Word64)) 0 13 < 128) ∧
    /- 6.2.4 -/ ((↑s161 : Nat) = 161 ∧ dbH.dbgLevel = 2 ∧ dbH.get R.DBG_SC_STAT_HALTED ≠ 0 ∧ 65 ≤ bits (BitVec.toNat (0xABCD123500002041 : Word64)) 0 13 ∧ bits (BitVec.toNat (0xABCD123500002041 : Word64)) 0 13 < 128) ∧
    /- 7.1 -/ ((↑s33 : Nat) ≠ 97) ∧
    /- 7.2 -/ ((↑s97 : Nat) = 97 ∧ w14.get R.DBG_VT_FLAGS_TXFULL = 0) ∧
    /- 7.3 -/ ((↑s97 : Nat) = 97 ∧ w15.get R.DBG_VT_FLAGS_TXFULL ≠ 0) ∧
    /- 7.4 -/ (w14.dbgLevel = 0) ∧
    /- 7.5 -/ ((↑s161 : Nat) = 161 ∧ w1.dbgLevel ≠ 0 ∧ w1.get R.DBG_VT_FLAGS_RXFULL = 0) ∧
    /- 8.1 -/ (w1.tap.ending = false) ∧
    /- 8.2 -/ (w16.tap.ending = true ∧ w17 = w16.scDbgFree) := by
  and_intros <;> decide +kernel

def w18 : State := dqS 0 0 Seq.reset []
def w19 : State := dqS 0 1 Seq.reset []
def w20 : State := dqS 4 2 Seq.reset []
def w21 : State := dqS 2 2 Seq.reset []
def w22 : State := dqS 1 2 Seq.reset []
def w23 : State := dqS 3 2 { Seq.reset with haltFrom := 1 } []
def w24 : State := dqS 1 2 { Seq.reset with cur := some dqC } [(R.DBG_SQ_BP_EN_1 0 31, 1), (R.DBG_SQ_BP_BP_1 0 31, 5)]
def w25 : State := dqS 1 2 { Seq.reset with cur := some { dqC with slot := true } } [(R.DBG_SQ_BP_EN_0 0 31, 1), (R.DBG_SQ_BP_BP_0 0 31, 5)]
def w26 : SeqInstr := { dqC with slot := true }
def w27 : State := dqS 1 2 { Seq.reset with cur := some { dqC with slot := true } } [(R.DBG_SQ_BP_EN_0 0 31, 1), (R.DBG_SQ_BP_BP_1 0 31, 5)]
def w28 : State := dqS 3 2 Seq.reset []
def w29 : State := (dqS 3 2 Seq.reset []).commit (Config.rp 0 3 + 0x8020 + 0x40 * 31)
def w30 : State := (dqS 2 2 Seq.reset []).commit (Config.rp 0 3 + 0x8020 + 0x40 * 31)
def w31 : State := dqS 4 2 Seq.reset [(R.DBG_SQ_SEL_ITEM 0 31, 1), (R.DBG_SQ_SEL_NUM 0 31, 7)]
def w32 : State := (dqS 4 2 Seq.reset [(R.DBG_SQ_SEL_ITEM 0 31, 1), (R.DBG_SQ_SEL_NUM 0 31, 7)]).commit (Config.rp 0 3 + 0x8020 + 0x40 * 31)
def w33 : State := dqS 0 2 Seq.reset [(R.DBG_SQ_SEL_NUM 0 31, 15), (R.DBG_SQ_SEL_LANE 0 31, 7)]
def w34 : State := (dqS 0 2 Seq.reset [(R.DBG_SQ_SEL_NUM 0 31, 15), (R.DBG_SQ_SEL_LANE 0 31, 7)]).commit (Config.rp 0 3 + 0x8020 + 0x40 * 31)
def w35 : State := dqS 3 2 Seq.reset [(R.DBG_SQ_SEL_ITEM 0 31, 5)]
def w36 : State := (dqS 3 2 Seq.reset [(R.DBG_SQ_SEL_ITEM 0 31, 5)]).commit (Config.rp 0 3 + 0x8020 + 0x40 * 31)
/-- The hypotheses of SequencerRunControl are met: a witness for each clause, by its place in the statement. -/
theorem test_meets_SequencerRunControl :
    /- 1.1 -/ ((w18.seq (↑b0 : Nat) (↑a31 : Nat)).haltPend = 0 ∧ (↑s33 : Nat) ≠ 161) ∧
    /- 1.1 -/ ((w19.seq (↑b0 : Nat) (↑a31 : Nat)).haltPend = 0 ∧ ((↑s161 : Nat) = 161 ∧ w19.dbgLevel < 2)) ∧
    /- 1.1 -/ ((w20.seq (↑b0 : Nat) (↑a31 : Nat)).haltPend = 0 ∧ ((↑s161 : Nat) = 161 ∧ w20.dbgLevel = 2 ∧ w20.sqState (↑b0 : Nat) (↑a31 : Nat) = sqFAULT)) ∧
    /- 1.2 -/ ((w21.seq (↑b0 : Nat) (↑a31 : Nat)).haltPend = 0 ∧ (↑s161 : Nat) = 161 ∧ w21.dbgLevel = 2 ∧ w21.sqState (↑b0 : Nat) (↑a31 : Nat) = sqWAIT) ∧
    /- 2.1 -/ ((↑s33 : Nat) ≠ 161) ∧
    /- 2.2 -/ ((↑s161 : Nat) = 161 ∧ w22.dbgLevel = 2 ∧ w22.sqState (↑b0 : Nat) (↑a31 : Nat) ≠ sqHALT) ∧
    /- 2.3 -/ ((↑s161 : Nat) = 161 ∧ w23.dbgLevel = 2 ∧ w23.sqState (↑b0 : Nat) (↑a31 : Nat) = sqHALT ∧ (w23.seq (↑b0 : Nat) (↑a31 : Nat)).haltFrom = sqRUN) ∧
    /- 3.1 -/ ((w24.seq (↑b0 : Nat) (↑a31 : Nat)).cur = some dqC ∧ w24.sqState (↑b0 : Nat) (↑a31 : Nat) = sqRUN ∧ (dqC.addr = w24.get (if (1 : Fin 2) = 0 then R.DBG_SQ_BP_BP_0 (↑b0 : Nat) (↑a31 : Nat) else R.DBG_SQ_BP_BP_1 (↑b0 : Nat) (↑a31 : Nat))) ∧ (w24.get (if (1 : Fin 2) = 0 then R.DBG_SQ_BP_EN_0 (↑b0 : Nat) (↑a31 : Nat) else R.DBG_SQ_BP_EN_1 (↑b0 : Nat) (↑a31 : Nat)) ≠ 0) ∧ (w24.seq (↑b0 : Nat) (↑a31 : Nat)).free = true ∧ (w24.seq (↑b0 : Nat) (↑a31 : Nat)).stuck = false) ∧
    /- 3.2 -/ ((w25.seq (↑b0 : Nat) (↑a31 : Nat)).cur = some w26 ∧ w25.sqState (↑b0 : Nat) (↑a31 : Nat) = sqRUN ∧ (w26.addr = w25.get (if (0 : Fin 2) = 0 then R.DBG_SQ_BP_BP_0 (↑b0 : Nat) (↑a31 : Nat) else R.DBG_SQ_BP_BP_1 (↑b0 : Nat) (↑a31 : Nat))) ∧ (w25.get (if (0 : Fin 2) = 0 then R.DBG_SQ_BP_EN_0 (↑b0 : Nat) (↑a31 : Nat) else R.DBG_SQ_BP_EN_1 (↑b0 : Nat) (↑a31 : Nat)) ≠ 0) ∧ (w25.seq (↑b0 : Nat) (↑a31 : Nat)).free = false) ∧
    /- 3.3 -/ ((w27.seq (↑b0 : Nat) (↑a31 : Nat)).cur = some w26 ∧ w27.sqState (↑b0 : Nat) (↑a31 : Nat) = sqRUN ∧ (w26.addr = w27.get (if (1 : Fin 2) = 0 then R.DBG_SQ_BP_BP_0 (↑b0 : Nat) (↑a31 : Nat) else R.DBG_SQ_BP_BP_1 (↑b0 : Nat) (↑a31 : Nat))) ∧ (w27.get (if (1 : Fin 2) = 0 then R.DBG_SQ_BP_EN_0 (↑b0 : Nat) (↑a31 : Nat) else R.DBG_SQ_BP_EN_1 (↑b0 : Nat) (↑a31 : Nat)) = 0)) ∧
    /- 4.1 -/ (w29 = w28.commit (Config.rp (↑b0 : Nat) 3 + 32800 + 64 * (↑a31 : Nat)) ∧ (↑s33 : Nat) ≠ 161) ∧
    /- 4.2.1 -/ (w30 = w21.commit (Config.rp (↑b0 : Nat) 3 + 32800 + 64 * (↑a31 : Nat)) ∧ (↑s161 : Nat) = 161 ∧ w21.dbgLevel = 2 ∧ w21.sqState (↑b0 : Nat) (↑a31 : Nat) = sqWAIT) ∧
    /- 4.2.2.1 -/ (w32 = w31.commit (Config.rp (↑b0 : Nat) 3 + 32800 + 64 * (↑a31 : Nat)) ∧ (↑s161 : Nat) = 161 ∧ w31.dbgLevel = 2 ∧ w31.sqState (↑b0 : Nat) (↑a31 : Nat) = sqFAULT ∧ w31.get (R.DBG_SQ_SEL_ITEM (↑b0 : Nat) (↑a31 : Nat)) = 1 ∧ w31.get (R.DBG_SQ_SEL_NUM (↑b0 : Nat) (↑a31 : Nat)) < 8 ∧ BitVec.toNat (0xFFFFFFFF : Word64) < 2 ^ 32) ∧
    /- 4.2.2.2 -/ (w34 = w33.commit (Config.rp (↑b0 : Nat) 3 + 32800 + 64 * (↑a31 : Nat)) ∧ (↑s161 : Nat) = 161 ∧ w33.dbgLevel = 2 ∧ w33.sqState (↑b0 : Nat) (↑a31 : Nat) = sqIDLE ∧ w33.get (R.DBG_SQ_SEL_ITEM (↑b0 : Nat) (↑a31 : Nat)) = 0 ∧ BitVec.toNat (0xFFFFFFFFFF800000 : Word64) = encode2 64 (signed 24 (BitVec.toNat (0xFFFFFFFFFF800000 : Word64)))) ∧
    /- 4.2.2.3 -/ (w36 = w35.commit (Config.rp (↑b0 : Nat) 3 + 32800 + 64 * (↑a31 : Nat)) ∧ (↑s161 : Nat) = 161 ∧ w35.dbgLevel = 2 ∧ w35.sqState (↑b0 : Nat) (↑a31 : Nat) = sqHALT ∧ 1 < w35.get (R.DBG_SQ_SEL_ITEM (↑b0 : Nat) (↑a31 : Nat))) := by
  and_intros <;> decide +kernel

end Sys2Proof.Tests.PartO
namespace Sys2Proof.Tests.PartP
open Sys2Proof Sys2Proof.Machine
set_option Elab.async false

def agP : AgPath := ⟨0, 0xFFFFFFFFFFFF, 0xC0A80001, 0xFFFF, false⟩
def agM (kind sid sq : Nat) (body : List Nat) : List (BitVec 8) := (agBytes kind sid sq 0 body none).map (BitVec.ofNat 8)
def agR (kind sid sq : Nat) (body : List Nat) : AgMsg := ⟨kind, sid, sq, false, false, body, [], agBytes kind sid sq 0 body none⟩
def dcS (vals : SMap (Option (List Nat))) (sess : SMap Session) : State :=
  { st 4 with dict := { (st 4).dict with vals := SMap.set vals none (0x1010 * 256 + 3) (some [192, 168, 0, 9]), sess := sess } }
def hel (l : Nat) : List Nat := l :: List.replicate 16 0xAB
def fullSess : SMap Session := (List.range 13).map (fun i => (i + 3, { Session.free with state := 1, sid := i }))
def dcL : State := { dcS [] [] with dict := { (dcS [] []).dict with locked := [2] } }
def hx : Session := { Session.free with state := 1, level := 3, path := 3, sid := 0x1234, addr := (0, 0xC0A80001, 0xFFFF), nc := 5, nd := 6 }
def ox : Session := { hx with state := 2, level := 0, lastSeq := 0xFFFFFFFF, stored := [1, 2] }
def rdB : List Nat := [1, 0x10, 0x10, 3, 0]
def wrB : List Nat := [1, 0x10, 0x20, 3, 6, 0, 2, 0, 9]
def xsB : List Nat := [0x40, 0, 1, 0, 0, 0, 0, 8]
def ox2 : Session := { ox with xfer := some ⟨0x4001, 1, true, 8, 4, [1, 2, 3, 4]⟩ }
def mbR : State := { st 4 with dict := { (st 4).dict with mbReq := SMap.setRun [] 0 0 (agBytes 1 0 0 0 (hel 0) none) } }
def dueS : State := { dcS [(0x102003, some [0, 9])] [] with dict := { (dcS [(0x102003, some [0, 9])] []).dict with due := [0x102003, 0x102004] } }
def uoS : State := st 4
def uoR : State × Nat × List Nat := uoS.nocWords 65 (uoS.get R.UO_BASE_ADDR) (8 * (1 : BitVec 11).toNat)
def uoU : State := uoR.1
def uoC : Nat := uoR.2.1
def uoL : List Nat := uoR.2.2
theorem uo_eq : uoS.nocWords 65 (uoS.get R.UO_BASE_ADDR) (8 * (1 : BitVec 11).toNat) = (uoU, uoC, uoL) := rfl

def w1 : State := st 1
def w2 : AgPath := { agP with full := true }
def w3 : State := dcS [] []
def w4 : State := dcS [] [(3, { Session.free with state := 2 })]
def w5 : State := dcS [] (fullSess.take 12)
def w6 : State := dcS [(0x800001, some (List.replicate 32 1))] []
def w7 : State := dcS [] fullSess
def w8 : State := dcS [] [(5, hx)]
def w9 : State := dcS [] [(15, { hx with state := 2 })]
def w10 : State := dcS [] [(15, hx)]
/-- The hypotheses of DictionarySessions are met: a witness for each clause, by its place in the statement. -/
theorem test_meets_DictionarySessions :
    /- 1.1 -/ (agM 1 0 0 [] = (agM 1 0 0 [] : List (BitVec 8)) ∧ w1.dictOpen = false) ∧
    /- 1.2.1 -/ (({ agP with full := true } = w2 ∧ agM 32 0 0 [] = (agM 0x20 0 0 [] : List (BitVec 8))) ∧ w3.dictOpen = true ∧ w3.romOnly = false ∧ w3.nv 4112 3 0 ≠ 0 ∧ w2.kind ≠ 2 ∧ agKind (agM 0x20 0 0 [] : List (BitVec 8)) = 32 ∧ w2.full = true) ∧
    /- 1.2.2 -/ (List.take 15 (agM 48 0 0 []) = ((agM 0x30 0 0 []).take 15 : List (BitVec 8)) ∧ w3.dictOpen = true ∧ w3.romOnly = false ∧ w3.nv 4112 3 0 ≠ 0 ∧ agP.kind ≠ 2 ∧ agKind ((agM 0x30 0 0 []).take 15 : List (BitVec 8)) = 48 ∧ agP.full = false ∧ ((agM 0x30 0 0 []).take 15 : List (BitVec 8)).length < 16) ∧
    /- 2.1 -/ (agP.kind = 0 ∧ agP.full = false ∧ w4.dictOpen = true ∧ w4.romOnly = false ∧ w4.nv 4112 3 0 ≠ 0 ∧ (agParse (List.map (fun b => b.toNat) (agM 1 0 0 (hel 0) : List (BitVec 8))) = some (agR 1 0 0 (hel 0) : AgMsg)) ∧ (agR 1 0 0 (hel 0) : AgMsg).kind = 1 ∧ (agR 1 0 0 (hel 0) : AgMsg).body.length = 17 ∧ (agR 1 0 0 (hel 0) : AgMsg).tagged = false ∧ (agR 1 0 0 (hel 0) : AgMsg).all = false ∧ (agR 1 0 0 (hel 0) : AgMsg).sid = 0 ∧ (agR 1 0 0 (hel 0) : AgMsg).seq = 0 ∧ 3 ≤ 4 ∧ 4 < 16 ∧ (w4.sess 4).state = 0 ∧ (∀ j, j < 4 → 3 ≤ j → (w4.sess j).state ≠ 0) ∧ (agR 1 0 0 (hel 0) : AgMsg).body.headD 0 = 0) ∧
    /- 2.1 -/ (agP.kind = 0 ∧ agP.full = false ∧ w5.dictOpen = true ∧ w5.romOnly = false ∧ w5.nv 4112 3 0 ≠ 0 ∧ (agParse (List.map (fun b => b.toNat) (agM 1 0 0 (hel 0) : List (BitVec 8))) = some (agR 1 0 0 (hel 0) : AgMsg)) ∧ (agR 1 0 0 (hel 0) : AgMsg).kind = 1 ∧ (agR 1 0 0 (hel 0) : AgMsg).body.length = 17 ∧ (agR 1 0 0 (hel 0) : AgMsg).tagged = false ∧ (agR 1 0 0 (hel 0) : AgMsg).all = false ∧ (agR 1 0 0 (hel 0) : AgMsg).sid = 0 ∧ (agR 1 0 0 (hel 0) : AgMsg).seq = 0 ∧ 3 ≤ 15 ∧ 15 < 16 ∧ (w5.sess 15).state = 0 ∧ (∀ j, j < 15 → 3 ≤ j → (w5.sess j).state ≠ 0) ∧ (agR 1 0 0 (hel 0) : AgMsg).body.headD 0 = 0) ∧
    /- 2.2.1 -/ (agP.kind = 0 ∧ agP.full = false ∧ dcL.dictOpen = true ∧ dcL.romOnly = false ∧ dcL.nv 4112 3 0 ≠ 0 ∧ (agParse (List.map (fun b => b.toNat) (agM 1 0 0 (hel 2) : List (BitVec 8))) = some (agR 1 0 0 (hel 2) : AgMsg)) ∧ (agR 1 0 0 (hel 2) : AgMsg).kind = 1 ∧ (agR 1 0 0 (hel 2) : AgMsg).body.length = 17 ∧ (agR 1 0 0 (hel 2) : AgMsg).tagged = false ∧ (agR 1 0 0 (hel 2) : AgMsg).all = false ∧ (agR 1 0 0 (hel 2) : AgMsg).sid = 0 ∧ (agR 1 0 0 (hel 2) : AgMsg).seq = 0 ∧ 3 ≤ 3 ∧ 3 < 16 ∧ (dcL.sess 3).state = 0 ∧ (∀ j, j < 3 → 3 ≤ j → (dcL.sess j).state ≠ 0) ∧ (agR 1 0 0 (hel 2) : AgMsg).body.headD 0 = 2 ∧ dcL.isLocked 2 = true) ∧
    /- 2.2.2 -/ (agP.kind = 0 ∧ agP.full = false ∧ w3.dictOpen = true ∧ w3.romOnly = false ∧ w3.nv 4112 3 0 ≠ 0 ∧ (agParse (List.map (fun b => b.toNat) (agM 1 0 0 (hel 1) : List (BitVec 8))) = some (agR 1 0 0 (hel 1) : AgMsg)) ∧ (agR 1 0 0 (hel 1) : AgMsg).kind = 1 ∧ (agR 1 0 0 (hel 1) : AgMsg).body.length = 17 ∧ (agR 1 0 0 (hel 1) : AgMsg).tagged = false ∧ (agR 1 0 0 (hel 1) : AgMsg).all = false ∧ (agR 1 0 0 (hel 1) : AgMsg).sid = 0 ∧ (agR 1 0 0 (hel 1) : AgMsg).seq = 0 ∧ 3 ≤ 3 ∧ 3 < 16 ∧ (w3.sess 3).state = 0 ∧ (∀ j, j < 3 → 3 ≤ j → (w3.sess j).state ≠ 0) ∧ (agR 1 0 0 (hel 1) : AgMsg).body.headD 0 = 1 ∧ w3.isLocked 1 = false ∧ w3.sessKey 1 = none) ∧
    /- 2.2.3 -/ (agP.kind = 0 ∧ agP.full = false ∧ w6.dictOpen = true ∧ w6.romOnly = false ∧ w6.nv 4112 3 0 ≠ 0 ∧ (agParse (List.map (fun b => b.toNat) (agM 1 0 0 (hel 1) : List (BitVec 8))) = some (agR 1 0 0 (hel 1) : AgMsg)) ∧ (agR 1 0 0 (hel 1) : AgMsg).kind = 1 ∧ (agR 1 0 0 (hel 1) : AgMsg).body.length = 17 ∧ (agR 1 0 0 (hel 1) : AgMsg).tagged = false ∧ (agR 1 0 0 (hel 1) : AgMsg).all = false ∧ (agR 1 0 0 (hel 1) : AgMsg).sid = 0 ∧ (agR 1 0 0 (hel 1) : AgMsg).seq = 0 ∧ 3 ≤ 3 ∧ 3 < 16 ∧ (w6.sess 3).state = 0 ∧ (∀ j, j < 3 → 3 ≤ j → (w6.sess j).state ≠ 0) ∧ (agR 1 0 0 (hel 1) : AgMsg).body.headD 0 = 1 ∧ w6.isLocked 1 = false ∧ w6.sessKey 1 ≠ none) ∧
    /- 2.2.3 -/ (agP.kind = 0 ∧ agP.full = false ∧ w3.dictOpen = true ∧ w3.romOnly = false ∧ w3.nv 4112 3 0 ≠ 0 ∧ (agParse (List.map (fun b => b.toNat) (agM 1 0 0 (hel 3) : List (BitVec 8))) = some (agR 1 0 0 (hel 3) : AgMsg)) ∧ (agR 1 0 0 (hel 3) : AgMsg).kind = 1 ∧ (agR 1 0 0 (hel 3) : AgMsg).body.length = 17 ∧ (agR 1 0 0 (hel 3) : AgMsg).tagged = false ∧ (agR 1 0 0 (hel 3) : AgMsg).all = false ∧ (agR 1 0 0 (hel 3) : AgMsg).sid = 0 ∧ (agR 1 0 0 (hel 3) : AgMsg).seq = 0 ∧ 3 ≤ 3 ∧ 3 < 16 ∧ (w3.sess 3).state = 0 ∧ (∀ j, j < 3 → 3 ≤ j → (w3.sess j).state ≠ 0) ∧ (agR 1 0 0 (hel 3) : AgMsg).body.headD 0 = 3 ∧ w3.isLocked 3 = false ∧ w3.sessKey 3 ≠ none) ∧
    /- 3.1 -/ (agP.kind = 0 ∧ agP.full = false ∧ w7.dictOpen = true ∧ w7.romOnly = false ∧ w7.nv 4112 3 0 ≠ 0 ∧ (agParse (List.map (fun b => b.toNat) (agM 1 0 0 (hel 0) : List (BitVec 8))) = some (agR 1 0 0 (hel 0) : AgMsg)) ∧ (agR 1 0 0 (hel 0) : AgMsg).kind = 1 ∧ (agR 1 0 0 (hel 0) : AgMsg).body.length = 17 ∧ (agR 1 0 0 (hel 0) : AgMsg).body.headD 0 = 0 ∧ (agR 1 0 0 (hel 0) : AgMsg).tagged = false ∧ (agR 1 0 0 (hel 0) : AgMsg).all = false ∧ (agR 1 0 0 (hel 0) : AgMsg).sid = 0 ∧ (agR 1 0 0 (hel 0) : AgMsg).seq = 0 ∧ (∀ j, j < 16 → 3 ≤ j → (w7.sess j).state ≠ 0)) ∧
    /- 3.2.1 -/ (agP.kind = 0 ∧ agP.full = false ∧ w3.dictOpen = true ∧ w3.romOnly = false ∧ w3.nv 4112 3 0 ≠ 0 ∧ (agParse (List.map (fun b => b.toNat) (agM 3 0x1234 0 (List.replicate 32 9) : List (BitVec 8))) = some (agR 3 0x1234 0 (List.replicate 32 9) : AgMsg)) ∧ (agR 3 0x1234 0 (List.replicate 32 9) : AgMsg).kind = 3 ∧ (agR 3 0x1234 0 (List.replicate 32 9) : AgMsg).body.length = 32 ∧ (agR 3 0x1234 0 (List.replicate 32 9) : AgMsg).tagged = false ∧ (agR 3 0x1234 0 (List.replicate 32 9) : AgMsg).all = false ∧ (agR 3 0x1234 0 (List.replicate 32 9) : AgMsg).seq = 0 ∧ w3.sessFind (agSource agP) (agR 3 0x1234 0 (List.replicate 32 9) : AgMsg).sid = none) ∧
    /- 3.2.2 -/ (agP.kind = 0 ∧ agP.full = false ∧ w8.dictOpen = true ∧ w8.romOnly = false ∧ w8.nv 4112 3 0 ≠ 0 ∧ (agParse (List.map (fun b => b.toNat) (agM 3 0x1234 0 (List.replicate 32 9) : List (BitVec 8))) = some (agR 3 0x1234 0 (List.replicate 32 9) : AgMsg)) ∧ (agR 3 0x1234 0 (List.replicate 32 9) : AgMsg).kind = 3 ∧ (agR 3 0x1234 0 (List.replicate 32 9) : AgMsg).body.length = 32 ∧ (agR 3 0x1234 0 (List.replicate 32 9) : AgMsg).tagged = false ∧ (agR 3 0x1234 0 (List.replicate 32 9) : AgMsg).all = false ∧ (agR 3 0x1234 0 (List.replicate 32 9) : AgMsg).seq = 0 ∧ w8.sessFind (agSource agP) (agR 3 0x1234 0 (List.replicate 32 9) : AgMsg).sid = some 5 ∧ hx = w8.sess 5 ∧ hx.state = 1) ∧
    /- 4.1 -/ ((w9.sess (↑(15 : Fin 16) : Nat)).state = 2) ∧
    /- 4.2 -/ ((w10.sess (↑(15 : Fin 16) : Nat)).state ≠ 2) ∧
    /- 4.3 -/ ((w10.sess (↑(15 : Fin 16) : Nat)).state = 1) ∧
    /- 4.4 -/ ((w3.sess (↑(0 : Fin 16) : Nat)).state ≠ 1) := by
  and_intros <;> decide +kernel

def w11 : State := dcS [] [(5, ox)]
def w12 : State := dcS [] [(5, ox2)]
def w13 : State := dcS [] [(5, { ox with level := 3 })]
def w14 : Session := { ox with level := 3 }
def w15 : List AgItem := [⟨0x1020, 3, 6, [0, 9]⟩, ⟨0x1020, 99, 6, [0, 9]⟩]
def w16 : AgItem := ⟨0x1020, 99, 6, [0, 9]⟩
def w17 : DCtx := ⟨true, 2⟩
def w18 : Xfer := ⟨0x4001, 1, true, 8, 4, [1, 2, 3, 4]⟩
/-- The hypotheses of DictionaryRequests are met: a witness for each clause, by its place in the statement. -/
theorem test_meets_DictionaryRequests :
    /- 1.1.1 -/ ((agM 16 4660 0 [0] = (agM 0x10 0x1234 0 [0] : List (BitVec 8)) ∧ (agR 0x10 0x1234 0 [0] : AgMsg).kind = 16) ∧ agP.kind = 0 ∧ agP.full = false ∧ w11.dictOpen = true ∧ w11.romOnly = false ∧ w11.nv 4112 3 0 ≠ 0 ∧ (agParse (List.map (fun b => b.toNat) (agM 0x10 0x1234 0 [0] : List (BitVec 8))) = some (agR 0x10 0x1234 0 [0] : AgMsg)) ∧ w11.sessFind (agSource agP) (agR 0x10 0x1234 0 [0] : AgMsg).sid = some 5 ∧ ox = w11.sess 5 ∧ ox.state = 2 ∧ ox.level = 0 ∧ (agR 0x10 0x1234 0 [0] : AgMsg).tagged = false ∧ agLayout (agR 0x10 0x1234 0 [0] : AgMsg) = true ∧ (agR 0x10 0x1234 0 [0] : AgMsg).seq = (ox.lastSeq + 1) % 2 ^ 32) ∧
    /- 1.1.1 -/ ((agM 48 4660 0 [] = (agM 0x30 0x1234 0 [] : List (BitVec 8)) ∧ (agR 0x30 0x1234 0 [] : AgMsg).kind = 48) ∧ agP.kind = 0 ∧ agP.full = false ∧ w11.dictOpen = true ∧ w11.romOnly = false ∧ w11.nv 4112 3 0 ≠ 0 ∧ (agParse (List.map (fun b => b.toNat) (agM 0x30 0x1234 0 [] : List (BitVec 8))) = some (agR 0x30 0x1234 0 [] : AgMsg)) ∧ w11.sessFind (agSource agP) (agR 0x30 0x1234 0 [] : AgMsg).sid = some 5 ∧ ox = w11.sess 5 ∧ ox.state = 2 ∧ ox.level = 0 ∧ (agR 0x30 0x1234 0 [] : AgMsg).tagged = false ∧ agLayout (agR 0x30 0x1234 0 [] : AgMsg) = true ∧ (agR 0x30 0x1234 0 [] : AgMsg).seq = (ox.lastSeq + 1) % 2 ^ 32) ∧
    /- 1.1.1 -/ ((agM 16 4660 0 rdB = (agM 0x10 0x1234 0 rdB : List (BitVec 8)) ∧ (agR 0x10 0x1234 0 rdB : AgMsg).kind = 16) ∧ agP.kind = 0 ∧ agP.full = false ∧ w11.dictOpen = true ∧ w11.romOnly = false ∧ w11.nv 4112 3 0 ≠ 0 ∧ (agParse (List.map (fun b => b.toNat) (agM 0x10 0x1234 0 rdB : List (BitVec 8))) = some (agR 0x10 0x1234 0 rdB : AgMsg)) ∧ w11.sessFind (agSource agP) (agR 0x10 0x1234 0 rdB : AgMsg).sid = some 5 ∧ ox = w11.sess 5 ∧ ox.state = 2 ∧ ox.level = 0 ∧ (agR 0x10 0x1234 0 rdB : AgMsg).tagged = false ∧ agLayout (agR 0x10 0x1234 0 rdB : AgMsg) = true ∧ (agR 0x10 0x1234 0 rdB : AgMsg).seq = (ox.lastSeq + 1) % 2 ^ 32) ∧
    /- 1.1.1 -/ ((agM 18 4660 0 wrB = (agM 0x12 0x1234 0 wrB : List (BitVec 8)) ∧ (agR 0x12 0x1234 0 wrB : AgMsg).kind = 18) ∧ agP.kind = 0 ∧ agP.full = false ∧ w11.dictOpen = true ∧ w11.romOnly = false ∧ w11.nv 4112 3 0 ≠ 0 ∧ (agParse (List.map (fun b => b.toNat) (agM 0x12 0x1234 0 wrB : List (BitVec 8))) = some (agR 0x12 0x1234 0 wrB : AgMsg)) ∧ w11.sessFind (agSource agP) (agR 0x12 0x1234 0 wrB : AgMsg).sid = some 5 ∧ ox = w11.sess 5 ∧ ox.state = 2 ∧ ox.level = 0 ∧ (agR 0x12 0x1234 0 wrB : AgMsg).tagged = false ∧ agLayout (agR 0x12 0x1234 0 wrB : AgMsg) = true ∧ (agR 0x12 0x1234 0 wrB : AgMsg).seq = (ox.lastSeq + 1) % 2 ^ 32) ∧
    /- 1.1.1 -/ ((agM 32 4660 0 xsB = (agM 0x20 0x1234 0 xsB : List (BitVec 8)) ∧ (agR 0x20 0x1234 0 xsB : AgMsg).kind = 32) ∧ agP.kind = 0 ∧ agP.full = false ∧ w11.dictOpen = true ∧ w11.romOnly = false ∧ w11.nv 4112 3 0 ≠ 0 ∧ (agParse (List.map (fun b => b.toNat) (agM 0x20 0x1234 0 xsB : List (BitVec 8))) = some (agR 0x20 0x1234 0 xsB : AgMsg)) ∧ w11.sessFind (agSource agP) (agR 0x20 0x1234 0 xsB : AgMsg).sid = some 5 ∧ ox = w11.sess 5 ∧ ox.state = 2 ∧ ox.level = 0 ∧ (agR 0x20 0x1234 0 xsB : AgMsg).tagged = false ∧ agLayout (agR 0x20 0x1234 0 xsB : AgMsg) = true ∧ (agR 0x20 0x1234 0 xsB : AgMsg).seq = (ox.lastSeq + 1) % 2 ^ 32) ∧
    /- 1.1.1 -/ ((agM 34 4660 0 [0, 0, 0, 4, 9] = (agM 0x22 0x1234 0 [0, 0, 0, 4, 9] : List (BitVec 8)) ∧ (agR 0x22 0x1234 0 [0, 0, 0, 4, 9] : AgMsg).kind = 34) ∧ agP.kind = 0 ∧ agP.full = false ∧ w12.dictOpen = true ∧ w12.romOnly = false ∧ w12.nv 4112 3 0 ≠ 0 ∧ (agParse (List.map (fun b => b.toNat) (agM 0x22 0x1234 0 [0, 0, 0, 4, 9] : List (BitVec 8))) = some (agR 0x22 0x1234 0 [0, 0, 0, 4, 9] : AgMsg)) ∧ w12.sessFind (agSource agP) (agR 0x22 0x1234 0 [0, 0, 0, 4, 9] : AgMsg).sid = some 5 ∧ ox2 = w12.sess 5 ∧ ox2.state = 2 ∧ ox2.level = 0 ∧ (agR 0x22 0x1234 0 [0, 0, 0, 4, 9] : AgMsg).tagged = false ∧ agLayout (agR 0x22 0x1234 0 [0, 0, 0, 4, 9] : AgMsg) = true ∧ (agR 0x22 0x1234 0 [0, 0, 0, 4, 9] : AgMsg).seq = (ox2.lastSeq + 1) % 2 ^ 32) ∧
    /- 1.1.2 -/ ((agM 16 4660 4294967295 [0] = (agM 0x10 0x1234 0xFFFFFFFF [0] : List (BitVec 8)) ∧ (agR 0x10 0x1234 0xFFFFFFFF [0] : AgMsg).kind = 16) ∧ agP.kind = 0 ∧ agP.full = false ∧ w11.dictOpen = true ∧ w11.romOnly = false ∧ w11.nv 4112 3 0 ≠ 0 ∧ (agParse (List.map (fun b => b.toNat) (agM 0x10 0x1234 0xFFFFFFFF [0] : List (BitVec 8))) = some (agR 0x10 0x1234 0xFFFFFFFF [0] : AgMsg)) ∧ w11.sessFind (agSource agP) (agR 0x10 0x1234 0xFFFFFFFF [0] : AgMsg).sid = some 5 ∧ ox = w11.sess 5 ∧ ox.state = 2 ∧ ox.level = 0 ∧ (agR 0x10 0x1234 0xFFFFFFFF [0] : AgMsg).tagged = false ∧ agLayout (agR 0x10 0x1234 0xFFFFFFFF [0] : AgMsg) = true ∧ (agR 0x10 0x1234 0xFFFFFFFF [0] : AgMsg).seq = ox.lastSeq ∧ ox.stored ≠ []) ∧
    /- 1.1.3 -/ ((agM 16 4660 1 [0] = (agM 0x10 0x1234 1 [0] : List (BitVec 8)) ∧ (agR 0x10 0x1234 1 [0] : AgMsg).kind = 16) ∧ agP.kind = 0 ∧ agP.full = false ∧ w11.dictOpen = true ∧ w11.romOnly = false ∧ w11.nv 4112 3 0 ≠ 0 ∧ (agParse (List.map (fun b => b.toNat) (agM 0x10 0x1234 1 [0] : List (BitVec 8))) = some (agR 0x10 0x1234 1 [0] : AgMsg)) ∧ w11.sessFind (agSource agP) (agR 0x10 0x1234 1 [0] : AgMsg).sid = some 5 ∧ ox = w11.sess 5 ∧ ox.state = 2 ∧ ox.level = 0 ∧ (agR 0x10 0x1234 1 [0] : AgMsg).tagged = false ∧ agLayout (agR 0x10 0x1234 1 [0] : AgMsg) = true ∧ (agR 0x10 0x1234 1 [0] : AgMsg).seq ≠ ox.lastSeq ∧ (agR 0x10 0x1234 1 [0] : AgMsg).seq ≠ (ox.lastSeq + 1) % 2 ^ 32) ∧
    /- 1.2 -/ ((agM 16 4660 0 [0] = (agM 0x10 0x1234 0 [0] : List (BitVec 8)) ∧ (agR 0x10 0x1234 0 [0] : AgMsg).kind = 16) ∧ agP.kind = 0 ∧ agP.full = false ∧ w13.dictOpen = true ∧ w13.romOnly = false ∧ w13.nv 4112 3 0 ≠ 0 ∧ (agParse (List.map (fun b => b.toNat) (agM 0x10 0x1234 0 [0] : List (BitVec 8))) = some (agR 0x10 0x1234 0 [0] : AgMsg)) ∧ w13.sessFind (agSource agP) (agR 0x10 0x1234 0 [0] : AgMsg).sid = some 5 ∧ w14 = w13.sess 5 ∧ w14.state = 2 ∧ w14.level ≠ 0 ∧ (agR 0x10 0x1234 0 [0] : AgMsg).tagged = false) ∧
    /- 2 -/ (w16 ∈ w15 ∧ w3.agCheck w17 w16 ≠ 0) ∧
    /- 3 -/ ((w3.sess 5).xfer = none) ∧
    /- 4.1 -/ ((w12.sess 5).xfer = some w18 ∧ 5 ≠ w18.moved) ∧
    /- 4.2 -/ ((w12.sess 5).xfer = some w18 ∧ 4 = w18.moved ∧ w18.write = true ∧ w18.total < w18.moved + ([1, 2, 3, 4, 5] : List Nat).length ∧ ([1, 2, 3, 4, 5] : List Nat) ≠ []) ∧
    /- 4.3 -/ ((w12.sess 5).xfer = some w18 ∧ 4 = w18.moved ∧ w18.write = true ∧ w18.index ≠ 16384 ∧ w18.index ≠ 32789 ∧ ([1, 2, 3] : List Nat) ≠ [] ∧ w18.moved + ([1, 2, 3] : List Nat).length < w18.total) := by
  and_intros <;> decide +kernel

def w19 : State := st 4
/-- The hypotheses of ManagementPortMailboxAndUserTable are met: a witness for each clause, by its place in the statement. -/
theorem test_meets_ManagementPortMailboxAndUserTable :
    /- 1.1 -/ (w1.dictOpen = false) ∧
    /- 1.2.1 -/ (w3.dictOpen = true ∧ w3.romOnly = false) ∧
    /- 1.2.2 -/ (w3.dictOpen = true ∧ w3.romOnly = false ∧ (0xC0A80009 : BitVec 32).toNat = w3.nv 4112 3 0 ∧ (0xC0A80009 : BitVec 32) ≠ 0) ∧
    /- 1.2.3 -/ (w3.dictOpen = true ∧ w3.romOnly = false ∧ (0xC0A80008 : BitVec 32).toNat ≠ w3.nv 4112 3 0) ∧
    /- 2.1 -/ (w1.dictOpen = false) ∧
    /- 2.2.1 -/ (w19.dictOpen = true ∧ bits (0x800 : BitVec 32).toNat 0 11 = 0) ∧
    /- 2.2.2 -/ (w19.dictOpen = true ∧ (0 < bits (15 : BitVec 32).toNat 0 11 ∧ bits (15 : BitVec 32).toNat 0 11 < 16)) ∧
    /- 2.2.2 -/ (w19.dictOpen = true ∧ 1472 < bits (1473 : BitVec 32).toNat 0 11) ∧
    /- 2.2.3 -/ (w19.dictOpen = true ∧ 16 ≤ bits (1472 : BitVec 32).toNat 0 11 ∧ bits (1472 : BitVec 32).toNat 0 11 ≤ 1472) ∧
    /- 2.2.3 -/ (mbR.dictOpen = true ∧ 16 ≤ bits (33 : BitVec 32).toNat 0 11 ∧ bits (33 : BitVec 32).toNat 0 11 ≤ 1472) ∧
    /- 3.1 -/ (w19.dict.due = []) ∧
    /- 3.2 -/ (dueS.dict.due ≠ []) ∧
    /- 4.1 -/ ((↑(65 : SrcId) : Nat) = 65) ∧
    /- 4.1 -/ ((w19.srcOk (↑(33 : SrcId) : Nat) = true ∧ (↑(33 : SrcId) : Nat) ≠ 65 ∧ 1024 < (1025 : BitVec 11).toNat)) ∧
    /- 4.1 -/ ((w19.srcOk (↑(33 : SrcId) : Nat) = true ∧ (↑(33 : SrcId) : Nat) ≠ 65 ∧ (0 : BitVec 11).toNat = 0)) ∧
    /- 4.2 -/ (uoS.srcOk (↑(33 : SrcId) : Nat) = true ∧ (↑(33 : SrcId) : Nat) ≠ 65 ∧ 0 < (1 : BitVec 11).toNat ∧ (1 : BitVec 11).toNat ≤ 1024 ∧ uoS.nocWords 65 (uoS.get R.UO_BASE_ADDR) (8 * (1 : BitVec 11).toNat) = (uoU, uoC, uoL)) ∧
    /- 4.3 -/ (w19.srcOk (↑(33 : SrcId) : Nat) = true ∧ (↑(33 : SrcId) : Nat) ≠ 65) ∧
    /- 4.4 -/ ((↑(65 : SrcId) : Nat) = 65) := by
  and_intros <;> first | with_reducible exact uo_eq | decide +kernel

end Sys2Proof.Tests.PartP
namespace Sys2Proof.Tests.PartQ
open Sys2Proof Sys2Proof.Machine
set_option Elab.async false

def tpS (m lv : Nat) (t : Tap) (l : List (Fld × Nat) := []) : State := { stw m l with dbgLevel := lv, tap := t }
def tp0 : Tap := State.reset.tap
def agQ : List Nat := (agBytes 1 0 0 0 (0 :: List.replicate 16 0xAB) none)
def agS : State := tpS 4 0 { tp0 with agReq := agQ.take 32, agRsp := [7, 8] }
def agU : State := { agS with out := [.word 40 agS.tapIrWord, .word 40 (match agS.tap.agRsp with | [] => 0 | r :: _ => 256 + r)], tap := { agS.tap with ir := 0x12, outcome := 0, pins := none, agRsp := agS.tap.agRsp.drop 1 } }
def S_da13 : State := tpS 4 2 tp0
def Q_da13 : NocReq := ⟨S_da13.noc.next, 161, 0, 4398046511102, 63, true, 0, [5 % 2^32, 5 / 2^32]⟩
def U_da13 : State := { S_da13 with out := [.word 40 S_da13.tapIrWord, .word 40 (S_da13.tap.dapData % 2 ^ 64 + S_da13.tap.dapStatus * 2 ^ 64)], tap := { S_da13.tap with ir := 0x11, outcome := 0, pins := none } }
def Z_da13 : State := State.queuePkt { U_da13 with noc := { U_da13.noc with next := S_da13.noc.next + 1, outst := S_da13.noc.outst ++ [Q_da13] } } ⟨.req Q_da13, 0, false, none⟩
def S_da13b : State := tpS 4 1 tp0
def Q_da13b : NocReq := ⟨S_da13b.noc.next, 161, 0, 1, 1, false, 0, []⟩
def U_da13b : State := { S_da13b with out := [.word 40 S_da13b.tapIrWord, .word 40 (S_da13b.tap.dapData % 2 ^ 64 + S_da13b.tap.dapStatus * 2 ^ 64)], tap := { S_da13b.tap with ir := 0x11, outcome := 0, pins := none } }
def Z_da13b : State := State.queuePkt { U_da13b with noc := { U_da13b.noc with next := S_da13b.noc.next + 1, outst := S_da13b.noc.outst ++ [Q_da13b] } } ⟨.req Q_da13b, 0, false, none⟩

def w1 : State := tpS 4 1 tp0
def w2 : State := tpS 4 2 tp0
def w3 : State := tpS 5 2 { tp0 with boundary := 99 }
def w4 : State := tpS 2 2 { tp0 with boundary := 99 }
def w5 : State := tpS 4 0 tp0
def w6 : State := tpS 1 0 tp0
def w7 : State := tpS 4 2 { tp0 with tapstat := 0x0E07 } [(R.DBG_SC_STAT_HALTED, 1)]
def w8 : State := tpS 4 2 { tp0 with tapstat := 5, pins := some 3 }
def w9 : State := tpS 4 0 { tp0 with agRsp := [0xFF, 2] }
def w10 : State := tpS 4 0 { tp0 with agReq := List.replicate 14 1 }
def w11 : State := tpS 4 0 tp0 [(R.LD_STATUS_STATE, 1), (R.LD_STATUS_SRC, 2)]
def w12 : State := tpS 4 0 { tp0 with ir := tapCFG }
def w13 : State := tpS 4 0 { tp0 with ir := tapCFG, cfgBits := [1, 0, 1] } [(R.LD_STATUS_STATE, 1), (R.LD_STATUS_SRC, srcJTAG)]
/-- The hypotheses of TestAccessPort are met: a witness for each clause, by its place in the statement. -/
theorem test_meets_TestAccessPort :
    /- 2.1 -/ (w1.mode0 ≠ mOFF ∧ 5 = (5 : BitVec 1146) ∧ w1.dbgLevel < 2) ∧
    /- 2.2 -/ (w2.mode0 ≠ mOFF ∧ w2.dbgLevel = 2 ∧ w2.mode0 ≠ mBOOT ∧ w2.mode0 ≠ mSAFE) ∧
    /- 2.3 -/ (w3.mode0 ≠ mOFF ∧ BitVec.allOnes 1146 = (BitVec.allOnes 1146 : BitVec 1146) ∧ w3.dbgLevel = 2 ∧ w3.mode0 = mSAFE) ∧
    /- 2.3 -/ (w4.mode0 ≠ mOFF ∧ w4.dbgLevel = 2 ∧ w4.mode0 = mBOOT) ∧
    /- 3.1 -/ (w5.inMode [mBOOT, mLOAD, mRUN, mSAFE] = true ∧ w5.dbgLevel = 0) ∧
    /- 3.2 -/ (w1.inMode [mBOOT, mLOAD, mRUN, mSAFE] = true ∧ 0 < w1.dbgLevel) ∧
    /- 4 -/ (w6.inMode [mSTANDBY, mBOOT, mLOAD, mRUN, mSAFE] = true) ∧
    /- 5 -/ (w7.inMode [mBOOT, mLOAD, mRUN, mSAFE] = true) ∧
    /- 6 -/ (w2.mode0 ≠ mOFF ∧ tapNeed (0xFE : BitVec 8).toNat = none) ∧
    /- 7.1 -/ (w6.mode0 = mSTANDBY ∧ w6.coreRails = true ∧ w6.mode.trans = none) ∧
    /- 7.2 -/ (w5.inMode [mBOOT, mLOAD, mRUN, mSAFE] = true) ∧
    /- 8 -/ (w8.mode0 ≠ mOFF) ∧
    /- 8 -/ (w8.mode0 ≠ mOFF) ∧
    /- 9.1 -/ (w9.inMode [mBOOT, mLOAD, mRUN, mSAFE] = true ∧ ([5] : List Nat) = w9.tap.agReq ++ [(5 : BitVec 8).toNat] ∧ (16 = 16 + netField ([5] : List Nat) 6 2 + if bit (netField ([5] : List Nat) 14 2) 0 = 1 then 16 else 0)) ∧
    /- 9.2 -/ (w10.inMode [mBOOT, mLOAD, mRUN, mSAFE] = true ∧ ((List.replicate 14 1) ++ [5] : List Nat) = w10.tap.agReq ++ [(5 : BitVec 8).toNat] ∧ (16 + 257 + 16 = 16 + netField ((List.replicate 14 1) ++ [5] : List Nat) 6 2 + if bit (netField ((List.replicate 14 1) ++ [5] : List Nat) 14 2) 0 = 1 then 16 else 0) ∧ ((List.replicate 14 1) ++ [5] : List Nat).length < 16) ∧
    /- 9.3 -/ (agS.inMode [mBOOT, mLOAD, mRUN, mSAFE] = true ∧ agQ = agS.tap.agReq ++ [(0xAB : BitVec 8).toNat] ∧ (33 = 16 + netField agQ 6 2 + if bit (netField agQ 14 2) 0 = 1 then 16 else 0) ∧ 16 ≤ agQ.length ∧ agQ.length = 33 ∧ (agU = ({ agS with out := [OutItem.word 40 agS.tapIrWord, OutItem.word 40 (match agS.tap.agRsp with | [] => 0 | r :: tail => 256 + r)], tap := have __src := agS.tap; { __src with ir := 18, outcome := 0, pins := none, agRsp := List.drop 1 agS.tap.agRsp } } : State)) ∧ (agU.agMessage ⟨2, (0, 0, 0)⟩ agQ : State × Option (List Nat)) = agU.agMessage { path := 2, addr := (0, 0, 0) } agQ) ∧
    /- 10.1 -/ (w11.inMode [mBOOT, mLOAD, mRUN, mSAFE] = true ∧ w11.ldState ≠ ldIDLE ∧ w11.get R.LD_STATUS_SRC ≠ srcJTAG) ∧
    /- 10.2.1 -/ (w12.inMode [mBOOT, mLOAD, mRUN, mSAFE] = true ∧ w12.ldState = ldIDLE ∧ w12.tap.ir = tapCFG) ∧
    /- 10.2.2 -/ (w5.inMode [mBOOT, mLOAD, mRUN, mSAFE] = true ∧ w5.ldState = ldIDLE ∧ w5.tap.ir ≠ tapCFG) ∧
    /- 10.3 -/ (w13.inMode [mBOOT, mLOAD, mRUN, mSAFE] = true ∧ w13.ldState ≠ ldIDLE ∧ w13.get R.LD_STATUS_SRC = srcJTAG ∧ w13.tap.ir = tapCFG) := by
  and_intros <;> first | with_reducible rfl | decide +kernel

def w14 : State := tpS 4 2 { tp0 with locked := true }
def w15 : State := tpS 4 1 { tp0 with fails := [0, 0], authFails := 2^32-1 }
def w16 : State := { tpS 4 1 tp0 with policy := 8 }
def w17 : State := tpS 4 1 { tp0 with dapData := 5, dapStatus := 6, dapWait := some 7 }
/-- The hypotheses of DebugAuthorizationAndAccess are met: a witness for each clause, by its place in the statement. -/
theorem test_meets_DebugAuthorizationAndAccess :
    /- 1.1 -/ (w2.inMode [mBOOT, mLOAD, mRUN, mSAFE] = true ∧ Config.freeNat 31 0 % 2 ^ 128 = Config.freeNat 31 w2.free % 2 ^ 128) ∧
    /- 1.2 -/ (w14.inMode [mBOOT, mLOAD, mRUN, mSAFE] = true ∧ Config.freeNat 31 0 % 2 ^ 128 = Config.freeNat 31 w14.free % 2 ^ 128 ∧ w14.tap.locked = true) ∧
    /- 1.3 -/ (w15.inMode [mBOOT, mLOAD, mRUN, mSAFE] = true ∧ Config.freeNat 31 0 % 2 ^ 128 = Config.freeNat 31 w15.free % 2 ^ 128 ∧ w15.tap.locked = false ∧ (3 : BitVec 2) = 3) ∧
    /- 1.4.1 -/ (w16.inMode [mBOOT, mLOAD, mRUN, mSAFE] = true ∧ Config.freeNat 31 0 % 2 ^ 128 = Config.freeNat 31 w16.free % 2 ^ 128 ∧ w16.tap.locked = false ∧ (2 : BitVec 2) = 2 ∧ w16.dbgDisabled (2 : BitVec 2).toNat = true) ∧
    /- 1.4.2 -/ (w1.inMode [mBOOT, mLOAD, mRUN, mSAFE] = true ∧ Config.freeNat 31 0 % 2 ^ 128 = Config.freeNat 31 w1.free % 2 ^ 128 ∧ w1.tap.locked = false ∧ (2 : BitVec 2) = 2 ∧ w1.dbgDisabled (2 : BitVec 2).toNat = false) ∧
    /- 3.1 -/ (w5.inMode [mBOOT, mLOAD, mRUN, mSAFE] = true ∧ w5.dbgLevel = 0) ∧
    /- 3.2 -/ (w17.inMode [mBOOT, mLOAD, mRUN, mSAFE] = true ∧ 0 < w17.dbgLevel ∧ (0 : BitVec 3) = 0) ∧
    /- 3.2 -/ (w17.inMode [mBOOT, mLOAD, mRUN, mSAFE] = true ∧ 0 < w17.dbgLevel ∧ w17.tap.dapWait ≠ none) ∧
    /- 3.2 -/ (w1.inMode [mBOOT, mLOAD, mRUN, mSAFE] = true ∧ 0 < w1.dbgLevel ∧ 4 < (5 : BitVec 3).toNat) ∧
    /- 3.2 -/ (w1.inMode [mBOOT, mLOAD, mRUN, mSAFE] = true ∧ 0 < w1.dbgLevel ∧ ((4 : BitVec 3) = 4 ∧ w1.dbgLevel ≠ 2)) ∧
    /- 3.2 -/ (w1.inMode [mBOOT, mLOAD, mRUN, mSAFE] = true ∧ 0 < w1.dbgLevel ∧ ((BitVec.toNat (0xFFFFFFFFFFC : NocAddr) % if (2 : BitVec 3) = 2 ∨ (2 : BitVec 3) = 4 then 8 else 4) ≠ 0)) ∧
    /- 3.2 -/ (w1.inMode [mBOOT, mLOAD, mRUN, mSAFE] = true ∧ 0 < w1.dbgLevel ∧ ((BitVec.toNat (2 : NocAddr) % if (1 : BitVec 3) = 2 ∨ (1 : BitVec 3) = 4 then 8 else 4) ≠ 0)) ∧
    /- 3.3 -/ (S_da13.inMode [mBOOT, mLOAD, mRUN, mSAFE] = true ∧ 0 < S_da13.dbgLevel ∧ S_da13.tap.dapWait = none ∧ S_da13.freeTag 161 = some 0 ∧ true = (decide ((4 : BitVec 3) = 2) || decide ((4 : BitVec 3) = 4)) ∧ true = (decide ((4 : BitVec 3) = 3) || decide ((4 : BitVec 3) = 4)) ∧ ((BitVec.toNat (0xFFFFFFFFFF8 : NocAddr) % if true = true then 8 else 4) = 0) ∧ ((4 : BitVec 3) = 4 ∧ S_da13.dbgLevel = 2) ∧ (Q_da13 = { id := S_da13.noc.next, src := 161, tag := 0, waddr := BitVec.toNat (0xFFFFFFFFFF8 : NocAddr) / 4, last := BitVec.toNat (0xFFFFFFFFFF8 : NocAddr) / 4 % 64 + if true = true then 1 else 0, wr := true, epoch := 0, data := if true = true then if true = true then [BitVec.toNat (5 : Word64) % 2 ^ 32, BitVec.toNat (5 : Word64) / 2 ^ 32] else [BitVec.toNat (5 : Word64) % 2 ^ 32] else [] }) ∧ U_da13 = ({ S_da13 with out := [OutItem.word 40 S_da13.tapIrWord, OutItem.word 40 (S_da13.tap.dapData % 2 ^ 64 + S_da13.tap.dapStatus * 2 ^ 64)], tap := have __src := S_da13.tap; { __src with ir := 17, outcome := 0, pins := none } } : State) ∧ Z_da13 = ({ U_da13 with noc := have __src := U_da13.noc; { __src with next := S_da13.noc.next + 1, outst := S_da13.noc.outst ++ [Q_da13] } } : State).queuePkt { body := NocBody.req Q_da13, cls := 0, poison := false, upset := (none : Option NocUpset) }) ∧
    /- 3.3 -/ (S_da13b.inMode [mBOOT, mLOAD, mRUN, mSAFE] = true ∧ 0 < S_da13b.dbgLevel ∧ S_da13b.tap.dapWait = none ∧ S_da13b.freeTag 161 = some 0 ∧ false = (decide ((1 : BitVec 3) = 2) || decide ((1 : BitVec 3) = 4)) ∧ false = (decide ((1 : BitVec 3) = 3) || decide ((1 : BitVec 3) = 4)) ∧ ((BitVec.toNat (4 : NocAddr) % if false = true then 8 else 4) = 0) ∧ (1 : BitVec 3) = 1 ∧ (Q_da13b = { id := S_da13b.noc.next, src := 161, tag := 0, waddr := BitVec.toNat (4 : NocAddr) / 4, last := BitVec.toNat (4 : NocAddr) / 4 % 64 + if false = true then 1 else 0, wr := false, epoch := 0, data := if false = true then if false = true then [BitVec.toNat (5 : Word64) % 2 ^ 32, BitVec.toNat (5 : Word64) / 2 ^ 32] else [BitVec.toNat (5 : Word64) % 2 ^ 32] else [] }) ∧ U_da13b = ({ S_da13b with out := [OutItem.word 40 S_da13b.tapIrWord, OutItem.word 40 (S_da13b.tap.dapData % 2 ^ 64 + S_da13b.tap.dapStatus * 2 ^ 64)], tap := have __src := S_da13b.tap; { __src with ir := 17, outcome := 0, pins := none } } : State) ∧ Z_da13b = ({ U_da13b with noc := have __src := U_da13b.noc; { __src with next := S_da13b.noc.next + 1, outst := S_da13b.noc.outst ++ [Q_da13b] } } : State).queuePkt { body := NocBody.req Q_da13b, cls := 0, poison := false, upset := (none : Option NocUpset) }) := by
  and_intros <;> first | decide +kernel | rfl

end Sys2Proof.Tests.PartQ
namespace Sys2Proof.Tests.PartR
open Sys2Proof Sys2Proof.Machine
set_option Elab.async false

def hmS (m : Nat) (l : List (Fld × Nat)) (h : Health) : State := { stw m l with hm := h }
def hm0 : Health := State.reset.hm
def eyS : State := stw 4 [(R.HM_CTRL_AUTO_EYE, 1), (R.LN_STAT_STATE 47, 6), (R.LN_CFG_MODE 47, 1), (R.LN_EYE_CFG_LOG2BITS 47, 20), (R.LN_EYE_CFG_ERRLIM 47, 1)]
def haS : State := hmS 4 [] { hm0 with wear := [(270, { Wear.zero with tau := 0x3FF0000000000000 })] }
def haR : State := haS.ageSecond
def haT : State := haR.powerEstimate haR.hmValue
theorem haR_eq : haR = haS.ageSecond := rfl
theorem haT_eq : haT = haR.powerEstimate haR.hmValue := rfl

def w1 : State := hmS 1 [(R.HO_TEMP_SRC, 1)] hm0
def w2 : State := hmS 4 [(R.HO_TEMP_SRC, 1)] { hm0 with faulty := [71] }
def w3 : State := hmS 4 [(R.HO_TEMP_SRC, 1), (R.HM_VAL_WARN 71, 1), (R.HM_VAL_ALARM 71, 1)] hm0
def w4 : State := hmS 4 [(R.HO_TEMP_SRC, 1), (R.HM_VAL_VALID 65, 1)] hm0
def w5 : State := st 0
def w6 : State := st 1
def w7 : State := st 4
def w7b : State := st 3
def w7c : State := stw 2 [(R.PWR_STATUS_GOOD, 0)]
def w8 : State := stw 4 [(R.IO_BANK_VCCO 7, 7)]
def w9 : State := stw 4 [(R.OP_STATUS_STATE 63, 2), (R.CK_STATUS_TPLL_LOCK, 1)]
def w10 : State := stw 4 [(R.OP_STATUS_STATE 63, 2), (R.OP_STATUS_BUSY 63, 1)]
def w11 : State := stw 4 [(R.HM_CTRL_AUTO_EYE, 0)]
def w12 : State := hmS 0 [] hm0
def w13 : State := hmS 1 [] hm0
def w14 : State := hmS 4 [] { hm0 with secs := 86399 }
def w15 : State := hmS 4 [] { hm0 with secs := 86400, wear := [(90, { Wear.zero with daySum := 0x3FF0000000000000, dayN := 2 }), (265, { Wear.zero with dayN := 1, last := 0x3FF0000000000000 })] }
def w16 : State := hmS 4 [(R.HM_VAL_BASED 90, 1), (R.HM_VAL_N 90, 65535)] { hm0 with secs := 86400, wear := [(90, { Wear.zero with daySum := 0x3FF0000000000000, dayN := 2, tau := 0x4000000000000000, base := 0x3FE0000000000000 })] }
def w17 : State := hmS 4 [] { hm0 with wear := [(265, { Wear.zero with base := 5, sxx := 4, sxy := 6, syy := 8 })] }
/-- The hypotheses of HealthMonitorsAndAgeing are met: a witness for each clause, by its place in the statement. -/
theorem test_meets_HealthMonitorsAndAgeing :
    /- 1.1.1 -/ (w1.get R.HO_TEMP_SRC ≠ 0 ∧ w1.sensorOn (↑(71 : Fin 72) : Nat) = false) ∧
    /- 1.1.2 -/ (w2.get R.HO_TEMP_SRC ≠ 0 ∧ w2.sensorOn (↑(71 : Fin 72) : Nat) = true ∧ -880 ≤ (2400 : Int) ∧ (2400 : Int) ≤ 2400) ∧
    /- 1.1.2 -/ (w3.get R.HO_TEMP_SRC ≠ 0 ∧ w3.sensorOn (↑(71 : Fin 72) : Nat) = true ∧ -880 ≤ (-880 : Int) ∧ (-880 : Int) ≤ 2400) ∧
    /- 1.1.2 -/ (w3.get R.HO_TEMP_SRC ≠ 0 ∧ w3.sensorOn (↑(71 : Fin 72) : Nat) = true ∧ -880 ≤ (2000 : Int) ∧ (2000 : Int) ≤ 2400) ∧
    /- 1.1.3.1 -/ (w2.get R.HO_TEMP_SRC ≠ 0 ∧ w2.sensorOn (↑(71 : Fin 72) : Nat) = true ∧ 2400 < (2401 : Int) ∧ (↑(71 : Fin 72) : Nat) ∈ w2.hm.faulty) ∧
    /- 1.1.3.2 -/ (w4.get R.HO_TEMP_SRC ≠ 0 ∧ w4.sensorOn (↑(65 : Fin 72) : Nat) = true ∧ (-881 : Int) < -880 ∧ ¬(↑(65 : Fin 72) : Nat) ∈ w4.hm.faulty) ∧
    /- 1.2.1 -/ (w5.mode0 = mOFF) ∧
    /- 1.2.2 -/ (w6.mode0 = mSTANDBY ∧ (1 : Fin 18) ≠ 0 ∧ (1 : Fin 18) ≠ 8 ∧ (1 : Fin 18) ≠ 9) ∧
    /- 1.2.3.1 -/ (w7.inMode [mBOOT, mLOAD, mRUN, mSAFE] = true ∧ (↑(9 : Fin 18) : Nat) < 10 ∧ w7.mode0 = mRUN) ∧
    /- 1.2.3.1 -/ (w7b.inMode [mBOOT, mLOAD, mRUN, mSAFE] = true ∧ (↑(1 : Fin 18) : Nat) < 10 ∧ w7b.railOk (↑(1 : Fin 18) : Nat) = true) ∧
    /- 1.2.3 -/ (w7c.mode0 = mBOOT ∧ (7 : Fin 18) ≠ 0 ∧ (7 : Fin 18) ≠ 8 ∧ (↑(7 : Fin 18) : Nat) < 9 ∧ w7c.railOk (↑(7 : Fin 18) : Nat) = false) ∧
    /- 1.2.3.1 -/ (w8.inMode [mBOOT, mLOAD, mRUN, mSAFE] = true ∧ (w8.railMv (↑(17 : Fin 18) : Nat) ≠ 0 ∧ w8.railOk (↑(17 : Fin 18) : Nat) = true)) ∧
    /- 1.2.3.2 -/ (w7.inMode [mBOOT, mLOAD, mRUN, mSAFE] = true ∧ 10 ≤ (↑(10 : Fin 18) : Nat) ∧ w7.railMv (↑(10 : Fin 18) : Nat) = 0) ∧
    /- 1.3.1 -/ (w9.inMode [mBOOT, mLOAD, mRUN, mSAFE] = true ∧ w9.opState (↑b63 : Nat) ≠ 0 ∧ w9.get R.CK_STATUS_TPLL_LOCK = 1 ∧ w9.get (R.OP_STATUS_BUSY (↑b63 : Nat)) = 0 ∧ 1001 ≠ 0) ∧
    /- 1.3.2 -/ (w10.inMode [mBOOT, mLOAD, mRUN, mSAFE] = true ∧ w10.opState (↑b63 : Nat) ≠ 0 ∧ w10.get R.CK_STATUS_TPLL_LOCK = 0) ∧
    /- 1.4.1 -/ (w11.get R.HM_CTRL_AUTO_EYE = 0) ∧
    /- 1.4.2 -/ (eyS.get R.HM_CTRL_AUTO_EYE = 1 ∧ eyS.mode0 = mRUN) ∧
    /- 2.1 -/ (w12.mode0 = mOFF) ∧
    /- 2.2 -/ (w13.mode0 = mSTANDBY) ∧
    /- 2.3 -/ (haS.inMode [mBOOT, mLOAD, mRUN, mSAFE] = true ∧ haS.hm.secs < 86400 ∧ haR = haS.ageSecond ∧ haT = haR.powerEstimate haR.hmValue) ∧
    /- 2.4 -/ (86400 ≤ w15.hm.secs ∧ w15.hm.secs < 172800 ∧ w15.inMode [mBOOT, mLOAD, mRUN, mSAFE] = true) ∧
    /- 3.1 -/ (w14.hm.secs < 86400) ∧
    /- 3.2 -/ (w13.inMode [mBOOT, mLOAD, mRUN, mSAFE] = false) ∧
    /- 3.3 -/ (86400 ≤ w15.hm.secs ∧ w15.inMode [mBOOT, mLOAD, mRUN, mSAFE] = true) ∧
    /- 3.3 -/ (86400 ≤ w16.hm.secs ∧ w16.inMode [mBOOT, mLOAD, mRUN, mSAFE] = true) ∧
    /- 4.1 -/ (w7.srcOk (↑s1 : Nat) = false) ∧
    /- 4.1 -/ ((w7.srcOk (↑s33 : Nat) = true ∧ 271 < (272 : BitVec 9).toNat)) ∧
    /- 4.1 -/ ((w7.srcOk (↑s33 : Nat) = true ∧ (271 : BitVec 9).toNat ≤ 271 ∧ 4 < hmKind (271 : BitVec 9).toNat)) ∧
    /- 4.2 -/ (w17.srcOk (↑s33 : Nat) = true ∧ 2 ≤ hmKind (265 : BitVec 9).toNat ∧ hmKind (265 : BitVec 9).toNat ≤ 4 ∧ w17.hm.secs < 86400) ∧
    /- 4.3 -/ (w15.srcOk (↑s33 : Nat) = true ∧ 2 ≤ hmKind (90 : BitVec 9).toNat ∧ hmKind (90 : BitVec 9).toNat ≤ 4 ∧ 86400 ≤ w15.hm.secs) := by
  and_intros <;> first | with_reducible exact haR_eq | with_reducible exact haT_eq | decide +kernel

/-- The hypotheses of IdcodeAndTapWake are met: a witness for each clause, by its place in the statement. -/
theorem test_meets_IdcodeAndTapWake :
    /- 1 -/ (w6.mode0 ≠ mOFF ∧ w6.mode0 ≤ mSAFE) ∧
    /- 2 -/ (w6.mode0 = mSTANDBY ∧ w6.coreRails = true ∧ w6.mode.trans = none) ∧
    /- 3 -/ (w7.mode0 ≠ mOFF ∧ w7.mode0 ≠ mSTANDBY ∧ w7.mode0 ≤ mSAFE ∧ tapNeed (0xFE : BitVec 8).toNat = none) := by
  and_intros <;> decide +kernel

/-- The hypotheses of BranchesBlocksAndSlices are met: a witness for each clause, by its place in the statement. -/
theorem test_meets_BranchesBlocksAndSlices :
    /- 1 -/ (39 < 40) ∧
    /- 2 -/ (3 < 4 ∧ 7 < 8 ∧ 3 < 4) ∧
    /- 3 -/ (127 < 128) ∧
    /- 4 -/ (31 < 32) ∧
    /- 5 -/ (31 < 32 ∧ 7 < 8) := by
  and_intros <;> decide +kernel

def w18 : State := (st 4).setFrame 0 0 0 0 0 (0 * 2^66)
def w19 : State := (st 4).setFrame 0 0 0 0 0 (0 * 2^76)
def w20 : State := (st 4).setFrame 0 0 0 0 0 (1 * 2^66)
def w21 : State := (st 4).setFrame 0 0 0 0 0 (1 * 2^76)
def w22 : State := (st 4).setFrame 0 0 0 0 0 (2 * 2^66)
def w23 : State := (st 4).setFrame 0 0 0 0 0 (2 * 2^76)
def w24 : State := (st 4).setFrame 0 0 0 0 0 (3 * 2^66)
def w25 : State := (st 4).setFrame 0 0 0 0 0 (3 * 2^76)
/-- The hypotheses of FlipFlopDataInputs are met: a witness for each clause, by its place in the statement. -/
theorem test_meets_FlipFlopDataInputs :
    /- 1 -/ (bits (w18.leafWord 0 0 0 0 0) (ffBase 0) 2 = 0) ∧
    /- 5 -/ (bits (w19.leafWord 0 0 0 0 0) (ffBase 1) 2 = 0) ∧
    /- 2 -/ (bits (w20.leafWord 0 0 0 0 0) (ffBase 0) 2 = 1) ∧
    /- 6 -/ (bits (w21.leafWord 0 0 0 0 0) (ffBase 1) 2 = 1) ∧
    /- 3 -/ (bits (w22.leafWord 0 0 0 0 0) (ffBase 0) 2 = 2) ∧
    /- 7 -/ (bits (w23.leafWord 0 0 0 0 0) (ffBase 1) 2 = 2) ∧
    /- 4 -/ (bits (w24.leafWord 0 0 0 0 0) (ffBase 0) 2 = 3) ∧
    /- 8 -/ (bits (w25.leafWord 0 0 0 0 0) (ffBase 1) 2 = 3) := by
  and_intros <;> decide +kernel

end Sys2Proof.Tests.PartR
namespace Sys2Proof.Tests.PartS
open Sys2Proof Sys2Proof.Machine
set_option Elab.async false

def scS (m : Nat) (x : Sec) (l : List (Fld × Nat) := []) : State := { stw m l with sec := x }
def se0 : Sec := State.reset.sec
def tmp (x : State) (b : Bool) : State := { x with pins := { x.pins with tamperL := b } }
theorem foldl_zeros (f : Nat → Nat → Nat) (m lo a : Nat) :
    List.foldl f a (List.replicate m 0) = List.foldl (fun c _ => f c 0) a (List.range' lo m) := by
  induction m generalizing lo a with
  | zero => rfl
  | succ m h => simp only [List.replicate_succ, List.foldl_cons, List.range'_succ]; exact h (lo + 1) (f a 0)
theorem bits_zeros (m : Nat) : (List.replicate m 0).flatMap byteBits = List.replicate (8 * m) 0 := by
  induction m with
  | zero => rfl
  | succ m h => rw [List.replicate_succ, List.flatMap_cons, h, Nat.mul_succ, Nat.add_comm, ← List.replicate_append_replicate]; rfl
/-- An I/O table of zeros with its header: YLIO, the CRC-32 in bytes 28 to 31. -/
def ioH : List Nat := [0x59, 0x4C, 0x49, 0x4F] ++ List.replicate 24 0
def ioL : List Nat := ioH ++ ([0x93, 0x12, 0x75, 0x1F] ++ List.replicate 1376 0)
def ioT : List (BitVec 8) := ioH.map (BitVec.ofNat 8) ++ ([0x93, 0x12, 0x75, 0x1F] ++ List.replicate 1376 0)
theorem ioL_eq : ioL = List.map (fun b => b.toNat) ioT := by
  rw [ioL, ioT, List.map_append, List.map_append, List.map_replicate]
  have e : List.map (fun b => b.toNat) (ioH.map (BitVec.ofNat 8)) = ioH := by decide +kernel
  rw [e]; rfl
theorem ioL_crc : crc32 (ioH ++ ([0, 0, 0, 0] ++ List.replicate 1376 0)) = 0x1F751293 := by
  have e : 8 * 1376 = 2 ^ 13 + (2 ^ 11 + (2 ^ 9 + 2 ^ 8)) := rfl
  rw [crc32, crc32Reg, List.flatMap_append, List.flatMap_append, List.foldl_append, List.foldl_append, bits_zeros, foldl_zeros _ _ 0, e,
    ← List.range'_append_1, ← List.range'_append_1, ← List.range'_append_1, List.foldl_append, List.foldl_append, List.foldl_append]
  simp only [foldl_halfFold]
  decide +kernel
theorem ioL_field (o n : Nat) (h : 32 ≤ o) : leField ioL o n = 0 := by
  have hd : ioL.drop o = List.replicate (1376 - (o - 32)) 0 := by
    have e : ioL = (ioH ++ [0x93, 0x12, 0x75, 0x1F]) ++ List.replicate 1376 0 := by rw [ioL, List.append_assoc]
    have l : (ioH ++ [0x93, 0x12, 0x75, 0x1F]).length = 32 := by decide
    rw [e, List.drop_append, List.drop_eq_nil_of_le (by omega), l, List.drop_replicate]; rfl
  rw [leField, hd, List.take_replicate]
  generalize min n (1376 - (o - 32)) = m
  induction m with
  | zero => rfl
  | succ m h => rw [List.replicate_succ]; simp_all [ofBytes]
theorem ioL_ok : ioTableOk ioL = true := by
  have hb : ∀ n, ioBankWord ioL n = 0 := fun n => ioL_field _ _ (by omega)
  have hp : ∀ p, ioPinWord ioL p = 0 := fun p => ioL_field _ _ (by omega)
  have hc : crc32 (ioL.take 28 ++ [0, 0, 0, 0] ++ ioL.drop 32) = 0x1F751293 := by
    rw [List.append_assoc]; exact ioL_crc
  have hl : ioL.length = 1408 := by
    rw [ioL, List.length_append, List.length_append, List.length_replicate]; rfl
  have hk : ∀ p, ioPinOk ioL p = true := by
    intro p
    have hs : ∀ k b, stdAdmitted k 0 0 b = true := fun _ _ => rfl
    simp [ioPinOk, hp, hb, hs, bits, bit]
  unfold ioTableOk
  simp only [hc, hl, hb, hk]
  decide +kernel

def w1 : State := st 1
def w2 : State := stw 5 [(R.DEV_MODE_CAUSE, 0x12)]
def w3 : State := st 2
def w4 : State := st 4
def w5 : State := { st 2 with policy := 1 }
def w6 : State := scS 2 { se0 with efKey := ⟨1, 0⟩ }
def w7 : State := st 5
def w8 : State := scS 2 { se0 with pk := [(3, keyField 48 5)] }
def w9 : State := scS 2 { se0 with pk := [(2, keyField 48 5)] }
def w10 : State := scS 2 { se0 with pk := [(2, keyField 48 4), (3, keyField 48 5)] }
def w11 : State := scS 2 { se0 with dbgKey := [(2, ⟨1, 1⟩)] }
/-- The hypotheses of FuseWrites are met: a witness for each clause, by its place in the statement. -/
theorem test_meets_FuseWrites :
    /- 1.1 -/ ((3 : BitVec 8).toNat ≤ 3 ∧ (3 = (3 : Fin 4) ∧ 3 = (3 : BitVec 8)) ∧ w1.inMode [mBOOT, mLOAD, mRUN, mSAFE] = false) ∧
    /- 1.2.1 -/ ((3 : BitVec 8).toNat ≤ 3 ∧ (3 = (3 : Fin 4) ∧ 3 = (3 : BitVec 8)) ∧ w2.inMode [mBOOT, mLOAD, mRUN, mSAFE] = true ∧ w2.romOnly = true) ∧
    /- 1.2.2.1 -/ ((3 : BitVec 8).toNat ≤ 3 ∧ (1 = (1 : Fin 4) ∧ 6 = (6 : BitVec 256) ∧ none = (none : Option (Fin 288))) ∧ w3.inMode [mBOOT, mLOAD, mRUN, mSAFE] = true ∧ w3.romOnly = false ∧ (↑(1 : Fin 4) : Nat) < 2) ∧
    /- 1.2.2.2 -/ ((3 : BitVec 8).toNat ≤ 3 ∧ (3 = (3 : Fin 4) ∧ 5 = (5 : BitVec 32) ∧ none = (none : Option (Fin 32))) ∧ w4.inMode [mBOOT, mLOAD, mRUN, mSAFE] = true ∧ w4.romOnly = false ∧ 2 ≤ (↑(3 : Fin 4) : Nat) ∧ w4.mode0 = mRUN) ∧
    /- 1.2.2.3 -/ ((3 : BitVec 8).toNat ≤ 3 ∧ (2 = (2 : Fin 4) ∧ 6 = (6 : BitVec 256) ∧ none = (none : Option (Fin 288))) ∧ w3.inMode [mBOOT, mLOAD, mRUN, mSAFE] = true ∧ w3.romOnly = false ∧ (2 : Fin 4) = 2 ∧ w3.mode0 = mBOOT) ∧
    /- 2.1.1 -/ (w3.romOnly = false ∧ w3.mode0 = mBOOT ∧ (2 : Fin 4) = 2 ∧ 256 = w3.policy ||| (0x100 : BitVec 32).toNat ∧ 255 < (0x100 : BitVec 32).toNat) ∧
    /- 2.1.2.1 -/ (w3.romOnly = false ∧ w3.mode0 = mBOOT ∧ (3 : Fin 4) = 3 ∧ 255 - 4 = w3.policy ||| (255 - 4 : BitVec 32).toNat ∧ (255 - 4 : BitVec 32).toNat ≤ 255 ∧ bit (255 - 4) 2 = 0) ∧
    /- 2.1.2.2 -/ (w5.romOnly = false ∧ w5.mode0 = mBOOT ∧ (3 : Fin 4) = 3 ∧ 255 - 4 = w5.policy ||| (255 - 4 : BitVec 32).toNat ∧ (255 - 4 : BitVec 32).toNat ≤ 255 ∧ bit (255 - 4) 2 = 0 ∧ bit (255 - 4 : BitVec 32).toNat (↑(7 : Fin 32) : Nat) = 1 ∧ bit w5.policy (↑(7 : Fin 32) : Nat) = 0) ∧
    /- 2.2.1 -/ (w6.romOnly = false ∧ w6.mode0 = mBOOT ∧ (2 : Fin 4) = 2 ∧ w6.sec.efKey.state 32 ≠ 0) ∧
    /- 2.2.2.1 -/ (w7.romOnly = false ∧ w7.mode0 = mSAFE ∧ (2 : Fin 4) = 2 ∧ w7.sec.efKey.state 32 = 0) ∧
    /- 2.2.2.2 -/ (w7.romOnly = false ∧ w7.mode0 = mSAFE ∧ (2 : Fin 4) = 2 ∧ w7.sec.efKey.state 32 = 0 ∧ (↑(255 : Fin 288) : Nat) < 256 ∧ bit (BitVec.allOnes 256 : BitVec 256).toNat (↑(255 : Fin 288) : Nat) = 1) ∧
    /- 2.3.1 -/ (w7.romOnly = false ∧ w7.mode0 = mSAFE ∧ (2 : Fin 4) = 2 ∧ 3 < (4 : BitVec 8).toNat) ∧
    /- 2.3.2.1 -/ (w8.romOnly = false ∧ w8.mode0 = mBOOT ∧ (2 : Fin 4) = 2 ∧ (3 : BitVec 8).toNat ≤ 3 ∧ (w8.pkSlot (3 : BitVec 8).toNat).state 48 ≠ 0) ∧
    /- 2.3.2.2 -/ (w9.romOnly = false ∧ w9.mode0 = mBOOT ∧ (2 : Fin 4) = 2 ∧ (3 : BitVec 8).toNat ≤ 3 ∧ (w9.pkSlot (3 : BitVec 8).toNat).state 48 = 0) ∧
    /- 2.3.2.3 -/ (w8.romOnly = false ∧ w8.mode0 = mBOOT ∧ (2 : Fin 4) = 2 ∧ (3 : BitVec 8).toNat ≤ 3 ∧ w8.openDevice = false ∧ (∀ (k : Nat), k < 4 → (w8.pkSlot k).state 48 = 1 → bit (w8.sec.pkRev ||| 2 ^ (3 : BitVec 8).toNat) k = 1)) ∧
    /- 2.3.2.4.1 -/ (w10.romOnly = false ∧ w10.mode0 = mBOOT ∧ (2 : Fin 4) = 2 ∧ (3 : BitVec 8).toNat ≤ 3 ∧ 2 < 4 ∧ (w10.pkSlot 2).state 48 = 1 ∧ bit (w10.sec.pkRev ||| 2 ^ (3 : BitVec 8).toNat) 2 = 0) ∧
    /- 2.3.2.4.2 -/ (w10.romOnly = false ∧ w10.mode0 = mBOOT ∧ (2 : Fin 4) = 2 ∧ (3 : BitVec 8).toNat ≤ 3 ∧ 2 < 4 ∧ (w10.pkSlot 2).state 48 = 1 ∧ bit (w10.sec.pkRev ||| 2 ^ (3 : BitVec 8).toNat) 2 = 0 ∧ bit w10.sec.pkRev (3 : BitVec 8).toNat = 0) ∧
    /- 2.4.1 -/ (w11.romOnly = false ∧ w11.mode0 = mBOOT ∧ (2 : Fin 4) = 2 ∧ (2 = if true = true then 2 else 1) ∧ (w11.dbgKeyOf 2).state 32 ≠ 0) ∧
    /- 2.4.2 -/ (w11.romOnly = false ∧ w11.mode0 = mBOOT ∧ (2 : Fin 4) = 2 ∧ (1 = if false = true then 2 else 1) ∧ (w11.dbgKeyOf 1).state 32 = 0) := by
  and_intros <;> decide +kernel

def w12 : State := { scS 4 { se0 with rb := 3 } with ld := { (st 4).ld with lastVersion := 64 } }
def w13 : State := scS 4 { se0 with fwRb := 3, runSecver := 32 }
def w14 : State := tmp (st 4) false
def w15 : State := tmp (st 4) true
def w16 : State := tmp (scS 4 { se0 with tamperSeen := true }) true
def w17 : State := tmp (scS 4 { se0 with tamperSeen := true }) false
/-- The hypotheses of CountersAndKeyRam are met: a witness for each clause, by its place in the statement. -/
theorem test_meets_CountersAndKeyRam :
    /- 1 -/ (w4.inMode [mBOOT, mLOAD, mRUN, mSAFE] = true ∧ w4.romOnly = false ∧ (↑(1 : Fin 4) : Nat) < 2 ∧ 1 = (1 : Fin 4)) ∧
    /- 2.1 -/ (w4.inMode [mBOOT, mLOAD, mRUN, mSAFE] = true ∧ w4.romOnly = false ∧ 2 ≤ (↑(2 : Fin 4) : Nat) ∧ 64 < (65 : BitVec 8).toNat) ∧
    /- 2.2.1 -/ (w12.inMode [mBOOT, mLOAD, mRUN, mSAFE] = true ∧ w12.romOnly = false ∧ 2 ≤ (↑(2 : Fin 4) : Nat) ∧ w12.sec.rb ≤ (64 : BitVec 8).toNat ∧ (64 : BitVec 8).toNat ≤ 64 ∧ (64 : BitVec 8).toNat ≤ w12.ld.lastVersion ∧ w12.get R.LD_STATUS_SEEDED = 0) ∧
    /- 2.2.2 -/ (w12.inMode [mBOOT, mLOAD, mRUN, mSAFE] = true ∧ w12.romOnly = false ∧ 2 ≤ (↑(2 : Fin 4) : Nat) ∧ w12.sec.rb ≤ (64 : BitVec 8).toNat ∧ (64 : BitVec 8).toNat ≤ 64 ∧ (64 : BitVec 8).toNat ≤ w12.ld.lastVersion ∧ w12.get R.LD_STATUS_SEEDED = 0 ∧ w12.sec.rb + (↑(60 : Fin 64) : Nat) < (64 : BitVec 8).toNat) ∧
    /- 3.1 -/ (w4.inMode [mBOOT, mLOAD, mRUN, mSAFE] = true ∧ (2 : Fin 4) ≠ 3) ∧
    /- 3.2 -/ (w4.inMode [mBOOT, mLOAD, mRUN, mSAFE] = true ∧ (3 : Fin 4) = 3 ∧ w4.sec.runSecver < (33 : BitVec 8).toNat) ∧
    /- 3.3.1 -/ (w13.inMode [mBOOT, mLOAD, mRUN, mSAFE] = true ∧ (3 : Fin 4) = 3 ∧ w13.sec.fwRb ≤ (32 : BitVec 8).toNat ∧ (32 : BitVec 8).toNat ≤ w13.sec.runSecver) ∧
    /- 3.3.2 -/ (w13.inMode [mBOOT, mLOAD, mRUN, mSAFE] = true ∧ (3 : Fin 4) = 3 ∧ w13.sec.fwRb ≤ (32 : BitVec 8).toNat ∧ (32 : BitVec 8).toNat ≤ w13.sec.runSecver ∧ w13.sec.fwRb + (↑(28 : Fin 32) : Nat) < (32 : BitVec 8).toNat) ∧
    /- 4.1 -/ (w4.inMode [mBOOT, mLOAD, mRUN, mSAFE] = true ∧ w4.romOnly = false ∧ 2 ≤ (↑(2 : Fin 4) : Nat) ∧ (0 : BitVec 256) = 0) ∧
    /- 4.2 -/ (w4.inMode [mBOOT, mLOAD, mRUN, mSAFE] = true ∧ w4.romOnly = false ∧ 2 ≤ (↑(2 : Fin 4) : Nat) ∧ (5 : BitVec 256) ≠ 0 ∧ (2 : Fin 4) = 2) ∧
    /- 4.3 -/ (w14.inMode [mBOOT, mLOAD, mRUN, mSAFE] = true ∧ w14.romOnly = false ∧ 2 ≤ (↑(3 : Fin 4) : Nat) ∧ (5 : BitVec 256) ≠ 0 ∧ (3 : Fin 4) = 3 ∧ w14.pins.tamperL = false) ∧
    /- 4.4 -/ (w15.inMode [mBOOT, mLOAD, mRUN, mSAFE] = true ∧ w15.romOnly = false ∧ 2 ≤ (↑(2 : Fin 4) : Nat) ∧ (BitVec.allOnes 256 : BitVec 256) ≠ 0 ∧ w15.pins.tamperL = true) ∧
    /- 4.5 -/ (w15.inMode [mBOOT, mLOAD, mRUN, mSAFE] = true ∧ w15.romOnly = false ∧ 2 ≤ (↑(2 : Fin 4) : Nat)) ∧
    /- 4.6 -/ (w16.inMode [mBOOT, mLOAD, mRUN, mSAFE] = true ∧ w16.romOnly = false ∧ 2 ≤ (↑(2 : Fin 4) : Nat) ∧ w16.pins.tamperL = true) ∧
    /- 4.7 -/ (w17.inMode [mBOOT, mLOAD, mRUN, mSAFE] = true ∧ w17.romOnly = false ∧ 2 ≤ (↑(2 : Fin 4) : Nat) ∧ w17.pins.tamperL = false) := by
  and_intros <;> decide +kernel

def w18 : State := scS 4 { se0 with fwState := 2 }
def w19 : State := scS 4 { se0 with fwState := 1 }
def w20 : State := scS 3 { se0 with fwState := 2 }
def w21 : State := scS 4 { se0 with fwState := 2, slots := [(1, [0x59, 0x4C, 0x46, 0x57, 1, 0, 7])] }
def w22 : State := scS 4 { se0 with fwRb := 32 }
def w23 : State := scS 2 { se0 with slots := [(0, [0x59, 0x4C, 0x46, 0x57, 1, 0, 7])] }
def w24 : State := scS 2 { se0 with slots := [(1, [0x59, 0x4C, 0x46, 0x57, 1, 0, 7])] }
def w25 : State := scS 4 { se0 with rbSel := wd [(R.RB_SEL_COL, 41)] }
def w26 : State := { { rb runB [] with pt := { (rb runB []).pt with keysel := [(0, 1)] } } with policy := 128 }
/-- The hypotheses of FirmwareReadbackAndIoTable are met: a witness for each clause, by its place in the statement. -/
theorem test_meets_FirmwareReadbackAndIoTable :
    /- 1.1 -/ (w18.inMode [mBOOT, mLOAD, mRUN, mSAFE] = true ∧ (2 : Fin 4) ≠ 3) ∧
    /- 1.1 -/ (w19.inMode [mBOOT, mLOAD, mRUN, mSAFE] = true ∧ ((3 : Fin 4) = 3 ∧ w19.sec.fwState ≠ 2)) ∧
    /- 1.1 -/ (w20.inMode [mBOOT, mLOAD, mRUN, mSAFE] = true ∧ ((3 : Fin 4) = 3 ∧ w20.sec.fwState = 2 ∧ w20.fwOpen = false ∧ w20.mode0 = mLOAD)) ∧
    /- 1.2 -/ (w21.inMode [mBOOT, mLOAD, mRUN, mSAFE] = true ∧ (3 : Fin 4) = 3 ∧ w21.sec.fwState = 2 ∧ w21.fwOpen = false ∧ w21.ldState = ldIDLE ∧ w21.mode0 ≠ mLOAD ∧ w21.fwRunning ≤ 1) ∧
    /- 2.1 -/ (w18.sec.fwState ≠ 1) ∧
    /- 2.2 -/ (w19.sec.fwState = 1 ∧ w19.fwOpen = false) ∧
    /- 3 -/ (31 < w22.sec.fwRb) ∧
    /- 4.1 -/ (w4.mode0 ≠ mBOOT) ∧
    /- 4.2.1 -/ (w23.mode0 = mBOOT ∧ w23.fwRunning = 0) ∧
    /- 4.2.2 -/ (w24.mode0 = mBOOT ∧ w24.fwRunning = 0) ∧
    /- 4.3 -/ (w3.mode0 = mBOOT ∧ w3.mode.trans = none ∧ w3.fwRunning = 0) ∧
    /- 5.1 -/ (w4.inMode [mBOOT, mLOAD, mRUN, mSAFE] = true ∧ w4.romOnly = false ∧ (↑(1 : Fin 4) : Nat) < 2) ∧
    /- 5.2.1 -/ (w4.inMode [mBOOT, mLOAD, mRUN, mSAFE] = true ∧ w4.romOnly = false ∧ 2 ≤ (↑(2 : Fin 4) : Nat) ∧ w4.policyBit 7 = false) ∧
    /- 5.2.2 -/ (w25.inMode [mBOOT, mLOAD, mRUN, mSAFE] = true ∧ w25.romOnly = false ∧ 2 ≤ (↑(2 : Fin 4) : Nat) ∧ w25.policyBit 7 = false ∧ frameExists (w25.rbSelOf R.RB_SEL_ROW) (w25.rbSelOf R.RB_SEL_COL) (w25.rbSelOf R.RB_SEL_INDEX) = false) ∧
    /- 5.2.3 -/ (w4.inMode [mBOOT, mLOAD, mRUN, mSAFE] = true ∧ w4.romOnly = false ∧ 2 ≤ (↑(2 : Fin 4) : Nat) ∧ w4.policyBit 7 = false ∧ frameExists (w4.rbSelOf R.RB_SEL_ROW) (w4.rbSelOf R.RB_SEL_COL) (w4.rbSelOf R.RB_SEL_INDEX) = true ∧ w4.planeWritten (w4.rbSelOf R.RB_SEL_PLANE) (w4.rbSelOf R.RB_SEL_B) = false) ∧
    /- 5.3 -/ (w26.inMode [mBOOT, mLOAD, mRUN, mSAFE] = true ∧ w26.romOnly = false ∧ 2 ≤ (↑(2 : Fin 4) : Nat) ∧ w26.policyBit 7 = true ∧ (∀ (q : Nat), w26.partOf (w26.rbSelOf R.RB_SEL_B) = some q → w26.pt.keysel.get 0 q ≠ 0) ∧ w26.partOf (w26.rbSelOf R.RB_SEL_B) ≠ none) ∧
    /- 6.1 -/ (w4.inMode [mBOOT, mLOAD, mRUN, mSAFE] = true ∧ w4.romOnly = false ∧ (([5] : List Nat) = List.map (fun b => b.toNat) ([5] : List (BitVec 8))) ∧ (↑(1 : Fin 4) : Nat) < 2) ∧
    /- 6.2 -/ (w4.inMode [mBOOT, mLOAD, mRUN, mSAFE] = true ∧ w4.romOnly = false ∧ (([5] : List Nat) = List.map (fun b => b.toNat) ([5] : List (BitVec 8))) ∧ 2 ≤ (↑(2 : Fin 4) : Nat) ∧ ioTableOk ([5] : List Nat) = false) ∧
    /- 6.3 -/ (w4.inMode [mBOOT, mLOAD, mRUN, mSAFE] = true ∧ w4.romOnly = false ∧ (ioL = List.map (fun b => b.toNat) ioT) ∧ 2 ≤ (↑(2 : Fin 4) : Nat) ∧ ioTableOk ioL = true) := by
  and_intros <;> first | with_reducible exact ioL_eq | with_reducible exact ioL_ok | decide +kernel

end Sys2Proof.Tests.PartS
namespace Sys2Proof.Tests.Rules
open Sys2Proof Sys2Proof.Machine
set_option Elab.async false

/-! ## The queue (FusesOnlyGain, StepRunsFrontCommand) -/

theorem test_empty_queue_idles : step State.reset = .next State.reset := rfl
theorem test_step_takes_the_front (c d : Instr) (s : State) : step { s with pending := [c, d] } = exec c { s with pending := [d] } := rfl
theorem test_meets_FusesOnlyGain : ∃ s t : State, s.secInv = true ∧ step s = .next t ∧ t.policy = 5 :=
  ⟨{ st 2 with pending := [.fusePolicySet true 2 5 none] }, _, by decide +kernel, rfl, by decide +kernel⟩
/-- Its clauses about keys: a device with an encryption key, a debug key and two digests, of which one is now revoked. -/
def fusedS : State :=
  { st 2 with sec := { (st 2).sec with efKey := keyField 32 5, pk := [(2, keyField 48 4), (3, keyField 48 6)], dbgKey := [(2, keyField 32 7)] } }
theorem test_meets_FusesOnlyGain_keys : ∃ s t : State, s = { fusedS with pending := [.fusePkRevoke true 2 3 false] } ∧ s.secInv = true ∧ step s = .next t ∧ fusedS.sec.efKey.state 32 ≠ 0 ∧ (fusedS.pkSlot 3).state 48 ≠ 0 ∧
    (fusedS.dbgKeyOf 2).state 32 ≠ 0 ∧ fusedS.usableKey = true ∧ t.sec.pkRev = 8 ∧ t.usableKey = true :=
  ⟨_, _, rfl, by decide +kernel, rfl, by decide +kernel⟩

/-! ## Ill-formed commands: one for each check of WellFormed -/

theorem test_wf_noc_range_backwards : (Instr.nocRequest 33 0 true 5 4 [1] none).wf = false := by decide
theorem test_wf_noc_write_words : (Instr.nocRequest 33 0 true 5 6 [1] none).wf = false := by decide
theorem test_wf_noc_read_words : (Instr.nocRequest 33 0 false 5 6 [1] none).wf = false := by decide
theorem test_wf_lists_too_long :
    (Instr.stRxChunk 0 (List.replicate 65 0, none)).wf = false ∧ (Instr.stTxWrite 0 0 0 (List.replicate 65 0)).wf = false ∧ (Instr.llCapsRx 0 (List.replicate 257 0) true 0).wf = false ∧
    (Instr.llMarkerRx 0 (List.replicate 257 0) 0).wf = false ∧ (Instr.spTransactionDone 0 0 (List.replicate 17 0)).wf = false := by decide +kernel
theorem test_wf_empty_frame : (Instr.rxFrame 0 [] 0 0 0 0).wf = false := by decide
theorem test_wf_bar : (Instr.barAccess 0 0 false 1025 false ([], none)).wf = false ∧ (Instr.barAccess 0 0 true 2 false ([1], none)).wf = false := by decide
theorem test_wf_push : (Instr.pushWrite 33 [1, 2, 3]).wf = false ∧ (Instr.pushWrite 33 (List.replicate 260 0)).wf = false := by decide +kernel
theorem test_wf_site_image : (Instr.scFlashBootComplete (List.replicate 1048929 0)).wf = false := by
  simp only [Instr.wf, List.length_replicate]; decide
theorem test_wf_messages : ∀ p : AgPath, (Instr.agzerHello p (List.replicate 1501 0)).wf = false ∧ (Instr.agzerAuth p (List.replicate 1501 0)).wf = false ∧
    (Instr.agzerRead p (List.replicate 1501 0)).wf = false ∧ (Instr.agzerWrite p (List.replicate 1501 0)).wf = false ∧
    (Instr.agzerXferStart p (List.replicate 1501 0)).wf = false ∧ (Instr.agzerXferData p (List.replicate 1501 0)).wf = false ∧
    (Instr.agzerClose p (List.replicate 1501 0)).wf = false ∧ (Instr.mgtIcmpEcho 0 0 0 (List.replicate 1497 0) false).wf = false ∧
    (Instr.ioTableWrite 2 (List.replicate 1409 0)).wf = false := by
  intro p
  simp only [Instr.wf, msgOk, List.length_replicate]
  decide
theorem test_wf_twice : (Instr.tempSample [(3, 0), (3, 1)]).wf = false ∧ (Instr.voltSample [(3, 0), (3, 1)]).wf = false ∧
    (Instr.roSample [(3, 0, 0), (3, 1, 0)]).wf = false ∧ (Instr.boughClockEdge 5 [(3, true)] [3]).wf = false := by decide
theorem test_wf_taken : (Instr.nocRequest 33 0 true 5 6 [1, 2] none).wf = true ∧ (Instr.pushWrite 33 [1, 2, 3, 4]).wf = true ∧ (Instr.tempSample [(3, 0), (4, 1)]).wf = true := by decide

/-! ## The spec's worked examples -/

/-- The addresses of chapters 1, 12 and 13: a register of router 31, of router 57 port B, of lane 2 of Q_3. -/
theorem test_example_addresses : R.TP_NOW_TIME.addr = 0x7D000000008 ∧ (R.GR_CTRL_INTLV 1).addr = 0xE6000000000 ∧ (R.LN_CFG_MODE 14).addr = 0x0D000080200 := by decide
/-- The symbol code of chapter 4: symbols 5 and 20, then an upset of symbol 20. -/
theorem test_example_symbol_code : symEncode (3 * 2 ^ 20 + 2 ^ 80) = 0x5B5C00000000000100000000000000300000 ∧
    symDecode (0x5B5C00000000000100000000000000300000 ^^^ 6 * 2 ^ 80) = ⟨1, 20, 6, 0x6AB6⟩ := by decide +kernel
/-- Its entry of BM_ERR_POP: block 37, port A, row 0x0C3, written back. -/
theorem test_example_bm_err_pop : ((st 4).bmLog 27 37 0 0xC3 ⟨1, 20, 6, 0x6AB6⟩ false true false).queue (bmErrPop 27) = [0x00016AB61408C325] := by decide +kernel
/-- The roundings of chapter 5, RSHIFT 4: truncation, half up, half even. -/
theorem test_example_rounding : [0x18, 0x28, 2 ^ 56 - 0x18, 0x27, 0x29].map (fun p => [0, 1, 2].map (fun r => (roundOut false r 4 true p).1)) =
    [[1, 2, 2], [2, 3, 2], [2 ^ 24 - 2, 2 ^ 24 - 1, 2 ^ 24 - 2], [2, 2, 2], [2, 3, 3]] := by decide +kernel
/-- A target 512 ns after the present across the wrap (chapter 0). -/
theorem test_example_time_wrap : notEarlier (0xFFFFFF00 * 65536) (0x100 * 65536) = false ∧ notEarlier (0x100 * 65536) (0xFFFFFF00 * 65536) = true := by decide
/-- The L-index of column 15 (chapter 17). -/
theorem test_example_carry_entry : lIndex 15 = 12 ∧ 7 + lIndex 15 * 8 + 5 * 256 + 3 * 8192 = 0x6567 := by decide
/-- The two entries of GL_LOG_POP in chapter 18. -/
theorem test_example_gl_log : glWord 0 ⟨3, 1, 27, 3, 22, 5⟩ (1937 + 2 ^ 12 * 0 + 2 ^ 13) 0x0702 = 0x0003814F22AB36E8 ∧ glWord 1 ⟨3, 1, 27, 7, 15, 3⟩ 0 0 = 0x67F6E9 := by decide
/-- The response of the Observer's request in chapter 20. -/
theorem test_example_agzer_response : agBytes 0x11 5 7 0 [1, 0x30, 0x30, 1, 4, 0, 0, 0, 4, 0, 0, 0x3D, 0xEA] none =
    [0x41, 0x5A, 1, 0x11, 0, 5, 0, 13, 0, 0, 0, 7, 0, 0, 0, 0, 1, 0x30, 0x30, 1, 4, 0, 0, 0, 4, 0, 0, 0x3D, 0xEA] := by decide +kernel
/-- Its request is read as it stands. -/
theorem test_example_agzer_request : agParse [0x41, 0x5A, 1, 0x10, 0, 5, 0, 5, 0, 0, 0, 7, 0, 0, 0, 0, 1, 0x30, 0x30, 1, 0] =
    some ⟨0x10, 5, 7, false, false, [1, 0x30, 0x30, 1, 0], [], [0x41, 0x5A, 1, 0x10, 0, 5, 0, 5, 0, 0, 0, 7, 0, 0, 0, 0, 1, 0x30, 0x30, 1, 0]⟩ := by decide +kernel

/-- The record of chapter 15: a firing of slot 2 at index 1,030. -/
theorem test_example_event_record : (recBytes ⟨3, 0, false, false, 0x4787A304C000, 3, 2, 0, 0, []⟩ 1030 0).take 24 =
    toBytes 4 0x00030000 ++ toBytes 4 0x406 ++ toBytes 8 0x00034787A304C000 ++ toBytes 4 2 ++ toBytes 4 0 := by decide +kernel
/-- The receive stamp of chapter 14, with and without its corrections. -/
def rxE (on : Nat) : State := stw 4 [(R.PE_CFG_CFG 2, 3), (R.CH_CFG_CORR_EN 9, on), (R.CH_TS_DLY_RX_DLY 9, 0x6000)]
def rxT : Int := 2400000310 * 65536 + 32768 + 0x25 * 2 ^ 48
theorem test_example_rx_stamp : stamp48 ((rxE 1).rxStamp 9 rxT 300) = 0x8F0D18DF43C4 ∧ stampWrap ((rxE 1).rxStamp 9 rxT 300) = 0x25 ∧
    stamp48 ((rxE 0).rxStamp 9 rxT 300) = 0x8F0D19368000 := by decide +kernel

end Sys2Proof.Tests.Rules
end

/-! # Chapter 1: where branches, blocks and slices stand (R28, R129, R162) -/

namespace Sys2Proof.Machine

/-! ## Branch types (R28) -/

/-- The three kinds of column: exactly one of these cases holds of each. -/
theorem branchType_cases (col : Nat) :
    (col % 10 = 4 ∧ branchType col = 1) ∨ (col % 10 = 9 ∧ branchType col = 2) ∨
      (col % 10 ≠ 4 ∧ col % 10 ≠ 9 ∧ branchType col = 0) := by
  by_cases hM : col % 10 = 4
  · exact .inl ⟨hM, by rw [branchType, if_pos hM]⟩
  · by_cases hA : col % 10 = 9
    · exact .inr (.inl ⟨hA, by rw [branchType, if_neg hM, if_pos hA]⟩)
    · exact .inr (.inr ⟨hM, hA, by rw [branchType, if_neg hM, if_neg hA]⟩)

theorem branchType_eq_one_iff (col : Nat) : branchType col = 1 ↔ col % 10 = 4 := by
  have := branchType_cases col
  omega

theorem branchType_eq_two_iff (col : Nat) : branchType col = 2 ↔ col % 10 = 9 := by
  have := branchType_cases col
  omega

theorem branchType_eq_zero_iff (col : Nat) :
    branchType col = 0 ↔ col % 10 ≠ 4 ∧ col % 10 ≠ 9 := by
  have := branchType_cases col
  omega

/-! ## Block numbers (R129) -/

section
variable {m row j : Nat} (hrow : row < 8) (hj : j < 4)
include hrow hj

theorem bmCol_blockNumber : bmCol (32 * m + 4 * row + j) = 10 * m + 4 := by
  have hcolumn : (32 * m + 4 * row + j) / 32 = m := by omega
  rw [bmCol, hcolumn]

theorem bmRow_blockNumber : bmRow (32 * m + 4 * row + j) = row := by
  have hbranch : (32 * m + 4 * row + j) / 4 % 8 = row := by omega
  rw [bmRow, hbranch]

theorem blockNumber_mod_column : (32 * m + 4 * row + j) % 32 = 4 * row + j := by
  omega

end

theorem blockNumber_mod_branch (m row : Nat) {j : Nat} (hj : j < 4) :
    (32 * m + 4 * row + j) % 4 = j := by
  omega

/-- Every block of a bough has a number of the form of R129: its M column, its row and its place in the branch are the digits of `k`. -/
theorem exists_blockNumber {k : Nat} (hk : k < 128) :
    ∃ m row j, m < 4 ∧ row < 8 ∧ j < 4 ∧ k = 32 * m + 4 * row + j :=
  ⟨k / 32, k / 4 % 8, k % 4, by omega, by omega, by omega, by omega⟩

/-! ## A branch and slice numbers (R162) -/

theorem abranchNumber_eq (a : Nat) : a = 4 * slRow a + (slCol a - 9) / 10 := by
  unfold slRow slCol
  omega

theorem slRow_lt {a : Nat} (ha : a < 32) : slRow a < 8 := by
  unfold slRow
  omega

theorem slCol_mem (a : Nat) : slCol a ∈ [9, 19, 29, 39] := by
  have hquarter : a % 4 = 0 ∨ a % 4 = 1 ∨ a % 4 = 2 ∨ a % 4 = 3 := by omega
  rcases hquarter with h | h | h | h <;> rw [slCol, h] <;> decide

theorem sliceWord_sliceNumber (s : State) (b a : Nat) {k : Nat} (hk : k < 8) :
    s.sliceWord b (8 * a + k) = bits (s.af b (slRow a) (slCol a) 4) (256 * k) 256 := by
  have hbranch : (8 * a + k) / 8 = a := by omega
  have hslice : (8 * a + k) % 8 = k := by omega
  rw [State.sliceWord, hbranch, hslice]

/-- Settles O11: the three cases of `branchType`, and the digits of block and slice numbers. -/
theorem branchesBlocksAndSlices : Obligations.BranchesBlocksAndSlices := by
  unfold Obligations.BranchesBlocksAndSlices
  refine ⟨?branches, ?blockPlace, ?blockNumber, ?abranch, ?slice⟩
  case branches =>
    exact fun col _ => ⟨branchType_eq_one_iff col, branchType_eq_two_iff col, branchType_eq_zero_iff col⟩
  case blockPlace =>
    exact fun m row j _ hrow hj => ⟨bmCol_blockNumber hrow hj, bmRow_blockNumber hrow hj,
      blockNumber_mod_branch m row hj, blockNumber_mod_column hrow hj⟩
  case blockNumber =>
    exact fun k hk => exists_blockNumber hk
  case abranch =>
    exact fun a ha => ⟨abranchNumber_eq a, slRow_lt ha, slCol_mem a⟩
  case slice =>
    exact fun s b a k _ hk => sliceWord_sliceNumber s b a hk

end Sys2Proof.Machine

/-! # Chapter 2: the data input of a flip-flop (R62)

One lemma for each value of DSEL, over both flip-flops of a leaf: `ab` is 0 for FA and 1 for FB. -/

namespace Sys2Proof.Machine

section
variable {s : State} {b row col t k ab : Nat}

/-- 0b00: a flip-flop takes the LUT output of its own side. -/
theorem ffData_of_dsel_eq_zero (hdsel : bits (s.leafWord b row col t k) (ffBase ab) 2 = 0) :
    s.ffData b row col t k ab = s.node b (if ab = 0 then .la row col t k else .lb row col t k) := by
  simp only [State.ffData, hdsel]

theorem ffData_of_dsel_eq_one (hdsel : bits (s.leafWord b row col t k) (ffBase ab) 2 = 1) :
    s.ffData b row col t k ab = s.node b (.sum row col t k) := by
  simp only [State.ffData, hdsel]

/-- 0b10: the bypass inputs XA and XB are the selects 6 and 7 of the leaf's eight (R73). -/
theorem ffData_of_dsel_eq_two (hdsel : bits (s.leafWord b row col t k) (ffBase ab) 2 = 2) :
    s.ffData b row col t k ab = s.node b (.tsel row col t (8 * k + 6 + ab)) := by
  simp only [State.ffData, hdsel]

/-- 0b11: a flip-flop takes the LUT output of the other side. -/
theorem ffData_of_dsel_eq_three (hdsel : bits (s.leafWord b row col t k) (ffBase ab) 2 = 3) :
    s.ffData b row col t k ab = s.node b (if ab = 0 then .lb row col t k else .la row col t k) := by
  simp only [State.ffData, hdsel]

end

/-- Settles O12: the value of DSEL fixes the data input, read once for FA (`ab = 0`) and once for FB (`ab = 1`). -/
theorem flipFlopDataInputs : Obligations.FlipFlopDataInputs := by
  unfold Obligations.FlipFlopDataInputs
  intro s b row col t k
  exact ⟨ffData_of_dsel_eq_zero, ffData_of_dsel_eq_one, ffData_of_dsel_eq_two, ffData_of_dsel_eq_three,
    ffData_of_dsel_eq_zero, ffData_of_dsel_eq_one, ffData_of_dsel_eq_two, ffData_of_dsel_eq_three⟩

end Sys2Proof.Machine

/-! # Chapter 21: the test access port (R630 to R635) -/

namespace Sys2Proof.Machine

section
variable {s : State}

/-! ## The check of an Update-IR (R631) -/

section
variable {code level : Nat} {modes : List Nat}

theorem tapCheck_of_unlisted (hneed : tapNeed code = none) : s.tapCheck code = (0, 0) := by
  simp only [State.tapCheck, hneed]

theorem tapCheck_of_admitted (hneed : tapNeed code = some (level, modes)) (hlevel : level ≤ s.dbgLevel)
    (hmode : s.inMode modes = true) (hcode : code ≠ tapCFG) : s.tapCheck code = (0, 0) := by
  simp [State.tapCheck, hneed, hlevel, hmode, hcode]

theorem tapCheck_of_wrong_mode (hneed : tapNeed code = some (level, modes)) (hlevel : level ≤ s.dbgLevel)
    (hmode : s.inMode modes = false) : s.tapCheck code = (2, 0x0E07) := by
  simp [State.tapCheck, hneed, hlevel, hmode]

end

/-! ## Loading an instruction (R631, R633): a refused or unlisted one acts as BYPASS -/

section
variable {code : Nat} (hon : s.mode0 ≠ mOFF) (f : State → State)
include hon

theorem tapRun_of_accepted (hlisted : (tapNeed code).isSome = true) (hcheck : s.tapCheck code = (0, 0)) :
    s.tapRun code f = f { s with
      out := [.word 40 s.tapIrWord]
      tap := { s.tap with ir := code, outcome := 0, pins := if tapDrives code then some code else none } } := by
  have hneed : (tapNeed code).isNone = false := by simpa using hlisted
  simp [State.tapRun, State.tapLoad, hon, hcheck, hneed]

theorem tapRun_of_unlisted (hneed : tapNeed code = none) :
    s.tapRun code f = f { s with
      out := [.word 40 s.tapIrWord], tap := { s.tap with ir := tapBYPASS, outcome := 0, pins := none } } := by
  have hpins : tapDrives tapBYPASS = false := by decide
  simp [State.tapRun, State.tapLoad, hon, tapCheck_of_unlisted hneed, hneed, hpins]

theorem tapRun_of_refused {outcome refusal : Nat} (hcheck : s.tapCheck code = (outcome, refusal)) (hrefused : outcome ≠ 0) :
    s.tapRun code f = { s with
      out := [.word 40 s.tapIrWord]
      tap := { s.tap with ir := tapBYPASS, outcome := outcome, tapstat := refusal, pins := none } } := by
  have hpins : tapDrives tapBYPASS = false := by decide
  simp [State.tapRun, State.tapLoad, hon, hcheck, hrefused, hpins]

end

/-! ## IDCODE (R632) -/

theorem inMode_on (hon : s.mode0 ≠ mOFF) (hmode : s.mode0 ≤ mSAFE) :
    s.inMode [mSTANDBY, mBOOT, mLOAD, mRUN, mSAFE] = true := by
  simp only [State.inMode, List.contains_iff_mem, List.mem_cons, List.not_mem_nil, or_false]
  simp only [mOFF, mSTANDBY, mBOOT, mLOAD, mRUN, mSAFE] at *
  omega

theorem exec_tapIdcode (hmode : s.inMode [mSTANDBY, mBOOT, mLOAD, mRUN, mSAFE] = true) (hon : s.mode0 ≠ mOFF) :
    exec .tapIdcode s = .next { s with
      out := [.word 40 s.tapIrWord, .word 40 0x1904833D], tap := { s.tap with ir := 0x02, outcome := 0, pins := none } } := by
  have hcheck : s.tapCheck 0x02 = (0, 0) := tapCheck_of_admitted rfl (Nat.zero_le _) hmode (by decide)
  exact congrArg done (tapRun_of_accepted hon _ rfl hcheck)

/-! ## WAKE and BYPASS (R634) -/

theorem regsKept_put (s : State) (f : Fld) (b : Bool) : RegsKept s (s.put f b) [f] :=
  fun g hg => State.get_set_ne s f g _ (by simpa using hg)

theorem inMode_standby (hstandby : s.mode0 = mSTANDBY) (modes : List Nat) : s.inMode modes = modes.contains mSTANDBY := by
  rw [State.inMode, hstandby]

/-- The wake of cause 0x03 (R45): ports drain only at an exit from LOAD or RUN (R360). -/
theorem wake_of_standby (hstandby : s.mode0 = mSTANDBY) (hrails : s.coreRails = true) (hidle : s.mode.trans = none) :
    s.wake = { s.put R.DEV_MODE_BUSY true with mode := { s.mode with trans := some ⟨0x03, mBOOT, 0⟩ } } := by
  have hfrom : s.inMode (causeFrom 0x03) = true := inMode_standby hstandby _
  have hdrains : s.inMode [mLOAD, mRUN] = false := inMode_standby hstandby _
  have hto : causeTo 0x03 = mBOOT := rfl
  have htrigger : s.wake = s.transStart ⟨0x03, mBOOT, 0⟩ := by
    simp only [State.wake, State.trigger, hstandby, hrails, hidle, hfrom, hto, and_self, if_true]
  rw [htrigger]
  simp [State.transStart, hdrains]

/-- WAKE is accepted in STANDBY, and its scan is the wake. -/
theorem exec_tapWake_of_standby (hstandby : s.mode0 = mSTANDBY) :
    exec .tapWake s = .next (State.wake { s with
      out := [.word 40 s.tapIrWord], tap := { s.tap with ir := 0x1F, outcome := 0, pins := none } }) := by
  have hon : s.mode0 ≠ mOFF := by rw [hstandby]; decide
  have hcheck : s.tapCheck 0x1F = (0, 0) :=
    tapCheck_of_admitted rfl (Nat.zero_le _) (inMode_standby hstandby _) (by decide)
  exact congrArg done (tapRun_of_accepted hon _ rfl hcheck)

theorem exec_tapWake_of_not_standby (hon : s.mode0 ≠ mOFF) (hawake : s.mode0 ≠ mSTANDBY) :
    exec .tapWake s = .next { s with
      out := [.word 40 s.tapIrWord], tap := { s.tap with ir := 0xFF, outcome := 2, tapstat := 0x0E07, pins := none } } := by
  have hmode : s.inMode [mSTANDBY] = false := by simpa [State.inMode] using hawake
  have hcheck : s.tapCheck 0x1F = (2, 0x0E07) := tapCheck_of_wrong_mode rfl (Nat.zero_le _) hmode
  exact congrArg done (tapRun_of_refused hon _ hcheck (by decide))

theorem exec_tapBypass_of_unlisted {code : BitVec 8} (hon : s.mode0 ≠ mOFF) (hneed : tapNeed code.toNat = none) :
    exec (.tapBypass code) s = .next { s with
      out := [.word 40 s.tapIrWord], tap := { s.tap with ir := 0xFF, outcome := 0, pins := none } } :=
  congrArg done (tapRun_of_unlisted hon id hneed)

end

/-- Settles O52: IDCODE and, in STANDBY, WAKE pass the check of Update-IR; in every other mode WAKE fails it for its mode and loads BYPASS. -/
theorem idcodeAndTapWake : Obligations.IdcodeAndTapWake := by
  unfold Obligations.IdcodeAndTapWake
  refine ⟨?idcode, ?wake, ?bypass⟩
  case idcode =>
    rintro s hon hmode v rfl
    exact ⟨by decide, by decide, by decide, by decide, exec_tapIdcode (inMode_on hon hmode) hon⟩
  case wake =>
    intro s hstandby hrails hidle
    refine ⟨_, (exec_tapWake_of_standby hstandby).trans (congrArg _ (wake_of_standby hstandby hrails hidle)), rfl, ?_, ?_⟩
    · exact State.get_set_same s R.DEV_MODE_BUSY 1
    · exact regsKept_put s R.DEV_MODE_BUSY true
  case bypass =>
    intro s code hon hawake _ hneed
    exact ⟨_, _, exec_tapWake_of_not_standby hon hawake, exec_tapBypass_of_unlisted hon hneed, rfl, rfl, rfl, rfl, rfl, rfl⟩

end Sys2Proof.Machine
